-- ==== Sys2Proof/Word.lean ====
section
/-!
DEFINITION. Numbers and bytes as the dictionary and the frames carry them. The manual treats dictionary values as
integers in stated units (R7) and status words as numbered bits; a byte of a frame is a `Nat` below 256.
-/
namespace Sys2Proof

/-- A byte of a frame or of a DOMAIN value, 0–255. -/
abbrev ByteN := Nat

/-- Bit `i` of a dictionary word (R7's bit 0 is the least significant). Negative values carry no bits. -/
def bitOf (v : Int) (i : Nat) : Bool := v.toNat.testBit i

/-- `v` with bit `i` set to `b`. -/
def setBit (v : Int) (i : Nat) (b : Bool) : Int :=
  let n := v.toNat
  if n.testBit i = b then (n : Int) else if b then ((n + 2 ^ i : Nat) : Int) else ((n - 2 ^ i : Nat) : Int)

/-- 1 for TRUE, 0 for FALSE (CiA 301 BOOLEAN). -/
def b2i (b : Bool) : Int := if b then 1 else 0

/-- Little-endian value of a byte list (R8: least significant byte first). -/
def leVal : List ByteN → Nat
  | [] => 0
  | b :: bs => b % 256 + 256 * leVal bs

/-- `n` bytes of `v`, least significant first (R8). -/
def leBytes : Nat → Nat → List ByteN
  | 0, _ => []
  | n + 1, v => v % 256 :: leBytes n (v / 256)

/-- Big-endian value of a byte list (R155: link fields are sent most significant byte first). -/
def beVal (bs : List ByteN) : Nat := leVal bs.reverse

/-- `n` bytes of `v`, most significant first (R155). -/
def beBytes (n v : Nat) : List ByteN := (leBytes n v).reverse

/-- Two's complement of `v` in `n` bits, as a natural number. -/
def twos (n : Nat) (v : Int) : Nat := (v % (2 ^ n : Int)).toNat

/-- The signed reading of an `n`-bit field. -/
def signed (n : Nat) (v : Nat) : Int :=
  let w := v % 2 ^ n
  if w < 2 ^ (n - 1) then (w : Int) else (w : Int) - (2 ^ n : Nat)

end Sys2Proof
end

