-- ==== Sys2Proof/Syntax.lean ====
section
/-!
DEFINITION. The commands of the block: one constructor of `Instr` per row of spec/opcode_table.json, in the table's
order. The table gives no operand fields, so the operands are those the row's rule names: an instance (doorway d, axis
a, channel q, ...), a value written, the path a write arrives by, and what the outside world presents at that instant
(a frame's content, a measurement). Nothing here has a meaning yet.
-/
namespace Sys2Proof

/-- Safety channel (R264). -/
inductive Chan | A | B
  deriving DecidableEq, Repr

/-- Side of a safe output: its high-side or low-side switch (R17). -/
inductive Side | hs | ls
  deriving DecidableEq, Repr

/-- The header fields of a dictionary message (R426, R429, R433): its source (an IP address with a UDP port, or a bulk
channel), SESSION (0 = none), REQUEST_ID, COUNTER, and whether the receiver's check of TAG (KMAC256) passes. -/
structure Msg where
  source : Nat
  session : Nat := 0
  reqId : Nat := 0
  counter : Nat := 0
  tagOk : Bool := true
  deriving DecidableEq, Repr

/-- The path a dictionary access arrives by (R433): an SDO or a PDO acts at Operator level, a dictionary message at its
session's level; `mirror` is a write repeated from the partner (R351), which acts as if written there. -/
inductive Via
  | sdo
  | pdo
  | msg (m : Msg)
  | mirror
  deriving DecidableEq, Repr

/-- What a dictionary write carries: a number for an entry of fixed size, bytes for a DOMAIN. -/
inductive Val
  | num (v : Int)
  | bytes (bs : List ByteN)
  deriving DecidableEq, Repr

/-- The segment fields of a dictionary message that writes a DOMAIN (R426, R428). -/
structure Seg where
  offset : Nat
  final : Bool
  deriving DecidableEq, Repr

/-- One channel's report from its field die (R383, R397): current in mA, junction temperature difference in 0.1 K,
readback band (0 LOW, 1 MID, 2 HIGH) and dissipation share in mW over the last door tick. -/
structure ChanReport where
  q : Nat
  current : Int
  deltaT : Nat
  band : Nat
  power : Nat
  deriving DecidableEq, Repr

/-- How the exchange record of one channel reached the other (R266, R267): lost or late, or with bits changed on its way, as (byte, mask). -/
structure Wire where
  lost : Bool := false
  flips : List (Nat × Nat) := []
  deriving DecidableEq, Repr

/-- The way of channel A's record, and of channel B's. -/
structure Exchange where
  a : Wire := {}
  b : Wire := {}
  deriving DecidableEq, Repr

/-- What a defect in the device keeps a safety channel from doing, from this door tick on (R264 to R267, R276): its alive signal stands
still, its frames do not reach its field die, its link byte is not refreshed, its copy of the set gives another check value (a mask); a loop engine does not complete its fast ticks,
AC0 not its door ticks (R325); `handed` has bit n for a depth sensor whose frames reach channel A with a CRC that does not match. -/
structure Stalls where
  aliveA : Bool := false
  aliveB : Bool := false
  portA : Bool := false
  portB : Bool := false
  byteA : Bool := false
  byteB : Bool := false
  copyA : Nat := 0
  copyB : Nat := 0
  loops : Bool := false
  ac0 : Bool := false
  handed : Nat := 0
  deriving DecidableEq, Repr

/-- What the field dies and the supply monitors report for one door tick (R362, R383, R403, R498). Lists name only what
changed since the last report. -/
structure DoorReport where
  chans : List ChanReport := []
  /-- (n, current in 0.02 mA) of field inputs (R362). -/
  inputCurrents : List (Nat × Nat) := []
  /-- Line-reference currents of dies A and B, averaged over 10 ms, in µA (R366). -/
  lineRefs : Option (Nat × Nat) := none
  /-- (k, load current in mA) of safe outputs (R282, R284). -/
  soLoads : List (Nat × Nat) := []
  /-- Mean dissipation in mW of inputs, safe-output switches and the quiescent share over this door tick (R403). -/
  otherPower : Nat := 0
  /-- VDD_AON, VDD_IO, VDDA, VDD_CORE in mV (R498). -/
  supplies : Option (Nat × Nat × Nat × Nat) := none
  /-- VFIELD_A, VFIELD_B in mV (R374). -/
  vfield : Option (Nat × Nat) := none
  /-- Logic-die, field-die A and field-die B temperature, 0.1 °C (R498). -/
  temps : Option (Int × Int × Int) := none
  /-- How the exchange records of the last door tick arrived (R266, R267). -/
  exchange : Exchange := {}
  stalls : Stalls := {}
  deriving DecidableEq, Repr

/-- A bitstream of alternating 1 and 0: zero current, or a stream that the node lacks (R166). -/
def idleStream : Nat := 2 * ((4 ^ 250 - 1) / 3)

/-- One axis's part of an uplink frame (R165–R168): the encoder word's fields, the 500 bits of the two phases' streams with the
earliest in the highest place (R127, R166), and the echoed word. -/
structure UpAxis where
  encErr : Bool := false
  comm : Nat := 0
  /-- The reserved bits [27:24] of the encoder word, which a receiver ignores (R155, R167). -/
  encRsv : Nat := 0
  count : Nat := 0
  s0 : Nat := idleStream
  s1 : Nat := idleStream
  appliedSp : Nat := 0
  deriving DecidableEq, Repr

/-- A depth chunk of an uplink frame (R165, R170): 32 pixel words. -/
structure Chunk where
  sensor : Nat
  chunk : Nat
  frameNo : Nat
  pixels : List Nat
  deriving DecidableEq, Repr

/-- An uplink data frame as the port receives it (R165, R168). `codeOk` is the verdict of R153 on its characters; `sof` is the number of
characters received before its SOF, and `cut` is true when the next SOF does not follow 500 characters later (R154); `late` is
true when the SOF missed its instant by more than 40 ns (R158); `crc` stands in bytes 496–499 (R155). -/
structure UpFrame where
  codeOk : Bool := true
  sof : Nat := 0
  cut : Bool := false
  frameType : Nat := 0x11
  late : Bool := false
  seq : Nat := 0
  status : Nat := 0
  axes : List UpAxis := []
  inputsA : Nat := 0
  inputsBInv : Nat := 255
  outputsRb : Nat := 0
  nodeTemp : Int := 0
  dcCurrent : Int := 0
  dcVoltage : Nat := 0
  appliedSeq : Nat := 0
  respTag : Nat := 0
  respResult : Nat := 0
  respData : List ByteN := []
  chunk : Option Chunk := none
  /-- The reserved bits [7:2] of DEPTH_CTRL beside a chunk; bytes 429 to 495 of a frame without one (R155, R165, R170). -/
  depthRsv : Nat := 0
  depthIdle : List ByteN := []
  crc : Nat := 0
  deriving DecidableEq, Repr

/-- A downlink data frame as a node's port receives it (R161, R162). `ok` is the verdict of R153 on its characters; `sof` is the number
of characters before its SOF, and `cut` says that the next SOF came before its end (R154). `ctlRsv` and `tail` are the reserved bits of
CONTROL and the reserved bytes 410 to 495. -/
structure DownFrame where
  ok : Bool
  sof : Nat := 0
  cut : Bool := false
  frameType : Nat := 0x12
  ctlRsv : Nat := 0
  tail : List ByteN := []
  seq : Nat
  hold : Bool
  shadow : Bool
  resume : Bool
  safeStoA : Nat
  safeRunB : Nat
  outputs : Nat
  words : List Nat
  mgmtTag : Nat := 0
  mgmtOp : Nat := 0
  mgmtAddr : Nat := 0
  mgmtLen : Nat := 0
  mgmtData : List ByteN := []
  crc : Nat := 0
  deriving DecidableEq, Repr

/-- The downlink frames that a node has at an apply instant, by port (R172). -/
structure PortFrames where
  a : Option DownFrame := none
  b : Option DownFrame := none
  deriving DecidableEq, Repr

/-- What a node measures at its boundary (R157, R165, R168, R169): encoders and bitstreams of its axes (their `appliedSp` has no
meaning here), the inputs on both sampling paths, temperature, DC link, depth chunk, whether its DC link lies below its rated
minimum and a bridge above its temperature limit, the axes whose own overcurrent trip acted since the last boundary, the STO
paths (bit 0 A, bit 1 B) whose own check the frames failed, and those that the node's diagnosis finds failed (R280). -/
structure NodeMeas where
  axes : List UpAxis := []
  inputsA : Nat := 0
  inputsB : Nat := 0
  temp : Int := 0
  dcCurrent : Int := 0
  dcVoltage : Nat := 0
  dcLow : Bool := false
  overTemp : Bool := false
  trips : Nat := 0
  pathBad : Nat := 0
  pathFail : Nat := 0
  chunk : Option Chunk := none
  deriving DecidableEq, Repr

/-- A management message as the node takes it from a valid frame on one port (R161, R182). -/
structure Mgmt where
  /-- 0 = port A, 1 = port B. -/
  port : Nat
  tag : Nat
  hold : Bool
  addr : Nat
  data : List ByteN
  deriving DecidableEq, Repr

/-- A training frame as a receiver takes it (R179): of a doorway link or of the partner link at the D16, or, with `port`, of port A (0)
or B (1) of a node. `errs` counts its bit and code errors, departures from PATTERN among them; `sof` and `cut` are as in an uplink frame. -/
structure TrainFrame where
  sof : Nat := 0
  cut : Bool := false
  errs : Nat := 0
  seq : Nat := 0
  step : Nat := 1
  /-- TX_LEVEL the sender uses, and REQ_LEVEL it asks for. -/
  txLevel : Nat := 0
  rxErrors : Nat := 0
  reqLevel : Nat := 0
  caps : Nat := 0
  crc : Nat := 0
  /-- Excess of the uplink SOF over R158, in ns (R180 step DELAY). -/
  delayNs : Nat := 0
  port : Option Nat := none
  deriving DecidableEq, Repr

/-- A transfer on the wake bus that names WAKE_ADDRESS (R492): a read, one that ends in a repeated START, the bytes after the address. -/
structure WakeTransfer where
  read : Bool := false
  restart : Bool := false
  bytes : List ByteN := []
  deriving DecidableEq, Repr

/-- The complete transfer of a command: CMD and its complement (R492). -/
def WakeTransfer.ofCmd (cmd : Nat) : WakeTransfer := { bytes := [cmd, 255 - cmd] }

/-- A received NSL frame (R299, R302, R303). `port` 0–3 is CAN0, CAN1, ETH0, ETH1; `canId` is the identifier of a CAN frame; `bytes` begin
with the NSL frame, behind PROTOCOL on Ethernet; `latencyUs` is the time from ingress to its presentation (R40, R42). -/
structure NslFrame where
  port : Nat
  canId : Nat := 0
  bytes : List ByteN
  /-- A classic CAN frame (R302). -/
  classic : Bool := false
  /-- The two bytes before the NSL frame in a UDP payload: PROTOCOL and a reserved byte (R303). -/
  head : Nat × Nat := (0x4E, 0)
  /-- A fragment of a datagram (R303). -/
  fragment : Bool := false
  latencyUs : Nat := 0
  deriving DecidableEq, Repr

/-- One doorway's part of a door snapshot (R344). -/
structure SnapDoor where
  d : Nat
  state : Nat
  faultCause : Nat
  retryCount : Nat
  status : Nat
  warnLeft : Nat
  dwellLeft : Nat
  autoLeft : Nat
  deriving DecidableEq, Repr

/-- A shadow record (R335): its values in the formats of the loop engine. -/
structure ShadowRec where
  word : Nat := 0
  intD : Int := 0
  intQ : Int := 0
  iqDemand : Int := 0
  intV : Int := 0
  resState : Int := 0
  flags : Nat := 0
  deriving DecidableEq, Repr

/-- A motion record (R337); doorway 0xFF is unused. -/
structure MotionRec where
  d : Nat := 0xFF
  tick : Nat := 0
  pathS : Nat := 0
  pathSpeed : Nat := 0
  phase : Nat := 0
  moveId : Nat := 0
  deriving DecidableEq, Repr

/-- A segment of a mirror message as a partner frame carries it (R330, R348): the first `len` bytes of MIRROR_DATA are used. -/
structure MirrorSeg where
  tag : Nat := 0
  type : Nat := 0
  last : Bool := false
  seg : Nat := 0
  len : Nat := 0
  data : List ByteN := []
  deriving DecidableEq, Repr

/-- A partner data frame as the receiver takes it (R330, R331): `codeOk`, `sof`, `cut` and `crc` are as in an uplink frame; record i of
`shadows` is that of shadow slot i. -/
structure PFrame where
  codeOk : Bool := true
  sof : Nat := 0
  cut : Bool := false
  frameType : Nat := 0x14
  pseq : Nat
  pstatus : Nat
  tickCount : Nat
  linkSeqs : List Nat := []
  shadows : List ShadowRec := []
  motions : List MotionRec := []
  checkValue : Nat
  mirrorAck : Nat := 0
  seg : MirrorSeg := {}
  crc : Nat := 0
  /-- How far the frame lies behind this unit's own boundary in ns, as the two crystals and the way over the link alone give it (R333). -/
  phaseNs : Int := 0
  deriving DecidableEq, Repr

/-- The limits of one axis of a move in the units of their entries (R81), and its caps (R86) as lowest and highest position in units of
32 µm and speed. -/
structure MoveLimits where
  v : Nat := 0
  a : Nat := 0
  d : Nat := 0
  j : Nat := 0
  stop : Nat := 0
  caps : List (Nat × Nat × Nat) := []
  deriving DecidableEq, Repr

/-- A move message of the mirror (R349): what the new holder needs to continue the move. Starts and targets in nm and limits, by role of
the axis; the start boundary as a fast tick. -/
structure MoveMsg where
  d : Nat
  moveId : Nat
  starts : List Int
  targets : List Int
  start : Nat := 0
  limits : List MoveLimits := []
  deriving DecidableEq, Repr

/-- STAG_IN at a claim instant (R322, R323): for how long it has read released, 0 while it reads asserted; and whether it reads asserted
2 µs after a claim made there. -/
structure StagLine where
  releasedUs : Nat
  collision : Bool := false
  deriving DecidableEq, Repr

/-- The digests an inventory carries (R349, R352): items as (kind, instance, digest, empty), kind 0 envelope, 1
background, 2 learned values, 3 configuration. -/
structure InvMsg where
  productCode : Nat
  revision : Nat
  serial : Nat
  role : Nat
  configDigest : Nat
  items : List (Nat × Nat × Nat × Bool)
  deriving DecidableEq, Repr

/-- A field input's new value behind its own filter (R360), or behind the 0.1 ms filter of a sensitive edge (R212). -/
inductive Filtered
  | own (v : Bool)
  | edge (v : Bool)
  deriving DecidableEq, Repr

/-- What the boot finds of the images (R514, R531): whether each application slot, and each safety slot, verifies. -/
structure BootImages where
  app : List Bool := []
  safety : List Bool := []
  deriving DecidableEq, Repr

/-- What checks 4 to 6 of R512 find in a complete firmware image: its two signatures and its digest. -/
structure FwVerdict where
  vendorSigOk : Bool
  cosigOk : Bool
  digestOk : Bool
  deriving DecidableEq, Repr

/-- Which supply fell, or which ball spoke, in a power warning (R478). -/
inductive WarnSource | io | core | ball
  deriving DecidableEq, Repr

/-- Trigger of a brown-out reset (R480). -/
inductive BrownSource | io | core | pg
  deriving DecidableEq, Repr

/-- A wake source (R491). -/
inductive WakeSource | powerUp | cicada | wakeIn | rtc | forceWake
  deriving DecidableEq, Repr

/-- The commands: one constructor per row of the opcode table. -/
inductive Instr
  | fastTick
  | motionTick
  | sf7StopWindowExpiry (a : Nat)
  | moveEnd (d : Nat)
  | standstillDelayExpiry (a : Nat)
  | holdRampEnd (a : Nat)
  | doorTick (rep : DoorReport)
  | startForced (d : Nat)
  | closeWarningEnd (d : Nat)
  | autoCloseExpiry (d : Nat)
  | unlockTimeout (d : Nat)
  | lockTimeout (d : Nat)
  | stepTimeout (d : Nat)
  | preselectTimeExpiry (d : Nat)
  | dwellEnd (d : Nat)
  | openDwellEnd (d : Nat)
  | depthHoldLong (d : Nat)
  | loopViewDisagreement (d : Nat)
  | lockPairDisagree (d : Nat)
  | contactDiscrepancy (d c : Nat)
  | contactFilteredChange (d c : Nat) (ch : Chan) (v : Bool)
  | aliveLost (by_ : Chan)
  | safetyPortWatchdog (die : Nat)
  | safetyPortResumed (die : Nat)
  | stoUnconfirmed (a : Nat)
  | testPulse (k : Nat) (side : Side)
  | testPulseEnd (k : Nat) (side : Side) (terminalOk supplyHigh : Bool) (loadMa : Nat) (follows : Option Nat)
  | switchStaticFault (k : Nat) (side : Side) (open_ : Bool) (follows : Option Nat)
  | soOvercurrent (k : Nat) (side : Side)
  | soUntested (k : Nat) (side : Side)
  | soFaultClear (via : Via) (v : Int)
  | writeEnable (via : Via) (v : Int)
  | confirm (via : Via) (v : Int)
  | safetySetWrite (via : Via) (index sub : Nat) (v : Int)
  | restoreSafetyDefaults (via : Via) (v : Int)
  | restoreDefaults (via : Via) (v : Int)
  | proofTestDone (via : Via) (v : Int)
  | proofTestDue
  | openLeft (via : Via)
  | openRight (via : Via)
  | closeLeft (via : Via)
  | closeRight (via : Via)
  | closeAll (via : Via)
  | holdAll (via : Via)
  | endHoldAll (via : Via)
  | open_ (via : Via) (d : Nat)
  | close (via : Via) (d : Nat)
  | holdOpen (via : Via) (d : Nat)
  | endHold (via : Via) (d : Nat)
  | reset (via : Via) (d : Nat)
  | forcedClose (via : Via) (d : Nat)
  | passengerRequest (d : Nat)
  | learnRunStart (via : Via) (d : Nat)
  | learnRunCancel (via : Via) (d : Nat)
  | learnRunEnd (d : Nat)
  | axisModeChange (via : Via) (a : Nat) (mode : Int)
  | coarseStep (jog : Bool) (n : Nat)
  | jogStart (via : Via) (a : Nat) (n : Int)
  | jogStop (via : Via) (a : Nat)
  | jogStep (a : Nat)
  | alignmentRunStart (via : Via) (a : Nat)
  | alignmentRunCancel (via : Via) (a : Nat)
  | alignmentRunEnd (a state cause : Nat)
  | stepperSelfAlignmentEnd (a cause : Nat)
  | motorDataChange (via : Via) (a sub9 : Nat) (v : Int)
  | phaseLoss (a : Nat)
  | commutation (a : Nat)
  | stall (a : Nat)
  | saturation (a : Nat)
  | brakeShortEnd (a : Nat)
  | tableReload (via : Via) (d : Nat) (form : Option Int) (custom : Option (List ByteN))
  | uplinkFrame (d : Nat) (f : UpFrame)
  | linkLost (d : Nat) (cause : Nat)
  | characterLock (d : Nat)
  | trainingFrame (d : Nat) (f : TrainFrame)
  | trainingDone (d : Nat)
  | trainTimeout (d : Nat)
  | retrainDelayExpiry (d : Nat)
  | mgmtRetry (d : Nat)
  | nodeConfigTimeout (d : Nat)
  | resumeFailed (d : Nat)
  | identify (d : Nat) (m : Mgmt)
  | readCaps (d : Nat) (m : Mgmt)
  | tableWrite (d : Nat) (m : Mgmt)
  | tableCommit (d : Nat) (m : Mgmt)
  | tableCheck (d : Nat) (m : Mgmt)
  | configWrite (d : Nat) (m : Mgmt)
  | configRead (d : Nat) (m : Mgmt)
  | sensorWrite (d : Nat) (m : Mgmt)
  | sensorRead (d : Nat) (m : Mgmt)
  | setTiming (d : Nat) (m : Mgmt)
  | echo (d : Nat) (m : Mgmt)
  | nodeApplyInstant (d : Nat) (f : PortFrames) (m : NodeMeas)
  | nodeResume (d : Nat) (fa fb : Option DownFrame)
  | depthFrameProcessed
  | depthSensorFailed (n : Nat) (cond : Nat)
  | bgLearnStart (via : Via) (n : Nat)
  | bgLearnEnd (n : Nat)
  | envelopeCommit (a : Nat)
  | envDataWrite (via : Via) (bs : List ByteN)
  | envResetOne (via : Via)
  | envResetBoth (via : Via)
  | inputFilteredChange (n : Nat) (v : Filtered)
  | wireBreak (n : Nat)
  | wireBreakEnd (n : Nat)
  | pairDiscrepancy (p : Nat)
  | pairDiscrepancyClear (p : Nat)
  | lineRefLow (die : Nat) (iref : Nat)
  | vfieldLow (die : Nat) (enter : Bool) (mv : Nat)
  | vfieldMissing (die : Nat) (enter : Bool) (mv : Nat)
  | fieldDieReportTimeout (die : Nat)
  | inrushWindowEnd (q : Nat) (above : Bool)
  | overcurrentTrip (q : Nat)
  | retryPauseEnd (q : Nat)
  | tripCountReset (q : Nat)
  | thermalTrip (q : Nat) (deltaT : Nat)
  | thermalLatchClear (q : Nat) (deltaT : Nat)
  | shortToSupply (q : Nat) (tied : Option Nat)
  | tiedChannelDetect (x y : Nat)
  | openLoad (q : Nat) (noCurrent : Bool)
  | fieldWatchdogExpiry (die : Nat)
  | dissipationTrip
  | faultClear (via : Via) (q : Nat) (v : Int)
  | lampLearn (via : Via) (q : Nat) (v : Int)
  | lampLearnEnd (q : Nat) (mean : Option Nat)
  | lampDark (q : Nat)
  | lampFailTimeExpiry (q : Nat)
  | nslFrameReceived (f : NslFrame)
  | nslWatchdog (n : Nat)
  | errorBudgetRefill (n : Nat)
  | baseAdvance (n : Nat)
  | summarySend
  | stagClaim (line : StagLine)
  | stagConflict
  | stagFault (stuckLow : Bool)
  | keepAliveLapse
  | stagCommand (via : Via) (v : Int)
  | partnerFrame (f : PFrame)
  | heartbeatLost
  | partnerRetrain
  | tickAlignedLoss
  | nslCopy (n seq ts : Nat) (payload : List ByteN)
  | doorSnapshot (ds : List SnapDoor)
  | move (m : MoveMsg)
  | envelope (a dir : Nat) (state cycles : Nat) (offset : Int) (bs : List ByteN)
  | background (n : Nat) (px : List (Option Nat))
  | learned (d : Nat) (strokes switchPos : List Int) (peakOpen peakClose serial : Nat)
  | mirrorConfigWrite (index sub : Nat) (v : Val) (generation : Nat)
  | inventory (m : InvMsg)
  | time (seconds : Nat)
  | mirrorRetry (tag : Nat)
  | mirrorTimeout (tag : Nat)
  | dictionaryWrite (via : Via) (index sub : Nat) (v : Val) (seg : Option Seg)
  | dmSegmentTimeout (source : Nat)
  | sdoSegmentTimeout
  | bulkFrame (port : Nat) (header : Nat) (bs : List ByteN)
  | bulkTimeout (port : Nat)
  | rpdo (n : Nat) (bs : List ByteN)
  | rpdoEventTimer (n : Nat)
  | tpdoTransmit (n : Nat)
  | nmtCommand (code : Nat)
  | sync
  | heartbeatMissing (i : Nat)
  | syncMissing
  | heartbeatProduce
  | icmpEchoRequest (port : Nat)
  | arpRequest (port : Nat) (ip mac : Nat)
  | phyLinkPoll (port : Nat) (up : Bool) (speed : Nat)
  | canBusOff (port : Nat)
  | sessionTimeout (n : Nat)
  | dmResponseExpiry (source id : Nat)
  | eventIntake
  | sampleIntake
  | operatingSecond
  | windowRead (source : Nat)
  | areaWrite (source : Nat) (v : Int)
  | bulkCountWrite (source : Nat) (v : Int)
  | bulkDataRead (source : Nat)
  | contextRelease (source : Nat)
  | clear (via : Via) (mask : Int)
  | histLimitsChanged (via : Via) (index sub : Nat) (v : Int)
  | ecConfigWrite (via : Via) (n sub : Nat) (v : Int)
  | ecReset (via : Via) (n : Nat) (v : Int)
  | linkCountersClear (via : Via) (d : Nat) (v : Int)
  | nslCountersClear (via : Via) (v : Int)
  | partnerCountersClear (via : Via) (v : Int)
  | networkCountersClear (via : Via) (v : Int)
  | powerCommandRun (via : Via)
  | powerCommandDoze (via : Via)
  | powerCommandStabled (via : Via)
  | sleepCommit
  | sleepAborted (src : Option WakeSource)
  | wake (t : WakeTransfer)
  | forceWake (t : WakeTransfer)
  | wakeInEdge (rising : Bool)
  | rtcAlarm
  | pllLock (elapsedUs stabledMs : Nat)
  | wakeRetry
  | powerWarning (src : WarnSource) (mv : Nat)
  | powerWarningEnd (src : WarnSource)
  | brownOut (src : BrownSource)
  | brownOutRelease
  | powerOnReset (straps : Nat)
  | vidChange (code : Nat)
  | domainSleep (i : Nat)
  | domainWake (i : Nat) (stallUs : Nat)
  | domainNotReady (i : Nat) (via : Option Via)
  | overtemperature (temp : Int)
  | dieOvertemp (die : Nat) (temp : Int)
  | attestNonce (via : Via) (bs : List ByteN)
  | anchorInstall (via : Via) (bs : List ByteN)
  | sessionCredential (source : Nat) (bs : List ByteN)
  | sessionRequest (source : Nat) (bs : List ByteN)
  | sessionChallenge (source : Nat)
  | sessionProof (source : Nat) (bs : List ByteN)
  | handshakeTimeout (source : Nat)
  | handshakeLockoutEnd
  | sessionClose (via : Via) (v : Int)
  | cosignChange (via : Via) (key : Option (List ByteN)) (policy : Option Int)
  | fwImage (via : Via) (offset : Nat) (bs : List ByteN) (final : Option FwVerdict)
  | fwActivate (via : Via) (v : Int)
  | fwConfirm (via : Via) (v : Int)
  | debugUnlockObserve (via : Via)
  | debugUnlockHalt (via : Via)
  | rmaCommand (via : Via) (bs : List ByteN)
  | nreset (straps : Nat)
  | watchdog
  | deviceReset (via : Via) (v : Int)
  | internalReset (cause : Nat)
  | boot (images : BootImages) (bad : List Nat)
  | characterLockLost (d : Option Nat)
  | nodePowerUp (d : Nat)
  | fieldDiePowerUp (die : Nat)
  | pulseGeneratorEdge (q : Nat) (on : Bool)
  | demagnetisationEnd (q : Nat) (energy : Nat) (limited : Bool)
  | pgMainHigh
  | oscillatorReady
  | latchedWake
  | dieOvertempEnd (die : Nat) (temp : Int)
  | lineRefRestored (die : Nat) (iref : Nat)
  | endOfTestFuse
  deriving DecidableEq, Repr

end Sys2Proof
end

