-- ==== Sys2Proof/Config.lean ====
section
/-!
DEFINITION. What an implementation fixes and what the manual leaves open. Every constant here is opaque: no proof can see
its value, so a claim holds whatever it is. DESIGN CHOICE: log entries 3, 9, 44, 56, 98,
149 and 191 say where they are used.
-/
namespace Sys2Proof.Config

/-- A fresh value that nothing constrains, drawn by number (assumption 3). Used wherever the manual leaves a value open. -/
opaque freeNat : Nat → Nat

/-- The 60° sector 0–5 that a pattern of the commutation sensors U, V, W means (R141, R167 give none). -/
opaque commSector : Nat → Nat

/-- Byte `i` of what the power node of doorway `d` answers to IDENTIFY (`op` 0x01) and READ_CAPS (`op` 0x02, `addr` 0–3) (R184). -/
opaque nodeByte : (d op addr i : Nat) → Nat

/-- The digest of a mirrored item or of the configuration (R349, R353): equal contents have equal digests; the manual gives no
order of the bytes. -/
opaque digest : List Int → Nat

/-- The two bytes of a value of the loop engine in a shadow record (R335): the manual leaves the format to the loop engine. -/
opaque loopFormat : Int → Nat

/-- Ed448 verification of `sig` over `msg` under `key` (R502, R504, R506, R507, R510, R519): the standard's algorithm, left opaque. -/
opaque ed448Ok : (key msg sig : List Nat) → Bool

/-- An X448 public value or shared secret (R507): the standard's algorithm, left opaque. -/
opaque x448 : (scalar point : List Nat) → List Nat

/-- KMAC256 with a label (R507): the standard's algorithm, left opaque. -/
opaque kmac256 : (key msg : List Nat) → (len : Nat) → List Nat

/-- A credential is an X.509 v3 certificate of at most 2048 bytes, not of a CA, signed with Ed448 by `key`, with an Ed448 subject
key (R505, R506); and that subject key. -/
opaque certOk : (key cert : List Nat) → Bool
opaque certKey : (cert : List Nat) → List Nat

/-- BODY_DIGEST of the image in a slot (0–3 = A, B, A0, A1) with its revision (R503, R509). -/
opaque imageDigest : (slot revision : Nat) → List Nat

/-- SHAKE256 digest (R512): the standard's algorithm, left opaque. -/
opaque shake256 : (msg : List Nat) → (len : Nat) → List Nat

/-- The bytes that stand in the catalogue for a name of more than 12 characters, by its index (R444). -/
opaque catalogueName : Nat → List Nat

/-- The device's identity signature over a message (R503, R507). -/
opaque deviceSign : List Nat → List Nat

/-- The vendor's public key (R502). -/
opaque vendorKey : List Nat

/-- The device's certificate and public key (R502). -/
opaque deviceCertificate : List Nat

/-- The device's public key (R502). -/
opaque devicePublicKey : List Nat

end Sys2Proof.Config
end

