-- ==== Sys2Proof/Machine/State.lean ====
section
/-!
DEFINITION. The machine's state as plain data: the object dictionary (one home for every entry), the values in force, and
for each engine the state the manual implies beside its entries. Sparse maps hold instances; an instance that is not
listed is at its default record.
-/
namespace Sys2Proof.Machine

/-- A sparse map from instance numbers or keys. -/
abbrev Store (α : Type) := List (Nat × α)

/-- Data types of R437. -/
inductive Ty | u8 | u16 | u24 | u32 | u48 | u64 | i8 | i16 | i32 | bool | domain | str | record
  deriving DecidableEq, Repr

/-- Access codes of R13. -/
inductive Acc | ro | rw | wo | const | rwm | rwc
  deriving DecidableEq, Repr

/-- To which instances an entry belongs, for R3 and R4. -/
inductive Inst | none | door | axis | sensor | doorSub | axisSub
  deriving DecidableEq, Repr

/-- One row of the entry tables. -/
structure Row where
  base : Nat
  stride : Nat
  count : Nat
  subLo : Nat
  subHi : Nat
  ty : Ty
  acc : Acc
  persist : Bool
  dflt : Int
  ranges : List (Int × Int)
  unit : Bool
  inst : Inst
  deriving DecidableEq, Repr

/-- Access levels of R14. -/
inductive Level | operator | maintainer | commissioner | vendor
  deriving DecidableEq, Repr

/-- An event on its way to the log (R442). -/
structure Event where
  code : Nat
  inst : Nat
  datum : Int
  secs : Nat := 0
  cycles : Nat := 0
  deriving DecidableEq, Repr

/-- A frame in the egress queue of a port, with its class (R39, R435). -/
inductive Egress
  /-- EMCY of an event (R425). -/
  | emcy (cls code inst secs : Nat)
  /-- EMCY with a CiA 301 code (R422, R424). -/
  | emcyCia (code : Nat)
  /-- Event datagram (R431). -/
  | event (port seq code inst cls secs cycles : Nat)
  /-- Answer to a dictionary access (R426, R437). -/
  | response (source abort cls : Nat)
  | bulkResponse (source : Nat) (data : List ByteN)
  | bootUp
  | heartbeat (state : Nat)
  | tpdo (n : Nat) (data : List ByteN)
  /-- An NSL frame of a connection on a port, to a CAN_ID, or to a UDP_DESTINATION and its UDP port (R302, R303). -/
  | nsl (conn port : Nat) (dest : Nat × Nat) (data : List ByteN)
  | icmpReply (port : Nat)
  | arpReply (port ip mac : Nat)
  /-- A mirror message to the partner (R348). -/
  | mirror (tag type : Nat) (data : List ByteN)
  deriving DecidableEq, Repr

/-- One entry of the code table (R445, R446, R462); `bucket` is (tokens in 1/50000, fast tick of the last update), `none` when full. -/
structure CodeRec where
  occ : Nat := 0
  supp : Nat := 0
  last : Nat := 0
  bucket : Option (Nat × Nat) := none
  deriving DecidableEq, Repr

/-- A record of the first-occurrence log (R448). -/
structure LogRec where
  ev : Event
  repeated : Bool
  deriving DecidableEq, Repr

/-- A sample on its way to a histogram (R449, R451): area 1–4, histogram number, value. -/
structure Sample where
  area : Nat
  hist : Nat
  value : Int
  deriving DecidableEq, Repr

/-- A histogram with its companion extremes entry (R450, R452): sparse bins. -/
structure Hist where
  bins : Store Nat := []
  valid : Bool := false
  low : Int := 0
  high : Int := 0
  minSecs : Nat := 0
  minCycles : Nat := 0
  maxSecs : Nat := 0
  maxCycles : Nat := 0
  samples : Nat := 0
  deriving DecidableEq, Repr

/-- A window context (R459, R463). -/
structure Ctx where
  source : Nat
  area : Nat := 0
  cursor : Nat := 0
  bulkLeft : Nat := 0
  /-- BULK_COUNT as last written (R437). -/
  bulkCount : Nat := 0
  changeSeq : Nat := 0
  lastUse : Nat := 0
  /-- The record last copied by WINDOW, or the items last copied by BULK_DATA. -/
  data : List ByteN := []
  deriving DecidableEq, Repr

/-- What Scarab keeps beside its entries. -/
structure Recorder where
  codes : Store CodeRec := []
  intake : List Event := []
  log : List LogRec := []
  samples : List Sample := []
  hists : Store Hist := []
  /-- CHANGE_SEQ of each record, keyed area · 65536 + record. -/
  changeSeq : Store Nat := []
  contexts : List Ctx := []
  /-- TRUE when the next item is taken from the sample queue (R449). -/
  sampleTurn : Bool := false
  /-- FALSE after nPWR_WARN (R458). -/
  accepting : Bool := true
  /-- Code-table records changed since their last commit. -/
  codesDirty : List Nat := []
  /-- The minute's extremes: LOGIC, FIELD_A, FIELD_B temperature maxima, VFIELD_A, VFIELD_B, VDD_IO minima (R451). -/
  minuteMax : List Int := []
  minuteMin : List Int := []
  /-- Last seen condition of each event counter (R465): 0 not seen yet, 1 FALSE, 2 TRUE. -/
  ecCond : Store Nat := []
  /-- Counters to reset at the next door tick (R468). -/
  ecReset : List Nat := []
  /-- Histogram limit entries changed, acting at the next door tick (R453). -/
  limitsChanged : List Nat := []
  deriving DecidableEq, Repr

/-- A segmented write that is open (R428), of a source or of the SDO server. -/
structure SegWrite where
  index : Nat
  sub : Nat
  bytes : List ByteN
  /-- Fast tick of the last segment. -/
  last : Nat
  /-- TRUE once the value was discarded for a pause (the next segment gets 0x0504 0000). -/
  timedOut : Bool := false
  deriving DecidableEq, Repr

/-- A kept response (R429). -/
structure Kept where
  source : Nat
  reqId : Nat
  counter : Nat
  content : Nat × Nat × Val × Option Seg
  abort : Nat
  /-- Data of a read's response. -/
  data : List ByteN := []
  at_ : Nat
  deriving DecidableEq, Repr

/-- Bulk reassembly on a CAN port (R432). -/
structure BulkRx where
  next : Nat := 0
  bytes : List ByteN := []
  last : Nat := 0
  /-- Class of the message by its first frame (R434), and whether it holds a slot of its own: a further segment of an open write does not. -/
  cls : Nat := 2
  slot : Bool := true
  deriving DecidableEq, Repr

/-- Network state beside the entries. -/
structure Net where
  /-- 127 pre-operational, 5 operational, 4 stopped (CiA 301, R423). -/
  nmt : Nat := 127
  eventSeq : Store Nat := []
  segs : Store SegWrite := []
  kept : List Kept := []
  bulk : Store BulkRx := []
  /-- Fast tick of the last SYNC while it is supervised, and the SYNCs since the last reset of communication. -/
  syncSeen : Option Nat := none
  syncCount : Nat := 0
  /-- Fast tick of each RPDO's last frame, while its event timer runs. -/
  rpdoSeen : Store Nat := []
  /-- RPDOs of a synchronous type waiting for the SYNC. -/
  rpdoHeld : Store (List ByteN) := []
  /-- Fast tick, and count of SYNCs, of each TPDO's last transmission. -/
  tpdoSent : Store (Nat × Nat) := []
  hbSent : Nat := 0
  /-- Fast ticks of the ICMP replies of each port (R415). -/
  icmp : Store (List Nat) := []
  /-- ARP cache, newest first, 32 entries (R414): (port, ip, mac). -/
  arp : List (Nat × Nat × Nat) := []
  /-- Network entries as they stood at the last device reset, where a change waits for the next (R418). -/
  frozen : Store Int := []
  /-- Fast tick of the last EMCY under INHIBIT_EMCY, and those that wait for the inhibit time. -/
  emcySent : Option Nat := none
  emcyWait : List Egress := []
  /-- The last data sent by each TPDO. -/
  tpdoData : Store (List ByteN) := []
  /-- C1_LATENCY_MAX in µs (R43). -/
  c1Latency : Nat := 0
  /-- Fast tick at which each CAN port went bus-off (R416). -/
  busOff : Store Nat := []
  deriving DecidableEq, Repr

/-- An open session (R433, R507, R508). -/
structure Session where
  num : Nat
  level : Level
  /-- Anchor slot, 255 for the vendor key. -/
  anchor : Nat
  counter : Nat := 0
  lastValid : Nat := 0
  source : Nat := 0
  /-- Session key (R505). -/
  key : List ByteN := []
  deriving DecidableEq, Repr

/-- Why a close warning runs (R56, R62). -/
inductive WarnOrigin | auto | release | car | door
  deriving DecidableEq, Repr

/-- What a start in the scheduler is for (R72). -/
inductive StartKind | opening | close | retry | reduced | stepRetract | stepExtend
  deriving DecidableEq, Repr

/-- A start waiting in the scheduler, since the fast tick of its request (R74). -/
structure StartWait where
  kind : StartKind
  since : Nat
  deriving DecidableEq, Repr

/-- What a move of a doorway group is for. -/
inductive MoveKind
  | unlock | stepExtend | openLeaves | openGroup | closeLeaves | closeGroup | driveLock | stepRetract
  | reverse | relief | reclose | refClose | refFinal
  | seekOpen | seekClose | seekStepOut | seekStepIn
  deriving DecidableEq, Repr

/-- Kind of a path segment (R83, R91, R96). -/
inductive SegKind | rise | run | brake | limitFall | stop
  deriving DecidableEq, Repr

/-- A segment of the planned path: speed from `v0` to `v1` (1/s) over `dur` seconds; `tj` is the time for which the
acceleration rises, and again falls, in an S-shaped ramp (R84), 0 for a straight one. -/
structure PathSeg where
  kind : SegKind
  v0 : Rat
  v1 : Rat
  dur : Rat
  tj : Rat := 0
  deriving DecidableEq, Repr

/-- One axis of a move: start and target in nm (R80). -/
structure MoveAxis where
  a : Nat
  start : Int
  target : Int
  deriving DecidableEq, Repr

/-- One axis of a move without a target (R82): its direction, where it started in nm, what is left of its ramps in mm/s, the
way it has gone in mm and its speed. -/
structure SeekAxis where
  a : Nat
  opening : Bool
  start : Int
  segs : List PathSeg
  elapsed : Rat := 0
  way : Rat := 0
  vel : Rat := 0
  /-- The speed it seeks at, and the acceleration and stop deceleration that its ramps use, mm/s and mm/s² (R92, R93). -/
  speed : Rat := 0
  acc : Rat := 0
  dec : Rat := 0
  /-- Its end condition was met, or its group stops. -/
  ended : Bool := false
  /-- A limit switch was seen at the last boundary: hard stop or ramp at this one (R99). -/
  limit : Option Bool := none
  /-- A switch into which it moved still reads active (R99). -/
  hit : Bool := false
  /-- It seeks slower than it was begun for, by the speed cap of a failed depth sensor (R218). -/
  capped : Bool := false
  stillSince : Option Nat := none
  /-- Measured position at which its end condition was met (R103), nm. -/
  found : Option Int := none
  deriving DecidableEq, Repr

/-- Limits of R81 in force on a path. -/
structure PathLimits where
  v : Rat := 0
  a : Rat := 0
  d : Rat := 0
  j : Rat := 0
  stop : Rat := 0
  deriving DecidableEq, Repr

/-- A group move in progress (R80–R97). -/
structure Move where
  kind : MoveKind
  closing : Bool
  axes : List MoveAxis
  seeks : List SeekAxis := []
  /-- Path position and speed at the last motion-tick boundary, and the time run in the head segment. -/
  s : Rat := 0
  v : Rat := 0
  segs : List PathSeg := []
  elapsed : Rat := 0
  lim : PathLimits := {}
  /-- Deceleration and jerk of the ramp under way (R94, R95). -/
  rampDecel : Rat := 0
  stopping : Bool := false
  /-- TRUE once the path has ended: at its target, or stopped short. -/
  ended : Bool := false
  reached : Bool := false
  started : Nat
  moveId : Nat := 0
  /-- Creep or force limits that the move runs under (R88, R223). -/
  creep : Bool := false
  /-- A limit switch was seen at the last boundary: hard stop or ramp at this one (R99). -/
  limitSeen : Option Bool := none
  limitStopped : Bool := false
  /-- Axes whose limit switch in the direction of the move was active at the last boundary (R99). -/
  limAxes : List Nat := []
  /-- A door tick stops the group: the ramp begins at its boundary, of which the motion tick still has to come (R23, R48). -/
  stopDue : Bool := false
  /-- A hard stop ended the move (R96). -/
  hard : Bool := false
  /-- The limits that this unit would have given a move that it took over LIVE; the move keeps its own while they stand (R340). -/
  held : Option PathLimits := none
  deriving DecidableEq, Repr

/-- A stroke learn run (R103, R104). -/
structure Learn where
  pass : Nat := 1
  step : Nat := 1
  e1 : Store Int := []
  e2 : Store Int := []
  c1 : Store Int := []
  c2 : Store Int := []
  shifts : List Int := []
  noEnd : Bool := false
  aborted : Bool := false
  finished : Bool := false
  deriving DecidableEq, Repr

/-- A doorway command waiting for the next door tick (R49): its value of R54, and whether a car command or a PDO brought it. -/
structure DoorCmd where
  cmd : Nat
  car : Bool
  deriving DecidableEq, Repr

/-- A transition that the sequencer decided on in one door tick, in effect from the next boundary (R48, R50). -/
inductive Trans
  | isolate
  | fault (cause : Nat)
  | emergency
  /-- CLOSED_UNLOCKED to OPENING; the leaves' opening within OPENING once the step is out. -/
  | opening
  | openLeaves
  | relock
  | locked
  /-- OPENING to OPEN: stopped, reached, ended short by R224, stopped by a step fault. -/
  | stopOpen
  | atOpen
  | openBlocked
  | stepFailedOpen
  | zeroLost
  | warn (o : WarnOrigin)
  | closedUnlocked
  | reopen
  | hold
  | returnPath
  /-- Learn run: the leaves seek closed; the step seeks retracted; the second pass begins. -/
  | learnClose
  | learnAgain
  deriving DecidableEq, Repr

/-- An obstruction under treatment (R220, R224, R565): 0 detected, 1 stopped hard. -/
structure Obs where
  stage : Nat := 0
  axis : Nat
  /-- A reversal follows the hard stop (R221). -/
  reverse : Bool
  /-- An obstruction during a reversal: the stop only (R221). -/
  quiet : Bool := false
  /-- A step was obstructed in the same tick as the leaf (R225). -/
  step : Bool := false
  /-- Position at the first sample of the criterion, nm. -/
  pos : Int := 0
  deriving DecidableEq, Repr

/-- What the door sequencer, the start scheduler and Mantis hold for a doorway beside its entries. Times in fast ticks. -/
structure Door where
  /-- In CLOSED_UNLOCKED: TRUE in the opening sequence. -/
  opening : Bool := false
  /-- The transition in effect from the next boundary. -/
  next : Option Trans := none
  cmds : List DoorCmd := []
  request : Bool := false
  /-- Fault causes detected since the last door tick (R53). -/
  faults : List Nat := []
  /-- Mantis reported an obstruction since the last door tick. -/
  obstructed : Bool := false
  holdOpen : Bool := false
  -- Close warning and auto-close (R50, R56, R62)
  warnUntil : Option Nat := none
  warnOrigin : WarnOrigin := .door
  warnEnded : Bool := false
  autoUntil : Option Nat := none
  autoEnded : Bool := false
  -- Start scheduler (R72 to R75)
  startWait : Option StartWait := none
  granted : Option StartKind := none
  /-- (predicted peak, fast tick) of the last granted start. -/
  lastGrant : Option (Nat × Nat) := none
  peaksOpen : List Nat := []
  peaksClose : List Nat := []
  /-- A start whose peak is being measured: (opening, until, largest so far). -/
  measuring : Option (Bool × Nat × Nat) := none
  /-- DC-link current filtered over 10 ms, in mA, and as last reported. -/
  runFilt : Nat := 0
  dcLast : Nat := 0
  -- Timers of the sequences
  unlockUntil : Option Nat := none
  unlockAt : Option Nat := none
  lockUntil : Option Nat := none
  lockAt : Option Nat := none
  stepUntil : Option Nat := none
  stepExtending : Bool := false
  preselUntil : Option Nat := none
  dwellUntil : Option Nat := none
  dwellEnded : Bool := false
  openDwellUntil : Option Nat := none
  openDwellEnded : Bool := false
  /-- Since when the close start is held by R215, and whether its event was raised. -/
  holdSince : Option Nat := none
  holdRaised : Bool := false
  -- Monitors of R69 and R241
  viewSince : Option Nat := none
  viewRaised : Bool := false
  lockPairSince : Option Nat := none
  /-- The disagreement that lasts has been reported (R241). -/
  lockPairRaised : Bool := false
  /-- It is the cause of the doorway's FAULT (R53). -/
  pairFault : Bool := false
  -- Reference, step, requests
  refNeeded : Bool := false
  wantRetract : Bool := false
  stepSto : Bool := false
  /-- The step move a step fault interrupted: TRUE extend, FALSE retract (R67); TRUE while it is re-run. -/
  interrupted : Option Bool := none
  /-- The step's extension failed in the present OPENING (R67). -/
  stepFailed : Bool := false
  rerun : Bool := false
  ignoreRequests : Bool := false
  /-- Starts of the first closing move, and of the unlock, for the recorder (R451). -/
  closeAt : Option Nat := none
  openAt : Option Nat := none
  /-- The closing was started by a car close command or a release withdrawal (R63). -/
  noReopen : Bool := false
  releaseLost : Bool := false
  wasReleased : Bool := false
  /-- ZERO_SPEED was lost and not yet acted on; its value in the last door tick (R60). -/
  zeroLost : Bool := false
  wasZero : Bool := false
  /-- OPEN_LEFT or OPEN_RIGHT enabled requests (R62). -/
  enabled : Bool := false
  /-- HOLD_OPEN as it will be from the next boundary (R56). -/
  holdNext : Option Bool := none
  /-- A close that waits for the zone and the edges to clear (R215). -/
  closePend : Option StartKind := none
  /-- A retract has ended, and the step's reference waits for its switch (R101). -/
  stepRef : Bool := false
  lostRaised : Bool := false
  handleRaised : Bool := false
  reduced : Bool := false
  lockOn : Bool := false
  learn : Option Learn := none
  move : Option Move := none
  moveCount : Nat := 0
  /-- How the last move ended: its kind and whether it reached its end. -/
  lastEnd : Option (MoveKind × Bool) := none
  /-- The move that follows the stop under way (R89, R67). -/
  thenMove : Option MoveKind := none
  /-- The move that waits for a stepper's self-alignment (R143). -/
  alignFor : Option MoveKind := none
  obs : Option Obs := none
  openAttempts : Nat := 0
  /-- OPEN_DWELL runs from the hard stop of an obstructed opening. -/
  openStopped : Bool := false
  -- Learning (R197): conditions since the end of the previous move
  spoiled : Bool := false
  fullStroke : Bool := false
  afterManual : Bool := false
  /-- A reload of the node's table is asked for (R122). -/
  tableReload : Bool := false
  deriving DecidableEq, Repr


/-- An alignment run (R142, R143): when it began, the ANGLE_STATE before it, and the encoder counts recorded at the start of a
self-alignment or at the end of the first stage, and at the end of the run. -/
structure Align where
  self : Bool
  started : Nat
  prevState : Nat
  c0 : Option Int := none
  c1 : Option Int := none
  deriving DecidableEq, Repr

/-- One filter chain's estimator period (R136): sums over the period. -/
structure ResPeriod where
  n : Nat := 0
  vd : Int := 0
  id : Int := 0
  iq : Int := 0
  speed : Int := 0
  limited : Bool := false
  deriving DecidableEq, Repr

/-- Sums of the squared phase currents of a period of 20 ms, and whether one phase was missing in the last (R145). -/
structure PhasePeriod where
  since : Option Nat := none
  p0 : Nat := 0
  p1 : Nat := 0
  p2 : Nat := 0
  lost : Bool := false
  deriving DecidableEq, Repr

/-- What the loop and motion engines and safe monitoring hold for an axis beside its entries. Positions in nm, speeds in
nm/s, currents in µA, voltages in µV, angles in 1/65536 of a table address. -/
structure Axis where
  /-- Unwrapped encoder count, and the offset of R101. -/
  count : Int := 0
  rawCount : Nat := 0
  seen : Bool := false
  comm : Nat := 0
  commSeen : Bool := false
  rebase : Int := 0
  encStreak : Nat := 0
  /-- The count stepped by more than half of ENCODER_CPR in the last fast tick (R145). -/
  encJump : Bool := false
  offsetNm : Int := 0
  /-- Measured position of the last uplink frame, and as latched at the last motion-tick boundary (R23). -/
  nowNm : Int := 0
  posNm : Int := 0
  lastPosNm : Int := 0
  setNm : Int := 0
  setVel : Int := 0
  setAcc : Int := 0
  speed : Int := 0
  intV : Int := 0
  iqNext : Int := 0
  iqDemand : Int := 0
  /-- Loop sample of the last uplink frame: sinc3 outputs, and whether it is new (R131). -/
  y0 : Nat := 131072
  y1 : Nat := 131072
  fresh : Bool := false
  /-- Largest magnitude, in filter steps, of the monitoring samples of any phase in the last frame; and how many monitoring samples of
  each stream have in succession had a ones-density outside 0.02–0.98 (R128, R145). -/
  monPeak : Nat := 0
  over0 : Nat := 0
  over1 : Nat := 0
  /-- The last 190 bits of the two bitstreams, and the fast tick of the frame that brought them (R127, R128). -/
  tail0 : Nat := 0
  tail1 : Nat := 0
  streamAt : Option Nat := none
  angle : Int := 0
  omega : Int := 0
  iD : Int := 0
  iQ : Int := 0
  /-- i_d and i_q as latched at the last motion-tick boundary (R23). -/
  latD : Int := 0
  latQ : Int := 0
  intD : Int := 0
  intQ : Int := 0
  vD : Int := 0
  vQ : Int := 0
  addr : Nat := 0
  amp : Nat := 0
  /-- Set-point words of the last fast ticks, newest first (R123, R178's echo check). -/
  words : List Nat := []
  limited : Bool := false
  limitedRun : Nat := 0
  /-- The integrators did not run in the last slot (R335). -/
  slotFrozen : Bool := false
  -- Resistance estimate (R135–R137), in µΩ; `none` at RES_20C.
  res : Option Nat := none
  resPos : Bool := true
  resNow : ResPeriod := {}
  resPrev : Option ResPeriod := none
  resBad : Nat := 0
  stoSince : Option Nat := none
  -- Gains in force (R133): KP_I and KI_I as products of their factors, and the estimate that KI_I was formed from, µΩ; `tempRes`:
  -- RES_20C, in µΩ, of the WINDING_TEMP shown (R137).
  gainP : Nat := 6283185307179586000000
  gainI : Nat := 6283185307179586000000000
  gainRes : Nat := 1000000
  tempRes : Nat := 1000000
  -- Standstill and hold (R106–R108)
  stillSince : Option Nat := none
  holdStart : Option Nat := none
  holdDone : Bool := false
  /-- The integral of the speed loop is frozen, from the start of the hold ramp until the next move (R106). -/
  frozen : Bool := false
  -- Loop faults (R145–R147)
  faultAt : Option Nat := none
  faultBrake : Bool := false
  phaseLossSince : Option Nat := none
  /-- Squares of the phase currents, in µA², since a boundary: the 20 ms of PHASE_LOSS (R145). -/
  phase : PhasePeriod := {}
  commFaultSince : Option Nat := none
  stallSince : Option Nat := none
  followBad : Bool := false
  align : Option Align := none
  referenced : Bool := false
  /-- Changed motor data take effect at the next door tick (R144). -/
  motorNew : Bool := false
  -- Manual modes (R109–R114)
  demandNm : Rat := 0
  remaining : Rat := 0
  rate : Rat := 0
  lastStep : Option Nat := none
  discarding : Bool := false
  /-- Time of the jog's next step, in fast ticks (R114). -/
  jogNext : Option Rat := none
  manVel : Rat := 0
  /-- Deceleration of a stop ramp in a manual mode, mm/s² (R97, R114). -/
  manStop : Option Rat := none
  /-- A limit switch was seen at the last boundary in a manual mode (R99). -/
  manSeen : Bool := false
  /-- That switch was active at the last boundary. -/
  manHit : Bool := false
  -- Peaks of the current move (R451)
  iqPeak : Int := 0
  followPeak : Int := 0
  speedPeak : Int := 0
  forcePeak : Int := 0
  -- Safe monitoring (R272–R278)
  /-- Positions at the last motion ticks, newest first (R277). -/
  sf4Pos : List Int := []
  sf4Count : Nat := 0
  sf4Ok : Nat := 0
  sf7Until : Option Nat := none
  sf7Start : Int := 0
  sf7Fast : Nat := 0
  sf7Ref : Option Int := none
  sf7Count : Nat := 0
  /-- SF7's trigger has ended for this axis, which keeps the reference point latched then (R566). -/
  sf7Held : Bool := false
  safeAbs : Nat := 0
  safeEn : Nat := 0
  /-- Criteria of SF3 true at the last motion tick: bit 0 force or energy, 1 edge, 2 depth. -/
  safeMask : Nat := 0
  -- Mantis counts of consecutive samples (R208–R212)
  /-- Force estimates of the last motion ticks, mN, newest first. -/
  forces : List Int := []
  envCount : Nat := 0
  absCount : Nat := 0
  energyCount : Nat := 0
  /-- Drive mode taken from the holder's shadow record, while this unit shadows the axis (R335). -/
  shadow : Option Nat := none
  /-- Results of the axis's last slots, newest first, each with its FAST_TICK_COUNT (R336). -/
  hist : List (Nat × ShadowRec) := []
  deriving DecidableEq, Repr

/-- What the two safety channels and the input filters hold of a doorway's node inputs and contacts (chapter 7). -/
structure Contacts where
  /-- Node inputs as last sampled on paths A and B, bit i = input i active. -/
  rawA : Nat := 0
  rawB : Nat := 0
  /-- Since when each raw bit has its value: key i for path A, 8 + i for path B. -/
  since : Store Nat := []
  /-- Node inputs filtered with CONTACT_FILTER, for requests and limit switches; filtered with 0.1 ms, for edges. -/
  filt : Nat := 0
  edgeA : Nat := 0
  edgeB : Nat := 0
  edgeDiff : Store Nat := []
  /-- Filtered node-input contacts of channels A and B, bit c − 1. -/
  conA : Nat := 0
  conB : Nat := 0
  /-- Fast tick of the last valid uplink frame (R177). -/
  lastValid : Option Nat := none
  /-- Readings of the last cross-compare (R238). -/
  exA : Nat := 0
  exB : Nat := 0
  diffSince : Store Nat := []
  agreeSince : Store Nat := []
  /-- Contacts whose discrepancy is latched (R239), bit c − 1. -/
  latched : Nat := 0
  deriving DecidableEq, Repr

/-- What the channels hold of the safe input pairs (R369, R370). -/
structure Pairs where
  exA : Nat := 0
  exB : Nat := 0
  diffSince : Store Nat := []
  /-- Consecutive door ticks with both own readings inactive. -/
  quiet : Store Nat := []
  deriving DecidableEq, Repr

/-- The cab payload (R252, R253). -/
structure Cab where
  bits : Nat := 0
  /-- The bits as they stood at the last door tick: the channels complete their own checks by the following boundary (R274). -/
  seen : Nat := 0
  haveRef : Bool := false
  count : Nat := 0
  deriving DecidableEq, Repr

/-! ### Links and nodes -/

/-- A management message (R161, R182): MGMT_OP, MGMT_ADDR and MGMT_DATA. -/
structure MgmtMsg where
  op : Nat
  addr : Nat := 0
  data : List ByteN := []
  deriving DecidableEq, Repr

/-- The management message that awaits its response (R182, R183). -/
structure Outstanding where
  tag : Nat
  msg : MgmtMsg
  tries : Nat := 0
  sentAt : Nat
  busy : Bool := false
  /-- The message goes into the next downlink frame. -/
  due : Bool := true
  deriving DecidableEq, Repr

/-- A training run (R179, R180), of a doorway link or of the partner link. -/
structure Train where
  started : Nat
  step : Nat := 1
  /-- Frames counted in the present step. -/
  count : Nat := 0
  /-- Levels 0–3 at which this receiver saw an error in SWEEP. -/
  bad : List Nat := []
  delaySum : Nat := 0
  request : Nat := 0
  /-- Bit and code errors received at the far end's current level (RX_ERRORS), and the level that the far end asks for. -/
  errors : Nat := 0
  asked : Nat := 0
  deriving DecidableEq, Repr

/-- What a link port holds beside its entries (R157 to R191). -/
structure Link where
  /-- The receiver has character lock. -/
  charLock : Bool := false
  /-- Characters received before the last SOF (R154). -/
  lastSof : Option Nat := none
  train : Option Train := none
  upSeq : Option Nat := none
  /-- A valid uplink frame arrived since the last fast tick; consecutive fast ticks without one (R178). -/
  got : Bool := false
  missing : Nat := 0
  echoRun : Nat := 0
  /-- Consecutive uplink frames that report an apply instant without an applicable frame (R343). -/
  heldRun : Nat := 0
  /-- NODE_STATUS and APPLIED_SP0–2 of the last valid uplink frame. -/
  status : Nat := 0x7000
  applied : List Nat := [0, 0, 0]
  /-- OUTPUTS_RB, NODE_TEMP in °C, DC_LINK_VOLTAGE in 10 mV of the last valid uplink frame (R165). -/
  outputsRb : Nat := 0
  nodeTemp : Int := 0
  dcVoltage : Nat := 0
  /-- SEQ of the last downlink data frame (R163), and the words sent under the latest SEQs. -/
  seq : Nat := 0
  sent : Store (List Nat) := []
  /-- The downlink data frame, or the training frame, now on the wire; SEQ of the last training frame (R179, R189). -/
  down : Option DownFrame := none
  trainDown : Option TrainFrame := none
  trainSeq : Nat := 0
  -- Management (R182, R183)
  tag : Nat := 0
  out : Option Outstanding := none
  queue : List MgmtMsg := []
  /-- The running exchange: NODE_CONFIG_TIMEOUT's deadline, and MGMT_RETRIES as it stood at its start. -/
  exUntil : Option Nat := none
  exRetries : Nat := 3
  -- READY (R189): data frames sent in READY, and frames since the first RESUME.
  ready : Nat := 0
  resumed : Option Nat := none
  /-- RETRAIN_DELAY runs until (R191). -/
  retrainAt : Option Nat := none
  deriving DecidableEq, Repr

/-- A response of the node on one port (R182, R186): tag, result, data. -/
structure Response where
  tag : Nat := 0
  result : Nat := 0
  data : List ByteN := []
  deriving DecidableEq, Repr

/-- What a node holds of one of its two ports (R165, R175, R179): a training run that it follows, the SEQ of its last training frame and
UP_SEQ of its last uplink frame, and the training frame or uplink frame that it sends. -/
structure NodePort where
  train : Option Train := none
  trainSeq : Nat := 0
  upSeq : Nat := 0
  training : Option TrainFrame := none
  up : Option UpFrame := none
  lastSof : Option Nat := none
  deriving DecidableEq, Repr

/-- A power node (R171 to R188). -/
structure Node where
  /-- 0 INIT, 1 STO_LATCHED, 2 RUNNING, 3 HOLDING. -/
  state : Nat := 0
  shadowTable : List ByteN := []
  table : List ByteN := []
  tableValid : Bool := false
  /-- The configuration block, empty until written (R185). -/
  config : List ByteN := []
  lastSeq : Nat := 0
  prevSeq : Nat := 0
  run : Nat := 0
  missed : Nat := 0
  -- in force
  words : List Nat := [0, 0, 0]
  stoA : Nat := 7
  runB : Nat := 0
  outputs : Nat := 0
  bothHold : Bool := false
  substitute : Bool := false
  held : Bool := false
  /-- The node's own overcurrent trips, DC link below its rated minimum, a bridge above its temperature limit (R168). -/
  trip : Nat := 0
  dcLow : Bool := false
  overTemp : Bool := false
  /-- Apply instants in a row without a frame for STO path A and path B, and the paths found failed (R280). -/
  missA : Nat := 0
  missB : Nat := 0
  pathFail : Nat := 0
  /-- TIMING_ADVANCE of ports A and B; the port whose frames are applied. -/
  taA : Nat := 0
  taB : Nat := 0
  appliedPort : Nat := 0
  respA : Response := {}
  respB : Response := {}
  portA : NodePort := {}
  portB : NodePort := {}
  deriving DecidableEq, Repr

/-- A learned envelope (R195): 256 bins of mean and spread in 0.025 N, none listed while EMPTY. -/
abbrev Envelope := List (Int × Int)

/-- A write of ENV_DATA to a direction (TRUE opening) with 256 bins, or the reset of the closing and the opening envelope (R205). -/
inductive LeafAct
  | write (opening : Bool) (bins : Envelope)
  | reset (closing opening : Bool)
  deriving DecidableEq, Repr

/-- What Mantis holds of a leaf (R196, R202, R203). -/
structure Leaf where
  /-- ENV_OFFSET in 1/256 µm. -/
  offset : Int := 0
  /-- The stroke, in µm, against which the envelopes are held. -/
  held : Int := 0
  close : Envelope := []
  opn : Envelope := []
  /-- Sum of F in mN and samples of each bin visited in the current move. -/
  acc : Store (Int × Nat) := []
  /-- Changed since the last commit, and when the commit is due at the latest (R206). -/
  commitBy : Option Nat := none
  /-- Window writes and commands that take effect at the next door tick, oldest first (R205). -/
  acts : List LeafAct := []
  deriving DecidableEq, Repr

/-- The copy of an envelope that a read of the window has taken (R205). -/
structure EnvView where
  a : Nat
  closing : Bool
  env : Envelope := []
  deriving DecidableEq, Repr

/-- The committed copy of a leaf's envelopes (R206): offset, stroke, bins, states and cycle counts, and the motor and encoder data they
hold for (R204). -/
structure LeafCommit where
  leaf : Leaf := {}
  motor : List Int := []
  stateClose : Int := 0
  stateOpen : Int := 0
  cyclesClose : Int := 0
  cyclesOpen : Int := 0
  deriving DecidableEq, Repr

/-- A complete depth frame waiting for Mantis (R32). -/
structure DepthFrame where
  n : Nat
  arrived : Nat
  pixels : List Nat
  deriving DecidableEq, Repr

/-- What Mantis holds of a depth sensor (R170, R213 to R218). -/
structure Sensor where
  -- reassembly
  frameNo : Nat := 0
  nextChunk : Nat := 0
  pixels : List Nat := []
  /-- Background of each pixel in 1/256 mm, `none` where invalid; empty before the first learning. -/
  bg : List (Option Nat) := []
  /-- Readings of the learning under way: the processed frames. -/
  learning : Option (List (List Nat)) := none
  /-- BG_STATE before the learning. -/
  badRun : Nat := 0
  goodRun : Nat := 0
  lastFrame : Option Nat := none
  nodeFault : Bool := false
  /-- The last hourly commit while tracking (R217), and a commit that is due. -/
  tracked : Option Nat := none
  commitBy : Option Nat := none
  committed : List (Option Nat) := []
  /-- The last learning ended in FAILED, now and as committed (R216, R232). -/
  failed : Bool := false
  failedNv : Bool := false
  /-- Channel A's own count of the box (R276): the results that are due, as (fast tick, occupied, too many invalid), and the last complete
  one. -/
  ownNext : List (Nat × Bool × Bool) := []
  own : Bool := false
  /-- When it last completed one, its frames in a row with too many invalid pixels and without, and the failure it holds. -/
  ownAt : Option Nat := none
  ownBad : Nat := 0
  ownGood : Nat := 0
  ownDown : Bool := false
  deriving DecidableEq, Repr

/-! ### NSL connections -/

/-- What a consumer or producer connection holds beside its entries (R306 to R312); both channels run it on the same frames
at the same instants, so one record stands for both. -/
structure Conn where
  /-- Bucket of R41 in 1/250 of a frame, and the fast tick of its last update; `none` when full. -/
  bucket : Option (Nat × Nat) := none
  /-- Smallest offset of R310, and the fast tick from which its 10 s run. -/
  base : Nat := 0
  baseAt : Nat := 0
  /-- Fast tick of the last accepted frame: watchdog, and the candidate's age (R311). -/
  accepted : Option Nat := none
  /-- Since when the error budget is below full (R312). -/
  refillFrom : Option Nat := none
  /-- Configuration that the connection was started with (R305): sub-indices 1 to 8. -/
  cfg : List Int := []
  -- Producer
  /-- SEQ of the last frame, `none` before the start of production. -/
  seq : Option Nat := none
  sentAt : Option Nat := none
  deriving DecidableEq, Repr

/-- The summary's producer (R256, R257): bytes 0–3 as last sent, and the payload formed at the last door tick. -/
structure Summary where
  head : List ByteN := []
  due : Bool := false
  deriving DecidableEq, Repr

/-! ### Protected outputs -/

/-- A pulse generator as a field die holds it (R388, R389). The defaults are those of a PG7 that was never loaded (R401). -/
structure PgRec where
  /-- 0 OFF, 1 FLASH, 2 DIM. -/
  mode : Nat := 1
  /-- µs. -/
  period : Nat := 1000000
  duty : Nat := 128
  /-- Fast tick at which its period last restarted. -/
  start : Nat := 0
  deriving DecidableEq, Repr

/-- A lamp or coil channel beside its entries (R384 to R409), as its field die holds it. Times in fast ticks. -/
structure OutChan where
  /-- Demand in force at the field die, and since when. -/
  want : Bool := false
  wantSince : Option Nat := none
  /-- ON_STATE in force is STEADY; else the generator, and the phase in force with the one that follows at a fast tick. -/
  steady : Bool := true
  pg : Nat := 255
  phase : Nat := 0
  phaseNext : Option (Nat × Nat) := none
  /-- The pulse generator's present state for this channel (R389). -/
  pgOn : Bool := false
  onSince : Option Nat := none
  offSince : Option Nat := none
  inrushUntil : Option Nat := none
  /-- When the inrush window of the present on period ended. -/
  inrushEnd : Option Nat := none
  /-- Fast tick of a thermal trip in whose sample the channel may also trip by overcurrent (R394). -/
  tripAt : Option Nat := none
  /-- Retry pause: its end, or the frozen remainder. -/
  pauseUntil : Option Nat := none
  pauseLeft : Option Nat := none
  /-- Held off by LAMP_FAIL_TIME (R408). -/
  heldOff : Bool := false
  /-- First trip since the last trip-free second (R408). -/
  failFrom : Option Nat := none
  /-- Off until the next door tick after a FAULT_CLEAR. -/
  clearing : Bool := false
  /-- Causes of LAMP_FAILED found since the last door tick (R407). -/
  causes : List Nat := []
  -- Readback (R397, R400): 0 LOW, 1 MID, 2 HIGH
  band : Nat := 0
  highSince : Option Nat := none
  midSince : Option Nat := none
  lowSince : Option Nat := none
  /-- OPEN_LOAD was set for the present MID reading, or the present lack of current. -/
  openSeen : Bool := false
  /-- Current still flows after a switch-off of a coil (R395). -/
  decaying : Bool := false
  -- Glowworm
  dark : Bool := false
  learnFrom : Option Nat := none
  notLearned : Bool := false
  /-- Fail-safe state loaded into the field die (R401). -/
  safeState : Nat := 0
  /-- Dissipation of the last 100 door ticks, newest first, mW (R403). -/
  shares : List Nat := []
  deriving DecidableEq, Repr

/-- A field die (R383, R401, R402). -/
structure FieldDie where
  /-- Last watchdog frame. -/
  fedAt : Option Nat := none
  /-- FIELD_WD_TIMEOUT as the die knows it, ms. -/
  wd : Nat := 50
  /-- The channels are in their fail-safe states: after an expiry, and from power-up until a complete set of demands. -/
  expired : Bool := true
  /-- The fail-safe states have been loaded since. -/
  loaded : Bool := false
  /-- In its stabled mode (R488). -/
  stabled : Bool := false
  /-- Case reference above 150 °C (R549). -/
  hot : Bool := false
  pgs : Store PgRec := []
  deriving DecidableEq, Repr

/-- The dissipation manager (R403, R404): sums of the last 100 door ticks, since when the limit is exceeded, and the limit. -/
structure Dissipation where
  sums : List Nat := []
  overSince : Option Nat := none
  limit : Nat := 14000
  deriving DecidableEq, Repr

/-! ### Power, reset and boot -/

/-- Where the device stands between power-up and its doors (R486, R495, R525, R531). -/
inductive Phase
  /-- A logic-die reset is asserted, or has ended and the boot is to come. -/
  | reset
  /-- Booted: RUN or DOZE. -/
  | run
  | stabled
  /-- Wake sequence: waiting for PG_MAIN, the oscillator, the PLL; waiting 100 ms before the retry. -/
  | w1 | w2 | w3 | pause
  deriving DecidableEq, Repr

/-- Power, reset and boot state beside the entries. -/
structure Power where
  phase : Phase := .reset
  /-- Fast tick at which the present wake step, or the pause, began. -/
  stepAt : Nat := 0
  /-- Source of the wake in progress, coded as LAST_WAKE_SOURCE; the fast tick of the source; a retry is under way. -/
  source : Nat := 0
  sourceAt : Nat := 0
  retried : Bool := false
  /-- Wake source latched after the sleep commit, and the fast tick of the commit (R489). -/
  latched : Option Nat := none
  committedAt : Option Nat := none
  /-- Events held in AON: code and datum (R496). -/
  held : List (Nat × Int) := []
  /-- POWER_COMMAND RUN or DOZE takes effect at the next door tick. -/
  command : Option Nat := none
  /-- The sleep sequence's accepting boundary (R488). -/
  sleepFrom : Option Nat := none
  sleepAsked : Bool := false
  /-- Domains whose wake has been asked for (R483), as a mask. -/
  waking : Nat := 0
  /-- FAILED_WAKES reached 3 since RUN was last reached (R500). -/
  lockedOut : Bool := false
  /-- Fraction of the RTC's present second, in 1/(50000 · 10^7) s. -/
  rtcPart : Nat := 0
  /-- Since when MOTION and SENSE may sleep and were not accessed (R483). -/
  motionIdle : Option Nat := none
  senseIdle : Option Nat := none
  -- Warnings (R478)
  warnIo : Bool := false
  warnCore : Bool := false
  warnBall : Bool := false
  /-- VDD_CORE warning threshold in mV, and one that is in force later. -/
  coreThreshold : Nat := 745
  coreNext : Option (Nat × Nat) := none
  vidLowered : Option Nat := none
  /-- Brown-out reset held. -/
  brown : Bool := false
  -- Temperature (R498)
  hotSince : Option Nat := none
  hotRaised : Bool := false
  -- Resets
  /-- Causes since the last boot, as RESET_CAUSE. -/
  causes : Nat := 0
  /-- Fast tick at which the reset began, for R248. -/
  resetAt : Option Nat := none
  /-- An internal reset that follows 100 ms after a response: its time and cause bit. -/
  planned : Option (Nat × Nat) := none
  /-- Fast ticks of the watchdog resets of the last 600 s. -/
  watchdogs : List Nat := []
  bootedAt : Option Nat := none
  /-- The boot after an FW_ACTIVATE in recovery ignores ST_BOOTREC once. -/
  ignoreRec : Bool := false
  /-- A wake has failed and RUN was not reached since (R496). -/
  wakeFailed : Bool := false
  /-- Boots halt (R527). -/
  halted : Bool := false
  /-- Restores at the next device reset (R440). -/
  restore : Bool := false
  restoreSafety : Bool := false
  deriving DecidableEq, Repr

/-! ### Security -/

/-- A handshake in progress (R505, R507). -/
structure Handshake where
  credential : List ByteN := []
  level : Nat := 0
  anchor : Nat := 0
  toolKey : List ByteN := []
  toolNonce : List ByteN := []
  num : Nat := 0
  deviceScalar : List ByteN := []
  deviceKey : List ByteN := []
  deviceNonce : List ByteN := []
  /-- Fast tick of step 2; `none` before it. -/
  asked : Option Nat := none
  deriving DecidableEq, Repr

/-- Security state beside the entries. -/
structure Sec where
  handshakes : Store Handshake := []
  /-- Fast ticks of the refused proofs of the last 600 s. -/
  refused : List Nat := []
  lockUntil : Option Nat := none
  /-- Sessions that open, and anchor blobs that take effect, at the next door tick. -/
  opening : List Session := []
  anchors : List (List ByteN) := []
  nonce : List ByteN := []
  nonceDue : Bool := false
  debugDue : Option Nat := none
  /-- Bytes received of the image under way. -/
  received : Nat := 0
  /-- The firmware partitions of the nonvolatile die (R19), by slot number: the bytes written to a slot. A slot that nothing wrote holds an
  image that the model does not know. -/
  images : Store (List ByteN) := []
  /-- The boot choice of each kind: 0 or 1; an activation is pending, of application (1) or safety (2). -/
  appChoice : Nat := 0
  safetyChoice : Nat := 0
  activated : Option Nat := none
  /-- Kind of the image in trial: 1 application, 2 safety, 0 none. -/
  trial : Nat := 0
  /-- Rollback record (R516): VERSION, RAISES, validity; uncommitted shadow. -/
  version : Nat := 0
  raises : Nat := 0
  recordOk : Bool := true
  shadow : Option (Nat × Nat) := none
  /-- The device private key exists (R501). -/
  deviceKey : Bool := true
  deriving DecidableEq, Repr

/-- A safe output beside its status word (R248, R282 to R286). Times in fast ticks. -/
structure SafeOut where
  /-- When the output last opened. -/
  openedAt : Option Nat := none
  /-- The demand of channel A and of channel B, and when either last changed. -/
  demand : Bool × Bool := (false, false)
  changedAt : Option Nat := none
  /-- A dark pulse running: low side, start. -/
  pulse : Option (Bool × Nat) := none
  /-- Energised door ticks since the last passing pulse of each switch. -/
  hsUntested : Nat := 0
  lsUntested : Nat := 0
  /-- Until when a follow test runs, and whether on the low side (R286). -/
  followUntil : Option Nat := none
  followLs : Bool := false
  /-- The load current, and as it was before the low-side switch last opened (R282). -/
  loadMa : Nat := 0
  offLoad : Nat := 0
  /-- Since when the output is energised (R451). -/
  onSince : Option Nat := none
  deriving DecidableEq, Repr

/-- A backstop check of SF3 that is due (R276): doorway, fast tick, direction of the move. -/
structure Backstop where
  d : Nat
  at_ : Nat
  opening : Bool
  deriving DecidableEq, Repr

/-- The exchange record of a channel (R266): its readings of the contacts by doorway and of the safe pairs, its release terms, its demands
of the outputs and of STO, its check value, and its tick count. -/
structure ExRecord where
  contacts : List Nat := []
  pairs : Nat := 0
  rel : Nat := 0
  so : Nat := 0
  sto : Nat := 0
  check : Nat := 0
  ticks : Nat := 0
  deriving DecidableEq, Repr

/-- The frames on the safety port of a field die (R265): the first one without a gap since, and the last one. -/
structure SafetyPort where
  since : Nat
  last : Nat
  deriving DecidableEq, Repr

/-- What the two safety channels hold (chapter 8). Channel masks have bit a for axis a, bit k for output k. -/
structure Safety where
  stoA : Nat := 0
  stoB : Nat := 0
  stoDiff : Nat := 0
  soA : Nat := 0
  soB : Nat := 0
  soDiff : Nat := 0
  /-- Release terms as each channel forms them: bit 0 left, 1 right, 2 zero speed. -/
  relA : Nat := 0
  relB : Nat := 0
  /-- The bits of the NSL source, as last exchanged with the other channel (R266, R274). -/
  nslExA : Nat := 0
  nslExB : Nat := 0
  /-- Side terms of SF2 in the last door tick and in the one before: bits 0, 1 left, right in channel A; 2, 3 in channel B. -/
  side : Nat := 0
  sidePrev : Nat := 0
  /-- Doorways whose STO by SF3's backstop, SF4, SF7 is held (R566). -/
  sf3 : Nat := 0
  sf4 : Nat := 0
  sf7 : Nat := 0
  backstops : List Backstop := []
  /-- Field dies whose safety-port watchdog has expired (R265): A, B. -/
  dieA : Bool := false
  dieB : Bool := false
  portA : Option SafetyPort := none
  portB : Option SafetyPort := none
  /-- The alive signals of the channels, and when each last toggled (R266). -/
  aliveA : Bool := false
  aliveB : Bool := false
  aliveAtA : Option Nat := none
  aliveAtB : Option Nat := none
  /-- The exchange records of the last door tick. -/
  recA : Option ExRecord := none
  recB : Option ExRecord := none
  /-- STO that SF2 and SF5 demand in each channel. -/
  sfA : Nat := 0
  sfB : Nat := 0
  stalls : Stalls := {}
  /-- An accepted CONFIRM takes effect at the next door tick (R291). -/
  confirming : Option Nat := none
  /-- SO_FAULT_CLEAR bits that take effect at the next door tick (R287). -/
  clearing : Nat := 0
  /-- The debug safe state (R518) is latched. -/
  debugSafe : Bool := false
  /-- Faults latched during a channel discrepancy are cleared only after the device reset (R287). -/
  heldFaults : Nat := 0
  /-- The check value last confirmed (R291). -/
  lastCheck : Nat := 0
  /-- The logic die is in reset: the frames of both channels have stopped (R265, R267). -/
  inReset : Bool := false
  /-- Operating second at which PROOF_TEST_DUE was last raised. -/
  proofRaised : Option Nat := none
  /-- The links carry STO of every axis for want of a keep-alive, or by a conflict or fault of the interlock (R325 to R327). -/
  linkSto : Bool := false
  outs : Store SafeOut := []
  /-- Axes whose STO demand awaits BRIDGE_OFF since the fast tick of the demand (R279). -/
  stoSent : Store Nat := []
  deriving DecidableEq, Repr

/-! ### Duplex pair -/

/-- A mirror message that is being sent, or awaits its acknowledgement (R348): `next` is its next segment, `sentAt` when its last one left,
`timeout` MIRROR_TIMEOUT at its first sending (R353). -/
structure OutMsg where
  tag : Nat
  type : Nat
  data : List ByteN
  next : Nat := 0
  tries : Nat := 0
  sentAt : Nat
  firstAt : Nat
  timeout : Nat := 50
  /-- The item of the inventory that it carries (R352). -/
  item : Option (Nat × Nat) := none
  deriving DecidableEq, Repr

/-- A mirror message under reassembly (R348). -/
structure RxMsg where
  type : Nat
  next : Nat
  data : List ByteN
  deriving DecidableEq, Repr

/-- How a doorway was taken over, and the HOLD = 1 frames sent since (R339, R341, R342). -/
structure Taken where
  kind : Nat
  frames : Nat := 0
  deriving DecidableEq, Repr

/-- The Stag interlock and the partner link (R319 to R352). -/
structure Duplex where
  /-- STAG_OUT is driven low; STAG_IN reads asserted. -/
  driving : Bool := false
  stagIn : Bool := false
  /-- Since when a keep-alive condition of R325 fails; since when channel B has stopped the pulses. -/
  keepFrom : Option Nat := none
  lapseSince : Option Nat := none
  lapsed : Bool := false
  /-- STAG_IN has read asserted since boot: this unit became the partner (R328). -/
  wasPartner : Bool := false
  /-- This unit has held the token since its boot: R328's order is over. -/
  heldOnce : Bool := false
  /-- Release at the next fast tick (R347). -/
  releaseNext : Bool := false
  charLock : Bool := false
  train : Option Train := none
  /-- The training frame now on the wire with its SEQ, and the characters received before the last SOF in training (R154, R179). -/
  trainDown : Option TrainFrame := none
  trainSeq : Nat := 0
  lastSof : Option Nat := none
  retrainAt : Option Nat := none
  /-- A valid partner frame arrived since the last fast tick; consecutive fast ticks without one (R332). -/
  got : Bool := false
  missing : Nat := 0
  lostAt : Option Nat := none
  /-- Tick alignment (R333): one-way delay of the link in ns, what this unit has moved its phase by, and whether it has made the one move
  of this entry into SYNCING. -/
  delay : Nat := 0
  phase : Int := 0
  phased : Bool := false
  /-- The check values as last compared, own and partner's (R293). -/
  checkSeen : Option (Nat × Nat) := none
  -- The partner as last reported
  pStatus : Nat := 0
  pCheck : Nat := 0
  pSeq : Option Nat := none
  pTick : Nat := 0
  pSeqs : List Nat := []
  pRevision : Nat := 0
  /-- The partner data frame now on the wire, and its PSEQ (R329, R330). -/
  frame : Option PFrame := none
  seq : Nat := 0
  -- Shadowing (R335 to R338)
  match_ : Store Nat := []
  motions : Store MotionRec := []
  motionAt : Store Nat := []
  moves : Store MoveMsg := []
  /-- Fast tick of the last partner frame of the holder, and the doorways synchronised at it (R339). -/
  lastHold : Option Nat := none
  syncHeld : Nat := 0
  -- Takeover
  taken : Store Taken := []
  adopt : Bool := false
  snapshot : List SnapDoor := []
  snapAt : Option Nat := none
  /-- Last SEQ, TIMESTAMP and payload received as NSL_COPY, per connection. -/
  copies : Store (Nat × Nat × List ByteN) := []
  -- Mirror
  tag : Nat := 0
  outbox : List OutMsg := []
  rx : Store RxMsg := []
  acks : List Nat := []
  inventoried : Bool := false
  inventorySent : Bool := false
  /-- Items still to send of the inventory, as (kind, instance); items marked for the next inventory. -/
  items : List (Nat × Nat) := []
  marked : List (Nat × Nat) := []
  /-- Items that the other unit still has to send. -/
  expect : List (Nat × Nat) := []
  /-- Learned values as last sent (R349): by doorway. -/
  learnedSent : Store (List Int) := []
  /-- Mirrored entries written here in the last 10 ms, with CONFIG_GENERATION after the write and its fast tick (R351). -/
  written : Store (Nat × Nat) := []
  /-- Pieces of mirrored DOMAIN values received so far, by entry and number. -/
  domRx : Store (Store (List ByteN)) := []
  /-- Generation of each mirrored item other than the configuration (R349), and whether this unit sends its configuration (R352). -/
  gens : Store Nat := []
  sendsConfig : Bool := false
  timeAt : Nat := 0
  deriving DecidableEq, Repr

/-- What part this is and how it is strapped (R2, R4, R418). -/
structure Part where
  /-- TRUE for the D8. -/
  d8 : Bool := false
  deriving DecidableEq, Repr

/-- What the boundaries of the ticks keep (R10, R22, R111). -/
structure Boundary where
  /-- Fast tick at whose boundary the last motion tick, and the last door tick, ran. -/
  motionAt : Option Nat := none
  doorAt : Option Nat := none
  /-- STEP inputs whose present activation has given its coarse step: a mask of the pairs. -/
  stepSeen : Nat := 0
  /-- Sensitive-edge inputs as filtered with 0.1 ms (R212): a mask of the field inputs. -/
  edgeIn : Nat := 0
  /-- The leaves at the last door-tick boundary, and the envelope whose copy a read has taken (R205). -/
  leavesAt : Store Leaf := []
  envView : Option EnvView := none
  /-- Status bits cleared by a write in this tick, as (entry, bit). -/
  cleared : List (Nat × Nat) := []
  deriving DecidableEq, Repr

/-- The machine. -/
structure State where
  /-- Commands waiting, first in, first out: the model's own field. -/
  pending : List Instr := []
  /-- Fast ticks since power-up: the time base of every timer. -/
  now : Nat := 0
  /-- Number of free values drawn so far: the model's own field. -/
  free : Nat := 0
  /-- Abort code of the last dictionary access, 0 when it was accepted (R439). -/
  answer : Option Nat := none
  /-- The object dictionary: every entry of fixed size, keyed index · 256 + sub-index; an unlisted entry is at its default. -/
  dict : Store Int := []
  /-- Parameter values in force in the ticks (R24). -/
  eff : Store Int := []
  /-- Values committed to the nonvolatile die (R19, R437). -/
  nv : Store Int := []
  /-- DOMAIN entries that hold bytes. -/
  blobs : Store (List ByteN) := []
  egress : List Egress := []
  part : Part := {}
  boundary : Boundary := {}
  doors : Store Door := []
  axes : Store Axis := []
  recd : Recorder := {}
  net : Net := {}
  sessions : List Session := []
  safety : Safety := {}
  contacts : Store Contacts := []
  pairs : Pairs := {}
  cab : Cab := {}
  leaves : Store Leaf := []
  leafCommits : Store LeafCommit := []
  sensors : Store Sensor := []
  depthQueue : List DepthFrame := []
  links : Store Link := []
  nodes : Store Node := []
  conns : Store Conn := []
  summary : Summary := {}
  chans : Store OutChan := []
  dies : Store FieldDie := []
  heat : Dissipation := {}
  power : Power := {}
  sec : Sec := {}
  duplex : Duplex := {}
  deriving DecidableEq, Repr

/-- Why the machine stops: for no reason. Every fault the manual describes (a safe state, a doorway in FAULT, a halted
boot) is a state the machine goes on from, so no command ends in a fault. -/
inductive Fault
  deriving DecidableEq, Repr

/-- Why a command is turned away. -/
inductive Refusal
  /-- Raised by an arm whose command has no meaning yet. Safe: the machine stops. -/
  | notModelled (mnemonic : String)
  deriving DecidableEq, Repr

/-- The machine right after reset: every entry at its default, every queue empty. NFAULT_CAUSES (0x2204:08), which has no default, shows
the reset and the set that is not confirmed (R534). DESIGN CHOICE: log entries 10, 11, 12, 15 and 31. -/
def State.reset : State := { dict := [(0x220408, 9)] }

end Sys2Proof.Machine
end

