-- ==== Sys2Proof/Machine/Entries.lean ====
section
/-!
DEFINITION. The entries of the object dictionary as the entry tables of spec/ give them (R6, R26, R43, R76, R77, R115,
R117, R149, R150, R192, R228 to R233, R259 to R262, R296, R297, R316 to R318, R353, R355, R377 to R380, R411, R413, R440,
R441, R469, R471, R499, R520 and their neighbours): one row per entry and area, with type, access, default and range.
Columns: index of instance 0, step to the next instance, instances, first and last sub-index, type, access, suffix P,
default, permitted ranges (none listed: the type's), whether a value outside the ranges is too high or too low (R77: the Unit column names a
unit, and no rule of the entry's own, R360, R380 or R262, names 0x0609 0030), instance kind (R3, R4).
-/
namespace Sys2Proof.Machine

/-- Rows of the Comm area, part 0. -/
def rowsComm0 : List Row := [
  ⟨0x1000, 1, 1, 0, 0, .u32, .const, false, 0, [], false, .none⟩ /- DEVICE_TYPE -/,
  ⟨0x1001, 1, 1, 0, 0, .u8, .ro, false, 0, [], false, .none⟩ /- ERROR_REGISTER -/,
  ⟨0x1005, 1, 1, 0, 0, .u32, .rwm, true, 128, [], false, .none⟩ /- COB_ID_SYNC -/,
  ⟨0x1006, 1, 1, 0, 0, .u32, .rwm, true, 0, [(0, 0), (1000, 1000000)], true, .none⟩ /- SYNC_PERIOD -/,
  ⟨0x1008, 1, 1, 0, 0, .str, .const, false, 0, [], false, .none⟩ /- DEVICE_NAME -/,
  ⟨0x1010, 1, 1, 1, 1, .u32, .ro, false, 2, [], false, .none⟩ /- STORE_PARAMETERS -/,
  ⟨0x1011, 1, 1, 1, 1, .u32, .rwm, false, 1, [], false, .none⟩ /- RESTORE_DEFAULTS -/,
  ⟨0x1011, 1, 1, 2, 2, .u32, .rwc, false, 1, [], false, .none⟩ /- RESTORE_SAFETY_DEFAULTS -/,
  ⟨0x1014, 1, 1, 0, 0, .u32, .ro, false, 160, [], false, .none⟩ /- COB_ID_EMCY -/,
  ⟨0x1015, 1, 1, 0, 0, .u16, .rwm, true, 0, [], true, .none⟩ /- INHIBIT_EMCY -/,
  ⟨0x1016, 1, 1, 1, 4, .u32, .rwm, true, 0, [(0, 8388607)], false, .none⟩ /- CONSUMER_HEARTBEAT -/,
  ⟨0x1017, 1, 1, 0, 0, .u16, .rwm, true, 100, [(0, 0), (10, 65535)], true, .none⟩ /- PRODUCER_HEARTBEAT -/,
  ⟨0x1018, 1, 1, 1, 1, .u32, .const, false, 0, [], false, .none⟩ /- VENDOR_ID -/,
  ⟨0x1018, 1, 1, 2, 2, .u32, .const, false, 219545601, [], false, .none⟩ /- PRODUCT_CODE -/,
  ⟨0x1018, 1, 1, 3, 3, .u32, .ro, false, 0, [], false, .none⟩ /- REVISION -/,
  ⟨0x1018, 1, 1, 4, 4, .u32, .const, false, 0, [], false, .none⟩ /- SERIAL -/,
  ⟨0x1200, 1, 1, 1, 2, .u32, .ro, false, 0, [], false, .none⟩ /- SDO_COB_IDS -/,
  ⟨0x1400, 1, 16, 1, 1, .u32, .rwm, true, 2147483648, [], false, .none⟩ /- RPDO/TPDO -/,
  ⟨0x1400, 1, 16, 2, 2, .u8, .rwm, true, 255, [(0, 240), (254, 255)], false, .none⟩ /- RPDO/TPDO -/,
  ⟨0x1400, 1, 16, 3, 3, .u16, .rwm, true, 0, [], false, .none⟩ /- RPDO/TPDO -/,
  ⟨0x1400, 1, 16, 5, 5, .u16, .rwm, true, 0, [], false, .none⟩ /- RPDO/TPDO -/,
  ⟨0x1600, 1, 16, 0, 0, .u8, .rwm, true, 0, [], false, .none⟩ /- RPDO/TPDO -/,
  ⟨0x1600, 1, 16, 1, 8, .u32, .rwm, true, 0, [], false, .none⟩ /- RPDO/TPDO -/,
  ⟨0x1800, 1, 16, 1, 1, .u32, .rwm, true, 2147483648, [], false, .none⟩ /- RPDO/TPDO -/]

/-- Rows of the Comm area, part 1. -/
def rowsComm1 : List Row := [
  ⟨0x1800, 1, 16, 2, 2, .u8, .rwm, true, 255, [(0, 240), (254, 255)], false, .none⟩ /- RPDO/TPDO -/,
  ⟨0x1800, 1, 16, 3, 3, .u16, .rwm, true, 0, [], false, .none⟩ /- RPDO/TPDO -/,
  ⟨0x1800, 1, 16, 5, 5, .u16, .rwm, true, 0, [], false, .none⟩ /- RPDO/TPDO -/,
  ⟨0x1A00, 1, 16, 0, 0, .u8, .rwm, true, 0, [], false, .none⟩ /- RPDO/TPDO -/,
  ⟨0x1A00, 1, 16, 1, 8, .u32, .rwm, true, 0, [], false, .none⟩ /- RPDO/TPDO -/]

/-- The Comm area's rows. -/
def rowsComm : List Row := rowsComm0 ++ rowsComm1

/-- Rows of the Car area, part 0. -/
def rowsCar0 : List Row := [
  ⟨0x2000, 1, 1, 1, 1, .u8, .const, false, 16, [], false, .none⟩ /- DOORWAYS_PRESENT -/,
  ⟨0x2000, 1, 1, 2, 2, .u8, .ro, false, 16, [], false, .none⟩ /- DOORWAYS_CONFIGURED -/,
  ⟨0x2000, 1, 1, 3, 3, .u8, .const, false, 48, [], false, .none⟩ /- AXES_PRESENT -/,
  ⟨0x2001, 1, 1, 1, 1, .u8, .ro, false, 0, [], false, .none⟩ /- STRAPS -/,
  ⟨0x2001, 1, 1, 2, 2, .u8, .ro, false, 0, [], false, .none⟩ /- WADDR -/,
  ⟨0x2001, 1, 1, 3, 3, .u8, .ro, false, 0, [], false, .none⟩ /- STRAP_SAMPLED_BY -/,
  ⟨0x2010, 1, 1, 1, 1, .u8, .rw, false, 0, [(0, 7)], false, .none⟩ /- CAR_COMMAND -/,
  ⟨0x2010, 1, 1, 2, 2, .bool, .ro, false, 0, [(0, 1)], false, .none⟩ /- LEFT_RELEASED -/,
  ⟨0x2010, 1, 1, 3, 3, .bool, .ro, false, 0, [(0, 1)], false, .none⟩ /- RIGHT_RELEASED -/,
  ⟨0x2010, 1, 1, 4, 4, .bool, .ro, false, 0, [(0, 1)], false, .none⟩ /- ZERO_SPEED -/,
  ⟨0x2010, 1, 1, 5, 5, .u16, .ro, false, 0, [], false, .none⟩ /- LOOP_OK_MASK -/,
  ⟨0x2010, 1, 1, 6, 6, .u16, .ro, false, 0, [], false, .none⟩ /- OPEN_MASK -/,
  ⟨0x2010, 1, 1, 7, 7, .u16, .ro, false, 0, [], false, .none⟩ /- OBSTRUCTED_MASK -/,
  ⟨0x2010, 1, 1, 8, 8, .u16, .ro, false, 0, [], false, .none⟩ /- FAULT_MASK -/,
  ⟨0x2010, 1, 1, 9, 9, .u16, .ro, false, 0, [], false, .none⟩ /- ISOLATED_MASK -/,
  ⟨0x2010, 1, 1, 10, 10, .u16, .ro, false, 0, [], false, .none⟩ /- EMERGENCY_MASK -/,
  ⟨0x2011, 1, 1, 1, 1, .u32, .ro, false, 0, [], true, .none⟩ /- CAB_PAYLOADS_OK -/,
  ⟨0x2011, 1, 1, 2, 2, .u32, .ro, false, 0, [], true, .none⟩ /- CAB_PAYLOAD_ERRORS -/,
  ⟨0x2011, 1, 1, 3, 3, .u32, .ro, false, 0, [], true, .none⟩ /- CAB_COMMANDS_ACTED -/,
  ⟨0x2011, 1, 1, 4, 4, .u8, .ro, false, 0, [], false, .none⟩ /- CAB_LAST_COUNT -/,
  ⟨0x2011, 1, 1, 5, 5, .u8, .ro, false, 0, [], false, .none⟩ /- RELEASE_SOURCES -/,
  ⟨0x2011, 1, 1, 6, 6, .u32, .ro, false, 0, [], true, .none⟩ /- SUMMARIES_SENT -/,
  ⟨0x2100, 1, 1, 1, 1, .u8, .ro, false, 0, [], false, .none⟩ /- POWER_STATE -/,
  ⟨0x2100, 1, 1, 2, 2, .u8, .rw, false, 0, [(0, 2)], false, .none⟩ /- POWER_COMMAND -/]

/-- Rows of the Car area, part 1. -/
def rowsCar1 : List Row := [
  ⟨0x2100, 1, 1, 3, 3, .u8, .ro, false, 0, [], false, .none⟩ /- SLEEP_STATUS -/,
  ⟨0x2100, 1, 1, 4, 4, .u8, .rwm, true, 7, [(0, 7)], false, .none⟩ /- WAKE_ENABLE -/,
  ⟨0x2100, 1, 1, 5, 5, .u8, .rwm, true, 0, [(0, 2)], false, .none⟩ /- WAKE_IN_EDGE -/,
  ⟨0x2100, 1, 1, 6, 6, .u8, .ro, false, 0, [], false, .none⟩ /- LAST_WAKE_SOURCE -/,
  ⟨0x2100, 1, 1, 7, 7, .u32, .ro, false, 0, [], true, .none⟩ /- WAKE_TIME_LAST -/,
  ⟨0x2100, 1, 1, 8, 8, .u8, .ro, false, 0, [], false, .none⟩ /- WAKE_FAIL_CAUSE -/,
  ⟨0x2100, 1, 1, 9, 9, .u8, .ro, false, 0, [], false, .none⟩ /- FAILED_WAKES -/,
  ⟨0x2100, 1, 1, 10, 10, .u16, .rw, false, 0, [], false, .none⟩ /- POWER_STATUS -/,
  ⟨0x2100, 1, 1, 11, 14, .u16, .ro, false, 0, [], false, .none⟩ /- POWER_REPEATS -/,
  ⟨0x2101, 1, 1, 1, 1, .u32, .ro, false, 0, [], true, .none⟩ /- VDD_AON -/,
  ⟨0x2101, 1, 1, 2, 2, .u32, .ro, false, 0, [], true, .none⟩ /- VDD_IO -/,
  ⟨0x2101, 1, 1, 3, 3, .u32, .ro, false, 0, [], true, .none⟩ /- VDDA -/,
  ⟨0x2101, 1, 1, 4, 4, .u32, .ro, false, 0, [], true, .none⟩ /- VDD_CORE -/,
  ⟨0x2101, 1, 1, 5, 5, .u32, .ro, false, 805, [], true, .none⟩ /- VDD_CORE_TARGET -/,
  ⟨0x2101, 1, 1, 6, 6, .u8, .ro, false, 8, [], false, .none⟩ /- VID_CODE -/,
  ⟨0x2101, 1, 1, 7, 7, .i16, .ro, false, 0, [], true, .none⟩ /- LOGIC_TEMP -/,
  ⟨0x2101, 1, 1, 8, 8, .i16, .ro, false, 0, [], true, .none⟩ /- FIELD_A_TEMP -/,
  ⟨0x2101, 1, 1, 9, 9, .i16, .ro, false, 0, [], true, .none⟩ /- FIELD_B_TEMP -/,
  ⟨0x2102, 1, 1, 1, 1, .u16, .ro, false, 1023, [], false, .none⟩ /- DOMAINS_ON -/,
  ⟨0x2102, 1, 1, 2, 2, .u32, .ro, false, 0, [], false, .none⟩ /- DOMAIN_WAKES -/,
  ⟨0x2102, 1, 1, 3, 3, .u16, .ro, false, 0, [], true, .none⟩ /- DOMAIN_STALL_MAX -/,
  ⟨0x2102, 1, 1, 4, 4, .u32, .ro, true, 0, [], false, .none⟩ /- DOMAINS_NOT_READY -/,
  ⟨0x2103, 1, 1, 1, 1, .u32, .rwm, false, 0, [], true, .none⟩ /- RTC_TIME -/,
  ⟨0x2103, 1, 1, 2, 2, .u32, .rwm, false, 0, [], true, .none⟩ /- RTC_ALARM -/]

/-- Rows of the Car area, part 2. -/
def rowsCar2 : List Row := [
  ⟨0x2103, 1, 1, 3, 3, .i16, .rwm, true, 0, [(-2000, 2000)], true, .none⟩ /- RTC_TRIM -/,
  ⟨0x2104, 1, 1, 1, 1, .u8, .ro, false, 88, [], false, .none⟩ /- WAKE_ADDRESS -/,
  ⟨0x2104, 1, 1, 2, 2, .u8, .rwm, true, 0, [(0, 0), (8, 119)], false, .none⟩ /- WAKE_ADDRESS_SET -/,
  ⟨0x2104, 1, 1, 3, 3, .u32, .ro, false, 0, [], true, .none⟩ /- CICADA_WAKES -/,
  ⟨0x2104, 1, 1, 4, 4, .u32, .ro, false, 0, [], true, .none⟩ /- CICADA_REJECTED -/,
  ⟨0x2110, 1, 1, 1, 1, .u32, .ro, false, 0, [], true, .none⟩ /- FAST_TICK_COUNT -/,
  ⟨0x2110, 1, 1, 2, 2, .u8, .ro, false, 0, [], false, .none⟩ /- FAST_TICK_SOURCE -/,
  ⟨0x2110, 1, 1, 3, 3, .i16, .ro, false, 0, [], true, .none⟩ /- TICK_PHASE_ERROR -/,
  ⟨0x2110, 1, 1, 4, 4, .u16, .rw, false, 0, [(0, 65535)], true, .none⟩ /- TICK_PHASE_ERROR_MAX -/,
  ⟨0x2110, 1, 1, 5, 5, .bool, .ro, false, 0, [(0, 1)], false, .none⟩ /- TICK_ALIGNED -/,
  ⟨0x2120, 1, 1, 1, 1, .u32, .rwm, true, 0, [(0, 0), (1000, 200000)], true, .none⟩ /- DOOR_SUPPLY_BUDGET -/,
  ⟨0x2120, 1, 1, 2, 2, .u16, .rwm, true, 150, [(20, 1000)], true, .none⟩ /- START_PEAK_TIME -/,
  ⟨0x2120, 1, 1, 3, 3, .u8, .rwm, true, 10, [(0, 50)], true, .none⟩ /- START_MARGIN -/,
  ⟨0x2120, 1, 1, 4, 4, .u32, .ro, false, 0, [], true, .none⟩ /- PREDICTED_SUM -/,
  ⟨0x2120, 1, 1, 5, 5, .u32, .rw, false, 0, [(0, 4294967295)], true, .none⟩ /- PREDICTED_SUM_MAX -/,
  ⟨0x2200, 1, 1, 1, 1, .u8, .ro, false, 0, [], false, .none⟩ /- APP_ACTIVE_SLOT -/,
  ⟨0x2200, 1, 1, 2, 2, .u8, .ro, false, 0, [], false, .none⟩ /- SAFETY_ACTIVE_SLOT -/,
  ⟨0x2200, 1, 1, 3, 3, .u8, .ro, false, 0, [], false, .none⟩ /- BOOT_STATE -/,
  ⟨0x2201, 1, 1, 1, 1, .u8, .rwm, false, 1, [(1, 2)], false, .none⟩ /- FW_TARGET -/,
  ⟨0x2201, 1, 1, 2, 2, .domain, .rwm, false, 0, [], false, .none⟩ /- FW_IMAGE -/,
  ⟨0x2201, 1, 1, 3, 3, .u8, .ro, false, 0, [], false, .none⟩ /- FW_RESULT -/,
  ⟨0x2201, 1, 1, 4, 4, .u8, .rwm, false, 0, [(0, 1)], false, .none⟩ /- FW_ACTIVATE -/,
  ⟨0x2201, 1, 1, 5, 5, .u8, .rwm, false, 0, [(0, 1)], false, .none⟩ /- FW_CONFIRM -/,
  ⟨0x2202, 1, 1, 1, 4, .u32, .ro, false, 0, [], false, .none⟩ /- SLOT_REVISION -/]

/-- Rows of the Car area, part 3. -/
def rowsCar3 : List Row := [
  ⟨0x2202, 1, 1, 5, 8, .u32, .ro, false, 0, [], false, .none⟩ /- SLOT_SECURITY_VERSION -/,
  ⟨0x2202, 1, 1, 9, 12, .u8, .ro, false, 0, [], false, .none⟩ /- SLOT_STATE -/,
  ⟨0x2203, 1, 1, 1, 1, .u32, .ro, false, 0, [], false, .none⟩ /- ROLLBACK_COUNTER -/,
  ⟨0x2203, 1, 1, 2, 2, .u8, .ro, false, 0, [], false, .none⟩ /- ROLLBACK_FUSES -/,
  ⟨0x2204, 1, 1, 1, 1, .u16, .ro, false, 0, [], false, .none⟩ /- RESET_CAUSE -/,
  ⟨0x2204, 1, 1, 2, 2, .u32, .ro, true, 0, [], false, .none⟩ /- RESETS -/,
  ⟨0x2204, 1, 1, 3, 3, .u8, .ro, false, 0, [], false, .none⟩ /- BOOT_MODE -/,
  ⟨0x2204, 1, 1, 4, 4, .u32, .ro, false, 0, [], true, .none⟩ /- BOOT_TIME_DICT -/,
  ⟨0x2204, 1, 1, 5, 5, .u32, .ro, false, 0, [], true, .none⟩ /- BOOT_TIME_DOORS -/,
  ⟨0x2204, 1, 1, 6, 6, .u8, .rwm, false, 0, [(0, 1)], false, .none⟩ /- DEVICE_RESET -/,
  ⟨0x2204, 1, 1, 7, 7, .u32, .ro, true, 0, [], false, .none⟩ /- WATCHDOG_RESETS -/,
  ⟨0x2204, 1, 1, 8, 8, .u8, .ro, false, 0, [], false, .none⟩ /- NFAULT_CAUSES -/,
  ⟨0x2300, 1, 1, 1, 1, .u8, .ro, false, 1, [], false, .none⟩ /- SECURITY_STATE -/,
  ⟨0x2300, 1, 1, 2, 2, .u8, .ro, false, 0, [], false, .none⟩ /- DEBUG_LEVEL -/,
  ⟨0x2300, 1, 1, 3, 3, .u8, .rwm, false, 0, [(0, 2)], false, .none⟩ /- DEBUG_UNLOCK -/,
  ⟨0x2300, 1, 1, 4, 4, .u32, .ro, true, 0, [], false, .none⟩ /- DEBUG_UNLOCKS -/,
  ⟨0x2300, 1, 1, 5, 5, .u16, .rw, false, 0, [], false, .none⟩ /- SECURITY_STATUS -/,
  ⟨0x2300, 1, 1, 6, 7, .u16, .ro, false, 0, [], false, .none⟩ /- SECURITY_REPEATS -/,
  ⟨0x2301, 1, 1, 1, 1, .domain, .ro, false, 0, [], false, .none⟩ /- DEVICE_CERTIFICATE -/,
  ⟨0x2301, 1, 1, 2, 2, .domain, .ro, false, 0, [], false, .none⟩ /- DEVICE_PUBLIC_KEY -/,
  ⟨0x2310, 1, 8, 1, 1, .domain, .ro, true, 0, [], false, .none⟩ /- ANCHOR_KEY -/,
  ⟨0x2310, 1, 8, 2, 2, .u8, .ro, true, 0, [], false, .none⟩ /- ANCHOR_MAX_LEVEL -/,
  ⟨0x2310, 1, 8, 3, 3, .u32, .ro, true, 0, [], false, .none⟩ /- ANCHOR_GENERATION -/,
  ⟨0x2318, 1, 1, 1, 1, .domain, .wo, false, 0, [], false, .none⟩ /- ANCHOR_INSTALL -/]

/-- Rows of the Car area, part 4. -/
def rowsCar4 : List Row := [
  ⟨0x2319, 1, 1, 1, 1, .domain, .rwm, true, 0, [], false, .none⟩ /- COSIGN_KEY -/,
  ⟨0x2319, 1, 1, 2, 2, .u8, .rwm, true, 0, [(0, 1)], false, .none⟩ /- COSIGN_POLICY -/,
  ⟨0x2320, 1, 1, 1, 1, .domain, .wo, false, 0, [], false, .none⟩ /- SESSION_CREDENTIAL -/,
  ⟨0x2320, 1, 1, 2, 2, .domain, .wo, false, 0, [], false, .none⟩ /- SESSION_REQUEST -/,
  ⟨0x2320, 1, 1, 3, 3, .domain, .ro, false, 0, [], false, .none⟩ /- SESSION_CHALLENGE -/,
  ⟨0x2320, 1, 1, 4, 4, .domain, .wo, false, 0, [], false, .none⟩ /- SESSION_PROOF -/,
  ⟨0x2320, 1, 1, 5, 5, .u8, .wo, false, 0, [(1, 255)], false, .none⟩ /- SESSION_CLOSE -/,
  ⟨0x2330, 1, 1, 1, 1, .domain, .wo, false, 0, [], false, .none⟩ /- ATTEST_NONCE -/,
  ⟨0x2330, 1, 1, 2, 2, .domain, .ro, false, 0, [], false, .none⟩ /- ATTEST_REPORT -/,
  ⟨0x2340, 1, 1, 1, 1, .domain, .wo, false, 0, [], false, .none⟩ /- RMA_COMMAND -/]

/-- The Car area's rows. -/
def rowsCar : List Row := rowsCar0 ++ rowsCar1 ++ rowsCar2 ++ rowsCar3 ++ rowsCar4

/-- Rows of the Net area, part 0. -/
def rowsNet0 : List Row := [
  ⟨0x2400, 1, 1, 1, 1, .u8, .ro, false, 0, [], true, .none⟩ /- TXN_IN_FLIGHT -/,
  ⟨0x2400, 1, 1, 2, 2, .u8, .rw, false, 0, [(0, 128)], true, .none⟩ /- TXN_PEAK -/,
  ⟨0x2400, 1, 1, 3, 3, .u8, .const, false, 16, [], true, .none⟩ /- C0_RESERVED -/,
  ⟨0x2400, 1, 1, 4, 4, .u8, .rwm, true, 32, [(0, 96)], true, .none⟩ /- C1_RESERVED -/,
  ⟨0x2400, 1, 1, 5, 5, .u8, .rwm, true, 48, [(8, 104)], true, .none⟩ /- C3_CAP -/,
  ⟨0x2400, 1, 1, 6, 6, .u8, .ro, false, 32, [], false, .none⟩ /- NODE_ID -/,
  ⟨0x2400, 1, 1, 7, 7, .u8, .rwm, true, 0, [(0, 127)], false, .none⟩ /- NODE_ID_SET -/,
  ⟨0x2400, 1, 1, 8, 8, .bool, .rwm, true, 0, [(0, 1)], false, .none⟩ /- AUTO_OPERATIONAL -/,
  ⟨0x2401, 1, 1, 1, 1, .u32, .ro, false, 0, [], true, .none⟩ /- TXN_REFUSED_C0 -/,
  ⟨0x2401, 1, 1, 2, 2, .u32, .ro, false, 0, [], true, .none⟩ /- TXN_REFUSED_C1 -/,
  ⟨0x2401, 1, 1, 3, 3, .u32, .ro, false, 0, [], true, .none⟩ /- TXN_REFUSED_C2 -/,
  ⟨0x2401, 1, 1, 4, 4, .u32, .ro, false, 0, [], true, .none⟩ /- TXN_REFUSED_C3 -/,
  ⟨0x2402, 1, 1, 1, 1, .u16, .ro, false, 0, [], true, .none⟩ /- C0_LATENCY_MAX -/,
  ⟨0x2402, 1, 1, 2, 2, .u32, .ro, false, 0, [], true, .none⟩ /- C0_DEADLINE_MISSES -/,
  ⟨0x2402, 1, 1, 3, 3, .u16, .ro, false, 0, [], true, .none⟩ /- C1_LATENCY_MAX -/,
  ⟨0x2410, 1, 2, 1, 1, .u8, .rwm, true, 2, [(0, 2)], false, .none⟩ /- ENABLE -/,
  ⟨0x2410, 1, 2, 2, 2, .u32, .rwm, true, 0, [], false, .none⟩ /- IPV4_ADDRESS -/,
  ⟨0x2410, 1, 2, 3, 3, .u32, .rwm, true, 4294967040, [], false, .none⟩ /- IPV4_NETMASK -/,
  ⟨0x2410, 1, 2, 4, 4, .u32, .rwm, true, 0, [], false, .none⟩ /- IPV4_GATEWAY -/,
  ⟨0x2410, 1, 2, 5, 5, .u16, .rwm, true, 0, [(0, 4094)], false, .none⟩ /- VLAN_ID -/,
  ⟨0x2410, 1, 1, 6, 6, .u8, .rwm, true, 0, [(0, 31)], false, .none⟩ /- PHY_ADDRESS -/,
  ⟨0x2410, 1, 2, 7, 7, .u32, .rwm, true, 0, [], false, .none⟩ /- EVENT_DESTINATION -/,
  ⟨0x2410, 1, 2, 8, 15, .u32, .rwm, true, 0, [(0, 0), (3758096384, 4026531839)], false, .none⟩ /- MULTICAST_GROUP -/,
  ⟨0x2410, 1, 2, 16, 16, .bool, .ro, false, 0, [(0, 1)], false, .none⟩ /- LINK_UP -/]

/-- Rows of the Net area, part 1. -/
def rowsNet1 : List Row := [
  ⟨0x2410, 1, 2, 17, 17, .u16, .ro, false, 0, [], true, .none⟩ /- SPEED -/,
  ⟨0x2410, 1, 2, 18, 18, .u32, .ro, false, 0, [], true, .none⟩ /- RX_FRAMES -/,
  ⟨0x2410, 1, 2, 19, 19, .u32, .ro, false, 0, [], true, .none⟩ /- RX_DISCARDS -/,
  ⟨0x2410, 1, 2, 20, 20, .u32, .ro, false, 0, [], true, .none⟩ /- TX_FRAMES -/,
  ⟨0x2411, 1, 1, 6, 6, .u8, .rwm, true, 1, [(0, 31)], false, .none⟩ /- PHY_ADDRESS -/,
  ⟨0x2420, 1, 2, 1, 1, .u8, .rwm, true, 2, [(0, 2)], false, .none⟩ /- ENABLE -/,
  ⟨0x2420, 1, 2, 2, 2, .u8, .rwm, true, 255, [(0, 3), (255, 255)], false, .none⟩ /- CAN_RATE_SET -/,
  ⟨0x2420, 1, 2, 3, 3, .u16, .rwm, true, 0, [], false, .none⟩ /- BULK_RX_ID -/,
  ⟨0x2420, 1, 2, 4, 4, .u16, .rwm, true, 0, [], false, .none⟩ /- BULK_TX_ID -/,
  ⟨0x2420, 1, 2, 5, 5, .u8, .ro, false, 3, [], false, .none⟩ /- BUS_STATE -/,
  ⟨0x2420, 1, 2, 6, 6, .u32, .ro, true, 0, [], false, .none⟩ /- BUS_OFF_COUNT -/,
  ⟨0x2420, 1, 2, 7, 7, .u32, .ro, false, 0, [], true, .none⟩ /- RX_FRAMES -/,
  ⟨0x2420, 1, 2, 8, 8, .u32, .ro, false, 0, [], true, .none⟩ /- RX_DISCARDS -/,
  ⟨0x2420, 1, 2, 9, 9, .u32, .ro, false, 0, [], true, .none⟩ /- BULK_DISCARDS -/,
  ⟨0x2430, 1, 1, 1, 1, .u8, .rwm, true, 1, [(0, 3)], false, .none⟩ /- EVENT_CLASS_MAX -/,
  ⟨0x2430, 1, 1, 2, 2, .u32, .ro, false, 0, [], true, .none⟩ /- DM_FORMAT_ERRORS -/,
  ⟨0x2430, 1, 1, 3, 3, .u32, .ro, false, 0, [], true, .none⟩ /- DM_RETRIES_ANSWERED -/,
  ⟨0x2430, 1, 1, 4, 4, .u32, .ro, false, 0, [], true, .none⟩ /- SEGMENTED_WRITES_DISCARDED -/,
  ⟨0x2430, 1, 1, 5, 5, .u32, .ro, true, 0, [], true, .none⟩ /- AUTH_FAILURES -/,
  ⟨0x2430, 1, 1, 6, 6, .u8, .ro, false, 0, [], false, .none⟩ /- SESSIONS_OPEN -/,
  ⟨0x2430, 1, 1, 7, 7, .u8, .rwm, false, 0, [(0, 1)], false, .none⟩ /- COUNTERS_CLEAR -/]

/-- The Net area's rows. -/
def rowsNet : List Row := rowsNet0 ++ rowsNet1

/-- Rows of the Ec area, part 0. -/
def rowsEc0 : List Row := [
  ⟨0x2500, 1, 32, 1, 1, .u8, .rwm, true, 0, [(0, 255)], false, .none⟩ /- EC_SOURCE -/,
  ⟨0x2500, 1, 32, 2, 2, .u8, .rwm, true, 0, [(0, 4)], false, .none⟩ /- EC_MODE -/,
  ⟨0x2500, 1, 32, 3, 3, .u8, .rwm, true, 255, [], false, .none⟩ /- EC_INSTANCE -/,
  ⟨0x2500, 1, 32, 4, 4, .u16, .rwm, true, 0, [], false, .none⟩ /- EC_CODE -/,
  ⟨0x2500, 1, 32, 5, 5, .u48, .ro, true, 0, [], true, .none⟩ /- EC_VALUE -/,
  ⟨0x2500, 1, 32, 6, 6, .bool, .ro, false, 0, [(0, 1)], false, .none⟩ /- EC_VALID -/,
  ⟨0x2500, 1, 32, 7, 7, .u8, .rwm, false, 0, [(0, 1)], false, .none⟩ /- EC_RESET -/,
  ⟨0x2500, 1, 32, 8, 8, .u32, .ro, true, 0, [], true, .none⟩ /- EC_RESET_AT -/]

/-- The Ec area's rows. -/
def rowsEc : List Row := rowsEc0

/-- Rows of the Duplex area, part 0. -/
def rowsDuplex0 : List Row := [
  ⟨0x2600, 1, 1, 1, 1, .u8, .rwm, true, 0, [(0, 1)], false, .none⟩ /- DUPLEX_CONFIG -/,
  ⟨0x2600, 1, 1, 2, 2, .u8, .ro, false, 0, [], false, .none⟩ /- ROLE -/,
  ⟨0x2600, 1, 1, 3, 3, .u8, .ro, false, 0, [], false, .none⟩ /- DUPLEX_MODE -/,
  ⟨0x2600, 1, 1, 4, 4, .bool, .ro, false, 0, [(0, 1)], false, .none⟩ /- HOLDER -/,
  ⟨0x2600, 1, 1, 5, 5, .u8, .ro, false, 0, [], false, .none⟩ /- PARTNER_STATE -/,
  ⟨0x2600, 1, 1, 6, 6, .u8, .ro, false, 0, [], false, .none⟩ /- PARTNER_LOST_CAUSE -/,
  ⟨0x2600, 1, 1, 7, 7, .u8, .rwm, false, 0, [(0, 1)], false, .none⟩ /- STAG_COMMAND -/,
  ⟨0x2600, 1, 1, 8, 8, .u32, .rw, false, 0, [], false, .none⟩ /- DUPLEX_STATUS -/,
  ⟨0x2600, 1, 1, 9, 9, .u16, .ro, false, 0, [], false, .none⟩ /- SHADOW_SYNC_MASK -/,
  ⟨0x2600, 1, 1, 10, 10, .u32, .ro, true, 0, [], false, .none⟩ /- TAKEOVERS -/,
  ⟨0x2600, 1, 1, 11, 11, .u32, .ro, false, 0, [], true, .none⟩ /- LAST_TAKEOVER_GAP -/,
  ⟨0x2600, 1, 1, 12, 12, .u32, .ro, false, 0, [], false, .none⟩ /- TAKEOVER_KINDS -/,
  ⟨0x2600, 1, 1, 13, 13, .u32, .ro, false, 0, [], false, .none⟩ /- PARTNER_SERIAL -/,
  ⟨0x2600, 1, 1, 14, 14, .u32, .ro, false, 0, [], false, .none⟩ /- PARTNER_REVISION -/,
  ⟨0x2600, 1, 1, 15, 15, .u16, .rwm, true, 50, [(10, 1000)], true, .none⟩ /- MIRROR_TIMEOUT -/,
  ⟨0x2600, 1, 1, 16, 16, .u32, .ro, true, 0, [], false, .none⟩ /- CONFIG_GENERATION -/,
  ⟨0x2600, 1, 1, 17, 17, .u32, .ro, false, 0, [], false, .none⟩ /- CONFIG_DIGEST -/,
  ⟨0x2600, 1, 1, 18, 18, .u32, .ro, false, 0, [], false, .none⟩ /- PARTNER_CONFIG_DIGEST -/,
  ⟨0x2600, 1, 1, 19, 19, .u16, .ro, false, 0, [], true, .none⟩ /- SYNC_ITEMS_PENDING -/,
  ⟨0x2601, 1, 1, 1, 1, .u32, .ro, false, 0, [], true, .none⟩ /- PL_FRAMES_OK -/,
  ⟨0x2601, 1, 1, 2, 2, .u32, .ro, false, 0, [], true, .none⟩ /- PL_CRC_ERRORS -/,
  ⟨0x2601, 1, 1, 3, 3, .u32, .ro, true, 0, [], false, .none⟩ /- HEARTBEAT_LOSSES -/,
  ⟨0x2601, 1, 1, 4, 4, .u32, .ro, false, 0, [], true, .none⟩ /- SHADOW_MISMATCHES -/,
  ⟨0x2601, 1, 1, 5, 5, .u32, .ro, false, 0, [], true, .none⟩ /- MIRROR_RETRIES -/]

/-- Rows of the Duplex area, part 1. -/
def rowsDuplex1 : List Row := [
  ⟨0x2601, 1, 1, 6, 6, .u32, .ro, false, 0, [], true, .none⟩ /- MIRROR_SUPERSEDED -/,
  ⟨0x2601, 1, 1, 7, 7, .u32, .ro, false, 0, [], true, .none⟩ /- MIRROR_DISCARDS -/,
  ⟨0x2601, 1, 1, 8, 8, .u32, .ro, true, 0, [], false, .none⟩ /- STAG_CLAIMS -/,
  ⟨0x2601, 1, 1, 9, 9, .u32, .ro, true, 0, [], false, .none⟩ /- STAG_COLLISIONS -/,
  ⟨0x2601, 1, 1, 10, 10, .u8, .rwm, false, 0, [(0, 1)], false, .none⟩ /- COUNTERS_CLEAR -/,
  ⟨0x2602, 1, 1, 1, 4, .u16, .ro, false, 0, [], false, .none⟩ /- DUPLEX_REPEATS -/]

/-- The Duplex area's rows. -/
def rowsDuplex : List Row := rowsDuplex0 ++ rowsDuplex1

/-- Rows of the Door area, part 0. -/
def rowsDoor0 : List Row := [
  ⟨0x3000, 64, 16, 1, 1, .u8, .ro, false, 0, [], false, .door⟩ /- DOORWAY_TYPE -/,
  ⟨0x3000, 64, 16, 2, 2, .u8, .ro, false, 0, [], false, .door⟩ /- DOORWAY_SIDE -/,
  ⟨0x3000, 64, 16, 3, 3, .u8, .rwm, true, 8, [(0, 15)], false, .door⟩ /- PRIORITY -/,
  ⟨0x3000, 64, 16, 4, 4, .u8, .rwm, true, 0, [(0, 1)], false, .door⟩ /- STEP_SEQUENCE -/,
  ⟨0x3000, 64, 16, 5, 5, .u8, .rwm, true, 0, [(0, 2)], false, .door⟩ /- REQUEST_MODE -/,
  ⟨0x3000, 64, 16, 6, 6, .u8, .rwm, true, 0, [(0, 2)], false, .door⟩ /- LOCK_TYPE -/,
  ⟨0x3000, 64, 16, 7, 7, .u8, .rwm, true, 255, [(0, 7), (16, 19), (255, 255)], false, .door⟩ /- LOCK_OUTPUT -/,
  ⟨0x3000, 64, 16, 8, 8, .u8, .rwm, true, 255, [(0, 7), (64, 111), (255, 255)], false, .door⟩ /- REQUEST_INPUT_INSIDE -/,
  ⟨0x3000, 64, 16, 9, 9, .u8, .rwm, true, 255, [(0, 7), (64, 111), (255, 255)], false, .door⟩ /- REQUEST_INPUT_OUTSIDE -/,
  ⟨0x3000, 64, 16, 10, 10, .bool, .rwm, true, 1, [(0, 1)], false, .door⟩ /- CLOSE_ON_RELEASE_LOSS -/,
  ⟨0x3001, 64, 16, 1, 1, .u8, .rw, false, 0, [(0, 6)], false, .door⟩ /- COMMAND -/,
  ⟨0x3001, 64, 16, 2, 2, .u8, .ro, false, 0, [], false, .door⟩ /- STATE -/,
  ⟨0x3001, 64, 16, 3, 3, .u32, .rw, false, 0, [], false, .door⟩ /- STATUS -/,
  ⟨0x3001, 64, 16, 4, 4, .u16, .ro, false, 0, [], false, .door⟩ /- FAULT_CAUSE -/,
  ⟨0x3001, 64, 16, 5, 5, .u32, .ro, false, 0, [], true, .door⟩ /- COMMANDS_REFUSED -/,
  ⟨0x3002, 64, 16, 1, 1, .u16, .rwm, true, 2000, [(0, 10000)], true, .door⟩ /- WARNING_TIME -/,
  ⟨0x3002, 64, 16, 2, 2, .u16, .rwm, true, 300, [(50, 2000)], true, .door⟩ /- UNLOCK_TIMEOUT -/,
  ⟨0x3002, 64, 16, 3, 3, .u16, .rwm, true, 500, [(50, 2000)], true, .door⟩ /- LOCK_TIMEOUT -/,
  ⟨0x3002, 64, 16, 4, 4, .u16, .rwm, true, 2000, [(200, 10000)], true, .door⟩ /- STEP_TIMEOUT -/,
  ⟨0x3002, 64, 16, 5, 5, .u32, .rwm, true, 0, [(0, 0), (1000, 120000)], true, .door⟩ /- AUTO_CLOSE_TIME -/,
  ⟨0x3002, 64, 16, 6, 6, .i32, .rwm, true, 100000, [(0, 0), (10000, 1000000)], true, .door⟩ /- REOPEN_WINDOW -/,
  ⟨0x3002, 64, 16, 7, 7, .u16, .rwm, true, 0, [(0, 10000)], true, .door⟩ /- PRESELECT_TIME -/,
  ⟨0x3002, 64, 16, 8, 8, .i32, .rwm, true, 8000, [(1000, 50000)], true, .door⟩ /- UNLOCK_STROKE -/,
  ⟨0x3003, 64, 16, 1, 1, .u32, .ro, false, 0, [], true, .door⟩ /- START_PEAK_OPEN -/]

/-- Rows of the Door area, part 1. -/
def rowsDoor1 : List Row := [
  ⟨0x3003, 64, 16, 2, 2, .u32, .ro, false, 0, [], true, .door⟩ /- START_PEAK_CLOSE -/,
  ⟨0x3003, 64, 16, 3, 3, .u32, .rwm, true, 10000, [(500, 50000)], true, .door⟩ /- START_PEAK_DEFAULT -/,
  ⟨0x3003, 64, 16, 4, 4, .u16, .ro, false, 0, [], true, .door⟩ /- START_WAIT_LAST -/,
  ⟨0x3003, 64, 16, 5, 5, .u32, .ro, false, 0, [], true, .door⟩ /- STARTS_FORCED -/,
  ⟨0x3003, 64, 16, 6, 6, .u32, .ro, false, 0, [], true, .door⟩ /- RUN_CURRENT -/,
  ⟨0x3004, 64, 16, 1, 1, .u8, .rwm, false, 0, [(0, 2)], false, .door⟩ /- LEARN_COMMAND -/,
  ⟨0x3004, 64, 16, 2, 2, .u8, .ro, false, 0, [], false, .door⟩ /- LEARN_STATE -/,
  ⟨0x3004, 64, 16, 3, 3, .u32, .rwm, true, 50, [(10, 100)], true, .door⟩ /- LEARN_SPEED -/,
  ⟨0x3004, 64, 16, 4, 4, .i32, .rwm, true, 1000, [(200, 1500)], true, .door⟩ /- LEARN_STOP_FORCE -/,
  ⟨0x3005, 64, 16, 1, 1, .u32, .ro, false, 0, [], true, .door⟩ /- PATH_S -/,
  ⟨0x3005, 64, 16, 2, 2, .u32, .ro, false, 0, [], true, .door⟩ /- MOVE_TIME_LAST -/,
  ⟨0x3005, 64, 16, 3, 3, .u32, .ro, false, 0, [], true, .door⟩ /- STOP_RAMPS_SHORTENED -/,
  ⟨0x3006, 64, 16, 1, 1, .u8, .rwm, true, 0, [(0, 2)], false, .door⟩ /- TABLE_FORM -/,
  ⟨0x3006, 64, 16, 2, 2, .domain, .rwm, true, 0, [], false, .door⟩ /- TABLE_CUSTOM -/,
  ⟨0x3006, 64, 16, 3, 3, .u32, .ro, false, 0, [], false, .door⟩ /- TABLE_CRC -/,
  ⟨0x3006, 64, 16, 4, 4, .u8, .ro, false, 0, [], false, .door⟩ /- TABLE_STATE -/,
  ⟨0x3007, 64, 16, 1, 1, .u8, .rwm, true, 0, [(0, 1)], false, .door⟩ /- REOPEN_MODE -/,
  ⟨0x3007, 64, 16, 2, 2, .i32, .rwm, true, 150000, [(10000, 1500000)], true, .door⟩ /- REOPEN_DISTANCE -/,
  ⟨0x3007, 64, 16, 3, 3, .u16, .rwm, true, 1000, [(200, 10000)], true, .door⟩ /- DWELL_TIME -/,
  ⟨0x3007, 64, 16, 4, 4, .u8, .rwm, true, 3, [(1, 10)], false, .door⟩ /- RETRIES -/,
  ⟨0x3007, 64, 16, 5, 5, .u8, .rwm, true, 0, [(0, 1)], false, .door⟩ /- FINAL_CLOSE_MODE -/,
  ⟨0x3007, 64, 16, 6, 6, .u16, .rwm, true, 500, [(100, 10000)], true, .door⟩ /- OPEN_DWELL -/,
  ⟨0x3007, 64, 16, 7, 7, .u8, .rwm, true, 2, [(1, 10)], false, .door⟩ /- OPEN_RETRIES -/,
  ⟨0x3007, 64, 16, 8, 8, .i32, .rwm, true, 3000, [(0, 4000)], true, .door⟩ /- RELIEF_DISTANCE -/]

/-- Rows of the Door area, part 2. -/
def rowsDoor2 : List Row := [
  ⟨0x3007, 64, 16, 9, 9, .u16, .rwm, true, 800, [(200, 3999)], true, .door⟩ /- FINAL_FORCE -/,
  ⟨0x3007, 64, 16, 10, 10, .i32, .rwm, true, 50000, [(0, 200000)], true, .door⟩ /- DEPTH_MUTE_GAP -/,
  ⟨0x3007, 64, 16, 11, 11, .u16, .rwm, true, 10000, [(1000, 60000)], true, .door⟩ /- DEPTH_HOLD_MAX -/,
  ⟨0x3008, 64, 16, 1, 1, .u8, .ro, false, 0, [], false, .door⟩ /- RETRY_COUNT -/,
  ⟨0x3008, 64, 16, 2, 2, .u8, .ro, false, 0, [], false, .door⟩ /- OBS_CAUSES -/,
  ⟨0x3008, 64, 16, 3, 3, .u8, .ro, false, 0, [], false, .door⟩ /- OBS_AXIS -/,
  ⟨0x3008, 64, 16, 4, 4, .i32, .ro, false, 0, [], true, .door⟩ /- OBS_POSITION -/,
  ⟨0x3008, 64, 16, 5, 5, .i32, .ro, false, 0, [], true, .door⟩ /- OBS_FORCE_PEAK -/,
  ⟨0x3008, 64, 16, 6, 6, .u32, .ro, true, 0, [], false, .door⟩ /- OBSTRUCTIONS -/,
  ⟨0x3008, 64, 16, 7, 7, .u32, .ro, true, 0, [], false, .door⟩ /- DEPTH_HOLDS -/,
  ⟨0x3008, 64, 16, 8, 8, .u8, .ro, false, 0, [], false, .door⟩ /- OBS_BIN -/,
  ⟨0x3008, 64, 16, 9, 9, .u16, .rw, false, 0, [], false, .door⟩ /- MANTIS_DOOR_STATUS -/,
  ⟨0x3008, 64, 16, 10, 10, .u16, .ro, false, 0, [], false, .door⟩ /- OPEN_BLOCKED_REPEATS -/,
  ⟨0x3009, 64, 16, 1, 1, .u8, .ro, false, 0, [], false, .door⟩ /- CONTACTS_A -/,
  ⟨0x3009, 64, 16, 2, 2, .u8, .ro, false, 0, [], false, .door⟩ /- CONTACTS_B -/,
  ⟨0x3009, 64, 16, 3, 3, .u16, .rw, false, 0, [], false, .door⟩ /- CONTACT_STATUS -/,
  ⟨0x3009, 64, 16, 4, 4, .u16, .rwm, true, 200, [(20, 2000)], true, .door⟩ /- LOCK_PAIR_TIME -/,
  ⟨0x3009, 64, 16, 5, 5, .u32, .ro, true, 0, [], false, .door⟩ /- DISCREPANCIES -/,
  ⟨0x3009, 64, 16, 6, 6, .u16, .ro, false, 0, [], false, .door⟩ /- DISCREPANCY_SEEN_REPEATS -/,
  ⟨0x3009, 64, 16, 7, 7, .u16, .ro, false, 0, [], false, .door⟩ /- LOCK_PAIR_DISAGREE_REPEATS -/]

/-- The Door area's rows. -/
def rowsDoor : List Row := rowsDoor0 ++ rowsDoor1 ++ rowsDoor2

/-- Rows of the Axis area, part 0. -/
def rowsAxis0 : List Row := [
  ⟨0x3400, 16, 48, 1, 1, .u32, .rw, true, 300, [(1, 2000)], true, .axis⟩ /- MAX_SPEED -/,
  ⟨0x3400, 16, 48, 2, 2, .u32, .rw, true, 500, [(10, 10000)], true, .axis⟩ /- ACCEL -/,
  ⟨0x3400, 16, 48, 3, 3, .u32, .rw, true, 500, [(10, 10000)], true, .axis⟩ /- DECEL -/,
  ⟨0x3400, 16, 48, 4, 4, .u32, .rwm, true, 0, [(0, 0), (100, 1000000)], true, .axis⟩ /- JERK -/,
  ⟨0x3400, 16, 48, 5, 5, .u32, .rwm, true, 1000, [(10, 20000)], true, .axis⟩ /- STOP_DECEL -/,
  ⟨0x3400, 16, 48, 6, 6, .u32, .rwm, true, 50, [(1, 200)], true, .axis⟩ /- CREEP_SPEED -/,
  ⟨0x3401, 16, 48, 1, 1, .i32, .ro, false, 0, [], true, .axis⟩ /- POSITION -/,
  ⟨0x3401, 16, 48, 2, 2, .i32, .ro, false, 0, [], true, .axis⟩ /- POSITION_SETPOINT -/,
  ⟨0x3401, 16, 48, 3, 3, .i32, .ro, false, 0, [], true, .axis⟩ /- SPEED -/,
  ⟨0x3401, 16, 48, 4, 4, .i32, .rwm, true, 0, [(0, 0), (20000, 1500000)], true, .axis⟩ /- STROKE -/,
  ⟨0x3401, 16, 48, 5, 5, .i32, .rwm, true, 3000, [(500, 20000)], true, .axis⟩ /- CLOSED_WINDOW -/,
  ⟨0x3401, 16, 48, 6, 6, .i32, .rwm, true, 2000, [(100, 10000)], true, .axis⟩ /- REFERENCE_TOLERANCE -/,
  ⟨0x3401, 16, 48, 7, 7, .i32, .ro, false, 0, [], true, .axis⟩ /- REFERENCE_SHIFT -/,
  ⟨0x3401, 16, 48, 8, 8, .i32, .rwm, true, 10000, [(0, 50000)], true, .axis⟩ /- OPEN_BACKOFF -/,
  ⟨0x3401, 16, 48, 9, 9, .i32, .ro, true, 0, [], true, .axis⟩ /- CLOSED_SWITCH_POS -/,
  ⟨0x3401, 16, 48, 10, 10, .u8, .rwm, true, 255, [(0, 7), (64, 111), (255, 255)], false, .axis⟩ /- LIMIT_INPUT_OPEN -/,
  ⟨0x3401, 16, 48, 11, 11, .u8, .rwm, true, 255, [(0, 7), (64, 111), (255, 255)], false, .axis⟩ /- LIMIT_INPUT_CLOSE -/,
  ⟨0x3401, 16, 48, 12, 12, .u8, .rwm, true, 0, [(0, 1)], false, .axis⟩ /- LIMIT_STOP_MODE -/,
  ⟨0x3402, 16, 48, 1, 1, .i32, .rwm, true, 0, [(0, 1500000)], true, .axis⟩ /- CLOSE_CAP_LO -/,
  ⟨0x3402, 16, 48, 2, 2, .i32, .rwm, true, 0, [(0, 1500000)], true, .axis⟩ /- CLOSE_CAP_HI -/,
  ⟨0x3402, 16, 48, 3, 3, .u32, .rwm, true, 0, [(0, 2000)], true, .axis⟩ /- CLOSE_CAP_SPEED -/,
  ⟨0x3402, 16, 48, 4, 4, .i32, .rwm, true, 0, [(0, 1500000)], true, .axis⟩ /- CLOSE_CAP_LO -/,
  ⟨0x3402, 16, 48, 5, 5, .i32, .rwm, true, 0, [(0, 1500000)], true, .axis⟩ /- CLOSE_CAP_HI -/,
  ⟨0x3402, 16, 48, 6, 6, .u32, .rwm, true, 0, [(0, 2000)], true, .axis⟩ /- CLOSE_CAP_SPEED -/]

/-- Rows of the Axis area, part 1. -/
def rowsAxis1 : List Row := [
  ⟨0x3402, 16, 48, 7, 7, .i32, .rwm, true, 0, [(0, 1500000)], true, .axis⟩ /- CLOSE_CAP_LO -/,
  ⟨0x3402, 16, 48, 8, 8, .i32, .rwm, true, 0, [(0, 1500000)], true, .axis⟩ /- CLOSE_CAP_HI -/,
  ⟨0x3402, 16, 48, 9, 9, .u32, .rwm, true, 0, [(0, 2000)], true, .axis⟩ /- CLOSE_CAP_SPEED -/,
  ⟨0x3402, 16, 48, 10, 10, .i32, .rwm, true, 0, [(0, 1500000)], true, .axis⟩ /- CLOSE_CAP_LO -/,
  ⟨0x3402, 16, 48, 11, 11, .i32, .rwm, true, 0, [(0, 1500000)], true, .axis⟩ /- CLOSE_CAP_HI -/,
  ⟨0x3402, 16, 48, 12, 12, .u32, .rwm, true, 0, [(0, 2000)], true, .axis⟩ /- CLOSE_CAP_SPEED -/,
  ⟨0x3403, 16, 48, 1, 1, .i32, .rwm, true, 0, [(0, 1500000)], true, .axis⟩ /- OPEN_CAP_LO -/,
  ⟨0x3403, 16, 48, 2, 2, .i32, .rwm, true, 0, [(0, 1500000)], true, .axis⟩ /- OPEN_CAP_HI -/,
  ⟨0x3403, 16, 48, 3, 3, .u32, .rwm, true, 0, [(0, 2000)], true, .axis⟩ /- OPEN_CAP_SPEED -/,
  ⟨0x3403, 16, 48, 4, 4, .i32, .rwm, true, 0, [(0, 1500000)], true, .axis⟩ /- OPEN_CAP_LO -/,
  ⟨0x3403, 16, 48, 5, 5, .i32, .rwm, true, 0, [(0, 1500000)], true, .axis⟩ /- OPEN_CAP_HI -/,
  ⟨0x3403, 16, 48, 6, 6, .u32, .rwm, true, 0, [(0, 2000)], true, .axis⟩ /- OPEN_CAP_SPEED -/,
  ⟨0x3403, 16, 48, 7, 7, .i32, .rwm, true, 0, [(0, 1500000)], true, .axis⟩ /- OPEN_CAP_LO -/,
  ⟨0x3403, 16, 48, 8, 8, .i32, .rwm, true, 0, [(0, 1500000)], true, .axis⟩ /- OPEN_CAP_HI -/,
  ⟨0x3403, 16, 48, 9, 9, .u32, .rwm, true, 0, [(0, 2000)], true, .axis⟩ /- OPEN_CAP_SPEED -/,
  ⟨0x3403, 16, 48, 10, 10, .i32, .rwm, true, 0, [(0, 1500000)], true, .axis⟩ /- OPEN_CAP_LO -/,
  ⟨0x3403, 16, 48, 11, 11, .i32, .rwm, true, 0, [(0, 1500000)], true, .axis⟩ /- OPEN_CAP_HI -/,
  ⟨0x3403, 16, 48, 12, 12, .u32, .rwm, true, 0, [(0, 2000)], true, .axis⟩ /- OPEN_CAP_SPEED -/,
  ⟨0x3404, 16, 48, 1, 1, .u32, .rwm, true, 500, [(10, 60000)], true, .axis⟩ /- STANDSTILL_DELAY -/,
  ⟨0x3404, 16, 48, 2, 2, .u8, .rwm, true, 30, [(0, 100)], true, .axis⟩ /- HOLD_LEVEL -/,
  ⟨0x3404, 16, 48, 3, 3, .bool, .rwm, true, 0, [(0, 1)], false, .axis⟩ /- HOLD_ZERO_LOCKED -/,
  ⟨0x3404, 16, 48, 4, 4, .u32, .rwm, true, 5000, [(100, 50000)], true, .axis⟩ /- RUN_CURRENT -/,
  ⟨0x3405, 16, 48, 1, 1, .u8, .rwm, true, 0, [(0, 2)], false, .axis⟩ /- AXIS_MODE -/,
  ⟨0x3405, 16, 48, 2, 2, .u8, .rwm, true, 0, [(0, 3)], false, .axis⟩ /- STEP_PAIR -/]

/-- Rows of the Axis area, part 2. -/
def rowsAxis2 : List Row := [
  ⟨0x3405, 16, 48, 3, 3, .u16, .rwm, true, 1, [(1, 256)], true, .axis⟩ /- STEP_SCALE -/,
  ⟨0x3405, 16, 48, 4, 4, .i16, .rw, false, 0, [(-32767, 32767)], true, .axis⟩ /- JOG_STEPS -/,
  ⟨0x3405, 16, 48, 5, 5, .u16, .rwm, true, 100, [(1, 2500)], true, .axis⟩ /- JOG_RATE -/,
  ⟨0x3405, 16, 48, 6, 6, .u32, .ro, false, 10000, [], true, .axis⟩ /- ADDRESS_PITCH -/,
  ⟨0x3405, 16, 48, 7, 7, .u32, .ro, false, 0, [], true, .axis⟩ /- STEP_INTERVAL_LAST -/,
  ⟨0x3405, 16, 48, 8, 8, .u32, .ro, false, 0, [], true, .axis⟩ /- STEPS_DISCARDED -/,
  ⟨0x3406, 16, 48, 1, 1, .u32, .rw, false, 0, [], false, .axis⟩ /- AXIS_STATUS -/,
  ⟨0x3406, 16, 48, 2, 2, .u16, .ro, false, 0, [], false, .axis⟩ /- ACC_DEFERRED_REPEATS -/,
  ⟨0x3406, 16, 48, 3, 3, .u16, .ro, false, 0, [], false, .axis⟩ /- LIMIT_STOP_REPEATS -/,
  ⟨0x3406, 16, 48, 4, 4, .u16, .ro, false, 0, [], false, .axis⟩ /- REFERENCE_JUMP_REPEATS -/,
  ⟨0x3406, 16, 48, 5, 5, .u16, .ro, false, 0, [], false, .axis⟩ /- STEP_OVERRUN_REPEATS -/,
  ⟨0x3407, 16, 48, 1, 1, .u8, .rwm, true, 0, [(0, 1)], false, .axis⟩ /- MOTOR_TYPE -/,
  ⟨0x3407, 16, 48, 2, 2, .u8, .rwm, true, 4, [(1, 100)], false, .axis⟩ /- POLE_PAIRS -/,
  ⟨0x3407, 16, 48, 3, 3, .u32, .rwm, true, 61440000, [(1000000, 1000000000)], true, .axis⟩ /- TRAVEL_PER_REV -/,
  ⟨0x3407, 16, 48, 4, 4, .u32, .rwm, true, 100, [(1, 10000)], true, .axis⟩ /- MOTOR_KT -/,
  ⟨0x3407, 16, 48, 5, 5, .u32, .rwm, true, 1000, [(10, 100000)], true, .axis⟩ /- RES_20C -/,
  ⟨0x3407, 16, 48, 6, 6, .u32, .rwm, true, 1000, [(10, 1000000)], true, .axis⟩ /- L_PHASE -/,
  ⟨0x3408, 16, 48, 1, 1, .u16, .rwm, true, 1000, [(100, 3000)], true, .axis⟩ /- CURRENT_BANDWIDTH -/,
  ⟨0x3408, 16, 48, 2, 2, .u32, .ro, false, 6283, [], true, .axis⟩ /- KP_I -/,
  ⟨0x3408, 16, 48, 3, 3, .u32, .ro, false, 6283, [], true, .axis⟩ /- KI_I -/,
  ⟨0x3408, 16, 48, 4, 4, .bool, .rwm, true, 1, [(0, 1)], false, .axis⟩ /- DECOUPLING -/,
  ⟨0x3408, 16, 48, 5, 5, .u32, .rwm, true, 250, [(0, 0), (50, 2000)], true, .axis⟩ /- RES_TEST_CURRENT -/,
  ⟨0x3408, 16, 48, 6, 6, .u32, .ro, false, 1000, [], true, .axis⟩ /- RES_EST -/,
  ⟨0x3408, 16, 48, 7, 7, .i16, .ro, false, 200, [], true, .axis⟩ /- WINDING_TEMP -/]

/-- Rows of the Axis area, part 3. -/
def rowsAxis3 : List Row := [
  ⟨0x3408, 16, 48, 8, 8, .u32, .ro, false, 0, [], true, .axis⟩ /- V_FULLSCALE -/,
  ⟨0x3408, 16, 48, 9, 9, .u32, .ro, false, 0, [], true, .axis⟩ /- I_FULLSCALE -/,
  ⟨0x3408, 16, 48, 10, 10, .u32, .rwm, true, 10000, [(100, 200000)], true, .axis⟩ /- OVERCURRENT_LIMIT -/,
  ⟨0x3409, 16, 48, 1, 1, .u16, .rwm, true, 300, [(1, 10000)], true, .axis⟩ /- KP_POS -/,
  ⟨0x3409, 16, 48, 2, 2, .u32, .rwm, true, 20, [(1, 10000)], true, .axis⟩ /- KP_SPEED -/,
  ⟨0x3409, 16, 48, 3, 3, .u16, .rwm, true, 20, [(1, 1000)], true, .axis⟩ /- TI_SPEED -/,
  ⟨0x3409, 16, 48, 4, 4, .bool, .rwm, true, 1, [(0, 1)], false, .axis⟩ /- SPEED_FF -/,
  ⟨0x3409, 16, 48, 5, 5, .u32, .rwm, true, 0, [(0, 500000)], true, .axis⟩ /- MOVING_MASS -/,
  ⟨0x3409, 16, 48, 6, 6, .i32, .rwm, true, 20000, [(1000, 200000)], true, .axis⟩ /- FOLLOWING_ERROR_LIMIT -/,
  ⟨0x3409, 16, 48, 7, 7, .i32, .ro, false, 0, [], true, .axis⟩ /- FOLLOWING_ERROR -/,
  ⟨0x3409, 16, 48, 8, 8, .i32, .ro, false, 0, [], true, .axis⟩ /- IQ_DEMAND -/,
  ⟨0x3409, 16, 48, 9, 9, .i32, .ro, false, 0, [], true, .axis⟩ /- IQ -/,
  ⟨0x340A, 16, 48, 1, 1, .u8, .rwm, true, 1, [(1, 2)], false, .axis⟩ /- ENCODER_TYPE -/,
  ⟨0x340A, 16, 48, 2, 2, .u32, .rwm, true, 4096, [(64, 16777216)], true, .axis⟩ /- ENCODER_CPR -/,
  ⟨0x340A, 16, 48, 3, 3, .bool, .rwm, true, 0, [(0, 1)], false, .axis⟩ /- ENCODER_INVERT -/,
  ⟨0x340A, 16, 48, 4, 4, .u16, .rwm, true, 0, [(0, 1535)], true, .axis⟩ /- COMMUTATION_OFFSET -/,
  ⟨0x340A, 16, 48, 5, 5, .u8, .ro, false, 0, [], false, .axis⟩ /- ANGLE_STATE -/,
  ⟨0x340A, 16, 48, 6, 6, .u32, .ro, false, 0, [], true, .axis⟩ /- ENCODER_ERRORS -/,
  ⟨0x340A, 16, 48, 8, 8, .u8, .rwm, false, 0, [(0, 2)], false, .axis⟩ /- ANGLE_COMMAND -/,
  ⟨0x340B, 16, 48, 1, 1, .u32, .rw, false, 0, [], false, .axis⟩ /- LOOP_STATUS -/,
  ⟨0x340B, 16, 48, 2, 2, .u8, .ro, false, 0, [], false, .axis⟩ /- LOOP_FAULT_CAUSE -/,
  ⟨0x340B, 16, 48, 3, 3, .u16, .rwm, true, 200, [(0, 0), (20, 5000)], true, .axis⟩ /- STALL_TIME -/,
  ⟨0x340B, 16, 48, 4, 4, .u16, .rwm, true, 200, [(0, 0), (20, 5000)], true, .axis⟩ /- SATURATION_TIME -/,
  ⟨0x340B, 16, 48, 5, 5, .u32, .ro, false, 0, [], true, .axis⟩ /- MISSED_SAMPLES -/]

/-- Rows of the Axis area, part 4. -/
def rowsAxis4 : List Row := [
  ⟨0x340B, 16, 48, 7, 7, .u8, .rwm, true, 0, [(0, 1)], false, .axis⟩ /- FAULT_REACTION -/,
  ⟨0x340B, 16, 48, 8, 8, .u16, .ro, false, 0, [], false, .axis⟩ /- SATURATED_REPEATS -/,
  ⟨0x340B, 16, 48, 9, 9, .u16, .ro, false, 0, [], false, .axis⟩ /- RES_OUT_OF_RANGE_REPEATS -/,
  ⟨0x340B, 16, 48, 10, 10, .u16, .ro, false, 0, [], false, .axis⟩ /- RUN_CURRENT_CLAMPED_REPEATS -/,
  ⟨0x340B, 16, 48, 11, 11, .u16, .ro, false, 0, [], false, .axis⟩ /- SAMPLE_MISSED_REPEATS -/,
  ⟨0x340C, 16, 48, 1, 1, .bool, .rwm, true, 1, [(0, 1)], false, .axis⟩ /- ENV_ENABLE -/,
  ⟨0x340C, 16, 48, 2, 2, .u8, .rwm, true, 40, [(20, 80)], true, .axis⟩ /- ENV_K_CLOSE -/,
  ⟨0x340C, 16, 48, 3, 3, .u16, .rwm, true, 300, [(200, 2000)], true, .axis⟩ /- ENV_MARGIN_CLOSE -/,
  ⟨0x340C, 16, 48, 4, 4, .u8, .rwm, true, 60, [(20, 80)], true, .axis⟩ /- ENV_K_OPEN -/,
  ⟨0x340C, 16, 48, 5, 5, .u16, .rwm, true, 500, [(200, 2000)], true, .axis⟩ /- ENV_MARGIN_OPEN -/,
  ⟨0x340C, 16, 48, 6, 6, .u16, .rwm, true, 20, [(5, 500)], true, .axis⟩ /- SPREAD_MIN -/,
  ⟨0x340C, 16, 48, 7, 7, .u16, .rwm, true, 0, [(0, 2000)], true, .axis⟩ /- FRICTION_STATIC -/,
  ⟨0x340C, 16, 48, 8, 8, .u16, .rwm, true, 0, [(0, 10000)], true, .axis⟩ /- FRICTION_VISCOUS -/,
  ⟨0x340D, 16, 48, 1, 1, .i32, .ro, false, 0, [], true, .axis⟩ /- LEAF_FORCE -/,
  ⟨0x340D, 16, 48, 2, 2, .u32, .ro, false, 0, [], true, .axis⟩ /- LEAF_ENERGY -/,
  ⟨0x340D, 16, 48, 3, 3, .u8, .ro, true, 0, [], false, .axis⟩ /- ENV_STATE_CLOSE -/,
  ⟨0x340D, 16, 48, 4, 4, .u8, .ro, true, 0, [], false, .axis⟩ /- ENV_STATE_OPEN -/,
  ⟨0x340D, 16, 48, 5, 5, .u16, .ro, true, 0, [], true, .axis⟩ /- ENV_CYCLES_CLOSE -/,
  ⟨0x340D, 16, 48, 6, 6, .u16, .ro, true, 0, [], true, .axis⟩ /- ENV_CYCLES_OPEN -/,
  ⟨0x340D, 16, 48, 7, 7, .u32, .ro, true, 0, [], true, .axis⟩ /- BINS_REJECTED -/,
  ⟨0x340D, 16, 48, 8, 8, .u32, .ro, true, 0, [], true, .axis⟩ /- CYCLES_REJECTED -/,
  ⟨0x340D, 16, 48, 9, 9, .i32, .ro, false, 0, [], true, .axis⟩ /- ENV_THRESHOLD -/,
  ⟨0x340D, 16, 48, 10, 10, .i32, .ro, false, 0, [], true, .axis⟩ /- FORCE_PEAK_LAST -/,
  ⟨0x340D, 16, 48, 11, 11, .i32, .ro, true, 0, [], true, .axis⟩ /- ENV_OFFSET -/]

/-- Rows of the Axis area, part 5. -/
def rowsAxis5 : List Row := [
  ⟨0x340D, 16, 48, 12, 12, .u8, .ro, false, 0, [], true, .axis⟩ /- LEARN_HOLDOFF_LEFT_CLOSE -/,
  ⟨0x340D, 16, 48, 13, 13, .u8, .ro, false, 0, [], true, .axis⟩ /- LEARN_HOLDOFF_LEFT_OPEN -/]

/-- The Axis area's rows. -/
def rowsAxis : List Row := rowsAxis0 ++ rowsAxis1 ++ rowsAxis2 ++ rowsAxis3 ++ rowsAxis4 ++ rowsAxis5

/-- Rows of the Mantis area, part 0. -/
def rowsMantis0 : List Row := [
  ⟨0x3800, 1, 1, 1, 1, .u16, .ro, false, 0, [], false, .none⟩ /- MANTIS_STATUS -/,
  ⟨0x3800, 1, 1, 2, 2, .bool, .rwm, true, 0, [(0, 1)], false, .none⟩ /- LEARN_FREEZE -/,
  ⟨0x3800, 1, 1, 3, 3, .u8, .rwm, true, 16, [(8, 255)], true, .none⟩ /- ENV_MIN_CYCLES -/,
  ⟨0x3800, 1, 1, 4, 4, .u16, .rwm, true, 100, [(10, 1000)], true, .none⟩ /- LEARN_FLOOR -/,
  ⟨0x3800, 1, 1, 5, 5, .u8, .rwm, true, 1, [(0, 10)], true, .none⟩ /- LEARN_HOLDOFF -/,
  ⟨0x3800, 1, 1, 6, 6, .u8, .rwm, true, 16, [(1, 255)], true, .none⟩ /- BIN_REJECT_LIMIT -/,
  ⟨0x3800, 1, 1, 16, 16, .u16, .ro, false, 0, [], true, .none⟩ /- DEPTH_WAIT_MAX -/,
  ⟨0x3800, 1, 1, 17, 17, .u32, .ro, false, 0, [], true, .none⟩ /- DEPTH_FRAMES_DROPPED -/,
  ⟨0x3820, 1, 32, 1, 1, .u8, .rwm, false, 0, [(0, 1)], false, .sensor⟩ /- BG_COMMAND -/,
  ⟨0x3820, 1, 32, 2, 2, .u8, .ro, true, 0, [], false, .sensor⟩ /- BG_STATE -/,
  ⟨0x3820, 1, 32, 3, 3, .u16, .ro, false, 0, [], true, .sensor⟩ /- OCCUPIED_PIXELS -/,
  ⟨0x3820, 1, 32, 4, 4, .u16, .ro, false, 0, [], true, .sensor⟩ /- INVALID_PIXELS -/,
  ⟨0x3820, 1, 32, 5, 5, .u8, .ro, false, 0, [], false, .sensor⟩ /- SENSOR_STATUS -/,
  ⟨0x3820, 1, 32, 6, 6, .u32, .ro, false, 0, [], true, .sensor⟩ /- FRAMES_PROCESSED -/,
  ⟨0x3820, 1, 32, 7, 7, .u16, .ro, false, 0, [], true, .sensor⟩ /- BG_VALID_PIXELS -/,
  ⟨0x3900, 1, 1, 1, 1, .u16, .rw, false, 0, [], false, .none⟩ /- ENV_SELECT -/,
  ⟨0x3900, 1, 1, 2, 2, .domain, .rwm, false, 0, [], true, .none⟩ /- ENV_DATA -/,
  ⟨0x3900, 1, 1, 3, 3, .u8, .rwm, false, 0, [(0, 2)], false, .none⟩ /- ENV_COMMAND -/]

/-- The Mantis area's rows. -/
def rowsMantis : List Row := rowsMantis0

/-- Rows of the Link area, part 0. -/
def rowsLink0 : List Row := [
  ⟨0x3A00, 16, 16, 1, 1, .u8, .ro, false, 0, [], false, .door⟩ /- LINK_STATE -/,
  ⟨0x3A00, 16, 16, 2, 2, .u8, .ro, false, 0, [], false, .door⟩ /- LINK_CAUSE -/,
  ⟨0x3A00, 16, 16, 3, 3, .u16, .ro, false, 0, [], true, .door⟩ /- TIMING_ADVANCE -/,
  ⟨0x3A00, 16, 16, 4, 4, .u8, .ro, false, 0, [], false, .door⟩ /- TX_PREEMPH -/,
  ⟨0x3A00, 16, 16, 5, 5, .u8, .ro, false, 0, [], false, .door⟩ /- NODE_TX_PREEMPH -/,
  ⟨0x3A00, 16, 16, 6, 6, .u8, .ro, false, 0, [], true, .door⟩ /- CTLE_PEAKING -/,
  ⟨0x3A00, 16, 16, 7, 7, .i8, .ro, false, 0, [], true, .door⟩ /- DFE_TAP1 -/,
  ⟨0x3A00, 16, 16, 8, 8, .i8, .ro, false, 0, [], true, .door⟩ /- DFE_TAP2 -/,
  ⟨0x3A00, 16, 16, 9, 9, .u8, .ro, false, 0, [], true, .door⟩ /- EYE_MARGIN -/,
  ⟨0x3A00, 16, 16, 10, 10, .u8, .ro, false, 0, [], false, .door⟩ /- NODE_STATE -/,
  ⟨0x3A01, 16, 16, 1, 1, .u8, .rwm, true, 3, [(0, 3)], false, .door⟩ /- MGMT_RETRIES -/,
  ⟨0x3A01, 16, 16, 2, 2, .u16, .rwm, true, 100, [(5, 1000)], true, .door⟩ /- NODE_CONFIG_TIMEOUT -/,
  ⟨0x3A01, 16, 16, 3, 3, .u16, .rwm, true, 10, [(10, 1000)], true, .door⟩ /- RETRAIN_DELAY -/,
  ⟨0x3A02, 16, 16, 1, 1, .u32, .ro, false, 0, [], true, .door⟩ /- FRAMES_OK -/,
  ⟨0x3A02, 16, 16, 2, 2, .u32, .ro, false, 0, [], true, .door⟩ /- CRC_ERRORS -/,
  ⟨0x3A02, 16, 16, 3, 3, .u32, .ro, false, 0, [], true, .door⟩ /- CODE_ERRORS -/,
  ⟨0x3A02, 16, 16, 4, 4, .u32, .ro, false, 0, [], true, .door⟩ /- FRAMING_ERRORS -/,
  ⟨0x3A02, 16, 16, 5, 5, .u32, .ro, false, 0, [], true, .door⟩ /- TIMING_ERRORS -/,
  ⟨0x3A02, 16, 16, 6, 6, .u32, .ro, false, 0, [], false, .door⟩ /- UP_SEQ_GAPS -/,
  ⟨0x3A02, 16, 16, 7, 7, .u32, .ro, false, 0, [], true, .door⟩ /- ECHO_MISMATCHES -/,
  ⟨0x3A02, 16, 16, 8, 8, .u32, .ro, false, 0, [], true, .door⟩ /- NODE_HELD -/,
  ⟨0x3A02, 16, 16, 9, 9, .u32, .ro, false, 0, [], true, .door⟩ /- NODE_SUBSTITUTED -/,
  ⟨0x3A02, 16, 16, 10, 10, .u32, .ro, false, 0, [], true, .door⟩ /- MGMT_RETRIES_USED -/,
  ⟨0x3A02, 16, 16, 11, 11, .u32, .ro, false, 0, [], true, .door⟩ /- MGMT_SUPERSEDED -/]

/-- Rows of the Link area, part 1. -/
def rowsLink1 : List Row := [
  ⟨0x3A02, 16, 16, 12, 12, .u32, .ro, false, 0, [], false, .door⟩ /- LINK_LOSSES -/,
  ⟨0x3A02, 16, 16, 13, 13, .u32, .ro, false, 0, [], false, .door⟩ /- TRAIN_FAILURES -/,
  ⟨0x3A02, 16, 16, 14, 14, .u32, .ro, false, 0, [], true, .door⟩ /- DEPTH_CHUNKS_BAD -/,
  ⟨0x3A02, 16, 16, 15, 15, .u32, .ro, false, 0, [], true, .door⟩ /- DEPTH_INCOMPLETE -/,
  ⟨0x3A02, 16, 16, 16, 16, .u32, .ro, false, 0, [], true, .door⟩ /- PORT_MISMATCHES -/,
  ⟨0x3A03, 16, 16, 1, 1, .u32, .ro, false, 0, [], false, .door⟩ /- NODE_VENDOR -/,
  ⟨0x3A03, 16, 16, 2, 2, .u32, .ro, false, 0, [], false, .door⟩ /- NODE_PRODUCT -/,
  ⟨0x3A03, 16, 16, 3, 3, .u32, .ro, true, 0, [], false, .door⟩ /- NODE_SERIAL -/,
  ⟨0x3A03, 16, 16, 4, 4, .u16, .ro, false, 0, [], false, .door⟩ /- NODE_REVISION -/,
  ⟨0x3A03, 16, 16, 5, 5, .u8, .ro, false, 0, [], false, .door⟩ /- NODE_DEPTH_SENSORS -/,
  ⟨0x3A04, 16, 16, 1, 1, .u32, .rw, false, 0, [], false, .door⟩ /- LINK_STATUS -/,
  ⟨0x3A04, 16, 16, 2, 2, .u16, .ro, false, 0, [], false, .door⟩ /- NODE_CHANGED_REPEATS -/,
  ⟨0x3A04, 16, 16, 3, 3, .u16, .ro, false, 0, [], false, .door⟩ /- PORT_MISMATCH_REPEATS -/,
  ⟨0x3A05, 16, 16, 1, 1, .u8, .rwm, false, 0, [(0, 1)], false, .door⟩ /- COUNTERS_CLEAR -/]

/-- The Link area's rows. -/
def rowsLink : List Row := rowsLink0 ++ rowsLink1

/-- Rows of the Input area, part 0. -/
def rowsInput0 : List Row := [
  ⟨0x4000, 1, 1, 1, 1, .u64, .ro, false, 0, [], false, .none⟩ /- INPUT_STATE -/,
  ⟨0x4000, 1, 1, 2, 2, .u64, .ro, false, 0, [], false, .none⟩ /- WIRE_BREAK_MASK -/,
  ⟨0x4000, 1, 1, 3, 3, .u64, .rw, false, 0, [], false, .none⟩ /- WIRE_BREAK_SEEN -/,
  ⟨0x4000, 1, 1, 4, 4, .u32, .ro, false, 0, [], false, .none⟩ /- PAIR_STATE -/,
  ⟨0x4000, 1, 1, 5, 5, .u32, .ro, false, 0, [], false, .none⟩ /- PAIR_DISCREPANCY_MASK -/,
  ⟨0x4000, 1, 1, 6, 6, .u32, .ro, true, 0, [], false, .none⟩ /- PAIR_DISCREPANCIES -/,
  ⟨0x4001, 1, 1, 1, 1, .u32, .ro, false, 0, [], true, .none⟩ /- VFIELD_A -/,
  ⟨0x4001, 1, 1, 2, 2, .u32, .ro, false, 0, [], true, .none⟩ /- VFIELD_B -/,
  ⟨0x4001, 1, 1, 3, 3, .u16, .rw, false, 0, [], false, .none⟩ /- FIELD_STATUS -/,
  ⟨0x4001, 1, 1, 4, 7, .u16, .ro, false, 0, [], false, .none⟩ /- FIELD_REPEATS -/,
  ⟨0x4002, 1, 1, 1, 1, .u8, .ro, false, 0, [], true, .none⟩ /- LINE_REF_CURRENT_A -/,
  ⟨0x4002, 1, 1, 2, 2, .u8, .ro, false, 0, [], true, .none⟩ /- LINE_REF_CURRENT_B -/,
  ⟨0x4010, 1, 48, 1, 1, .u8, .rwm, true, 1, [(0, 3)], false, .none⟩ /- INPUT_CLASS -/,
  ⟨0x4010, 1, 48, 2, 2, .u8, .rwm, true, 24, [(15, 35)], true, .none⟩ /- CURRENT_LIMIT -/,
  ⟨0x4010, 1, 48, 3, 3, .u8, .rwm, true, 20, [(1, 1), (10, 10), (20, 20), (30, 30), (100, 100), (200, 200)], false, .none⟩ /- FILTER -/,
  ⟨0x4010, 1, 48, 4, 4, .bool, .rwm, true, 0, [(0, 1)], false, .none⟩ /- WIRE_BREAK_ENABLE -/,
  ⟨0x4010, 1, 48, 5, 5, .u8, .ro, false, 0, [], true, .none⟩ /- INPUT_CURRENT -/,
  ⟨0x4010, 1, 48, 6, 6, .u16, .ro, false, 0, [], false, .none⟩ /- WIRE_BREAK_REPEATS -/,
  ⟨0x4010, 1, 48, 7, 7, .bool, .ro, false, 0, [(0, 1)], false, .none⟩ /- FILTERED -/,
  ⟨0x4040, 1, 1, 1, 8, .u8, .rwm, true, 255, [(64, 111), (255, 255)], false, .none⟩ /- STEP_DIR_INPUTS -/]

/-- The Input area's rows. -/
def rowsInput : List Row := rowsInput0

/-- Rows of the Output area, part 0. -/
def rowsOutput0 : List Row := [
  ⟨0x4100, 1, 1, 1, 1, .u16, .ro, false, 0, [], false, .none⟩ /- LAMP_FAILED_MASK -/,
  ⟨0x4110, 1, 16, 1, 1, .u8, .rwm, true, 0, [(0, 1)], false, .none⟩ /- SOURCE -/,
  ⟨0x4110, 1, 16, 2, 2, .u8, .rw, false, 0, [(0, 1)], false, .none⟩ /- COMMAND -/,
  ⟨0x4110, 1, 16, 3, 3, .u8, .rwm, true, 1, [(1, 2)], false, .none⟩ /- ON_STATE -/,
  ⟨0x4110, 1, 16, 4, 4, .u8, .rwm, true, 255, [(0, 7), (255, 255)], false, .none⟩ /- PG_SELECT -/,
  ⟨0x4110, 1, 16, 5, 5, .u8, .rwm, true, 0, [(0, 255)], true, .none⟩ /- PHASE -/,
  ⟨0x4110, 1, 16, 6, 6, .u8, .rwm, true, 0, [(0, 22)], false, .none⟩ /- TERM_BIT -/,
  ⟨0x4110, 1, 16, 7, 7, .u16, .rwm, true, 0, [], false, .none⟩ /- TERM_MASK -/,
  ⟨0x4110, 1, 16, 8, 8, .u8, .rwm, true, 0, [(0, 2)], false, .none⟩ /- TERM_OP -/,
  ⟨0x4110, 1, 16, 9, 9, .u8, .rwm, true, 0, [(0, 2)], false, .none⟩ /- FAILSAFE -/,
  ⟨0x4110, 1, 16, 10, 10, .u8, .rwm, true, 2, [(0, 3)], false, .none⟩ /- TRIP_CLASS -/,
  ⟨0x4110, 1, 16, 11, 11, .u8, .rwm, true, 8, [(1, 32)], true, .none⟩ /- RETRY_LIMIT -/,
  ⟨0x4110, 1, 16, 12, 12, .u16, .rwm, true, 600, [(300, 800)], true, .none⟩ /- DELTA_T_LIMIT -/,
  ⟨0x4110, 1, 16, 13, 13, .bool, .rwm, true, 1, [(0, 1)], false, .none⟩ /- OFF_TEST -/,
  ⟨0x4110, 1, 16, 14, 14, .bool, .rwm, true, 0, [(0, 1)], false, .none⟩ /- PARALLEL -/,
  ⟨0x4110, 1, 16, 15, 15, .u32, .rw, false, 0, [], false, .none⟩ /- OUT_STATUS -/,
  ⟨0x4110, 1, 16, 16, 16, .i32, .ro, false, 0, [], true, .none⟩ /- CURRENT -/,
  ⟨0x4110, 1, 16, 17, 17, .u16, .ro, false, 0, [], true, .none⟩ /- DELTA_T -/,
  ⟨0x4110, 1, 16, 18, 18, .u8, .ro, false, 0, [], true, .none⟩ /- TRIP_COUNT -/,
  ⟨0x4110, 1, 16, 19, 19, .u16, .ro, false, 0, [], true, .none⟩ /- PAUSE_LEFT -/,
  ⟨0x4110, 1, 16, 20, 20, .u32, .ro, true, 0, [], true, .none⟩ /- OVERCURRENT_TRIPS -/,
  ⟨0x4110, 1, 16, 21, 21, .u32, .ro, true, 0, [], true, .none⟩ /- THERMAL_TRIPS -/,
  ⟨0x4110, 1, 16, 22, 22, .u32, .ro, false, 0, [], false, .none⟩ /- RETRIES_SUPERSEDED -/,
  ⟨0x4110, 1, 16, 23, 23, .u8, .rwm, false, 0, [(0, 1)], false, .none⟩ /- FAULT_CLEAR -/]

/-- Rows of the Output area, part 1. -/
def rowsOutput1 : List Row := [
  ⟨0x4110, 1, 16, 24, 24, .u32, .ro, false, 0, [], true, .none⟩ /- DISSIPATION -/,
  ⟨0x4110, 1, 16, 25, 28, .u16, .ro, false, 0, [], false, .none⟩ /- OUT_REPEATS -/,
  ⟨0x4110, 1, 16, 32, 32, .u32, .rwm, true, 0, [(0, 0), (20, 1500)], true, .none⟩ /- LAMP_NOMINAL -/,
  ⟨0x4110, 1, 16, 33, 33, .u8, .rwm, true, 50, [(10, 90)], true, .none⟩ /- DARK_FRACTION -/,
  ⟨0x4110, 1, 16, 34, 34, .u8, .rwm, false, 0, [(0, 1)], false, .none⟩ /- LAMP_LEARN -/,
  ⟨0x4110, 1, 16, 35, 35, .u8, .rwm, true, 255, [(0, 15), (255, 255)], false, .none⟩ /- LAMP_SPARE -/,
  ⟨0x4110, 1, 16, 36, 36, .u16, .rwm, true, 2000, [(100, 60000)], true, .none⟩ /- LAMP_FAIL_TIME -/,
  ⟨0x4110, 1, 16, 37, 37, .u8, .ro, false, 0, [], false, .none⟩ /- GLOW_STATE -/,
  ⟨0x4110, 1, 16, 38, 38, .u8, .ro, false, 0, [], false, .none⟩ /- FAIL_CAUSE -/,
  ⟨0x4110, 1, 16, 39, 39, .u32, .ro, true, 0, [], false, .none⟩ /- DARK_EVENTS -/,
  ⟨0x4200, 1, 1, 1, 1, .u8, .ro, false, 0, [], false, .none⟩ /- COIL_FAULT_MASK -/,
  ⟨0x4210, 1, 8, 1, 1, .u8, .rwm, true, 0, [(0, 1)], false, .none⟩ /- SOURCE -/,
  ⟨0x4210, 1, 8, 2, 2, .u8, .rw, false, 0, [(0, 1)], false, .none⟩ /- COMMAND -/,
  ⟨0x4210, 1, 8, 3, 3, .u8, .rwm, true, 1, [(1, 2)], false, .none⟩ /- ON_STATE -/,
  ⟨0x4210, 1, 8, 4, 4, .u8, .rwm, true, 255, [(0, 7), (255, 255)], false, .none⟩ /- PG_SELECT -/,
  ⟨0x4210, 1, 8, 5, 5, .u8, .rwm, true, 0, [(0, 255)], true, .none⟩ /- PHASE -/,
  ⟨0x4210, 1, 8, 6, 6, .u8, .rwm, true, 0, [(0, 22)], false, .none⟩ /- TERM_BIT -/,
  ⟨0x4210, 1, 8, 7, 7, .u16, .rwm, true, 0, [], false, .none⟩ /- TERM_MASK -/,
  ⟨0x4210, 1, 8, 8, 8, .u8, .rwm, true, 0, [(0, 2)], false, .none⟩ /- TERM_OP -/,
  ⟨0x4210, 1, 8, 9, 9, .u8, .rwm, true, 0, [(0, 2)], false, .none⟩ /- FAILSAFE -/,
  ⟨0x4210, 1, 8, 10, 10, .u8, .rwm, true, 1, [(0, 3)], false, .none⟩ /- TRIP_CLASS -/,
  ⟨0x4210, 1, 8, 11, 11, .u8, .rwm, true, 8, [(1, 32)], true, .none⟩ /- RETRY_LIMIT -/,
  ⟨0x4210, 1, 8, 12, 12, .u16, .rwm, true, 600, [(300, 800)], true, .none⟩ /- DELTA_T_LIMIT -/,
  ⟨0x4210, 1, 8, 13, 13, .bool, .rwm, true, 0, [(0, 1)], false, .none⟩ /- OFF_TEST -/]

/-- Rows of the Output area, part 2. -/
def rowsOutput2 : List Row := [
  ⟨0x4210, 1, 8, 14, 14, .bool, .rwm, true, 0, [(0, 1)], false, .none⟩ /- PARALLEL -/,
  ⟨0x4210, 1, 8, 15, 15, .u32, .rw, false, 0, [], false, .none⟩ /- OUT_STATUS -/,
  ⟨0x4210, 1, 8, 16, 16, .i32, .ro, false, 0, [], true, .none⟩ /- CURRENT -/,
  ⟨0x4210, 1, 8, 17, 17, .u16, .ro, false, 0, [], true, .none⟩ /- DELTA_T -/,
  ⟨0x4210, 1, 8, 18, 18, .u8, .ro, false, 0, [], true, .none⟩ /- TRIP_COUNT -/,
  ⟨0x4210, 1, 8, 19, 19, .u16, .ro, false, 0, [], true, .none⟩ /- PAUSE_LEFT -/,
  ⟨0x4210, 1, 8, 20, 20, .u32, .ro, true, 0, [], true, .none⟩ /- OVERCURRENT_TRIPS -/,
  ⟨0x4210, 1, 8, 21, 21, .u32, .ro, true, 0, [], true, .none⟩ /- THERMAL_TRIPS -/,
  ⟨0x4210, 1, 8, 22, 22, .u32, .ro, false, 0, [], false, .none⟩ /- RETRIES_SUPERSEDED -/,
  ⟨0x4210, 1, 8, 23, 23, .u8, .rwm, false, 0, [(0, 1)], false, .none⟩ /- FAULT_CLEAR -/,
  ⟨0x4210, 1, 8, 24, 24, .u32, .ro, false, 0, [], true, .none⟩ /- DISSIPATION -/,
  ⟨0x4210, 1, 8, 25, 28, .u16, .ro, false, 0, [], false, .none⟩ /- OUT_REPEATS -/,
  ⟨0x4210, 1, 8, 32, 32, .u8, .rwm, true, 0, [(0, 1)], false, .none⟩ /- DEMAG_MODE -/,
  ⟨0x4210, 1, 8, 33, 33, .u32, .ro, false, 0, [], true, .none⟩ /- DEMAG_ENERGY_LAST -/,
  ⟨0x4210, 1, 8, 34, 34, .u32, .rwm, true, 0, [(0, 0), (10, 3000)], true, .none⟩ /- COIL_MIN_CURRENT -/,
  ⟨0x4300, 1, 8, 1, 1, .u8, .rwm, true, 0, [(0, 2)], false, .none⟩ /- PG_MODE -/,
  ⟨0x4300, 1, 8, 2, 2, .u32, .rwm, true, 1000000, [], true, .none⟩ /- PG_PERIOD -/,
  ⟨0x4300, 1, 8, 3, 3, .u16, .rwm, true, 128, [(0, 256)], true, .none⟩ /- PG_DUTY -/,
  ⟨0x4310, 1, 1, 1, 1, .u32, .rwm, true, 14000, [(2000, 14000)], true, .none⟩ /- DISSIPATION_LIMIT -/,
  ⟨0x4310, 1, 1, 2, 2, .u32, .ro, false, 0, [], true, .none⟩ /- DISSIPATION_ESTIMATE -/,
  ⟨0x4310, 1, 1, 3, 3, .u32, .rw, false, 0, [(0, 50000)], true, .none⟩ /- DISSIPATION_PEAK -/,
  ⟨0x4310, 1, 1, 4, 4, .u32, .ro, true, 0, [], false, .none⟩ /- DISSIPATION_TRIPS -/,
  ⟨0x4310, 1, 1, 5, 5, .u16, .ro, false, 0, [], true, .none⟩ /- OVER_LIMIT_TIME -/,
  ⟨0x4320, 1, 1, 1, 1, .u16, .rwm, true, 50, [(5, 500)], true, .none⟩ /- FIELD_WD_TIMEOUT -/]

/-- Rows of the Output area, part 3. -/
def rowsOutput3 : List Row := [
  ⟨0x4320, 1, 1, 2, 2, .u32, .ro, true, 0, [], false, .none⟩ /- FIELD_WD_EXPIRIES_A -/,
  ⟨0x4320, 1, 1, 3, 3, .u32, .ro, true, 0, [], false, .none⟩ /- FIELD_WD_EXPIRIES_B -/]

/-- The Output area's rows. -/
def rowsOutput : List Row := rowsOutput0 ++ rowsOutput1 ++ rowsOutput2 ++ rowsOutput3

/-- Rows of the SafetySet area, part 0. -/
def rowsSafetySet0 : List Row := [
  ⟨0x5000, 1, 1, 1, 1, .u32, .ro, false, 0, [], false, .none⟩ /- CHECK_VALUE -/,
  ⟨0x5000, 1, 1, 2, 2, .u32, .ro, false, 0, [], false, .none⟩ /- CHECK_VALUE_B -/,
  ⟨0x5000, 1, 1, 3, 3, .u8, .ro, false, 0, [], false, .none⟩ /- SET_STATE -/,
  ⟨0x5000, 1, 1, 4, 4, .u32, .ro, true, 0, [], false, .none⟩ /- CONFIRMATIONS -/,
  ⟨0x5000, 1, 1, 5, 5, .u32, .ro, true, 0, [], true, .none⟩ /- CONFIRMED_AT -/,
  ⟨0x5000, 1, 1, 6, 6, .u32, .ro, false, 0, [], false, .none⟩ /- PARTNER_CHECK_VALUE -/,
  ⟨0x5001, 1, 1, 1, 1, .u32, .rwc, true, 0, [], false, .none⟩ /- CONFIRM -/,
  ⟨0x5002, 1, 1, 1, 1, .bool, .rwc, false, 0, [(0, 1)], false, .none⟩ /- WRITE_ENABLE -/,
  ⟨0x5008, 1, 1, 1, 16, .u8, .rwc, true, 0, [(0, 6)], false, .doorSub⟩ /- DOORWAY_TYPE -/,
  ⟨0x5009, 1, 1, 1, 16, .u8, .rwc, true, 0, [(0, 1)], false, .doorSub⟩ /- DOORWAY_SIDE -/,
  ⟨0x5010, 1, 1, 1, 1, .u8, .rwc, true, 0, [(0, 3)], false, .none⟩ /- RELEASE_SOURCE -/,
  ⟨0x5010, 1, 1, 2, 2, .u8, .rwc, true, 0, [(0, 3)], false, .none⟩ /- ZERO_SPEED_SOURCE -/,
  ⟨0x5011, 1, 1, 1, 1, .u8, .rwc, true, 255, [(128, 151), (255, 255)], false, .none⟩ /- LEFT_RELEASE_PAIR -/,
  ⟨0x5011, 1, 1, 2, 2, .u8, .rwc, true, 255, [(128, 151), (255, 255)], false, .none⟩ /- RIGHT_RELEASE_PAIR -/,
  ⟨0x5011, 1, 1, 3, 3, .u8, .rwc, true, 255, [(128, 151), (255, 255)], false, .none⟩ /- ZERO_SPEED_PAIR -/,
  ⟨0x5011, 1, 1, 4, 4, .u8, .rwc, true, 255, [(0, 31), (255, 255)], false, .none⟩ /- CAB_CONNECTION -/,
  ⟨0x5011, 1, 1, 5, 5, .u8, .rwc, true, 255, [(0, 31), (255, 255)], false, .none⟩ /- SUMMARY_CONNECTION -/,
  ⟨0x5011, 1, 1, 6, 6, .u8, .rwc, true, 0, [(0, 9)], false, .none⟩ /- SO4_FUNCTION -/,
  ⟨0x5011, 1, 1, 7, 7, .u8, .rwc, true, 0, [(0, 9)], false, .none⟩ /- SO5_FUNCTION -/,
  ⟨0x5011, 1, 1, 8, 8, .u16, .rwc, true, 0, [], false, .none⟩ /- SO4_MASK -/,
  ⟨0x5011, 1, 1, 9, 9, .u16, .rwc, true, 0, [], false, .none⟩ /- SO5_MASK -/,
  ⟨0x5011, 1, 1, 10, 10, .u16, .rwc, true, 50, [(20, 1000)], true, .none⟩ /- SUMMARY_PERIOD -/,
  ⟨0x5014, 1, 1, 1, 24, .u8, .rwc, true, 0, [(0, 2)], false, .none⟩ /- PAIR_MODE -/,
  ⟨0x5015, 1, 1, 1, 24, .u8, .rwc, true, 20, [(1, 1), (10, 10), (20, 20), (30, 30), (100, 100), (200, 200)], false, .none⟩ /- PAIR_FILTER -/]

/-- Rows of the SafetySet area, part 1. -/
def rowsSafetySet1 : List Row := [
  ⟨0x5016, 1, 1, 1, 24, .u16, .rwc, true, 20, [(2, 500)], true, .none⟩ /- PAIR_DISCREPANCY_TIME -/,
  ⟨0x5017, 1, 1, 1, 24, .u8, .rwc, true, 1, [(0, 3)], false, .none⟩ /- PAIR_CLASS -/,
  ⟨0x5018, 1, 1, 1, 1, .u8, .rwc, true, 255, [(64, 87), (255, 255)], false, .none⟩ /- LINE_REF_A -/,
  ⟨0x5018, 1, 1, 2, 2, .u8, .rwc, true, 255, [(88, 111), (255, 255)], false, .none⟩ /- LINE_REF_B -/,
  ⟨0x5019, 1, 1, 1, 24, .bool, .rwc, true, 0, [(0, 1)], false, .none⟩ /- PAIR_WIRE_BREAK -/,
  ⟨0x5020, 1, 1, 1, 48, .u16, .rwc, true, 1500, [(200, 4000)], true, .axisSub⟩ /- FORCE_LIMIT -/,
  ⟨0x5021, 1, 1, 1, 48, .u32, .rwc, true, 10000, [(0, 0), (1000, 50000)], true, .axisSub⟩ /- ENERGY_LIMIT -/,
  ⟨0x5022, 1, 1, 1, 48, .u8, .rwc, true, 255, [(0, 7), (64, 111), (255, 255)], false, .axisSub⟩ /- EDGE_INPUT -/,
  ⟨0x5023, 1, 1, 1, 16, .u8, .rwc, true, 0, [(0, 1)], false, .doorSub⟩ /- DEPTH_FAIL_ACTION -/,
  ⟨0x5024, 1, 1, 1, 48, .u32, .rwc, true, 400, [(50, 2000)], true, .axisSub⟩ /- SAFE_SPEED_LIMIT -/,
  ⟨0x5025, 1, 1, 1, 48, .u16, .rwc, true, 500, [(50, 2000)], true, .axisSub⟩ /- SF7_STOP_TIME -/,
  ⟨0x5030, 1, 32, 1, 1, .bool, .rwc, true, 0, [(0, 1)], false, .sensor⟩ /- DEPTH_ENABLE -/,
  ⟨0x5030, 1, 32, 2, 2, .u8, .rwc, true, 0, [(0, 63)], true, .sensor⟩ /- BOX_COL_LO -/,
  ⟨0x5030, 1, 32, 3, 3, .u8, .rwc, true, 63, [(0, 63)], true, .sensor⟩ /- BOX_COL_HI -/,
  ⟨0x5030, 1, 32, 4, 4, .u8, .rwc, true, 0, [(0, 47)], true, .sensor⟩ /- BOX_ROW_LO -/,
  ⟨0x5030, 1, 32, 5, 5, .u8, .rwc, true, 47, [(0, 47)], true, .sensor⟩ /- BOX_ROW_HI -/,
  ⟨0x5030, 1, 32, 6, 6, .u16, .rwc, true, 100, [(30, 1000)], true, .sensor⟩ /- DEPTH_DELTA -/,
  ⟨0x5030, 1, 32, 7, 7, .u16, .rwc, true, 12, [(1, 3072)], true, .sensor⟩ /- MIN_PIXELS -/,
  ⟨0x5030, 1, 32, 8, 8, .u8, .rwc, true, 4, [(1, 15)], false, .sensor⟩ /- MIN_CONFIDENCE -/,
  ⟨0x5030, 1, 32, 9, 9, .u8, .rwc, true, 25, [(5, 100)], true, .sensor⟩ /- INVALID_LIMIT -/,
  ⟨0x5050, 1, 16, 1, 1, .u8, .rwc, true, 255, [], false, .door⟩ /- LOCK_1_INPUT -/,
  ⟨0x5050, 1, 16, 2, 2, .u8, .rwc, true, 255, [], false, .door⟩ /- LOCK_2_INPUT -/,
  ⟨0x5050, 1, 16, 3, 3, .u8, .rwc, true, 255, [], false, .door⟩ /- CLOSED_INPUT -/,
  ⟨0x5050, 1, 16, 4, 4, .u8, .rwc, true, 255, [], false, .door⟩ /- IN_SERVICE_INPUT -/]

/-- Rows of the SafetySet area, part 2. -/
def rowsSafetySet2 : List Row := [
  ⟨0x5050, 1, 16, 5, 5, .u8, .rwc, true, 255, [], false, .door⟩ /- HANDLE_HOME_INPUT -/,
  ⟨0x5050, 1, 16, 6, 6, .u8, .rwc, true, 255, [], false, .door⟩ /- STEP_RETRACTED_INPUT -/,
  ⟨0x5050, 1, 16, 7, 7, .u8, .rwc, true, 255, [], false, .door⟩ /- STEP_EXTENDED_INPUT -/,
  ⟨0x5050, 1, 16, 8, 8, .u8, .rwc, true, 20, [(1, 1), (10, 10), (20, 20), (30, 30), (100, 100), (200, 200)], false, .door⟩ /- CONTACT_FILTER -/,
  ⟨0x5050, 1, 16, 9, 9, .u8, .rwc, true, 10, [(2, 100)], true, .door⟩ /- CONTACT_DISCREPANCY_TIME -/,
  ⟨0x5060, 1, 32, 1, 1, .bool, .rwc, true, 0, [(0, 1)], false, .none⟩ /- CONN_ENABLE -/,
  ⟨0x5060, 1, 32, 2, 2, .u8, .rwc, true, 0, [(0, 1)], false, .none⟩ /- DIRECTION -/,
  ⟨0x5060, 1, 32, 3, 3, .u32, .rwc, true, 0, [], false, .none⟩ /- IDENTITY -/,
  ⟨0x5060, 1, 32, 4, 4, .u8, .rwc, true, 0, [(0, 15)], false, .none⟩ /- PORTS -/,
  ⟨0x5060, 1, 32, 5, 5, .u16, .rwc, true, 0, [], false, .none⟩ /- CAN_ID -/,
  ⟨0x5060, 1, 32, 6, 6, .u32, .rwc, true, 0, [], false, .none⟩ /- UDP_DESTINATION -/,
  ⟨0x5060, 1, 32, 7, 7, .u16, .rwc, true, 100, [(5, 2000)], true, .none⟩ /- WATCHDOG_TIME -/,
  ⟨0x5060, 1, 32, 8, 8, .u16, .rwc, true, 50, [(1, 2000)], true, .none⟩ /- MAX_DELAY -/]

/-- The SafetySet area's rows. -/
def rowsSafetySet : List Row := rowsSafetySet0 ++ rowsSafetySet1 ++ rowsSafetySet2

/-- Rows of the SafeStatus area, part 0. -/
def rowsSafeStatus0 : List Row := [
  ⟨0x5100, 1, 1, 1, 1, .u8, .ro, false, 0, [], false, .none⟩ /- SO_STATE -/,
  ⟨0x5100, 1, 1, 2, 2, .u8, .ro, false, 0, [], false, .none⟩ /- SO_TERMS_A -/,
  ⟨0x5100, 1, 1, 3, 3, .u8, .ro, false, 0, [], false, .none⟩ /- SO_TERMS_B -/,
  ⟨0x5101, 1, 1, 1, 1, .u16, .ro, false, 0, [], false, .none⟩ /- SAFE_LOCKED_MASK -/,
  ⟨0x5101, 1, 1, 2, 2, .u16, .ro, false, 0, [], false, .none⟩ /- SAFE_STEP_MASK -/,
  ⟨0x5101, 1, 1, 3, 3, .u32, .ro, false, 0, [], false, .none⟩ /- LOOP_VIEW_DISAGREEMENTS -/,
  ⟨0x5102, 1, 1, 1, 1, .u8, .ro, false, 0, [], false, .none⟩ /- SAFE_STATE_CAUSE -/,
  ⟨0x5102, 1, 1, 2, 2, .u32, .ro, true, 0, [], false, .none⟩ /- CHANNEL_DISCREPANCIES -/,
  ⟨0x5102, 1, 1, 3, 3, .u32, .ro, false, 0, [], true, .none⟩ /- PULSES_INCONCLUSIVE -/,
  ⟨0x5102, 1, 1, 4, 4, .u8, .rwm, false, 0, [(0, 63)], false, .none⟩ /- SO_FAULT_CLEAR -/,
  ⟨0x5102, 1, 1, 5, 5, .u16, .ro, false, 0, [], false, .none⟩ /- STO_UNCONFIRMED_MASK -/,
  ⟨0x5103, 1, 1, 1, 6, .u32, .ro, false, 0, [], false, .none⟩ /- SO_STATUS -/,
  ⟨0x5104, 1, 1, 1, 1, .u16, .rwm, true, 6570, [(720, 8760)], true, .none⟩ /- PROOF_TEST_INTERVAL -/,
  ⟨0x5104, 1, 1, 2, 2, .u8, .rwm, false, 0, [(0, 1)], false, .none⟩ /- PROOF_TEST_DONE -/,
  ⟨0x5104, 1, 1, 3, 3, .u32, .ro, true, 0, [], true, .none⟩ /- LAST_PROOF_TEST -/,
  ⟨0x5104, 1, 1, 4, 4, .u16, .ro, false, 6570, [], true, .none⟩ /- PROOF_TEST_DUE -/]

/-- The SafeStatus area's rows. -/
def rowsSafeStatus : List Row := rowsSafeStatus0

/-- Rows of the Nsl area, part 0. -/
def rowsNsl0 : List Row := [
  ⟨0x5200, 1, 32, 1, 1, .bool, .ro, false, 0, [], false, .none⟩ /- CONN_ENABLE -/,
  ⟨0x5200, 1, 32, 2, 2, .u8, .ro, false, 0, [], false, .none⟩ /- DIRECTION -/,
  ⟨0x5200, 1, 32, 3, 3, .u32, .ro, false, 0, [], false, .none⟩ /- IDENTITY -/,
  ⟨0x5200, 1, 32, 4, 4, .u8, .ro, false, 0, [], false, .none⟩ /- PORTS -/,
  ⟨0x5200, 1, 32, 5, 5, .u16, .ro, false, 0, [], false, .none⟩ /- CAN_ID -/,
  ⟨0x5200, 1, 32, 6, 6, .u32, .ro, false, 0, [], false, .none⟩ /- UDP_DESTINATION -/,
  ⟨0x5200, 1, 32, 7, 7, .u16, .ro, false, 100, [], false, .none⟩ /- WATCHDOG_TIME -/,
  ⟨0x5200, 1, 32, 8, 8, .u16, .ro, false, 50, [], false, .none⟩ /- MAX_DELAY -/,
  ⟨0x5200, 1, 32, 16, 16, .u8, .ro, false, 0, [], false, .none⟩ /- CONN_STATE -/,
  ⟨0x5200, 1, 32, 17, 17, .u16, .ro, false, 0, [], false, .none⟩ /- LAST_SEQ -/,
  ⟨0x5200, 1, 32, 18, 18, .u32, .ro, false, 0, [], true, .none⟩ /- FRAMES_ACCEPTED -/,
  ⟨0x5200, 1, 32, 19, 19, .u32, .ro, false, 0, [], true, .none⟩ /- CRC_CLASS_ERRORS -/,
  ⟨0x5200, 1, 32, 20, 20, .u32, .ro, false, 0, [], true, .none⟩ /- DUPLICATES -/,
  ⟨0x5200, 1, 32, 21, 21, .u32, .ro, false, 0, [], true, .none⟩ /- LATE -/,
  ⟨0x5200, 1, 32, 22, 22, .u32, .ro, false, 0, [], true, .none⟩ /- OUT_OF_WINDOW -/,
  ⟨0x5200, 1, 32, 23, 23, .u32, .ro, false, 0, [], true, .none⟩ /- DELAYED -/,
  ⟨0x5200, 1, 32, 24, 24, .u32, .ro, false, 0, [], true, .none⟩ /- BUCKET_DROPS -/,
  ⟨0x5200, 1, 32, 25, 25, .u32, .ro, true, 0, [], false, .none⟩ /- WATCHDOG_EXPIRIES -/,
  ⟨0x5200, 1, 32, 26, 26, .u8, .ro, false, 3, [], true, .none⟩ /- ERROR_BUDGET_LEFT -/,
  ⟨0x5200, 1, 32, 27, 27, .u16, .ro, false, 0, [], true, .none⟩ /- DELAY_LAST -/,
  ⟨0x5200, 1, 32, 28, 28, .u32, .ro, false, 0, [], true, .none⟩ /- FRAMES_SENT -/,
  ⟨0x5200, 1, 32, 29, 29, .domain, .ro, false, 0, [], false, .none⟩ /- LAST_PAYLOAD -/,
  ⟨0x5200, 1, 32, 30, 30, .u8, .ro, false, 0, [], false, .none⟩ /- CONN_STATE_B -/,
  ⟨0x5280, 1, 1, 1, 1, .u8, .rwm, false, 0, [(0, 1)], false, .none⟩ /- COUNTERS_CLEAR -/]

/-- Rows of the Nsl area, part 1. -/
def rowsNsl1 : List Row := [
  ⟨0x5280, 1, 1, 2, 2, .u32, .ro, false, 0, [], true, .none⟩ /- UNKNOWN_IDENTITY -/,
  ⟨0x5280, 1, 1, 3, 3, .u8, .const, false, 3, [], true, .none⟩ /- ERROR_BUDGET_SIZE -/,
  ⟨0x5280, 1, 1, 4, 4, .u16, .const, false, 1200, [], true, .none⟩ /- ERROR_REFILL_TIME -/]

/-- The Nsl area's rows. -/
def rowsNsl : List Row := rowsNsl0 ++ rowsNsl1

/-- Rows of the Recorder area, part 0. -/
def rowsRecorder0 : List Row := [
  ⟨0x6000, 1, 1, 1, 1, .u16, .rw, false, 0, [(0, 4096)], true, .none⟩ /- CURSOR -/,
  ⟨0x6000, 1, 1, 2, 2, .domain, .ro, false, 0, [], false, .none⟩ /- WINDOW -/,
  ⟨0x6000, 1, 1, 3, 3, .u32, .ro, false, 0, [], false, .none⟩ /- CHANGE_SEQ -/,
  ⟨0x6000, 1, 1, 4, 4, .u8, .rw, false, 0, [(0, 8)], false, .none⟩ /- AREA -/,
  ⟨0x6000, 1, 1, 5, 5, .u16, .rw, false, 0, [(0, 65535)], true, .none⟩ /- BULK_COUNT -/,
  ⟨0x6000, 1, 1, 6, 6, .u16, .ro, false, 0, [], true, .none⟩ /- BULK_REMAINING -/,
  ⟨0x6000, 1, 1, 7, 7, .domain, .ro, false, 0, [], false, .none⟩ /- BULK_DATA -/,
  ⟨0x6000, 1, 1, 8, 8, .u32, .ro, false, 0, [], false, .none⟩ /- COMMIT_SEQ -/,
  ⟨0x6001, 1, 1, 1, 1, .u32, .ro, true, 0, [], true, .none⟩ /- OPERATING_SECONDS -/,
  ⟨0x6001, 1, 1, 2, 2, .u24, .ro, true, 0, [], false, .none⟩ /- POWER_CYCLES -/,
  ⟨0x6001, 1, 1, 3, 3, .u32, .ro, true, 0, [], false, .none⟩ /- WAKE_COUNT -/,
  ⟨0x6002, 1, 1, 1, 1, .u8, .rwm, false, 0, [(0, 255)], false, .none⟩ /- CLEAR -/,
  ⟨0x6002, 1, 1, 2, 2, .u32, .ro, true, 0, [], false, .none⟩ /- CLEARS -/,
  ⟨0x6002, 1, 1, 3, 3, .u32, .ro, true, 0, [], true, .none⟩ /- LAST_CLEAR_SECONDS -/,
  ⟨0x6003, 1, 1, 1, 1, .u32, .ro, true, 0, [], true, .none⟩ /- INTAKE_LOST -/,
  ⟨0x6003, 1, 1, 2, 2, .u32, .ro, true, 0, [], true, .none⟩ /- SAMPLES_LOST -/,
  ⟨0x6003, 1, 1, 3, 3, .u32, .ro, true, 0, [], true, .none⟩ /- RECORDS_CORRUPTED -/,
  ⟨0x6003, 1, 1, 4, 4, .u32, .ro, true, 0, [], true, .none⟩ /- LOG_REFUSED -/,
  ⟨0x6003, 1, 1, 5, 5, .u16, .ro, true, 0, [], true, .none⟩ /- FIRST_LOG_COUNT -/,
  ⟨0x6003, 1, 1, 6, 6, .u16, .rw, false, 0, [], false, .none⟩ /- RECORDER_STATUS -/,
  ⟨0x6003, 1, 1, 7, 10, .u16, .ro, false, 0, [], false, .none⟩ /- RECORDER_REPEATS -/,
  ⟨0x6004, 1, 1, 1, 4, .u8, .rwm, true, 10, [(1, 100)], true, .none⟩ /- BUCKET_RATE -/,
  ⟨0x6004, 1, 1, 5, 8, .u8, .rwm, true, 20, [(1, 255)], true, .none⟩ /- BUCKET_BURST -/,
  ⟨0x6005, 0, 1, 1, 1, .i32, .rwm, true, 2000, [], true, .none⟩ /- DOOR_HIST_LOW -/]

/-- Rows of the Recorder area, part 1. -/
def rowsRecorder1 : List Row := [
  ⟨0x6005, 0, 1, 2, 2, .i32, .rwm, true, 1000, [], true, .none⟩ /- DOOR_HIST_LOW -/,
  ⟨0x6005, 0, 1, 3, 3, .i32, .rwm, true, 0, [], true, .none⟩ /- DOOR_HIST_LOW -/,
  ⟨0x6005, 0, 1, 4, 4, .i32, .rwm, true, 0, [], true, .none⟩ /- DOOR_HIST_LOW -/,
  ⟨0x6005, 0, 1, 5, 5, .i32, .rwm, true, 0, [], true, .none⟩ /- DOOR_HIST_LOW -/,
  ⟨0x6005, 0, 1, 6, 6, .i32, .rwm, true, 0, [], true, .none⟩ /- DOOR_HIST_LOW -/,
  ⟨0x6005, 0, 1, 7, 7, .i32, .rwm, true, 0, [], true, .none⟩ /- DOOR_HIST_LOW -/,
  ⟨0x6005, 0, 1, 8, 8, .i32, .rwm, true, 0, [], true, .none⟩ /- DOOR_HIST_LOW -/,
  ⟨0x6006, 0, 1, 1, 1, .u32, .rwm, true, 100, [(1, 100000000)], true, .none⟩ /- DOOR_HIST_WIDTH -/,
  ⟨0x6006, 0, 1, 2, 2, .u32, .rwm, true, 100, [(1, 100000000)], true, .none⟩ /- DOOR_HIST_WIDTH -/,
  ⟨0x6006, 0, 1, 3, 3, .u32, .rwm, true, 50, [(1, 100000000)], true, .none⟩ /- DOOR_HIST_WIDTH -/,
  ⟨0x6006, 0, 1, 4, 4, .u32, .rwm, true, 34, [(1, 100000000)], true, .none⟩ /- DOOR_HIST_WIDTH -/,
  ⟨0x6006, 0, 1, 5, 5, .u32, .rwm, true, 20, [(1, 100000000)], true, .none⟩ /- DOOR_HIST_WIDTH -/,
  ⟨0x6006, 0, 1, 6, 6, .u32, .rwm, true, 10, [(1, 100000000)], true, .none⟩ /- DOOR_HIST_WIDTH -/,
  ⟨0x6006, 0, 1, 7, 7, .u32, .rwm, true, 14, [(1, 100000000)], true, .none⟩ /- DOOR_HIST_WIDTH -/,
  ⟨0x6006, 0, 1, 8, 8, .u32, .rwm, true, 100, [(1, 100000000)], true, .none⟩ /- DOOR_HIST_WIDTH -/,
  ⟨0x6007, 0, 1, 1, 1, .i32, .rwm, true, -400, [], true, .none⟩ /- AXIS_HIST_LOW -/,
  ⟨0x6007, 0, 1, 2, 2, .i32, .rwm, true, 0, [], true, .none⟩ /- AXIS_HIST_LOW -/,
  ⟨0x6007, 0, 1, 3, 3, .i32, .rwm, true, 0, [], true, .none⟩ /- AXIS_HIST_LOW -/,
  ⟨0x6007, 0, 1, 4, 4, .i32, .rwm, true, 0, [], true, .none⟩ /- AXIS_HIST_LOW -/,
  ⟨0x6008, 0, 1, 1, 1, .u32, .rwm, true, 50, [(1, 100000000)], true, .none⟩ /- AXIS_HIST_WIDTH -/,
  ⟨0x6008, 0, 1, 2, 2, .u32, .rwm, true, 5, [(1, 100000000)], true, .none⟩ /- AXIS_HIST_WIDTH -/,
  ⟨0x6008, 0, 1, 3, 3, .u32, .rwm, true, 500, [(1, 100000000)], true, .none⟩ /- AXIS_HIST_WIDTH -/,
  ⟨0x6008, 0, 1, 4, 4, .u32, .rwm, true, 4, [(1, 100000000)], true, .none⟩ /- AXIS_HIST_WIDTH -/,
  ⟨0x6009, 0, 1, 1, 1, .i32, .rwm, true, -400, [], true, .none⟩ /- DEVICE_HIST_LOW -/]

/-- Rows of the Recorder area, part 2. -/
def rowsRecorder2 : List Row := [
  ⟨0x6009, 0, 1, 2, 2, .i32, .rwm, true, -400, [], true, .none⟩ /- DEVICE_HIST_LOW -/,
  ⟨0x6009, 0, 1, 3, 3, .i32, .rwm, true, -400, [], true, .none⟩ /- DEVICE_HIST_LOW -/,
  ⟨0x6009, 0, 1, 4, 4, .i32, .rwm, true, 14000, [], true, .none⟩ /- DEVICE_HIST_LOW -/,
  ⟨0x6009, 0, 1, 5, 5, .i32, .rwm, true, 14000, [], true, .none⟩ /- DEVICE_HIST_LOW -/,
  ⟨0x6009, 0, 1, 6, 6, .i32, .rwm, true, 2900, [], true, .none⟩ /- DEVICE_HIST_LOW -/,
  ⟨0x6009, 0, 1, 7, 7, .i32, .rwm, true, 0, [], true, .none⟩ /- DEVICE_HIST_LOW -/,
  ⟨0x600A, 0, 1, 1, 1, .u32, .rwm, true, 50, [(1, 100000000)], true, .none⟩ /- DEVICE_HIST_WIDTH -/,
  ⟨0x600A, 0, 1, 2, 2, .u32, .rwm, true, 50, [(1, 100000000)], true, .none⟩ /- DEVICE_HIST_WIDTH -/,
  ⟨0x600A, 0, 1, 3, 3, .u32, .rwm, true, 50, [(1, 100000000)], true, .none⟩ /- DEVICE_HIST_WIDTH -/,
  ⟨0x600A, 0, 1, 4, 4, .u32, .rwm, true, 600, [(1, 100000000)], true, .none⟩ /- DEVICE_HIST_WIDTH -/,
  ⟨0x600A, 0, 1, 5, 5, .u32, .rwm, true, 600, [(1, 100000000)], true, .none⟩ /- DEVICE_HIST_WIDTH -/,
  ⟨0x600A, 0, 1, 6, 6, .u32, .rwm, true, 20, [(1, 100000000)], true, .none⟩ /- DEVICE_HIST_WIDTH -/,
  ⟨0x600A, 0, 1, 7, 7, .u32, .rwm, true, 1000, [(1, 100000000)], true, .none⟩ /- DEVICE_HIST_WIDTH -/]

/-- The Recorder area's rows. -/
def rowsRecorder : List Row := rowsRecorder0 ++ rowsRecorder1 ++ rowsRecorder2

/-- The rows of the area that holds an index (R438). -/
def rowsOf (index : Nat) : List Row :=
  if index < 0x2000 then rowsComm else if index < 0x2400 then rowsCar else if index < 0x2500 then rowsNet
  else if index < 0x2600 then rowsEc else if index < 0x3000 then rowsDuplex else if index < 0x3400 then rowsDoor
  else if index < 0x3800 then rowsAxis else if index < 0x3A00 then rowsMantis else if index < 0x4000 then rowsLink
  else if index < 0x4100 then rowsInput else if index < 0x5000 then rowsOutput else if index < 0x5100 then rowsSafetySet
  else if index < 0x5200 then rowsSafeStatus else if index < 0x6000 then rowsNsl else rowsRecorder

/-- Whether a row covers an index. -/
def Row.hasIndex (r : Row) (index : Nat) : Bool :=
  r.base ≤ index && (index - r.base) % (max r.stride 1) == 0 && decide ((index - r.base) / (max r.stride 1) < r.count)

/-- The row of an entry, `none` where the tables list none. -/
def rowOf (index sub : Nat) : Option Row :=
  (rowsOf index).find? (fun r => r.hasIndex index && decide (r.subLo ≤ sub) && decide (sub ≤ r.subHi))

/-- What an entry that nothing has written reads as: its default. -/
def dictDefault (k : Nat) : Int := match rowOf (k / 256) (k % 256) with
  | some r => r.dflt
  | none => 0

end Sys2Proof.Machine
end

