-- ==== Sys2Proof/Machine/Keys.lean ====
section
/-!
DEFINITION. The names of the dictionary entries, as the entry tables of spec/ give them, each as the key of its home in
the dictionary store: index times 256 plus sub-index (R437). One namespace per area: `Ax` axis entries (A+), `Dr` doorway
(B+), `Lk` link (L+), `Sn` depth sensor, `Ct` contact object, `In` input, `Ou` output channel (q = 0–15 lamps, 16–23
coils), `Pg` pulse generator, `Et` Ethernet, `Cb` CAN, `Ns` NSL connection, `Ec` event counter, `An` anchor, `Gl` the rest.
-/
namespace Sys2Proof.Machine

/-- Key of an entry in the dictionary store. -/
def key (index sub : Nat) : Nat := 256 * index + sub

/-- Index of output channel q (R411). -/
def chanIndex (q : Nat) : Nat := if q < 16 then 0x4110 + q else 0x4210 + (q - 16)

namespace Gl
/-- 0x1018:01 VENDOR_ID (R6). -/
def VENDOR_ID : Nat := key 0x1018 1
/-- 0x1018:02 PRODUCT_CODE (R6). -/
def PRODUCT_CODE : Nat := key 0x1018 2
/-- 0x1018:03 REVISION (R6). -/
def REVISION : Nat := key 0x1018 3
/-- 0x1018:04 SERIAL (R6). -/
def SERIAL : Nat := key 0x1018 4
/-- 0x2000:01 DOORWAYS_PRESENT (R6). -/
def DOORWAYS_PRESENT : Nat := key 0x2000 1
/-- 0x2000:02 DOORWAYS_CONFIGURED (R6). -/
def DOORWAYS_CONFIGURED : Nat := key 0x2000 2
/-- 0x2000:03 AXES_PRESENT (R6). -/
def AXES_PRESENT : Nat := key 0x2000 3
/-- 0x2110:01 FAST_TICK_COUNT (R26). -/
def FAST_TICK_COUNT : Nat := key 0x2110 1
/-- 0x2110:02 FAST_TICK_SOURCE (R26). -/
def FAST_TICK_SOURCE : Nat := key 0x2110 2
/-- 0x2110:03 TICK_PHASE_ERROR (R26). -/
def TICK_PHASE_ERROR : Nat := key 0x2110 3
/-- 0x2110:04 TICK_PHASE_ERROR_MAX (R26). -/
def TICK_PHASE_ERROR_MAX : Nat := key 0x2110 4
/-- 0x2110:05 TICK_ALIGNED (R26). -/
def TICK_ALIGNED : Nat := key 0x2110 5
/-- 0x2400:01 TXN_IN_FLIGHT (R43). -/
def TXN_IN_FLIGHT : Nat := key 0x2400 1
/-- 0x2400:02 TXN_PEAK (R43). -/
def TXN_PEAK : Nat := key 0x2400 2
/-- 0x2400:03 C0_RESERVED (R43). -/
def C0_RESERVED : Nat := key 0x2400 3
/-- 0x2400:04 C1_RESERVED (R43). -/
def C1_RESERVED : Nat := key 0x2400 4
/-- 0x2400:05 C3_CAP (R43). -/
def C3_CAP : Nat := key 0x2400 5
/-- 0x2401:01 TXN_REFUSED_C0 (R43). -/
def TXN_REFUSED_C0 : Nat := key 0x2401 1
/-- 0x2401:02 TXN_REFUSED_C1 (R43). -/
def TXN_REFUSED_C1 : Nat := key 0x2401 2
/-- 0x2401:03 TXN_REFUSED_C2 (R43). -/
def TXN_REFUSED_C2 : Nat := key 0x2401 3
/-- 0x2401:04 TXN_REFUSED_C3 (R43). -/
def TXN_REFUSED_C3 : Nat := key 0x2401 4
/-- 0x2402:01 C0_LATENCY_MAX (R43). -/
def C0_LATENCY_MAX : Nat := key 0x2402 1
/-- 0x2402:02 C0_DEADLINE_MISSES (R43). -/
def C0_DEADLINE_MISSES : Nat := key 0x2402 2
/-- 0x2402:03 C1_LATENCY_MAX (R43). -/
def C1_LATENCY_MAX : Nat := key 0x2402 3
/-- 0x3800:10 DEPTH_WAIT_MAX (R43). -/
def DEPTH_WAIT_MAX : Nat := key 0x3800 16
/-- 0x3800:11 DEPTH_FRAMES_DROPPED (R43). -/
def DEPTH_FRAMES_DROPPED : Nat := key 0x3800 17
/-- 0x2010:01 CAR_COMMAND (R77). -/
def CAR_COMMAND : Nat := key 0x2010 1
/-- 0x2010:02 LEFT_RELEASED (R77). -/
def LEFT_RELEASED : Nat := key 0x2010 2
/-- 0x2010:03 RIGHT_RELEASED (R77). -/
def RIGHT_RELEASED : Nat := key 0x2010 3
/-- 0x2010:04 ZERO_SPEED (R77). -/
def ZERO_SPEED : Nat := key 0x2010 4
/-- 0x2010:05 LOOP_OK_MASK (R77). -/
def LOOP_OK_MASK : Nat := key 0x2010 5
/-- 0x2010:06 OPEN_MASK (R77). -/
def OPEN_MASK : Nat := key 0x2010 6
/-- 0x2010:07 OBSTRUCTED_MASK (R77). -/
def OBSTRUCTED_MASK : Nat := key 0x2010 7
/-- 0x2010:08 FAULT_MASK (R77). -/
def FAULT_MASK : Nat := key 0x2010 8
/-- 0x2120:01 DOOR_SUPPLY_BUDGET (R77). -/
def DOOR_SUPPLY_BUDGET : Nat := key 0x2120 1
/-- 0x2120:02 START_PEAK_TIME (R77). -/
def START_PEAK_TIME : Nat := key 0x2120 2
/-- 0x2120:03 START_MARGIN (R77). -/
def START_MARGIN : Nat := key 0x2120 3
/-- 0x2120:04 PREDICTED_SUM (R77). -/
def PREDICTED_SUM : Nat := key 0x2120 4
/-- 0x2120:05 PREDICTED_SUM_MAX (R77). -/
def PREDICTED_SUM_MAX : Nat := key 0x2120 5
/-- 0x5008:01–10 SET_DOORWAY_TYPE (R77). -/
def SET_DOORWAY_TYPE (i : Nat) : Nat := key 0x5008 (1 + i)
/-- 0x5009:01–10 SET_DOORWAY_SIDE (R77). -/
def SET_DOORWAY_SIDE (i : Nat) : Nat := key 0x5009 (1 + i)
/-- 0x5010:01 RELEASE_SOURCE (R77). -/
def RELEASE_SOURCE : Nat := key 0x5010 1
/-- 0x5010:02 ZERO_SPEED_SOURCE (R77). -/
def ZERO_SPEED_SOURCE : Nat := key 0x5010 2
/-- 0x3800:01 MANTIS_STATUS (R228). -/
def MANTIS_STATUS : Nat := key 0x3800 1
/-- 0x3800:02 LEARN_FREEZE (R228). -/
def LEARN_FREEZE : Nat := key 0x3800 2
/-- 0x3800:03 ENV_MIN_CYCLES (R228). -/
def ENV_MIN_CYCLES : Nat := key 0x3800 3
/-- 0x3800:04 LEARN_FLOOR (R228). -/
def LEARN_FLOOR : Nat := key 0x3800 4
/-- 0x3800:05 LEARN_HOLDOFF (R228). -/
def LEARN_HOLDOFF : Nat := key 0x3800 5
/-- 0x3800:06 BIN_REJECT_LIMIT (R228). -/
def BIN_REJECT_LIMIT : Nat := key 0x3800 6
/-- 0x3900:01 ENV_SELECT (R228). -/
def ENV_SELECT : Nat := key 0x3900 1
/-- 0x3900:02 ENV_DATA (R228). -/
def ENV_DATA : Nat := key 0x3900 2
/-- 0x3900:03 ENV_COMMAND (R228). -/
def ENV_COMMAND : Nat := key 0x3900 3
/-- 0x5020:01–30 FORCE_LIMIT (R233). -/
def FORCE_LIMIT (i : Nat) : Nat := key 0x5020 (1 + i)
/-- 0x5021:01–30 ENERGY_LIMIT (R233). -/
def ENERGY_LIMIT (i : Nat) : Nat := key 0x5021 (1 + i)
/-- 0x5022:01–30 EDGE_INPUT (R233). -/
def EDGE_INPUT (i : Nat) : Nat := key 0x5022 (1 + i)
/-- 0x5023:01–10 DEPTH_FAIL_ACTION (R233). -/
def DEPTH_FAIL_ACTION (i : Nat) : Nat := key 0x5023 (1 + i)
/-- 0x2010:09 ISOLATED_MASK (R261). -/
def ISOLATED_MASK : Nat := key 0x2010 9
/-- 0x2010:0A EMERGENCY_MASK (R261). -/
def EMERGENCY_MASK : Nat := key 0x2010 10
/-- 0x2011:01 CAB_PAYLOADS_OK (R261). -/
def CAB_PAYLOADS_OK : Nat := key 0x2011 1
/-- 0x2011:02 CAB_PAYLOAD_ERRORS (R261). -/
def CAB_PAYLOAD_ERRORS : Nat := key 0x2011 2
/-- 0x2011:03 CAB_COMMANDS_ACTED (R261). -/
def CAB_COMMANDS_ACTED : Nat := key 0x2011 3
/-- 0x2011:04 CAB_LAST_COUNT (R261). -/
def CAB_LAST_COUNT : Nat := key 0x2011 4
/-- 0x2011:05 RELEASE_SOURCES (R261). -/
def RELEASE_SOURCES : Nat := key 0x2011 5
/-- 0x2011:06 SUMMARIES_SENT (R261). -/
def SUMMARIES_SENT : Nat := key 0x2011 6
/-- 0x5100:01 SO_STATE (R261). -/
def SO_STATE : Nat := key 0x5100 1
/-- 0x5100:02 SO_TERMS_A (R261). -/
def SO_TERMS_A : Nat := key 0x5100 2
/-- 0x5100:03 SO_TERMS_B (R261). -/
def SO_TERMS_B : Nat := key 0x5100 3
/-- 0x5101:01 SAFE_LOCKED_MASK (R261). -/
def SAFE_LOCKED_MASK : Nat := key 0x5101 1
/-- 0x5101:02 SAFE_STEP_MASK (R261). -/
def SAFE_STEP_MASK : Nat := key 0x5101 2
/-- 0x5101:03 LOOP_VIEW_DISAGREEMENTS (R261). -/
def LOOP_VIEW_DISAGREEMENTS : Nat := key 0x5101 3
/-- 0x5011:01 LEFT_RELEASE_PAIR (R262). -/
def LEFT_RELEASE_PAIR : Nat := key 0x5011 1
/-- 0x5011:02 RIGHT_RELEASE_PAIR (R262). -/
def RIGHT_RELEASE_PAIR : Nat := key 0x5011 2
/-- 0x5011:03 ZERO_SPEED_PAIR (R262). -/
def ZERO_SPEED_PAIR : Nat := key 0x5011 3
/-- 0x5011:04 CAB_CONNECTION (R262). -/
def CAB_CONNECTION : Nat := key 0x5011 4
/-- 0x5011:05 SUMMARY_CONNECTION (R262). -/
def SUMMARY_CONNECTION : Nat := key 0x5011 5
/-- 0x5011:06 SO4_FUNCTION (R262). -/
def SO4_FUNCTION : Nat := key 0x5011 6
/-- 0x5011:07 SO5_FUNCTION (R262). -/
def SO5_FUNCTION : Nat := key 0x5011 7
/-- 0x5011:08 SO4_MASK (R262). -/
def SO4_MASK : Nat := key 0x5011 8
/-- 0x5011:09 SO5_MASK (R262). -/
def SO5_MASK : Nat := key 0x5011 9
/-- 0x5011:0A SUMMARY_PERIOD (R262). -/
def SUMMARY_PERIOD : Nat := key 0x5011 10
/-- 0x5000:01 CHECK_VALUE (R296). -/
def CHECK_VALUE : Nat := key 0x5000 1
/-- 0x5000:02 CHECK_VALUE_B (R296). -/
def CHECK_VALUE_B : Nat := key 0x5000 2
/-- 0x5000:03 SET_STATE (R296). -/
def SET_STATE : Nat := key 0x5000 3
/-- 0x5000:04 CONFIRMATIONS (R296). -/
def CONFIRMATIONS : Nat := key 0x5000 4
/-- 0x5000:05 CONFIRMED_AT (R296). -/
def CONFIRMED_AT : Nat := key 0x5000 5
/-- 0x5000:06 PARTNER_CHECK_VALUE (R296). -/
def PARTNER_CHECK_VALUE : Nat := key 0x5000 6
/-- 0x5001:01 CONFIRM (R296). -/
def CONFIRM : Nat := key 0x5001 1
/-- 0x5002:01 WRITE_ENABLE (R296). -/
def WRITE_ENABLE : Nat := key 0x5002 1
/-- 0x5024:01–30 SAFE_SPEED_LIMIT (R296). -/
def SAFE_SPEED_LIMIT (i : Nat) : Nat := key 0x5024 (1 + i)
/-- 0x5025:01–30 SF7_STOP_TIME (R296). -/
def SF7_STOP_TIME (i : Nat) : Nat := key 0x5025 (1 + i)
/-- 0x5102:01 SAFE_STATE_CAUSE (R297). -/
def SAFE_STATE_CAUSE : Nat := key 0x5102 1
/-- 0x5102:02 CHANNEL_DISCREPANCIES (R297). -/
def CHANNEL_DISCREPANCIES : Nat := key 0x5102 2
/-- 0x5102:03 PULSES_INCONCLUSIVE (R297). -/
def PULSES_INCONCLUSIVE : Nat := key 0x5102 3
/-- 0x5102:04 SO_FAULT_CLEAR (R297). -/
def SO_FAULT_CLEAR : Nat := key 0x5102 4
/-- 0x5102:05 STO_UNCONFIRMED_MASK (R297). -/
def STO_UNCONFIRMED_MASK : Nat := key 0x5102 5
/-- 0x5103:01–06 SO_STATUS (R297). -/
def SO_STATUS (i : Nat) : Nat := key 0x5103 (1 + i)
/-- 0x5104:01 PROOF_TEST_INTERVAL (R297). -/
def PROOF_TEST_INTERVAL : Nat := key 0x5104 1
/-- 0x5104:02 PROOF_TEST_DONE (R297). -/
def PROOF_TEST_DONE : Nat := key 0x5104 2
/-- 0x5104:03 LAST_PROOF_TEST (R297). -/
def LAST_PROOF_TEST : Nat := key 0x5104 3
/-- 0x5104:04 PROOF_TEST_DUE (R297). -/
def PROOF_TEST_DUE : Nat := key 0x5104 4
/-- 0x5280:01 NSL_COUNTERS_CLEAR (R318). -/
def NSL_COUNTERS_CLEAR : Nat := key 0x5280 1
/-- 0x5280:02 UNKNOWN_IDENTITY (R318). -/
def UNKNOWN_IDENTITY : Nat := key 0x5280 2
/-- 0x5280:03 ERROR_BUDGET_SIZE (R318). -/
def ERROR_BUDGET_SIZE : Nat := key 0x5280 3
/-- 0x5280:04 ERROR_REFILL_TIME (R318). -/
def ERROR_REFILL_TIME : Nat := key 0x5280 4
/-- 0x2600:01 DUPLEX_CONFIG (R353). -/
def DUPLEX_CONFIG : Nat := key 0x2600 1
/-- 0x2600:02 ROLE (R353). -/
def ROLE : Nat := key 0x2600 2
/-- 0x2600:03 DUPLEX_MODE (R353). -/
def DUPLEX_MODE : Nat := key 0x2600 3
/-- 0x2600:04 HOLDER (R353). -/
def HOLDER : Nat := key 0x2600 4
/-- 0x2600:05 PARTNER_STATE (R353). -/
def PARTNER_STATE : Nat := key 0x2600 5
/-- 0x2600:06 PARTNER_LOST_CAUSE (R353). -/
def PARTNER_LOST_CAUSE : Nat := key 0x2600 6
/-- 0x2600:07 STAG_COMMAND (R353). -/
def STAG_COMMAND : Nat := key 0x2600 7
/-- 0x2600:08 DUPLEX_STATUS (R353). -/
def DUPLEX_STATUS : Nat := key 0x2600 8
/-- 0x2600:09 SHADOW_SYNC_MASK (R353). -/
def SHADOW_SYNC_MASK : Nat := key 0x2600 9
/-- 0x2600:0A TAKEOVERS (R353). -/
def TAKEOVERS : Nat := key 0x2600 10
/-- 0x2600:0B LAST_TAKEOVER_GAP (R353). -/
def LAST_TAKEOVER_GAP : Nat := key 0x2600 11
/-- 0x2600:0C TAKEOVER_KINDS (R353). -/
def TAKEOVER_KINDS : Nat := key 0x2600 12
/-- 0x2600:0D PARTNER_SERIAL (R353). -/
def PARTNER_SERIAL : Nat := key 0x2600 13
/-- 0x2600:0E PARTNER_REVISION (R353). -/
def PARTNER_REVISION : Nat := key 0x2600 14
/-- 0x2600:0F MIRROR_TIMEOUT (R353). -/
def MIRROR_TIMEOUT : Nat := key 0x2600 15
/-- 0x2600:10 CONFIG_GENERATION (R353). -/
def CONFIG_GENERATION : Nat := key 0x2600 16
/-- 0x2600:11 CONFIG_DIGEST (R353). -/
def CONFIG_DIGEST : Nat := key 0x2600 17
/-- 0x2600:12 PARTNER_CONFIG_DIGEST (R353). -/
def PARTNER_CONFIG_DIGEST : Nat := key 0x2600 18
/-- 0x2600:13 SYNC_ITEMS_PENDING (R353). -/
def SYNC_ITEMS_PENDING : Nat := key 0x2600 19
/-- 0x2601:01 PL_FRAMES_OK (R355). -/
def PL_FRAMES_OK : Nat := key 0x2601 1
/-- 0x2601:02 PL_CRC_ERRORS (R355). -/
def PL_CRC_ERRORS : Nat := key 0x2601 2
/-- 0x2601:03 HEARTBEAT_LOSSES (R355). -/
def HEARTBEAT_LOSSES : Nat := key 0x2601 3
/-- 0x2601:04 SHADOW_MISMATCHES (R355). -/
def SHADOW_MISMATCHES : Nat := key 0x2601 4
/-- 0x2601:05 MIRROR_RETRIES (R355). -/
def MIRROR_RETRIES : Nat := key 0x2601 5
/-- 0x2601:06 MIRROR_SUPERSEDED (R355). -/
def MIRROR_SUPERSEDED : Nat := key 0x2601 6
/-- 0x2601:07 MIRROR_DISCARDS (R355). -/
def MIRROR_DISCARDS : Nat := key 0x2601 7
/-- 0x2601:08 STAG_CLAIMS (R355). -/
def STAG_CLAIMS : Nat := key 0x2601 8
/-- 0x2601:09 STAG_COLLISIONS (R355). -/
def STAG_COLLISIONS : Nat := key 0x2601 9
/-- 0x2601:0A PL_COUNTERS_CLEAR (R355). -/
def PL_COUNTERS_CLEAR : Nat := key 0x2601 10
/-- 0x2602:01–04 DUPLEX_REPEATS (R355). -/
def DUPLEX_REPEATS (i : Nat) : Nat := key 0x2602 (1 + i)
/-- 0x4000:01 INPUT_STATE (R378). -/
def INPUT_STATE : Nat := key 0x4000 1
/-- 0x4000:02 WIRE_BREAK_MASK (R378). -/
def WIRE_BREAK_MASK : Nat := key 0x4000 2
/-- 0x4000:03 WIRE_BREAK_SEEN (R378). -/
def WIRE_BREAK_SEEN : Nat := key 0x4000 3
/-- 0x4000:04 PAIR_STATE (R378). -/
def PAIR_STATE : Nat := key 0x4000 4
/-- 0x4000:05 PAIR_DISCREPANCY_MASK (R378). -/
def PAIR_DISCREPANCY_MASK : Nat := key 0x4000 5
/-- 0x4000:06 PAIR_DISCREPANCIES (R378). -/
def PAIR_DISCREPANCIES : Nat := key 0x4000 6
/-- 0x4001:01 VFIELD_A (R378). -/
def VFIELD_A : Nat := key 0x4001 1
/-- 0x4001:02 VFIELD_B (R378). -/
def VFIELD_B : Nat := key 0x4001 2
/-- 0x4001:03 FIELD_STATUS (R378). -/
def FIELD_STATUS : Nat := key 0x4001 3
/-- 0x4001:04–07 FIELD_REPEATS (R378). -/
def FIELD_REPEATS (i : Nat) : Nat := key 0x4001 (4 + i)
/-- 0x4002:01 LINE_REF_CURRENT_A (R378). -/
def LINE_REF_CURRENT_A : Nat := key 0x4002 1
/-- 0x4002:02 LINE_REF_CURRENT_B (R378). -/
def LINE_REF_CURRENT_B : Nat := key 0x4002 2
/-- 0x4040:01–08 STEP_DIR_INPUTS (R378). -/
def STEP_DIR_INPUTS (i : Nat) : Nat := key 0x4040 (1 + i)
/-- 0x5014:01–18 PAIR_MODE (R380). -/
def PAIR_MODE (i : Nat) : Nat := key 0x5014 (1 + i)
/-- 0x5015:01–18 PAIR_FILTER (R380). -/
def PAIR_FILTER (i : Nat) : Nat := key 0x5015 (1 + i)
/-- 0x5016:01–18 PAIR_DISCREPANCY_TIME (R380). -/
def PAIR_DISCREPANCY_TIME (i : Nat) : Nat := key 0x5016 (1 + i)
/-- 0x5017:01–18 PAIR_CLASS (R380). -/
def PAIR_CLASS (i : Nat) : Nat := key 0x5017 (1 + i)
/-- 0x5018:01 LINE_REF_A (R380). -/
def LINE_REF_A : Nat := key 0x5018 1
/-- 0x5018:02 LINE_REF_B (R380). -/
def LINE_REF_B : Nat := key 0x5018 2
/-- 0x5019:01–18 PAIR_WIRE_BREAK (R380). -/
def PAIR_WIRE_BREAK (i : Nat) : Nat := key 0x5019 (1 + i)
/-- 0x4100:01 LAMP_FAILED_MASK (R413). -/
def LAMP_FAILED_MASK : Nat := key 0x4100 1
/-- 0x4200:01 COIL_FAULT_MASK (R413). -/
def COIL_FAULT_MASK : Nat := key 0x4200 1
/-- 0x4310:01 DISSIPATION_LIMIT (R413). -/
def DISSIPATION_LIMIT : Nat := key 0x4310 1
/-- 0x4310:02 DISSIPATION_ESTIMATE (R413). -/
def DISSIPATION_ESTIMATE : Nat := key 0x4310 2
/-- 0x4310:03 DISSIPATION_PEAK (R413). -/
def DISSIPATION_PEAK : Nat := key 0x4310 3
/-- 0x4310:04 DISSIPATION_TRIPS (R413). -/
def DISSIPATION_TRIPS : Nat := key 0x4310 4
/-- 0x4310:05 OVER_LIMIT_TIME (R413). -/
def OVER_LIMIT_TIME : Nat := key 0x4310 5
/-- 0x4320:01 FIELD_WD_TIMEOUT (R413). -/
def FIELD_WD_TIMEOUT : Nat := key 0x4320 1
/-- 0x4320:02 FIELD_WD_EXPIRIES_A (R413). -/
def FIELD_WD_EXPIRIES_A : Nat := key 0x4320 2
/-- 0x4320:03 FIELD_WD_EXPIRIES_B (R413). -/
def FIELD_WD_EXPIRIES_B : Nat := key 0x4320 3
/-- 0x1000:00 DEVICE_TYPE (R440). -/
def DEVICE_TYPE : Nat := key 0x1000 0
/-- 0x1001:00 ERROR_REGISTER (R440). -/
def ERROR_REGISTER : Nat := key 0x1001 0
/-- 0x1005:00 COB_ID_SYNC (R440). -/
def COB_ID_SYNC : Nat := key 0x1005 0
/-- 0x1006:00 SYNC_PERIOD (R440). -/
def SYNC_PERIOD : Nat := key 0x1006 0
/-- 0x1008:00 DEVICE_NAME (R440). -/
def DEVICE_NAME : Nat := key 0x1008 0
/-- 0x1010:01 STORE_PARAMETERS (R440). -/
def STORE_PARAMETERS : Nat := key 0x1010 1
/-- 0x1011:01 RESTORE_DEFAULTS (R440). -/
def RESTORE_DEFAULTS : Nat := key 0x1011 1
/-- 0x1011:02 RESTORE_SAFETY_DEFAULTS (R440). -/
def RESTORE_SAFETY_DEFAULTS : Nat := key 0x1011 2
/-- 0x1014:00 COB_ID_EMCY (R440). -/
def COB_ID_EMCY : Nat := key 0x1014 0
/-- 0x1015:00 INHIBIT_EMCY (R440). -/
def INHIBIT_EMCY : Nat := key 0x1015 0
/-- 0x1016:01–04 CONSUMER_HEARTBEAT (R440). -/
def CONSUMER_HEARTBEAT (i : Nat) : Nat := key 0x1016 (1 + i)
/-- 0x1017:00 PRODUCER_HEARTBEAT (R440). -/
def PRODUCER_HEARTBEAT : Nat := key 0x1017 0
/-- 0x1200:01–02 SDO_COB_IDS (R440). -/
def SDO_COB_IDS (i : Nat) : Nat := key 0x1200 (1 + i)
/-- 0x2400:06 NODE_ID (R441). -/
def NODE_ID : Nat := key 0x2400 6
/-- 0x2400:07 NODE_ID_SET (R441). -/
def NODE_ID_SET : Nat := key 0x2400 7
/-- 0x2400:08 AUTO_OPERATIONAL (R441). -/
def AUTO_OPERATIONAL : Nat := key 0x2400 8
/-- 0x2430:01 EVENT_CLASS_MAX (R441). -/
def EVENT_CLASS_MAX : Nat := key 0x2430 1
/-- 0x2430:02 DM_FORMAT_ERRORS (R441). -/
def DM_FORMAT_ERRORS : Nat := key 0x2430 2
/-- 0x2430:03 DM_RETRIES_ANSWERED (R441). -/
def DM_RETRIES_ANSWERED : Nat := key 0x2430 3
/-- 0x2430:04 SEGMENTED_WRITES_DISCARDED (R441). -/
def SEGMENTED_WRITES_DISCARDED : Nat := key 0x2430 4
/-- 0x2430:05 AUTH_FAILURES (R441). -/
def AUTH_FAILURES : Nat := key 0x2430 5
/-- 0x2430:06 SESSIONS_OPEN (R441). -/
def SESSIONS_OPEN : Nat := key 0x2430 6
/-- 0x2430:07 NET_COUNTERS_CLEAR (R441). -/
def NET_COUNTERS_CLEAR : Nat := key 0x2430 7
/-- 0x6000:01 CURSOR (R469). -/
def CURSOR : Nat := key 0x6000 1
/-- 0x6000:02 WINDOW (R469). -/
def WINDOW : Nat := key 0x6000 2
/-- 0x6000:03 CHANGE_SEQ (R469). -/
def CHANGE_SEQ : Nat := key 0x6000 3
/-- 0x6000:04 AREA (R469). -/
def AREA : Nat := key 0x6000 4
/-- 0x6000:05 BULK_COUNT (R469). -/
def BULK_COUNT : Nat := key 0x6000 5
/-- 0x6000:06 BULK_REMAINING (R469). -/
def BULK_REMAINING : Nat := key 0x6000 6
/-- 0x6000:07 BULK_DATA (R469). -/
def BULK_DATA : Nat := key 0x6000 7
/-- 0x6000:08 COMMIT_SEQ (R469). -/
def COMMIT_SEQ : Nat := key 0x6000 8
/-- 0x6001:01 OPERATING_SECONDS (R469). -/
def OPERATING_SECONDS : Nat := key 0x6001 1
/-- 0x6001:02 POWER_CYCLES (R469). -/
def POWER_CYCLES : Nat := key 0x6001 2
/-- 0x6001:03 WAKE_COUNT (R469). -/
def WAKE_COUNT : Nat := key 0x6001 3
/-- 0x6002:01 CLEAR (R469). -/
def CLEAR : Nat := key 0x6002 1
/-- 0x6002:02 CLEARS (R469). -/
def CLEARS : Nat := key 0x6002 2
/-- 0x6002:03 LAST_CLEAR_SECONDS (R469). -/
def LAST_CLEAR_SECONDS : Nat := key 0x6002 3
/-- 0x6003:01 INTAKE_LOST (R469). -/
def INTAKE_LOST : Nat := key 0x6003 1
/-- 0x6003:02 SAMPLES_LOST (R469). -/
def SAMPLES_LOST : Nat := key 0x6003 2
/-- 0x6003:03 RECORDS_CORRUPTED (R469). -/
def RECORDS_CORRUPTED : Nat := key 0x6003 3
/-- 0x6003:04 LOG_REFUSED (R469). -/
def LOG_REFUSED : Nat := key 0x6003 4
/-- 0x6003:05 FIRST_LOG_COUNT (R469). -/
def FIRST_LOG_COUNT : Nat := key 0x6003 5
/-- 0x6003:06 RECORDER_STATUS (R469). -/
def RECORDER_STATUS : Nat := key 0x6003 6
/-- 0x6003:07–0A RECORDER_REPEATS (R469). -/
def RECORDER_REPEATS (i : Nat) : Nat := key 0x6003 (7 + i)
/-- 0x6004:01–04 BUCKET_RATE (R469). -/
def BUCKET_RATE (i : Nat) : Nat := key 0x6004 (1 + i)
/-- 0x6004:05–08 BUCKET_BURST (R469). -/
def BUCKET_BURST (i : Nat) : Nat := key 0x6004 (5 + i)
/-- 0x6005:01–08 DOOR_HIST_LOW (R469). -/
def DOOR_HIST_LOW (i : Nat) : Nat := key 0x6005 (1 + i)
/-- 0x6006:01–08 DOOR_HIST_WIDTH (R469). -/
def DOOR_HIST_WIDTH (i : Nat) : Nat := key 0x6006 (1 + i)
/-- 0x6007:01–04 AXIS_HIST_LOW (R469). -/
def AXIS_HIST_LOW (i : Nat) : Nat := key 0x6007 (1 + i)
/-- 0x6008:01–04 AXIS_HIST_WIDTH (R469). -/
def AXIS_HIST_WIDTH (i : Nat) : Nat := key 0x6008 (1 + i)
/-- 0x6009:01–07 DEVICE_HIST_LOW (R469). -/
def DEVICE_HIST_LOW (i : Nat) : Nat := key 0x6009 (1 + i)
/-- 0x600A:01–07 DEVICE_HIST_WIDTH (R469). -/
def DEVICE_HIST_WIDTH (i : Nat) : Nat := key 0x600A (1 + i)
/-- 0x2100:01 POWER_STATE (R499). -/
def POWER_STATE : Nat := key 0x2100 1
/-- 0x2100:02 POWER_COMMAND (R499). -/
def POWER_COMMAND : Nat := key 0x2100 2
/-- 0x2100:03 SLEEP_STATUS (R499). -/
def SLEEP_STATUS : Nat := key 0x2100 3
/-- 0x2100:04 WAKE_ENABLE (R499). -/
def WAKE_ENABLE : Nat := key 0x2100 4
/-- 0x2100:05 WAKE_IN_EDGE (R499). -/
def WAKE_IN_EDGE : Nat := key 0x2100 5
/-- 0x2100:06 LAST_WAKE_SOURCE (R499). -/
def LAST_WAKE_SOURCE : Nat := key 0x2100 6
/-- 0x2100:07 WAKE_TIME_LAST (R499). -/
def WAKE_TIME_LAST : Nat := key 0x2100 7
/-- 0x2100:08 WAKE_FAIL_CAUSE (R499). -/
def WAKE_FAIL_CAUSE : Nat := key 0x2100 8
/-- 0x2100:09 FAILED_WAKES (R499). -/
def FAILED_WAKES : Nat := key 0x2100 9
/-- 0x2100:0A POWER_STATUS (R499). -/
def POWER_STATUS : Nat := key 0x2100 10
/-- 0x2100:0B–0E POWER_REPEATS (R499). -/
def POWER_REPEATS (i : Nat) : Nat := key 0x2100 (11 + i)
/-- 0x2101:01 VDD_AON (R499). -/
def VDD_AON : Nat := key 0x2101 1
/-- 0x2101:02 VDD_IO (R499). -/
def VDD_IO : Nat := key 0x2101 2
/-- 0x2101:03 VDDA (R499). -/
def VDDA : Nat := key 0x2101 3
/-- 0x2101:04 VDD_CORE (R499). -/
def VDD_CORE : Nat := key 0x2101 4
/-- 0x2101:05 VDD_CORE_TARGET (R499). -/
def VDD_CORE_TARGET : Nat := key 0x2101 5
/-- 0x2101:06 VID_CODE (R499). -/
def VID_CODE : Nat := key 0x2101 6
/-- 0x2101:07 LOGIC_TEMP (R499). -/
def LOGIC_TEMP : Nat := key 0x2101 7
/-- 0x2101:08 FIELD_A_TEMP (R499). -/
def FIELD_A_TEMP : Nat := key 0x2101 8
/-- 0x2101:09 FIELD_B_TEMP (R499). -/
def FIELD_B_TEMP : Nat := key 0x2101 9
/-- 0x2102:01 DOMAINS_ON (R499). -/
def DOMAINS_ON : Nat := key 0x2102 1
/-- 0x2102:02 DOMAIN_WAKES (R499). -/
def DOMAIN_WAKES : Nat := key 0x2102 2
/-- 0x2102:03 DOMAIN_STALL_MAX (R499). -/
def DOMAIN_STALL_MAX : Nat := key 0x2102 3
/-- 0x2102:04 DOMAINS_NOT_READY (R499). -/
def DOMAINS_NOT_READY : Nat := key 0x2102 4
/-- 0x2103:01 RTC_TIME (R499). -/
def RTC_TIME : Nat := key 0x2103 1
/-- 0x2103:02 RTC_ALARM (R499). -/
def RTC_ALARM : Nat := key 0x2103 2
/-- 0x2103:03 RTC_TRIM (R499). -/
def RTC_TRIM : Nat := key 0x2103 3
/-- 0x2104:01 WAKE_ADDRESS (R499). -/
def WAKE_ADDRESS : Nat := key 0x2104 1
/-- 0x2104:02 WAKE_ADDRESS_SET (R499). -/
def WAKE_ADDRESS_SET : Nat := key 0x2104 2
/-- 0x2104:03 CICADA_WAKES (R499). -/
def CICADA_WAKES : Nat := key 0x2104 3
/-- 0x2104:04 CICADA_REJECTED (R499). -/
def CICADA_REJECTED : Nat := key 0x2104 4
/-- 0x2200:01 APP_ACTIVE_SLOT (R521). -/
def APP_ACTIVE_SLOT : Nat := key 0x2200 1
/-- 0x2200:02 SAFETY_ACTIVE_SLOT (R521). -/
def SAFETY_ACTIVE_SLOT : Nat := key 0x2200 2
/-- 0x2200:03 BOOT_STATE (R521). -/
def BOOT_STATE : Nat := key 0x2200 3
/-- 0x2201:01 FW_TARGET (R521). -/
def FW_TARGET : Nat := key 0x2201 1
/-- 0x2201:02 FW_IMAGE (R521). -/
def FW_IMAGE : Nat := key 0x2201 2
/-- 0x2201:03 FW_RESULT (R521). -/
def FW_RESULT : Nat := key 0x2201 3
/-- 0x2201:04 FW_ACTIVATE (R521). -/
def FW_ACTIVATE : Nat := key 0x2201 4
/-- 0x2201:05 FW_CONFIRM (R521). -/
def FW_CONFIRM : Nat := key 0x2201 5
/-- 0x2202:01–04 SLOT_REVISION (R521). -/
def SLOT_REVISION (i : Nat) : Nat := key 0x2202 (1 + i)
/-- 0x2202:05–08 SLOT_SECURITY_VERSION (R521). -/
def SLOT_SECURITY_VERSION (i : Nat) : Nat := key 0x2202 (5 + i)
/-- 0x2202:09–0C SLOT_STATE (R521). -/
def SLOT_STATE (i : Nat) : Nat := key 0x2202 (9 + i)
/-- 0x2203:01 ROLLBACK_COUNTER (R521). -/
def ROLLBACK_COUNTER : Nat := key 0x2203 1
/-- 0x2203:02 ROLLBACK_FUSES (R521). -/
def ROLLBACK_FUSES : Nat := key 0x2203 2
/-- 0x2300:01 SECURITY_STATE (R521). -/
def SECURITY_STATE : Nat := key 0x2300 1
/-- 0x2300:02 DEBUG_LEVEL (R521). -/
def DEBUG_LEVEL : Nat := key 0x2300 2
/-- 0x2300:03 DEBUG_UNLOCK (R521). -/
def DEBUG_UNLOCK : Nat := key 0x2300 3
/-- 0x2300:04 DEBUG_UNLOCKS (R521). -/
def DEBUG_UNLOCKS : Nat := key 0x2300 4
/-- 0x2300:05 SECURITY_STATUS (R521). -/
def SECURITY_STATUS : Nat := key 0x2300 5
/-- 0x2300:06–07 SECURITY_REPEATS (R521). -/
def SECURITY_REPEATS (i : Nat) : Nat := key 0x2300 (6 + i)
/-- 0x2301:01 DEVICE_CERTIFICATE (R521). -/
def DEVICE_CERTIFICATE : Nat := key 0x2301 1
/-- 0x2301:02 DEVICE_PUBLIC_KEY (R521). -/
def DEVICE_PUBLIC_KEY : Nat := key 0x2301 2
/-- 0x2318:01 ANCHOR_INSTALL (R521). -/
def ANCHOR_INSTALL : Nat := key 0x2318 1
/-- 0x2319:01 COSIGN_KEY (R521). -/
def COSIGN_KEY : Nat := key 0x2319 1
/-- 0x2319:02 COSIGN_POLICY (R521). -/
def COSIGN_POLICY : Nat := key 0x2319 2
/-- 0x2320:01 SESSION_CREDENTIAL (R521). -/
def SESSION_CREDENTIAL : Nat := key 0x2320 1
/-- 0x2320:02 SESSION_REQUEST (R521). -/
def SESSION_REQUEST : Nat := key 0x2320 2
/-- 0x2320:03 SESSION_CHALLENGE (R521). -/
def SESSION_CHALLENGE : Nat := key 0x2320 3
/-- 0x2320:04 SESSION_PROOF (R521). -/
def SESSION_PROOF : Nat := key 0x2320 4
/-- 0x2320:05 SESSION_CLOSE (R521). -/
def SESSION_CLOSE : Nat := key 0x2320 5
/-- 0x2330:01 ATTEST_NONCE (R521). -/
def ATTEST_NONCE : Nat := key 0x2330 1
/-- 0x2330:02 ATTEST_REPORT (R521). -/
def ATTEST_REPORT : Nat := key 0x2330 2
/-- 0x2340:01 RMA_COMMAND (R521). -/
def RMA_COMMAND : Nat := key 0x2340 1
/-- 0x2001:01 STRAPS (R536). -/
def STRAPS : Nat := key 0x2001 1
/-- 0x2001:02 WADDR (R536). -/
def WADDR : Nat := key 0x2001 2
/-- 0x2001:03 STRAP_SAMPLED_BY (R536). -/
def STRAP_SAMPLED_BY : Nat := key 0x2001 3
/-- 0x2204:01 RESET_CAUSE (R536). -/
def RESET_CAUSE : Nat := key 0x2204 1
/-- 0x2204:02 RESETS (R536). -/
def RESETS : Nat := key 0x2204 2
/-- 0x2204:03 BOOT_MODE (R536). -/
def BOOT_MODE : Nat := key 0x2204 3
/-- 0x2204:04 BOOT_TIME_DICT (R536). -/
def BOOT_TIME_DICT : Nat := key 0x2204 4
/-- 0x2204:05 BOOT_TIME_DOORS (R536). -/
def BOOT_TIME_DOORS : Nat := key 0x2204 5
/-- 0x2204:06 DEVICE_RESET (R536). -/
def DEVICE_RESET : Nat := key 0x2204 6
/-- 0x2204:07 WATCHDOG_RESETS (R536). -/
def WATCHDOG_RESETS : Nat := key 0x2204 7
/-- 0x2204:08 NFAULT_CAUSES (R536). -/
def NFAULT_CAUSES : Nat := key 0x2204 8
end Gl

namespace Dr
/-- B+0x00:01 DOORWAY_TYPE (R76). -/
def DOORWAY_TYPE (d : Nat) : Nat := key (0x3000 + 0x40 * d) 1
/-- B+0x00:02 DOORWAY_SIDE (R76). -/
def DOORWAY_SIDE (d : Nat) : Nat := key (0x3000 + 0x40 * d) 2
/-- B+0x00:03 PRIORITY (R76). -/
def PRIORITY (d : Nat) : Nat := key (0x3000 + 0x40 * d) 3
/-- B+0x00:04 STEP_SEQUENCE (R76). -/
def STEP_SEQUENCE (d : Nat) : Nat := key (0x3000 + 0x40 * d) 4
/-- B+0x00:05 REQUEST_MODE (R76). -/
def REQUEST_MODE (d : Nat) : Nat := key (0x3000 + 0x40 * d) 5
/-- B+0x00:06 LOCK_TYPE (R76). -/
def LOCK_TYPE (d : Nat) : Nat := key (0x3000 + 0x40 * d) 6
/-- B+0x00:07 LOCK_OUTPUT (R76). -/
def LOCK_OUTPUT (d : Nat) : Nat := key (0x3000 + 0x40 * d) 7
/-- B+0x00:08 REQUEST_INPUT_INSIDE (R76). -/
def REQUEST_INPUT_INSIDE (d : Nat) : Nat := key (0x3000 + 0x40 * d) 8
/-- B+0x00:09 REQUEST_INPUT_OUTSIDE (R76). -/
def REQUEST_INPUT_OUTSIDE (d : Nat) : Nat := key (0x3000 + 0x40 * d) 9
/-- B+0x00:0A CLOSE_ON_RELEASE_LOSS (R76). -/
def CLOSE_ON_RELEASE_LOSS (d : Nat) : Nat := key (0x3000 + 0x40 * d) 10
/-- B+0x01:01 COMMAND (R76). -/
def COMMAND (d : Nat) : Nat := key (0x3001 + 0x40 * d) 1
/-- B+0x01:02 STATE (R76). -/
def STATE (d : Nat) : Nat := key (0x3001 + 0x40 * d) 2
/-- B+0x01:03 STATUS (R76). -/
def STATUS (d : Nat) : Nat := key (0x3001 + 0x40 * d) 3
/-- B+0x01:04 FAULT_CAUSE (R76). -/
def FAULT_CAUSE (d : Nat) : Nat := key (0x3001 + 0x40 * d) 4
/-- B+0x01:05 COMMANDS_REFUSED (R76). -/
def COMMANDS_REFUSED (d : Nat) : Nat := key (0x3001 + 0x40 * d) 5
/-- B+0x02:01 WARNING_TIME (R76). -/
def WARNING_TIME (d : Nat) : Nat := key (0x3002 + 0x40 * d) 1
/-- B+0x02:02 UNLOCK_TIMEOUT (R76). -/
def UNLOCK_TIMEOUT (d : Nat) : Nat := key (0x3002 + 0x40 * d) 2
/-- B+0x02:03 LOCK_TIMEOUT (R76). -/
def LOCK_TIMEOUT (d : Nat) : Nat := key (0x3002 + 0x40 * d) 3
/-- B+0x02:04 STEP_TIMEOUT (R76). -/
def STEP_TIMEOUT (d : Nat) : Nat := key (0x3002 + 0x40 * d) 4
/-- B+0x02:05 AUTO_CLOSE_TIME (R76). -/
def AUTO_CLOSE_TIME (d : Nat) : Nat := key (0x3002 + 0x40 * d) 5
/-- B+0x02:06 REOPEN_WINDOW (R76). -/
def REOPEN_WINDOW (d : Nat) : Nat := key (0x3002 + 0x40 * d) 6
/-- B+0x02:07 PRESELECT_TIME (R76). -/
def PRESELECT_TIME (d : Nat) : Nat := key (0x3002 + 0x40 * d) 7
/-- B+0x02:08 UNLOCK_STROKE (R76). -/
def UNLOCK_STROKE (d : Nat) : Nat := key (0x3002 + 0x40 * d) 8
/-- B+0x03:01 START_PEAK_OPEN (R76). -/
def START_PEAK_OPEN (d : Nat) : Nat := key (0x3003 + 0x40 * d) 1
/-- B+0x03:02 START_PEAK_CLOSE (R76). -/
def START_PEAK_CLOSE (d : Nat) : Nat := key (0x3003 + 0x40 * d) 2
/-- B+0x03:03 START_PEAK_DEFAULT (R76). -/
def START_PEAK_DEFAULT (d : Nat) : Nat := key (0x3003 + 0x40 * d) 3
/-- B+0x03:04 START_WAIT_LAST (R76). -/
def START_WAIT_LAST (d : Nat) : Nat := key (0x3003 + 0x40 * d) 4
/-- B+0x03:05 STARTS_FORCED (R76). -/
def STARTS_FORCED (d : Nat) : Nat := key (0x3003 + 0x40 * d) 5
/-- B+0x03:06 RUN_CURRENT (R76). -/
def RUN_CURRENT (d : Nat) : Nat := key (0x3003 + 0x40 * d) 6
/-- B+0x04:01 LEARN_COMMAND (R117). -/
def LEARN_COMMAND (d : Nat) : Nat := key (0x3004 + 0x40 * d) 1
/-- B+0x04:02 LEARN_STATE (R117). -/
def LEARN_STATE (d : Nat) : Nat := key (0x3004 + 0x40 * d) 2
/-- B+0x04:03 LEARN_SPEED (R117). -/
def LEARN_SPEED (d : Nat) : Nat := key (0x3004 + 0x40 * d) 3
/-- B+0x04:04 LEARN_STOP_FORCE (R117). -/
def LEARN_STOP_FORCE (d : Nat) : Nat := key (0x3004 + 0x40 * d) 4
/-- B+0x05:01 PATH_S (R117). -/
def PATH_S (d : Nat) : Nat := key (0x3005 + 0x40 * d) 1
/-- B+0x05:02 MOVE_TIME_LAST (R117). -/
def MOVE_TIME_LAST (d : Nat) : Nat := key (0x3005 + 0x40 * d) 2
/-- B+0x05:03 STOP_RAMPS_SHORTENED (R117). -/
def STOP_RAMPS_SHORTENED (d : Nat) : Nat := key (0x3005 + 0x40 * d) 3
/-- B+0x06:01 TABLE_FORM (R150). -/
def TABLE_FORM (d : Nat) : Nat := key (0x3006 + 0x40 * d) 1
/-- B+0x06:02 TABLE_CUSTOM (R150). -/
def TABLE_CUSTOM (d : Nat) : Nat := key (0x3006 + 0x40 * d) 2
/-- B+0x06:03 TABLE_CRC (R150). -/
def TABLE_CRC (d : Nat) : Nat := key (0x3006 + 0x40 * d) 3
/-- B+0x06:04 TABLE_STATE (R150). -/
def TABLE_STATE (d : Nat) : Nat := key (0x3006 + 0x40 * d) 4
/-- B+0x07:01 REOPEN_MODE (R230). -/
def REOPEN_MODE (d : Nat) : Nat := key (0x3007 + 0x40 * d) 1
/-- B+0x07:02 REOPEN_DISTANCE (R230). -/
def REOPEN_DISTANCE (d : Nat) : Nat := key (0x3007 + 0x40 * d) 2
/-- B+0x07:03 DWELL_TIME (R230). -/
def DWELL_TIME (d : Nat) : Nat := key (0x3007 + 0x40 * d) 3
/-- B+0x07:04 RETRIES (R230). -/
def RETRIES (d : Nat) : Nat := key (0x3007 + 0x40 * d) 4
/-- B+0x07:05 FINAL_CLOSE_MODE (R230). -/
def FINAL_CLOSE_MODE (d : Nat) : Nat := key (0x3007 + 0x40 * d) 5
/-- B+0x07:06 OPEN_DWELL (R230). -/
def OPEN_DWELL (d : Nat) : Nat := key (0x3007 + 0x40 * d) 6
/-- B+0x07:07 OPEN_RETRIES (R230). -/
def OPEN_RETRIES (d : Nat) : Nat := key (0x3007 + 0x40 * d) 7
/-- B+0x07:08 RELIEF_DISTANCE (R230). -/
def RELIEF_DISTANCE (d : Nat) : Nat := key (0x3007 + 0x40 * d) 8
/-- B+0x07:09 FINAL_FORCE (R230). -/
def FINAL_FORCE (d : Nat) : Nat := key (0x3007 + 0x40 * d) 9
/-- B+0x07:0A DEPTH_MUTE_GAP (R230). -/
def DEPTH_MUTE_GAP (d : Nat) : Nat := key (0x3007 + 0x40 * d) 10
/-- B+0x07:0B DEPTH_HOLD_MAX (R230). -/
def DEPTH_HOLD_MAX (d : Nat) : Nat := key (0x3007 + 0x40 * d) 11
/-- B+0x08:01 RETRY_COUNT (R230). -/
def RETRY_COUNT (d : Nat) : Nat := key (0x3008 + 0x40 * d) 1
/-- B+0x08:02 OBS_CAUSES (R230). -/
def OBS_CAUSES (d : Nat) : Nat := key (0x3008 + 0x40 * d) 2
/-- B+0x08:03 OBS_AXIS (R230). -/
def OBS_AXIS (d : Nat) : Nat := key (0x3008 + 0x40 * d) 3
/-- B+0x08:04 OBS_POSITION (R230). -/
def OBS_POSITION (d : Nat) : Nat := key (0x3008 + 0x40 * d) 4
/-- B+0x08:05 OBS_FORCE_PEAK (R230). -/
def OBS_FORCE_PEAK (d : Nat) : Nat := key (0x3008 + 0x40 * d) 5
/-- B+0x08:06 OBSTRUCTIONS (R230). -/
def OBSTRUCTIONS (d : Nat) : Nat := key (0x3008 + 0x40 * d) 6
/-- B+0x08:07 DEPTH_HOLDS (R230). -/
def DEPTH_HOLDS (d : Nat) : Nat := key (0x3008 + 0x40 * d) 7
/-- B+0x08:08 OBS_BIN (R230). -/
def OBS_BIN (d : Nat) : Nat := key (0x3008 + 0x40 * d) 8
/-- B+0x08:09 MANTIS_DOOR_STATUS (R230). -/
def MANTIS_DOOR_STATUS (d : Nat) : Nat := key (0x3008 + 0x40 * d) 9
/-- B+0x08:0A OPEN_BLOCKED_REPEATS (R230). -/
def OPEN_BLOCKED_REPEATS (d : Nat) : Nat := key (0x3008 + 0x40 * d) 10
/-- B+0x09:01 CONTACTS_A (R259). -/
def CONTACTS_A (d : Nat) : Nat := key (0x3009 + 0x40 * d) 1
/-- B+0x09:02 CONTACTS_B (R259). -/
def CONTACTS_B (d : Nat) : Nat := key (0x3009 + 0x40 * d) 2
/-- B+0x09:03 CONTACT_STATUS (R259). -/
def CONTACT_STATUS (d : Nat) : Nat := key (0x3009 + 0x40 * d) 3
/-- B+0x09:04 LOCK_PAIR_TIME (R259). -/
def LOCK_PAIR_TIME (d : Nat) : Nat := key (0x3009 + 0x40 * d) 4
/-- B+0x09:05 DISCREPANCIES (R259). -/
def DISCREPANCIES (d : Nat) : Nat := key (0x3009 + 0x40 * d) 5
/-- B+0x09:06 DISCREPANCY_SEEN_REPEATS (R259). -/
def DISCREPANCY_SEEN_REPEATS (d : Nat) : Nat := key (0x3009 + 0x40 * d) 6
/-- B+0x09:07 LOCK_PAIR_DISAGREE_REPEATS (R259). -/
def LOCK_PAIR_DISAGREE_REPEATS (d : Nat) : Nat := key (0x3009 + 0x40 * d) 7
end Dr

namespace Ax
/-- A+0x00:01 MAX_SPEED (R115). -/
def MAX_SPEED (a : Nat) : Nat := key (0x3400 + 0x10 * a) 1
/-- A+0x00:02 ACCEL (R115). -/
def ACCEL (a : Nat) : Nat := key (0x3400 + 0x10 * a) 2
/-- A+0x00:03 DECEL (R115). -/
def DECEL (a : Nat) : Nat := key (0x3400 + 0x10 * a) 3
/-- A+0x00:04 JERK (R115). -/
def JERK (a : Nat) : Nat := key (0x3400 + 0x10 * a) 4
/-- A+0x00:05 STOP_DECEL (R115). -/
def STOP_DECEL (a : Nat) : Nat := key (0x3400 + 0x10 * a) 5
/-- A+0x00:06 CREEP_SPEED (R115). -/
def CREEP_SPEED (a : Nat) : Nat := key (0x3400 + 0x10 * a) 6
/-- A+0x01:01 POSITION (R115). -/
def POSITION (a : Nat) : Nat := key (0x3401 + 0x10 * a) 1
/-- A+0x01:02 POSITION_SETPOINT (R115). -/
def POSITION_SETPOINT (a : Nat) : Nat := key (0x3401 + 0x10 * a) 2
/-- A+0x01:03 SPEED (R115). -/
def SPEED (a : Nat) : Nat := key (0x3401 + 0x10 * a) 3
/-- A+0x01:04 STROKE (R115). -/
def STROKE (a : Nat) : Nat := key (0x3401 + 0x10 * a) 4
/-- A+0x01:05 CLOSED_WINDOW (R115). -/
def CLOSED_WINDOW (a : Nat) : Nat := key (0x3401 + 0x10 * a) 5
/-- A+0x01:06 REFERENCE_TOLERANCE (R115). -/
def REFERENCE_TOLERANCE (a : Nat) : Nat := key (0x3401 + 0x10 * a) 6
/-- A+0x01:07 REFERENCE_SHIFT (R115). -/
def REFERENCE_SHIFT (a : Nat) : Nat := key (0x3401 + 0x10 * a) 7
/-- A+0x01:08 OPEN_BACKOFF (R115). -/
def OPEN_BACKOFF (a : Nat) : Nat := key (0x3401 + 0x10 * a) 8
/-- A+0x01:09 CLOSED_SWITCH_POS (R115). -/
def CLOSED_SWITCH_POS (a : Nat) : Nat := key (0x3401 + 0x10 * a) 9
/-- A+0x01:0A LIMIT_INPUT_OPEN (R115). -/
def LIMIT_INPUT_OPEN (a : Nat) : Nat := key (0x3401 + 0x10 * a) 10
/-- A+0x01:0B LIMIT_INPUT_CLOSE (R115). -/
def LIMIT_INPUT_CLOSE (a : Nat) : Nat := key (0x3401 + 0x10 * a) 11
/-- A+0x01:0C LIMIT_STOP_MODE (R115). -/
def LIMIT_STOP_MODE (a : Nat) : Nat := key (0x3401 + 0x10 * a) 12
/-- A+0x02:3n+1 CLOSE_CAP_LO (R115). -/
def CLOSE_CAP_LO (a n : Nat) : Nat := key (0x3402 + 0x10 * a) (3 * n + 1)
/-- A+0x02:3n+2 CLOSE_CAP_HI (R115). -/
def CLOSE_CAP_HI (a n : Nat) : Nat := key (0x3402 + 0x10 * a) (3 * n + 2)
/-- A+0x02:3n+3 CLOSE_CAP_SPEED (R115). -/
def CLOSE_CAP_SPEED (a n : Nat) : Nat := key (0x3402 + 0x10 * a) (3 * n + 3)
/-- A+0x03:3n+1 OPEN_CAP_LO (R115). -/
def OPEN_CAP_LO (a n : Nat) : Nat := key (0x3403 + 0x10 * a) (3 * n + 1)
/-- A+0x03:3n+2 OPEN_CAP_HI (R115). -/
def OPEN_CAP_HI (a n : Nat) : Nat := key (0x3403 + 0x10 * a) (3 * n + 2)
/-- A+0x03:3n+3 OPEN_CAP_SPEED (R115). -/
def OPEN_CAP_SPEED (a n : Nat) : Nat := key (0x3403 + 0x10 * a) (3 * n + 3)
/-- A+0x04:01 STANDSTILL_DELAY (R115). -/
def STANDSTILL_DELAY (a : Nat) : Nat := key (0x3404 + 0x10 * a) 1
/-- A+0x04:02 HOLD_LEVEL (R115). -/
def HOLD_LEVEL (a : Nat) : Nat := key (0x3404 + 0x10 * a) 2
/-- A+0x04:03 HOLD_ZERO_LOCKED (R115). -/
def HOLD_ZERO_LOCKED (a : Nat) : Nat := key (0x3404 + 0x10 * a) 3
/-- A+0x04:04 RUN_CURRENT (R115). -/
def RUN_CURRENT (a : Nat) : Nat := key (0x3404 + 0x10 * a) 4
/-- A+0x05:01 AXIS_MODE (R115). -/
def AXIS_MODE (a : Nat) : Nat := key (0x3405 + 0x10 * a) 1
/-- A+0x05:02 STEP_PAIR (R115). -/
def STEP_PAIR (a : Nat) : Nat := key (0x3405 + 0x10 * a) 2
/-- A+0x05:03 STEP_SCALE (R115). -/
def STEP_SCALE (a : Nat) : Nat := key (0x3405 + 0x10 * a) 3
/-- A+0x05:04 JOG_STEPS (R115). -/
def JOG_STEPS (a : Nat) : Nat := key (0x3405 + 0x10 * a) 4
/-- A+0x05:05 JOG_RATE (R115). -/
def JOG_RATE (a : Nat) : Nat := key (0x3405 + 0x10 * a) 5
/-- A+0x05:06 ADDRESS_PITCH (R115). -/
def ADDRESS_PITCH (a : Nat) : Nat := key (0x3405 + 0x10 * a) 6
/-- A+0x05:07 STEP_INTERVAL_LAST (R115). -/
def STEP_INTERVAL_LAST (a : Nat) : Nat := key (0x3405 + 0x10 * a) 7
/-- A+0x05:08 STEPS_DISCARDED (R115). -/
def STEPS_DISCARDED (a : Nat) : Nat := key (0x3405 + 0x10 * a) 8
/-- A+0x06:01 AXIS_STATUS (R115). -/
def AXIS_STATUS (a : Nat) : Nat := key (0x3406 + 0x10 * a) 1
/-- A+0x06:02 ACC_DEFERRED_REPEATS (R115). -/
def ACC_DEFERRED_REPEATS (a : Nat) : Nat := key (0x3406 + 0x10 * a) 2
/-- A+0x06:03 LIMIT_STOP_REPEATS (R115). -/
def LIMIT_STOP_REPEATS (a : Nat) : Nat := key (0x3406 + 0x10 * a) 3
/-- A+0x06:04 REFERENCE_JUMP_REPEATS (R115). -/
def REFERENCE_JUMP_REPEATS (a : Nat) : Nat := key (0x3406 + 0x10 * a) 4
/-- A+0x06:05 STEP_OVERRUN_REPEATS (R115). -/
def STEP_OVERRUN_REPEATS (a : Nat) : Nat := key (0x3406 + 0x10 * a) 5
/-- A+0x07:01 MOTOR_TYPE (R149). -/
def MOTOR_TYPE (a : Nat) : Nat := key (0x3407 + 0x10 * a) 1
/-- A+0x07:02 POLE_PAIRS (R149). -/
def POLE_PAIRS (a : Nat) : Nat := key (0x3407 + 0x10 * a) 2
/-- A+0x07:03 TRAVEL_PER_REV (R149). -/
def TRAVEL_PER_REV (a : Nat) : Nat := key (0x3407 + 0x10 * a) 3
/-- A+0x07:04 MOTOR_KT (R149). -/
def MOTOR_KT (a : Nat) : Nat := key (0x3407 + 0x10 * a) 4
/-- A+0x07:05 RES_20C (R149). -/
def RES_20C (a : Nat) : Nat := key (0x3407 + 0x10 * a) 5
/-- A+0x07:06 L_PHASE (R149). -/
def L_PHASE (a : Nat) : Nat := key (0x3407 + 0x10 * a) 6
/-- A+0x08:01 CURRENT_BANDWIDTH (R149). -/
def CURRENT_BANDWIDTH (a : Nat) : Nat := key (0x3408 + 0x10 * a) 1
/-- A+0x08:02 KP_I (R149). -/
def KP_I (a : Nat) : Nat := key (0x3408 + 0x10 * a) 2
/-- A+0x08:03 KI_I (R149). -/
def KI_I (a : Nat) : Nat := key (0x3408 + 0x10 * a) 3
/-- A+0x08:04 DECOUPLING (R149). -/
def DECOUPLING (a : Nat) : Nat := key (0x3408 + 0x10 * a) 4
/-- A+0x08:05 RES_TEST_CURRENT (R149). -/
def RES_TEST_CURRENT (a : Nat) : Nat := key (0x3408 + 0x10 * a) 5
/-- A+0x08:06 RES_EST (R149). -/
def RES_EST (a : Nat) : Nat := key (0x3408 + 0x10 * a) 6
/-- A+0x08:07 WINDING_TEMP (R149). -/
def WINDING_TEMP (a : Nat) : Nat := key (0x3408 + 0x10 * a) 7
/-- A+0x08:08 V_FULLSCALE (R149). -/
def V_FULLSCALE (a : Nat) : Nat := key (0x3408 + 0x10 * a) 8
/-- A+0x08:09 I_FULLSCALE (R149). -/
def I_FULLSCALE (a : Nat) : Nat := key (0x3408 + 0x10 * a) 9
/-- A+0x08:0A OVERCURRENT_LIMIT (R149). -/
def OVERCURRENT_LIMIT (a : Nat) : Nat := key (0x3408 + 0x10 * a) 10
/-- A+0x09:01 KP_POS (R149). -/
def KP_POS (a : Nat) : Nat := key (0x3409 + 0x10 * a) 1
/-- A+0x09:02 KP_SPEED (R149). -/
def KP_SPEED (a : Nat) : Nat := key (0x3409 + 0x10 * a) 2
/-- A+0x09:03 TI_SPEED (R149). -/
def TI_SPEED (a : Nat) : Nat := key (0x3409 + 0x10 * a) 3
/-- A+0x09:04 SPEED_FF (R149). -/
def SPEED_FF (a : Nat) : Nat := key (0x3409 + 0x10 * a) 4
/-- A+0x09:05 MOVING_MASS (R149). -/
def MOVING_MASS (a : Nat) : Nat := key (0x3409 + 0x10 * a) 5
/-- A+0x09:06 FOLLOWING_ERROR_LIMIT (R149). -/
def FOLLOWING_ERROR_LIMIT (a : Nat) : Nat := key (0x3409 + 0x10 * a) 6
/-- A+0x09:07 FOLLOWING_ERROR (R149). -/
def FOLLOWING_ERROR (a : Nat) : Nat := key (0x3409 + 0x10 * a) 7
/-- A+0x09:08 IQ_DEMAND (R149). -/
def IQ_DEMAND (a : Nat) : Nat := key (0x3409 + 0x10 * a) 8
/-- A+0x09:09 IQ (R149). -/
def IQ (a : Nat) : Nat := key (0x3409 + 0x10 * a) 9
/-- A+0x0A:01 ENCODER_TYPE (R149). -/
def ENCODER_TYPE (a : Nat) : Nat := key (0x340A + 0x10 * a) 1
/-- A+0x0A:02 ENCODER_CPR (R149). -/
def ENCODER_CPR (a : Nat) : Nat := key (0x340A + 0x10 * a) 2
/-- A+0x0A:03 ENCODER_INVERT (R149). -/
def ENCODER_INVERT (a : Nat) : Nat := key (0x340A + 0x10 * a) 3
/-- A+0x0A:04 COMMUTATION_OFFSET (R149). -/
def COMMUTATION_OFFSET (a : Nat) : Nat := key (0x340A + 0x10 * a) 4
/-- A+0x0A:05 ANGLE_STATE (R149). -/
def ANGLE_STATE (a : Nat) : Nat := key (0x340A + 0x10 * a) 5
/-- A+0x0A:06 ENCODER_ERRORS (R149). -/
def ENCODER_ERRORS (a : Nat) : Nat := key (0x340A + 0x10 * a) 6
/-- A+0x0A:08 ANGLE_COMMAND (R149). -/
def ANGLE_COMMAND (a : Nat) : Nat := key (0x340A + 0x10 * a) 8
/-- A+0x0B:01 LOOP_STATUS (R149). -/
def LOOP_STATUS (a : Nat) : Nat := key (0x340B + 0x10 * a) 1
/-- A+0x0B:02 LOOP_FAULT_CAUSE (R149). -/
def LOOP_FAULT_CAUSE (a : Nat) : Nat := key (0x340B + 0x10 * a) 2
/-- A+0x0B:03 STALL_TIME (R149). -/
def STALL_TIME (a : Nat) : Nat := key (0x340B + 0x10 * a) 3
/-- A+0x0B:04 SATURATION_TIME (R149). -/
def SATURATION_TIME (a : Nat) : Nat := key (0x340B + 0x10 * a) 4
/-- A+0x0B:05 MISSED_SAMPLES (R149). -/
def MISSED_SAMPLES (a : Nat) : Nat := key (0x340B + 0x10 * a) 5
/-- A+0x0B:07 FAULT_REACTION (R149). -/
def FAULT_REACTION (a : Nat) : Nat := key (0x340B + 0x10 * a) 7
/-- A+0x0B:08 SATURATED_REPEATS (R149). -/
def SATURATED_REPEATS (a : Nat) : Nat := key (0x340B + 0x10 * a) 8
/-- A+0x0B:09 RES_OUT_OF_RANGE_REPEATS (R149). -/
def RES_OUT_OF_RANGE_REPEATS (a : Nat) : Nat := key (0x340B + 0x10 * a) 9
/-- A+0x0B:0A RUN_CURRENT_CLAMPED_REPEATS (R149). -/
def RUN_CURRENT_CLAMPED_REPEATS (a : Nat) : Nat := key (0x340B + 0x10 * a) 10
/-- A+0x0B:0B SAMPLE_MISSED_REPEATS (R149). -/
def SAMPLE_MISSED_REPEATS (a : Nat) : Nat := key (0x340B + 0x10 * a) 11
/-- A+0x0C:01 ENV_ENABLE (R229). -/
def ENV_ENABLE (a : Nat) : Nat := key (0x340C + 0x10 * a) 1
/-- A+0x0C:02 ENV_K_CLOSE (R229). -/
def ENV_K_CLOSE (a : Nat) : Nat := key (0x340C + 0x10 * a) 2
/-- A+0x0C:03 ENV_MARGIN_CLOSE (R229). -/
def ENV_MARGIN_CLOSE (a : Nat) : Nat := key (0x340C + 0x10 * a) 3
/-- A+0x0C:04 ENV_K_OPEN (R229). -/
def ENV_K_OPEN (a : Nat) : Nat := key (0x340C + 0x10 * a) 4
/-- A+0x0C:05 ENV_MARGIN_OPEN (R229). -/
def ENV_MARGIN_OPEN (a : Nat) : Nat := key (0x340C + 0x10 * a) 5
/-- A+0x0C:06 SPREAD_MIN (R229). -/
def SPREAD_MIN (a : Nat) : Nat := key (0x340C + 0x10 * a) 6
/-- A+0x0C:07 FRICTION_STATIC (R229). -/
def FRICTION_STATIC (a : Nat) : Nat := key (0x340C + 0x10 * a) 7
/-- A+0x0C:08 FRICTION_VISCOUS (R229). -/
def FRICTION_VISCOUS (a : Nat) : Nat := key (0x340C + 0x10 * a) 8
/-- A+0x0D:01 LEAF_FORCE (R229). -/
def LEAF_FORCE (a : Nat) : Nat := key (0x340D + 0x10 * a) 1
/-- A+0x0D:02 LEAF_ENERGY (R229). -/
def LEAF_ENERGY (a : Nat) : Nat := key (0x340D + 0x10 * a) 2
/-- A+0x0D:03 ENV_STATE_CLOSE (R229). -/
def ENV_STATE_CLOSE (a : Nat) : Nat := key (0x340D + 0x10 * a) 3
/-- A+0x0D:04 ENV_STATE_OPEN (R229). -/
def ENV_STATE_OPEN (a : Nat) : Nat := key (0x340D + 0x10 * a) 4
/-- A+0x0D:05 ENV_CYCLES_CLOSE (R229). -/
def ENV_CYCLES_CLOSE (a : Nat) : Nat := key (0x340D + 0x10 * a) 5
/-- A+0x0D:06 ENV_CYCLES_OPEN (R229). -/
def ENV_CYCLES_OPEN (a : Nat) : Nat := key (0x340D + 0x10 * a) 6
/-- A+0x0D:07 BINS_REJECTED (R229). -/
def BINS_REJECTED (a : Nat) : Nat := key (0x340D + 0x10 * a) 7
/-- A+0x0D:08 CYCLES_REJECTED (R229). -/
def CYCLES_REJECTED (a : Nat) : Nat := key (0x340D + 0x10 * a) 8
/-- A+0x0D:09 ENV_THRESHOLD (R229). -/
def ENV_THRESHOLD (a : Nat) : Nat := key (0x340D + 0x10 * a) 9
/-- A+0x0D:0A FORCE_PEAK_LAST (R229). -/
def FORCE_PEAK_LAST (a : Nat) : Nat := key (0x340D + 0x10 * a) 10
/-- A+0x0D:0B ENV_OFFSET (R229). -/
def ENV_OFFSET (a : Nat) : Nat := key (0x340D + 0x10 * a) 11
/-- A+0x0D:0C LEARN_HOLDOFF_LEFT_CLOSE (R229). -/
def LEARN_HOLDOFF_LEFT_CLOSE (a : Nat) : Nat := key (0x340D + 0x10 * a) 12
/-- A+0x0D:0D LEARN_HOLDOFF_LEFT_OPEN (R229). -/
def LEARN_HOLDOFF_LEFT_OPEN (a : Nat) : Nat := key (0x340D + 0x10 * a) 13
end Ax

namespace Lk
/-- L+0x00:01 LINK_STATE (R192). -/
def LINK_STATE (d : Nat) : Nat := key (0x3A00 + 0x10 * d) 1
/-- L+0x00:02 LINK_CAUSE (R192). -/
def LINK_CAUSE (d : Nat) : Nat := key (0x3A00 + 0x10 * d) 2
/-- L+0x00:03 TIMING_ADVANCE (R192). -/
def TIMING_ADVANCE (d : Nat) : Nat := key (0x3A00 + 0x10 * d) 3
/-- L+0x00:04 TX_PREEMPH (R192). -/
def TX_PREEMPH (d : Nat) : Nat := key (0x3A00 + 0x10 * d) 4
/-- L+0x00:05 NODE_TX_PREEMPH (R192). -/
def NODE_TX_PREEMPH (d : Nat) : Nat := key (0x3A00 + 0x10 * d) 5
/-- L+0x00:06 CTLE_PEAKING (R192). -/
def CTLE_PEAKING (d : Nat) : Nat := key (0x3A00 + 0x10 * d) 6
/-- L+0x00:07 DFE_TAP1 (R192). -/
def DFE_TAP1 (d : Nat) : Nat := key (0x3A00 + 0x10 * d) 7
/-- L+0x00:08 DFE_TAP2 (R192). -/
def DFE_TAP2 (d : Nat) : Nat := key (0x3A00 + 0x10 * d) 8
/-- L+0x00:09 EYE_MARGIN (R192). -/
def EYE_MARGIN (d : Nat) : Nat := key (0x3A00 + 0x10 * d) 9
/-- L+0x00:0A NODE_STATE (R192). -/
def NODE_STATE (d : Nat) : Nat := key (0x3A00 + 0x10 * d) 10
/-- L+0x01:01 MGMT_RETRIES (R192). -/
def MGMT_RETRIES (d : Nat) : Nat := key (0x3A01 + 0x10 * d) 1
/-- L+0x01:02 NODE_CONFIG_TIMEOUT (R192). -/
def NODE_CONFIG_TIMEOUT (d : Nat) : Nat := key (0x3A01 + 0x10 * d) 2
/-- L+0x01:03 RETRAIN_DELAY (R192). -/
def RETRAIN_DELAY (d : Nat) : Nat := key (0x3A01 + 0x10 * d) 3
/-- L+0x02:01 FRAMES_OK (R192). -/
def FRAMES_OK (d : Nat) : Nat := key (0x3A02 + 0x10 * d) 1
/-- L+0x02:02 CRC_ERRORS (R192). -/
def CRC_ERRORS (d : Nat) : Nat := key (0x3A02 + 0x10 * d) 2
/-- L+0x02:03 CODE_ERRORS (R192). -/
def CODE_ERRORS (d : Nat) : Nat := key (0x3A02 + 0x10 * d) 3
/-- L+0x02:04 FRAMING_ERRORS (R192). -/
def FRAMING_ERRORS (d : Nat) : Nat := key (0x3A02 + 0x10 * d) 4
/-- L+0x02:05 TIMING_ERRORS (R192). -/
def TIMING_ERRORS (d : Nat) : Nat := key (0x3A02 + 0x10 * d) 5
/-- L+0x02:06 UP_SEQ_GAPS (R192). -/
def UP_SEQ_GAPS (d : Nat) : Nat := key (0x3A02 + 0x10 * d) 6
/-- L+0x02:07 ECHO_MISMATCHES (R192). -/
def ECHO_MISMATCHES (d : Nat) : Nat := key (0x3A02 + 0x10 * d) 7
/-- L+0x02:08 NODE_HELD (R192). -/
def NODE_HELD (d : Nat) : Nat := key (0x3A02 + 0x10 * d) 8
/-- L+0x02:09 NODE_SUBSTITUTED (R192). -/
def NODE_SUBSTITUTED (d : Nat) : Nat := key (0x3A02 + 0x10 * d) 9
/-- L+0x02:0A MGMT_RETRIES_USED (R192). -/
def MGMT_RETRIES_USED (d : Nat) : Nat := key (0x3A02 + 0x10 * d) 10
/-- L+0x02:0B MGMT_SUPERSEDED (R192). -/
def MGMT_SUPERSEDED (d : Nat) : Nat := key (0x3A02 + 0x10 * d) 11
/-- L+0x02:0C LINK_LOSSES (R192). -/
def LINK_LOSSES (d : Nat) : Nat := key (0x3A02 + 0x10 * d) 12
/-- L+0x02:0D TRAIN_FAILURES (R192). -/
def TRAIN_FAILURES (d : Nat) : Nat := key (0x3A02 + 0x10 * d) 13
/-- L+0x02:0E DEPTH_CHUNKS_BAD (R192). -/
def DEPTH_CHUNKS_BAD (d : Nat) : Nat := key (0x3A02 + 0x10 * d) 14
/-- L+0x02:0F DEPTH_INCOMPLETE (R192). -/
def DEPTH_INCOMPLETE (d : Nat) : Nat := key (0x3A02 + 0x10 * d) 15
/-- L+0x02:10 PORT_MISMATCHES (R192). -/
def PORT_MISMATCHES (d : Nat) : Nat := key (0x3A02 + 0x10 * d) 16
/-- L+0x03:01 NODE_VENDOR (R192). -/
def NODE_VENDOR (d : Nat) : Nat := key (0x3A03 + 0x10 * d) 1
/-- L+0x03:02 NODE_PRODUCT (R192). -/
def NODE_PRODUCT (d : Nat) : Nat := key (0x3A03 + 0x10 * d) 2
/-- L+0x03:03 NODE_SERIAL (R192). -/
def NODE_SERIAL (d : Nat) : Nat := key (0x3A03 + 0x10 * d) 3
/-- L+0x03:04 NODE_REVISION (R192). -/
def NODE_REVISION (d : Nat) : Nat := key (0x3A03 + 0x10 * d) 4
/-- L+0x03:05 NODE_DEPTH_SENSORS (R192). -/
def NODE_DEPTH_SENSORS (d : Nat) : Nat := key (0x3A03 + 0x10 * d) 5
/-- L+0x04:01 LINK_STATUS (R192). -/
def LINK_STATUS (d : Nat) : Nat := key (0x3A04 + 0x10 * d) 1
/-- L+0x04:02 NODE_CHANGED_REPEATS (R192). -/
def NODE_CHANGED_REPEATS (d : Nat) : Nat := key (0x3A04 + 0x10 * d) 2
/-- L+0x04:03 PORT_MISMATCH_REPEATS (R192). -/
def PORT_MISMATCH_REPEATS (d : Nat) : Nat := key (0x3A04 + 0x10 * d) 3
/-- L+0x05:01 COUNTERS_CLEAR (R192). -/
def COUNTERS_CLEAR (d : Nat) : Nat := key (0x3A05 + 0x10 * d) 1
end Lk

namespace Sn
/-- S:01 BG_COMMAND (R232). -/
def BG_COMMAND (n : Nat) : Nat := key (0x3820 + n) 1
/-- S:02 BG_STATE (R232). -/
def BG_STATE (n : Nat) : Nat := key (0x3820 + n) 2
/-- S:03 OCCUPIED_PIXELS (R232). -/
def OCCUPIED_PIXELS (n : Nat) : Nat := key (0x3820 + n) 3
/-- S:04 INVALID_PIXELS (R232). -/
def INVALID_PIXELS (n : Nat) : Nat := key (0x3820 + n) 4
/-- S:05 SENSOR_STATUS (R232). -/
def SENSOR_STATUS (n : Nat) : Nat := key (0x3820 + n) 5
/-- S:06 FRAMES_PROCESSED (R232). -/
def FRAMES_PROCESSED (n : Nat) : Nat := key (0x3820 + n) 6
/-- S:07 BG_VALID_PIXELS (R232). -/
def BG_VALID_PIXELS (n : Nat) : Nat := key (0x3820 + n) 7
/-- 0x5030+2d+s:01 DEPTH_ENABLE (R233). -/
def DEPTH_ENABLE (n : Nat) : Nat := key (0x5030 + n) 1
/-- 0x5030+2d+s:02 BOX_COL_LO (R233). -/
def BOX_COL_LO (n : Nat) : Nat := key (0x5030 + n) 2
/-- 0x5030+2d+s:03 BOX_COL_HI (R233). -/
def BOX_COL_HI (n : Nat) : Nat := key (0x5030 + n) 3
/-- 0x5030+2d+s:04 BOX_ROW_LO (R233). -/
def BOX_ROW_LO (n : Nat) : Nat := key (0x5030 + n) 4
/-- 0x5030+2d+s:05 BOX_ROW_HI (R233). -/
def BOX_ROW_HI (n : Nat) : Nat := key (0x5030 + n) 5
/-- 0x5030+2d+s:06 DEPTH_DELTA (R233). -/
def DEPTH_DELTA (n : Nat) : Nat := key (0x5030 + n) 6
/-- 0x5030+2d+s:07 MIN_PIXELS (R233). -/
def MIN_PIXELS (n : Nat) : Nat := key (0x5030 + n) 7
/-- 0x5030+2d+s:08 MIN_CONFIDENCE (R233). -/
def MIN_CONFIDENCE (n : Nat) : Nat := key (0x5030 + n) 8
/-- 0x5030+2d+s:09 INVALID_LIMIT (R233). -/
def INVALID_LIMIT (n : Nat) : Nat := key (0x5030 + n) 9
end Sn

namespace Ct
/-- C:01 LOCK_1_INPUT (R262). -/
def LOCK_1_INPUT (d : Nat) : Nat := key (0x5050 + d) 1
/-- C:02 LOCK_2_INPUT (R262). -/
def LOCK_2_INPUT (d : Nat) : Nat := key (0x5050 + d) 2
/-- C:03 CLOSED_INPUT (R262). -/
def CLOSED_INPUT (d : Nat) : Nat := key (0x5050 + d) 3
/-- C:04 IN_SERVICE_INPUT (R262). -/
def IN_SERVICE_INPUT (d : Nat) : Nat := key (0x5050 + d) 4
/-- C:05 HANDLE_HOME_INPUT (R262). -/
def HANDLE_HOME_INPUT (d : Nat) : Nat := key (0x5050 + d) 5
/-- C:06 STEP_RETRACTED_INPUT (R262). -/
def STEP_RETRACTED_INPUT (d : Nat) : Nat := key (0x5050 + d) 6
/-- C:07 STEP_EXTENDED_INPUT (R262). -/
def STEP_EXTENDED_INPUT (d : Nat) : Nat := key (0x5050 + d) 7
/-- C:08 CONTACT_FILTER (R262). -/
def CONTACT_FILTER (d : Nat) : Nat := key (0x5050 + d) 8
/-- C:09 CONTACT_DISCREPANCY_TIME (R262). -/
def CONTACT_DISCREPANCY_TIME (d : Nat) : Nat := key (0x5050 + d) 9
end Ct

namespace Ns
/-- 0x5060+n:01 CONN_ENABLE (R316). -/
def CONN_ENABLE (n : Nat) : Nat := key (0x5060 + n) 1
/-- 0x5060+n:02 DIRECTION (R316). -/
def DIRECTION (n : Nat) : Nat := key (0x5060 + n) 2
/-- 0x5060+n:03 IDENTITY (R316). -/
def IDENTITY (n : Nat) : Nat := key (0x5060 + n) 3
/-- 0x5060+n:04 PORTS (R316). -/
def PORTS (n : Nat) : Nat := key (0x5060 + n) 4
/-- 0x5060+n:05 CAN_ID (R316). -/
def CAN_ID (n : Nat) : Nat := key (0x5060 + n) 5
/-- 0x5060+n:06 UDP_DESTINATION (R316). -/
def UDP_DESTINATION (n : Nat) : Nat := key (0x5060 + n) 6
/-- 0x5060+n:07 WATCHDOG_TIME (R316). -/
def WATCHDOG_TIME (n : Nat) : Nat := key (0x5060 + n) 7
/-- 0x5060+n:08 MAX_DELAY (R316). -/
def MAX_DELAY (n : Nat) : Nat := key (0x5060 + n) 8
/-- 0x5200+n:10 CONN_STATE (R317). -/
def CONN_STATE (n : Nat) : Nat := key (0x5200 + n) 16
/-- 0x5200+n:11 LAST_SEQ (R317). -/
def LAST_SEQ (n : Nat) : Nat := key (0x5200 + n) 17
/-- 0x5200+n:12 FRAMES_ACCEPTED (R317). -/
def FRAMES_ACCEPTED (n : Nat) : Nat := key (0x5200 + n) 18
/-- 0x5200+n:13 CRC_CLASS_ERRORS (R317). -/
def CRC_CLASS_ERRORS (n : Nat) : Nat := key (0x5200 + n) 19
/-- 0x5200+n:14 DUPLICATES (R317). -/
def DUPLICATES (n : Nat) : Nat := key (0x5200 + n) 20
/-- 0x5200+n:15 LATE (R317). -/
def LATE (n : Nat) : Nat := key (0x5200 + n) 21
/-- 0x5200+n:16 OUT_OF_WINDOW (R317). -/
def OUT_OF_WINDOW (n : Nat) : Nat := key (0x5200 + n) 22
/-- 0x5200+n:17 DELAYED (R317). -/
def DELAYED (n : Nat) : Nat := key (0x5200 + n) 23
/-- 0x5200+n:18 BUCKET_DROPS (R317). -/
def BUCKET_DROPS (n : Nat) : Nat := key (0x5200 + n) 24
/-- 0x5200+n:19 WATCHDOG_EXPIRIES (R317). -/
def WATCHDOG_EXPIRIES (n : Nat) : Nat := key (0x5200 + n) 25
/-- 0x5200+n:1A ERROR_BUDGET_LEFT (R317). -/
def ERROR_BUDGET_LEFT (n : Nat) : Nat := key (0x5200 + n) 26
/-- 0x5200+n:1B DELAY_LAST (R317). -/
def DELAY_LAST (n : Nat) : Nat := key (0x5200 + n) 27
/-- 0x5200+n:1C FRAMES_SENT (R317). -/
def FRAMES_SENT (n : Nat) : Nat := key (0x5200 + n) 28
/-- 0x5200+n:1D LAST_PAYLOAD (R317). -/
def LAST_PAYLOAD (n : Nat) : Nat := key (0x5200 + n) 29
/-- 0x5200+n:1E CONN_STATE_B (R317). -/
def CONN_STATE_B (n : Nat) : Nat := key (0x5200 + n) 30
end Ns

namespace In
/-- N:01 INPUT_CLASS (R377). -/
def INPUT_CLASS (n : Nat) : Nat := key (0x4010 + n) 1
/-- N:02 CURRENT_LIMIT (R377). -/
def CURRENT_LIMIT (n : Nat) : Nat := key (0x4010 + n) 2
/-- N:03 FILTER (R377). -/
def FILTER (n : Nat) : Nat := key (0x4010 + n) 3
/-- N:04 WIRE_BREAK_ENABLE (R377). -/
def WIRE_BREAK_ENABLE (n : Nat) : Nat := key (0x4010 + n) 4
/-- N:05 INPUT_CURRENT (R377). -/
def INPUT_CURRENT (n : Nat) : Nat := key (0x4010 + n) 5
/-- N:06 WIRE_BREAK_REPEATS (R377). -/
def WIRE_BREAK_REPEATS (n : Nat) : Nat := key (0x4010 + n) 6
/-- N:07 FILTERED (R377). -/
def FILTERED (n : Nat) : Nat := key (0x4010 + n) 7
end In

namespace Ou
/-- H:01 SOURCE (R411). -/
def SOURCE (q : Nat) : Nat := key (chanIndex q) 1
/-- H:02 COMMAND (R411). -/
def COMMAND (q : Nat) : Nat := key (chanIndex q) 2
/-- H:03 ON_STATE (R411). -/
def ON_STATE (q : Nat) : Nat := key (chanIndex q) 3
/-- H:04 PG_SELECT (R411). -/
def PG_SELECT (q : Nat) : Nat := key (chanIndex q) 4
/-- H:05 PHASE (R411). -/
def PHASE (q : Nat) : Nat := key (chanIndex q) 5
/-- H:06 TERM_BIT (R411). -/
def TERM_BIT (q : Nat) : Nat := key (chanIndex q) 6
/-- H:07 TERM_MASK (R411). -/
def TERM_MASK (q : Nat) : Nat := key (chanIndex q) 7
/-- H:08 TERM_OP (R411). -/
def TERM_OP (q : Nat) : Nat := key (chanIndex q) 8
/-- H:09 FAILSAFE (R411). -/
def FAILSAFE (q : Nat) : Nat := key (chanIndex q) 9
/-- H:0A TRIP_CLASS (R411). -/
def TRIP_CLASS (q : Nat) : Nat := key (chanIndex q) 10
/-- H:0B RETRY_LIMIT (R411). -/
def RETRY_LIMIT (q : Nat) : Nat := key (chanIndex q) 11
/-- H:0C DELTA_T_LIMIT (R411). -/
def DELTA_T_LIMIT (q : Nat) : Nat := key (chanIndex q) 12
/-- H:0D OFF_TEST (R411). -/
def OFF_TEST (q : Nat) : Nat := key (chanIndex q) 13
/-- H:0E PARALLEL (R411). -/
def PARALLEL (q : Nat) : Nat := key (chanIndex q) 14
/-- H:0F OUT_STATUS (R411). -/
def OUT_STATUS (q : Nat) : Nat := key (chanIndex q) 15
/-- H:10 CURRENT (R411). -/
def CURRENT (q : Nat) : Nat := key (chanIndex q) 16
/-- H:11 DELTA_T (R411). -/
def DELTA_T (q : Nat) : Nat := key (chanIndex q) 17
/-- H:12 TRIP_COUNT (R411). -/
def TRIP_COUNT (q : Nat) : Nat := key (chanIndex q) 18
/-- H:13 PAUSE_LEFT (R411). -/
def PAUSE_LEFT (q : Nat) : Nat := key (chanIndex q) 19
/-- H:14 OVERCURRENT_TRIPS (R411). -/
def OVERCURRENT_TRIPS (q : Nat) : Nat := key (chanIndex q) 20
/-- H:15 THERMAL_TRIPS (R411). -/
def THERMAL_TRIPS (q : Nat) : Nat := key (chanIndex q) 21
/-- H:16 RETRIES_SUPERSEDED (R411). -/
def RETRIES_SUPERSEDED (q : Nat) : Nat := key (chanIndex q) 22
/-- H:17 FAULT_CLEAR (R411). -/
def FAULT_CLEAR (q : Nat) : Nat := key (chanIndex q) 23
/-- H:18 DISSIPATION (R411). -/
def DISSIPATION (q : Nat) : Nat := key (chanIndex q) 24
/-- H:19–1C OUT_REPEATS (R411). -/
def OUT_REPEATS (q i : Nat) : Nat := key (chanIndex q) (25 + i)
/-- H:20 DEMAG_MODE (R411). -/
def DEMAG_MODE (q : Nat) : Nat := key (chanIndex q) 32
/-- H:21 DEMAG_ENERGY_LAST (R411). -/
def DEMAG_ENERGY_LAST (q : Nat) : Nat := key (chanIndex q) 33
/-- H:22 COIL_MIN_CURRENT (R411). -/
def COIL_MIN_CURRENT (q : Nat) : Nat := key (chanIndex q) 34
/-- H:20 LAMP_NOMINAL (R411). -/
def LAMP_NOMINAL (q : Nat) : Nat := key (chanIndex q) 32
/-- H:21 DARK_FRACTION (R411). -/
def DARK_FRACTION (q : Nat) : Nat := key (chanIndex q) 33
/-- H:22 LAMP_LEARN (R411). -/
def LAMP_LEARN (q : Nat) : Nat := key (chanIndex q) 34
/-- H:23 LAMP_SPARE (R411). -/
def LAMP_SPARE (q : Nat) : Nat := key (chanIndex q) 35
/-- H:24 LAMP_FAIL_TIME (R411). -/
def LAMP_FAIL_TIME (q : Nat) : Nat := key (chanIndex q) 36
/-- H:25 GLOW_STATE (R411). -/
def GLOW_STATE (q : Nat) : Nat := key (chanIndex q) 37
/-- H:26 FAIL_CAUSE (R411). -/
def FAIL_CAUSE (q : Nat) : Nat := key (chanIndex q) 38
/-- H:27 DARK_EVENTS (R411). -/
def DARK_EVENTS (q : Nat) : Nat := key (chanIndex q) 39
end Ou

namespace Pg
/-- 0x4300+n:01 PG_MODE (R413). -/
def PG_MODE (n : Nat) : Nat := key (0x4300 + n) 1
/-- 0x4300+n:02 PG_PERIOD (R413). -/
def PG_PERIOD (n : Nat) : Nat := key (0x4300 + n) 2
/-- 0x4300+n:03 PG_DUTY (R413). -/
def PG_DUTY (n : Nat) : Nat := key (0x4300 + n) 3
end Pg

namespace Et
/-- E:01 ENABLE (R441). -/
def ENABLE (p : Nat) : Nat := key (0x2410 + p) 1
/-- E:02 IPV4_ADDRESS (R441). -/
def IPV4_ADDRESS (p : Nat) : Nat := key (0x2410 + p) 2
/-- E:03 IPV4_NETMASK (R441). -/
def IPV4_NETMASK (p : Nat) : Nat := key (0x2410 + p) 3
/-- E:04 IPV4_GATEWAY (R441). -/
def IPV4_GATEWAY (p : Nat) : Nat := key (0x2410 + p) 4
/-- E:05 VLAN_ID (R441). -/
def VLAN_ID (p : Nat) : Nat := key (0x2410 + p) 5
/-- E:06 PHY_ADDRESS (R441). -/
def PHY_ADDRESS (p : Nat) : Nat := key (0x2410 + p) 6
/-- E:07 EVENT_DESTINATION (R441). -/
def EVENT_DESTINATION (p : Nat) : Nat := key (0x2410 + p) 7
/-- E:08–0F MULTICAST_GROUP (R441). -/
def MULTICAST_GROUP (p i : Nat) : Nat := key (0x2410 + p) (8 + i)
/-- E:10 LINK_UP (R441). -/
def LINK_UP (p : Nat) : Nat := key (0x2410 + p) 16
/-- E:11 SPEED (R441). -/
def SPEED (p : Nat) : Nat := key (0x2410 + p) 17
/-- E:12 RX_FRAMES (R441). -/
def RX_FRAMES (p : Nat) : Nat := key (0x2410 + p) 18
/-- E:13 RX_DISCARDS (R441). -/
def RX_DISCARDS (p : Nat) : Nat := key (0x2410 + p) 19
/-- E:14 TX_FRAMES (R441). -/
def TX_FRAMES (p : Nat) : Nat := key (0x2410 + p) 20
end Et

namespace Cb
/-- K:01 ENABLE (R441). -/
def ENABLE (p : Nat) : Nat := key (0x2420 + p) 1
/-- K:02 CAN_RATE_SET (R441). -/
def CAN_RATE_SET (p : Nat) : Nat := key (0x2420 + p) 2
/-- K:03 BULK_RX_ID (R441). -/
def BULK_RX_ID (p : Nat) : Nat := key (0x2420 + p) 3
/-- K:04 BULK_TX_ID (R441). -/
def BULK_TX_ID (p : Nat) : Nat := key (0x2420 + p) 4
/-- K:05 BUS_STATE (R441). -/
def BUS_STATE (p : Nat) : Nat := key (0x2420 + p) 5
/-- K:06 BUS_OFF_COUNT (R441). -/
def BUS_OFF_COUNT (p : Nat) : Nat := key (0x2420 + p) 6
/-- K:07 RX_FRAMES (R441). -/
def RX_FRAMES (p : Nat) : Nat := key (0x2420 + p) 7
/-- K:08 RX_DISCARDS (R441). -/
def RX_DISCARDS (p : Nat) : Nat := key (0x2420 + p) 8
/-- K:09 BULK_DISCARDS (R441). -/
def BULK_DISCARDS (p : Nat) : Nat := key (0x2420 + p) 9
end Cb

namespace Ec
/-- 0x2500+n:01 EC_SOURCE (R471). -/
def EC_SOURCE (n : Nat) : Nat := key (0x2500 + n) 1
/-- 0x2500+n:02 EC_MODE (R471). -/
def EC_MODE (n : Nat) : Nat := key (0x2500 + n) 2
/-- 0x2500+n:03 EC_INSTANCE (R471). -/
def EC_INSTANCE (n : Nat) : Nat := key (0x2500 + n) 3
/-- 0x2500+n:04 EC_CODE (R471). -/
def EC_CODE (n : Nat) : Nat := key (0x2500 + n) 4
/-- 0x2500+n:05 EC_VALUE (R471). -/
def EC_VALUE (n : Nat) : Nat := key (0x2500 + n) 5
/-- 0x2500+n:06 EC_VALID (R471). -/
def EC_VALID (n : Nat) : Nat := key (0x2500 + n) 6
/-- 0x2500+n:07 EC_RESET (R471). -/
def EC_RESET (n : Nat) : Nat := key (0x2500 + n) 7
/-- 0x2500+n:08 EC_RESET_AT (R471). -/
def EC_RESET_AT (n : Nat) : Nat := key (0x2500 + n) 8
end Ec

namespace An
/-- 0x2310+s:01 ANCHOR_KEY (R521). -/
def ANCHOR_KEY (n : Nat) : Nat := key (0x2310 + n) 1
/-- 0x2310+s:02 ANCHOR_MAX_LEVEL (R521). -/
def ANCHOR_MAX_LEVEL (n : Nat) : Nat := key (0x2310 + n) 2
/-- 0x2310+s:03 ANCHOR_GENERATION (R521). -/
def ANCHOR_GENERATION (n : Nat) : Nat := key (0x2310 + n) 3
end An

end Sys2Proof.Machine
end

