-- ==== Sys2Proof/Machine/Ops.lean ====
section
/-!
DEFINITION. The named operations over State: sparse maps, the dictionary store, timers, free values, counters and latched
flags (R10), and the event router (R445 to R447). Every meaning reads and writes State through these.
-/
namespace Sys2Proof.Machine

/-! ### Sparse maps -/

/-- The value listed under a key. -/
def lookup {α : Type} (k : Nat) : Store α → Option α
  | [] => none
  | (j, v) :: r => if j = k then some v else lookup k r

/-- A sparse map without a key. -/
def erase {α : Type} (k : Nat) : Store α → Store α
  | [] => []
  | (j, v) :: r => if j = k then erase k r else (j, v) :: erase k r

/-- A sparse map with a pair put in before the first higher key. -/
def place {α : Type} (k : Nat) (v : α) : Store α → Store α
  | [] => [(k, v)]
  | (j, w) :: r => if k < j then (k, v) :: (j, w) :: r else (j, w) :: place k v r

/-- The value of a key, `d` where none is listed. -/
def getD {α : Type} (d : α) (m : Store α) (k : Nat) : α := (lookup k m).getD d

/-- Write a key; a value equal to the default `d` is not listed. -/
def putD {α : Type} [DecidableEq α] (d : α) (m : Store α) (k : Nat) (v : α) : Store α :=
  if v = d then erase k m else place k v (erase k m)

/-! ### The dictionary -/

/-- Read an entry. -/
def State.rd (s : State) (k : Nat) : Int := getD (dictDefault k) s.dict k

/-- Write an entry. -/
def State.wr (s : State) (k : Nat) (v : Int) : State := { s with dict := putD (dictDefault k) s.dict k v }

/-- Write an entry with a natural number. -/
def State.wrn (s : State) (k n : Nat) : State := s.wr k (n : Int)

/-- The value of a parameter in force in the ticks (R24). -/
def State.p (s : State) (k : Nat) : Int := getD (dictDefault k) s.eff k

/-- Put a value in force. -/
def State.enforce (s : State) (k : Nat) (v : Int) : State := { s with eff := putD (dictDefault k) s.eff k v }

/-- A parameter in force as a natural number. -/
def State.pn (s : State) (k : Nat) : Nat := (s.p k).toNat

/-- An entry as a natural number. -/
def State.rdn (s : State) (k : Nat) : Nat := (s.rd k).toNat

/-- An entry as a truth value. -/
def State.rdb (s : State) (k : Nat) : Bool := s.rd k != 0

/-- A parameter in force as a truth value. -/
def State.pb (s : State) (k : Nat) : Bool := s.p k != 0

/-- A bit of an entry. -/
def State.bit (s : State) (k i : Nat) : Bool := bitOf (s.rd k) i

/-- Set a bit of an entry. -/
def State.setB (s : State) (k i : Nat) (b : Bool) : State := s.wr k (setBit (s.rd k) i b)

/-- A DOMAIN entry's bytes. -/
def State.blob (s : State) (k : Nat) : List ByteN := getD [] s.blobs k

/-- Write a DOMAIN entry. -/
def State.setBlob (s : State) (k : Nat) (bs : List ByteN) : State := { s with blobs := putD [] s.blobs k bs }

/-! ### Instances -/

def State.door (s : State) (d : Nat) : Door := getD {} s.doors d
def State.setDoor (s : State) (d : Nat) (x : Door) : State := { s with doors := putD {} s.doors d x }
def State.axis (s : State) (a : Nat) : Axis := getD {} s.axes a
def State.setAxis (s : State) (a : Nat) (x : Axis) : State := { s with axes := putD {} s.axes a x }

/-! ### Counters and flags -/

/-- The largest UNSIGNED32, and the largest UNSIGNED16. -/
def max32 : Nat := 0xFFFFFFFF
def max16 : Nat := 0xFFFF

/-- Add to a counter that saturates at `top`. -/
def State.addSat (s : State) (k n top : Nat) : State := s.wr k (min (s.rdn k + n) top : Nat)

/-- Add 1 to an UNSIGNED32 counter that saturates. -/
def State.count (s : State) (k : Nat) : State := s.addSat k 1 max32

/-- Latch flag `i` of a status word (R10): a flag that is already set counts a repeat, and so does one that a write cleared in the
same tick. DEDUCED: log entry 189. -/
def State.latch (s : State) (word i rep : Nat) : State :=
  if s.bit word i then s.addSat rep 1 max16
  else if s.boundary.cleared.contains (word, i) then (s.addSat rep 1 max16).setB word i true
  else s.setB word i true

/-- A write of 1 clears a latched flag, and the tick remembers it (R10). -/
def State.clearFlag (s : State) (word i : Nat) : State :=
  if s.bit word i then
    { s with boundary := { s.boundary with cleared := (word, i) :: s.boundary.cleared } }.setB word i false
  else s

/-- The larger of an entry and a value, kept in the entry. -/
def State.raiseMax (s : State) (k : Nat) (v : Int) : State := if v > s.rd k then s.wr k v else s

/-! ### Time -/

/-- A deadline `ms` milliseconds from now: 50 fast ticks to the millisecond (R21). -/
def State.after (s : State) (ms : Nat) : Option Nat := some (s.now + 50 * ms)

/-- Whether an armed timer has run out. -/
def due (t : Option Nat) (now : Nat) : Bool := match t with
  | some x => x ≤ now
  | none => false

/-- Whether a condition that began at `since` has held for `n` fast ticks. -/
def heldFor (since : Option Nat) (now n : Nat) : Bool := match since with
  | some x => x + n ≤ now
  | none => false

/-- Start or drop the time stamp of a lasting condition. -/
def stamp (cond : Bool) (since : Option Nat) (now : Nat) : Option Nat :=
  if cond then (match since with | some x => some x | none => some now) else none

/-- Milliseconds of operation. -/
def State.ms (s : State) : Nat := s.now / 50

/-- Operating seconds and power cycles, the stamps of R455. -/
def State.secs (s : State) : Nat := s.rdn Gl.OPERATING_SECONDS
def State.cycles (s : State) : Nat := s.rdn Gl.POWER_CYCLES

/-- Draw a value that nothing constrains (assumption 3). DESIGN CHOICE: log entry 3. -/
def State.fresh (s : State) : Nat × State := (Config.freeNat s.free, { s with free := s.free + 1 })

/-! ### Egress -/

/-- Class of a queued frame (R435). -/
def Egress.cls : Egress → Nat
  | .emcy c _ _ _ => c
  | .emcyCia _ => 1
  | .event _ _ _ _ c _ _ => c
  | .response _ _ c => c
  | .bulkResponse _ _ => 3
  | .bootUp | .heartbeat _ | .tpdo _ _ => 1
  | .nsl _ _ _ _ => 0
  | .icmpReply _ | .arpReply _ _ _ => 3
  | .mirror _ _ _ => 2

/-- Put a frame behind the frames of its own and of higher classes (R39). -/
def enqueue (e : Egress) : List Egress → List Egress
  | [] => [e]
  | x :: r => if e.cls < x.cls then e :: x :: r else x :: enqueue e r

/-- Queue a frame for egress. DESIGN CHOICE: log entry 17. -/
def State.send (s : State) (e : Egress) : State := { s with egress := enqueue e s.egress }

/-! ### The event router -/

/-- The catalogue of R444: the codes, in order, with ALWAYS_LOG. -/
def catalogue1 : List (Nat × Bool) := [
  (0x2002, false), (0x3001, true), (0x3003, false), (0x3004, false), (0x0041, false), (0x0042, false), (0x1043, false),
  (0x3044, false), (0x3045, false), (0x3046, false), (0x1047, false), (0x3081, false), (0x1082, false), (0x0083, false),
  (0x1084, false), (0x00C1, true), (0x00C2, true), (0x20C1, false), (0x20C2, false), (0x20C3, true), (0x20C4, true),
  (0x20C5, true), (0x20C6, true), (0x20C7, true), (0x20C8, true), (0x20C9, true), (0x20CA, true), (0x20CB, true),
  (0x0101, false), (0x3141, false), (0x1142, false), (0x3143, false), (0x3144, false), (0x3145, false), (0x1181, false),
  (0x1182, false), (0x0183, false), (0x0184, false), (0x3185, false), (0x01C1, false), (0x01C2, false), (0x01C3, false),
  (0x31C4, false), (0x0201, false), (0x3202, false), (0x3203, false), (0x0241, false), (0x0242, false)]
def catalogue2 : List (Nat × Bool) := [
  (0x1281, false), (0x0282, false), (0x1283, false), (0x32C1, false), (0x3301, false), (0x1341, false), (0x3342, false),
  (0x3350, false), (0x1381, false), (0x1382, false), (0x0383, false), (0x13C1, false), (0x33C2, false), (0x33C3, false),
  (0x3401, false), (0x0402, false), (0x0403, false), (0x0404, false), (0x1441, false), (0x0442, false), (0x0481, false),
  (0x1482, false), (0x1483, false), (0x14C1, false), (0x34C2, false), (0x14C3, false), (0x14C4, false), (0x0501, false),
  (0x1502, false), (0x1503, false), (0x2581, true), (0x2582, true), (0x0583, false), (0x05C1, false)]
def catalogue : List (Nat × Bool) := catalogue1 ++ catalogue2

/-- CLASS, SUBSYSTEM of a code (R442). -/
def codeClass (c : Nat) : Nat := c / 4096
def codeSubsystem (c : Nat) : Nat := c / 64 % 64

def alwaysLog (c : Nat) : Bool := catalogue.any (fun x => x.1 == c && x.2)

def State.code (s : State) (c : Nat) : CodeRec := getD {} s.recd.codes c

def State.setCode (s : State) (c : Nat) (r : CodeRec) : State :=
  let codes := putD {} s.recd.codes c r
  let dirty := if s.recd.codesDirty.contains c then s.recd.codesDirty else c :: s.recd.codesDirty
  { s with recd := { s.recd with codes := codes, codesDirty := dirty } }

/-- Tokens of a code's bucket now, in 1/50000 of a token (R446). DEDUCED: log entry 140. -/
def bucketNow (r : CodeRec) (now rate burst : Nat) : Nat := match r.bucket with
  | none => burst * 50000
  | some (t, at_) => min (burst * 50000) (t + rate * (now - at_))

/-- Add to an event counter's EC_VALUE, saturating at 2^48 − 1 (R465). -/
def State.ecAdd (s : State) (n : Nat) : State := s.addSat (Ec.EC_VALUE n) 1 (2 ^ 48 - 1)

/-- Whether counter n counts an event of this code and instance; `suppressed` tells whether the bucket held it back (R466). -/
def ecCounts (s : State) (n code inst : Nat) (suppressed : Bool) : Bool :=
  let src := s.pn (Ec.EC_SOURCE n)
  let ei := s.pn (Ec.EC_INSTANCE n)
  s.pn (Ec.EC_MODE n) == 1 && (ei == 0xFF || ei == inst) &&
    ((121 ≤ src && src ≤ 184 && codeSubsystem code == src - 121)
      || (185 ≤ src && src ≤ 248 && suppressed && codeSubsystem code == src - 185)
      || (249 ≤ src && src ≤ 252 && codeClass code == src - 249)
      || (src == 253 && s.pn (Ec.EC_CODE n) == code))

/-- Count every counter of 0–31 for which `f` holds. -/
def State.ecEach (s : State) (f : State → Nat → Bool) : State :=
  (List.range 32).foldl (fun s n => if f s n then s.ecAdd n else s) s

/-- A CAN port is on the bus (R416): enabled at the last device reset, and not in bus-off. -/
def canLive (s : State) (p : Nat) : Bool := getD 2 s.net.frozen (Cb.ENABLE p) == 1 && s.rdn (Cb.BUS_STATE p) != 2

/-- CANopen services run: booted, not in recovery (R533), with a CAN port on. -/
def canopen (s : State) : Bool :=
  s.power.phase == .run && s.rdn Gl.BOOT_MODE != 1 && s.rdn Gl.BOOT_MODE != 2
    && [0, 1].any (canLive s)

/-- The inhibit time of 0x1015 has passed since the last EMCY under it. -/
def emcyClear (s : State) : Bool := match s.net.emcySent with
  | some t => decide (t + 5 * s.rdn Gl.INHIBIT_EMCY ≤ s.now)
  | none => true

/-- Send an EMCY (R422 to R425, R440): nothing in NMT state Stopped; the inhibit time never holds back a class-0 EMCY.
PRESUMED: log entry 116. DEDUCED: log entry 117. -/
def State.sendEmcy (s : State) (class0 : Bool) (e : Egress) : State :=
  -- an error sets bits of ERROR_REGISTER that the spec leaves to CiA 301: a free value
  let (r, s) := s.fresh
  let s := s.wrn Gl.ERROR_REGISTER (r % 256)
  if canopen s = false ∨ s.net.nmt = 4 then s
  else if class0 then s.send e
  else if emcyClear s ∧ s.net.emcyWait = [] then { s with net := { s.net with emcySent := some s.now } }.send e
  else { s with net := { s.net with emcyWait := s.net.emcyWait ++ [e] } }

/-- The next EMCY that waited for the inhibit time. -/
def State.emcyTick (s : State) : State := match s.net.emcyWait with
  | e :: r => if emcyClear s then { s with net := { s.net with emcySent := some s.now, emcyWait := r } }.send e else s
  | [] => s

/-- Notify an event (R425, R431): one EMCY for classes 0 and 1, and an event datagram on each enabled port. -/
def State.notify (s : State) (code inst : Nat) : State :=
  let cls := codeClass code
  let s := if cls ≤ 1 then s.sendEmcy (cls == 0) (.emcy cls code inst s.secs) else s
  [0, 1].foldl (fun s p =>
    if cls ≤ s.rdn Gl.EVENT_CLASS_MAX ∧ s.pn (Et.EVENT_DESTINATION p) ≠ 0 ∧ getD 2 s.net.frozen (Et.ENABLE p) = 1
        ∧ s.power.phase = .run ∧ s.rdn Gl.BOOT_MODE ≠ 1 ∧ s.rdn Gl.BOOT_MODE ≠ 2 then
      let q := getD 0 s.net.eventSeq p
      let s := { s with net := { s.net with eventSeq := putD 0 s.net.eventSeq p ((q + 1) % 65536) } }
      s.send (.event p ((q + 1) % 65536) code inst cls s.secs s.cycles)
    else s) s

/-- Raise an event: the event router of R445 to R447. -/
def State.raise (s : State) (code inst : Nat) (datum : Int) : State :=
  let r := s.code code
  let cls := codeClass code
  let rate := s.pn (Gl.BUCKET_RATE cls)
  let burst := s.pn (Gl.BUCKET_BURST cls)
  let t := bucketNow r s.now rate burst
  let r := { r with occ := min (r.occ + 1) max32, last := s.secs }
  let s := s.ecEach (fun s n => ecCounts s n code inst (decide (t < 50000)))
  if t < 50000 then
    s.setCode code { r with supp := min (r.supp + 1) max32, bucket := some (t, s.now) }
  else
    let s := (s.setCode code { r with bucket := some (t - 50000, s.now) }).notify code inst
    if s.recd.intake.length < 64 then
      { s with recd := { s.recd with intake := s.recd.intake ++ [{ code, inst, datum, secs := s.secs, cycles := s.cycles }] } }
    else
      let r := s.code code
      let s := s.setCode code { r with supp := min (r.supp + 1) max32 }
      let s := s.count Gl.INTAKE_LOST
      let s := s.latch Gl.RECORDER_STATUS 8 (Gl.RECORDER_REPEATS 0)
      s.ecEach (fun s n => s.pn (Ec.EC_MODE n) == 1 && s.pn (Ec.EC_SOURCE n) == 254)

/-- Hand a sample to Scarab (R449): area 1–4 of R460, histogram number, value. -/
def State.sample (s : State) (area hist : Nat) (v : Int) : State :=
  if s.recd.samples.length < 128 then
    { s with recd := { s.recd with samples := s.recd.samples ++ [{ area, hist, value := v }] } }
  else (s.count Gl.SAMPLES_LOST).latch Gl.RECORDER_STATUS 9 (Gl.RECORDER_REPEATS 1)

/-! ### Transaction slots (R35 to R37, R434) -/

/-- Slots that a class holds between commands: RPDOs kept for a SYNC are C1, open segmented writes C3, and a bulk message that is not
complete has the class of its first frame. DEDUCED: log entry 136. -/
def slotsOf (s : State) (cls : Nat) : Nat :=
  (s.net.bulk.filter (fun (x : Nat × BulkRx) => x.2.slot && x.2.cls == cls)).length
    + (if cls = 1 then s.net.rpdoHeld.length
       else if cls = 3 then (s.net.segs.filter (fun (x : Nat × SegWrite) => !x.2.timedOut)).length else 0)

/-- Slots in use between commands. -/
def slotsHeld (s : State) : Nat := slotsOf s 1 + slotsOf s 2 + slotsOf s 3

/-- Slots of the general pool in use: C1 takes its own reserve first. -/
def poolUsed (s : State) : Nat := (slotsOf s 1 - s.rdn Gl.C1_RESERVED) + slotsOf s 2 + slotsOf s 3

/-- Whether a frame of a class finds a slot it may use (R35, R36); a C0 frame ends within its command, so the 16 slots of its reserve are
free. -/
def slotFree (cls : Nat) (s : State) : Bool :=
  let pool := 112 - s.rdn Gl.C1_RESERVED
  if cls = 0 then true
  else if cls = 1 then decide (slotsOf s 1 < s.rdn Gl.C1_RESERVED) || decide (poolUsed s + 9 ≤ pool)
  else if cls = 2 then decide (poolUsed s < pool)
  else decide (slotsOf s 3 < s.rdn Gl.C3_CAP) && decide (poolUsed s + 9 ≤ pool)

/-- TXN_IN_FLIGHT between commands (R43). -/
def State.showTxn (s : State) : State := s.wrn Gl.TXN_IN_FLIGHT (slotsHeld s)

/-- A frame takes a slot for the time of its command: TXN_PEAK (R43). -/
def State.slotPeak (s : State) : State := s.raiseMax Gl.TXN_PEAK (slotsHeld s + 1 : Nat)

/-- A frame that finds no slot is counted for its class (R37). -/
def State.refuseSlot (s : State) (cls : Nat) : State := s.count (Gl.TXN_REFUSED_C0 + cls)

/-- A C1 frame was processed: how long after its arrival, the spec does not bound; C1_LATENCY_MAX is raised to a free value (R43).
DESIGN CHOICE: log entry 161. -/
def State.c1Latency (s : State) : State :=
  let (v, s) := s.fresh
  { s with net := { s.net with c1Latency := max s.net.c1Latency (v % 65536) } }

/-- A C1 frame that is served within its command (R434). -/
def State.c1Frame (s : State) : State := s.slotPeak.c1Latency

/-! ### The part -/

/-- Doorways of the part (R2). -/
def State.doorways (s : State) : Nat := if s.part.d8 then 8 else 16

/-- Doorways that ST_DWCNT configures (R4); on the D8 the strap has no effect (R3). -/
def State.doorwaysConfigured (s : State) : Nat :=
  if s.part.d8 then 8 else if s.bit Gl.STRAPS 7 then 8 else 16

/-- Doorway of an axis, and its role k (R20). -/
def doorOf (a : Nat) : Nat := a / 3
def roleOf (a : Nat) : Nat := a % 3

end Sys2Proof.Machine
end

