-- ==== Sys2Proof/Machine/Mirror.lean ====
section
/-!
DEFINITION. Members of the safety set (R288), the CRC of R155, and the mirror: which entries the units of a pair share (R350)
and the queue of mirror messages (R348, R351).
-/
namespace Sys2Proof.Machine

/-- Sub-indices of A+0x09 to A+0x0B and of A+0x02 that are members for a configured axis (R288), as keys. -/
def axisMembers (a : Nat) : List Nat :=
  [Ax.MOTOR_TYPE a, Ax.POLE_PAIRS a, Ax.TRAVEL_PER_REV a, Ax.MOTOR_KT a, Ax.CURRENT_BANDWIDTH a, Ax.ENCODER_TYPE a,
   Ax.ENCODER_CPR a, Ax.ENCODER_INVERT a, Ax.MOVING_MASS a, Ax.RUN_CURRENT a]

/-- Configured axes of the stored set: those of a doorway's stored type. -/
def storedAxes (s : State) : List Nat :=
  (List.range s.doorways).flatMap (fun d =>
    let t := s.rdn (Gl.SET_DOORWAY_TYPE d)
    (if t = 0 then [] else if t = 1 ∨ t = 3 ∨ t = 5 then [3 * d] else [3 * d, 3 * d + 1]) ++ (if 3 ≤ t then [3 * d + 2] else []))

/-- Whether an entry is a member of the safety set. -/
def isMember (s : State) (k : Nat) : Bool :=
  (decide (0x5003 ≤ k / 256) && decide (k / 256 < 0x5100) && (match rowOf (k / 256) (k % 256) with | some r => r.acc == .rwc | none => false))
    || (storedAxes s).any (fun a => (axisMembers a).contains k)

/-- One bit of the reflected CRC-32 of IEEE 802.3 (R155). -/
def crcBit (c : Nat) : Nat := if c % 2 = 1 then (c / 2) ^^^ 0xEDB88320 else c / 2

/-- One byte, least significant bit first. -/
def crcByte (c b : Nat) : Nat := (List.range 8).foldl (fun c _ => crcBit c) (c ^^^ (b % 256))

/-- The CRC-32 of R155. -/
def crc32 (bs : List ByteN) : Nat := (bs.foldl crcByte 0xFFFFFFFF) ^^^ 0xFFFFFFFF

/-- Size in bytes of a type (R437). -/
def Ty.size : Ty → Nat
  | .u8 | .i8 | .bool => 1 | .u16 | .i16 => 2 | .u24 => 3 | .u32 | .i32 => 4 | .u48 => 6 | .u64 => 8
  | .domain | .str | .record => 0

/-- Bytes of an entry's value, least significant first. -/
def valueBytes (k : Nat) (v : Int) : List ByteN := match rowOf (k / 256) (k % 256) with
  | some r => leBytes r.ty.size (twos (8 * r.ty.size) v)
  | none => []

/-- Booted, in RUN or DOZE: the engines run and the dictionary is reachable (R486, R531). -/
def State.running (s : State) : Bool := s.power.phase == .run

/-- Running with its doors: neither in recovery nor halted (R527, R533). -/
def State.operating (s : State) : Bool := s.running && s.rdn Gl.BOOT_MODE == 0

/-- What keeps every axis in STO and every safe output open outside the safety functions: no boot, recovery or a halted boot
(R527, R533), MANUFACTURE or RMA (R517, R519), a rollback fault (R516), the sleep sequence (R488). -/
def State.forcedSafe (s : State) : Bool :=
  !s.operating || s.rdn Gl.SECURITY_STATE == 0 || s.rdn Gl.SECURITY_STATE == 3 || s.bit Gl.SECURITY_STATUS 0 || s.power.sleepFrom.isSome

/-- Entries that both units of a pair share by CONFIG_WRITE (R350). -/
def mirrored (s : State) (k : Nat) : Bool :=
  let i := k / 256
  ((decide (0x2010 ≤ i) && decide (i ≤ 0x20FF)) || (decide (0x2120 ≤ i) && decide (i ≤ 0x212F)) || (decide (0x3000 ≤ i) && decide (i ≤ 0x4FFF)))
    && (match rowOf i (k % 256) with | some r => r.persist && (r.acc == .rw || r.acc == .rwm) | none => false)
    && !isMember s k

/-- This unit holds the drive token (R324). -/
def State.holds (s : State) : Bool := s.duplex.driving

/-- A working partner link: heartbeat present (R332). -/
def State.paired (s : State) : Bool := decide (3 ≤ s.rdn Gl.PARTNER_STATE)

/-- Queue a mirror message (R348): tags run 1 to 255. `item` is the item of the inventory that it carries. A snapshot takes the place of the
last one. -/
def State.mirrorSend (s : State) (type : Nat) (data : List ByteN) (item : Option (Nat × Nat) := none) : State :=
  if s.paired = false then s else
  let t := s.duplex.tag % 255 + 1
  let m : OutMsg := { tag := t, type, data, sentAt := s.now, firstAt := s.now, timeout := s.rdn Gl.MIRROR_TIMEOUT, item }
  let box := (if type = 2 then s.duplex.outbox.filter (fun (x : OutMsg) => x.type != 2) else s.duplex.outbox) ++ [m]
  ({ s with duplex := { s.duplex with tag := t, outbox := box } }).send (.mirror t type data)

/-- Mark an item for the next inventory (R348): kind 0 envelope, 1 background, 2 learned values, 3 configuration. -/
def State.markItem (s : State) (kind inst : Nat) : State :=
  if s.duplex.marked.contains (kind, inst) then s
  else { s with duplex := { s.duplex with marked := s.duplex.marked ++ [(kind, inst)] } }

/-- Pieces of a mirrored DOMAIN value (R351): piece j carries its number and bytes 32j to 32j + 31, and the last one fewer than 32. -/
def pieceOf (bs : List ByteN) (j : Nat) : List ByteN := j :: (bs.drop (32 * j)).take 32

/-- A mirrored DOMAIN value goes out as the pieces (5, 128 · entry + j) of the configuration. DESIGN CHOICE: log entry 100. -/
def State.sendPieces (s : State) (k : Nat) (bs : List ByteN) : State :=
  { s with duplex := { s.duplex with items := s.duplex.items.filter (fun (i : Nat × Nat) => !(i.1 == 5 && i.2 / 128 == k))
      ++ (List.range (bs.length / 32 + 1)).map (fun j => (5, 128 * k + j)) } }

/-- What an accepted write of a mirrored entry does beside its own effect (R351): a new generation, and a CONFIG_WRITE. DEDUCED: log entry 100. -/
def State.mirrorWrite (s : State) (via : Via) (k : Nat) (bs : List ByteN) : State :=
  if via = .mirror ∨ mirrored s k = false then s else
  let g := s.rdn Gl.CONFIG_GENERATION
  let g := if g = max32 then 1 else g + 1
  let s := s.wrn Gl.CONFIG_GENERATION g
  let s := { s with duplex := { s.duplex with written := place k (g, s.now) (erase k s.duplex.written) } }
  if 33 < bs.length then (if s.paired then s.sendPieces k bs else s)
  else s.mirrorSend 7 (leBytes 2 (k / 256) ++ [k % 256] ++ bs ++ leBytes 4 g) (some (3, 0))

/-- Release STAG_OUT (R326). -/
def State.letGo (s : State) : State := { s.wr Gl.HOLDER 0 with duplex := { s.duplex with driving := false, releaseNext := false } }

/-! ### What the hardware's own wires do after every command -/

/-- The conditions under which the interlock releases the token at once (R326): the logic die is out of reset and not in STABLED,
SET_STATE is CONFIRMED, no safe state of R268. -/
def mayHold (s : State) : Bool := s.running && s.rd Gl.SET_STATE == 1 && s.rd Gl.SAFE_STATE_CAUSE == 0

/-- NFAULT_CAUSES (R534, R536). -/
def nfaultCauses (s : State) : Nat :=
  (if s.running then 0 else 1) + (if s.power.wakeFailed then 2 else 0)
    + (if s.rd Gl.SAFE_STATE_CAUSE ≠ 0 ∨ s.safety.debugSafe then 4 else 0) + (if s.rd Gl.SET_STATE ≠ 1 then 8 else 0)
    + (if s.bit Gl.SECURITY_STATUS 0 then 16 else 0) + (if s.rd Gl.BOOT_MODE ≠ 0 then 32 else 0)
    + (if s.rd Gl.SECURITY_STATE = 0 ∨ s.rd Gl.SECURITY_STATE = 3 then 64 else 0)

/-- What follows at once from the state that a command leaves: the interlock, HOLDER and NFAULT_CAUSES. The queue is the sender's.
DESIGN CHOICE: log entry 23. -/
def State.settle (t : State) (queue : List Instr) : State :=
  let t := if t.holds && !mayHold t then t.letGo else t
  let t := { t.wr Gl.HOLDER (b2i t.holds) with pending := queue }
  t.wrn Gl.NFAULT_CAUSES (nfaultCauses t)

/-- A command that came to state `s` ends in `t`. DESIGN CHOICE: log entry 5. -/
def done (s t : State) : Host.Outcome State Fault Refusal := .next (t.settle s.pending)

end Sys2Proof.Machine
end

