-- ==== Sys2Proof/Machine/Access.lean ====
section
/-!
DEFINITION. One dictionary write from its arrival to its answer: transaction slot (R35 to R37), retry and session (R429,
R433), the checks in the order of R439, the entry's own effect, and the answer. Every command that is a write of an entry
goes through `writeNum` or `writeBytes` with that entry's effect.
-/
namespace Sys2Proof.Machine

/-- What an accepted value does: the next state, or the abort code of the entry's own checks or state. -/
abbrev Effect := Int → State → Except Nat State

/-! ### Abort codes (R439) -/
def abTimedOut : Nat := 0x05040000
def abOp : Nat := 0x05040001
def abNoSlot : Nat := 0x05040005
def abWriteOnly : Nat := 0x06010001
def abReadOnly : Nat := 0x06010002
def abNoObject : Nat := 0x06020000
def abMap : Nat := 0x06040041
def abMapLong : Nat := 0x06040042
def abLength : Nat := 0x06070010
def abNoSub : Nat := 0x06090011
def abValue : Nat := 0x06090030
def abHigh : Nat := 0x06090031
def abLow : Nat := 0x06090032
def abNmt : Nat := 0x08000000
def abState : Nat := 0x08000022
def abDomain : Nat := 0x09000001
def abLevel : Nat := 0x09000010
def abSession : Nat := 0x09000011
def abSegment : Nat := 0x09000012
def abCheck : Nat := 0x09000101
def abBandwidth : Nat := 0x09000102

/-! ### Checks -/

/-- Bounds of a type's bytes (R437); a BOOLEAN's values are bounded by its range (R77). -/
def Ty.lo : Ty → Int
  | .i8 => -128 | .i16 => -32768 | .i32 => -2147483648 | _ => 0
def Ty.hi : Ty → Int
  | .i8 => 127 | .i16 => 32767 | .i32 => 2147483647
  | .bool | .u8 => 255 | .u16 => 65535 | .u24 => 2 ^ 24 - 1 | .u32 => 2 ^ 32 - 1 | .u48 => 2 ^ 48 - 1 | .u64 => 2 ^ 64 - 1
  | _ => 0
def Ty.isSigned : Ty → Bool
  | .i8 | .i16 | .i32 => true
  | _ => false

/-- Doorway to which an entry's instance belongs, if any (R3, R4). -/
def Row.doorway (r : Row) (index sub : Nat) : Option Nat :=
  let i := (index - r.base) / max r.stride 1
  match r.inst with
  | .none => none
  | .door => some i
  | .axis => some (i / 3)
  | .sensor => some (i / 2)
  | .doorSub => some (sub - 1)
  | .axisSub => some ((sub - 1) / 3)

/-- The index itself belongs to an instance, and that one is absent (R3). -/
def Row.absent (r : Row) (index : Nat) (s : State) : Bool := match r.inst with
  | .door | .axis | .sensor => (match r.doorway index 0 with
    | some d => decide (s.doorways ≤ d)
    | none => false)
  | .none | .doorSub | .axisSub => false

/-- Existence (R438, R3): the row of an entry, or an abort code. Sub-index 0 of a listed index is a constant (R437); an index of an
absent instance has no sub-index at all. -/
def exists_ (index sub : Nat) (s : State) : Except Nat Row :=
  match rowOf index sub with
  | some r => match r.doorway index sub with
    | some d => if d < s.doorways then .ok r else .error abNoObject
    | none => .ok r
  | none =>
    match (rowsOf index).find? (fun r => r.hasIndex index) with
    | some r =>
      if r.absent index s then .error abNoObject
      else if sub = 0 then .ok { r with subLo := 0, subHi := 0, ty := .u8, acc := .const, dflt := 0, ranges := [] }
      else .error abNoSub
    | none => .error abNoObject

/-- Whether a level may write an access code (R13, R14). -/
def levelMayWrite (acc : Acc) (l : Level) : Bool := match acc with
  | .ro | .const | .wo => true
  | .rw => l != .vendor
  | .rwm => l == .maintainer || l == .commissioner
  | .rwc => l == .commissioner

/-- The level a path acts at (R433). -/
def levelOf (via : Via) (s : State) : Level := match via with
  | .sdo | .pdo => .operator
  | .mirror => .commissioner
  | .msg m => match s.sessions.find? (fun x => x.num == m.session) with
    | some x => x.level
    | none => .operator

/-- CAP_SPEED of an axis: above its range it is above MAX_SPEED, for which R86 names an abort code of its own. -/
def isCapSpeed (r : Row) (index sub : Nat) : Bool :=
  r.inst == .axis && (index % 0x10 == 2 || index % 0x10 == 3) && sub % 3 == 0

/-- A value outside its ranges (R77): by the entry's own rule (R86), else by the unit column. -/
def rangeCheck (r : Row) (index sub : Nat) (v : Int) : Option Nat :=
  if r.ranges = [] ∨ r.ranges.any (fun x => x.1 ≤ v ∧ v ≤ x.2) then none
  else if isCapSpeed r index sub then some abValue
  else if r.unit then
    if r.ranges.any (fun x => v ≤ x.2) then some abLow else some abHigh
  else some abValue

/-- The value as a number of the entry's type, or a length error (R428). -/
def numOf (r : Row) : Val → Option Int
  | .num v => if r.ty.size ≠ 0 ∧ r.ty.lo ≤ v ∧ v ≤ r.ty.hi then some v else none
  | .bytes bs =>
    if r.ty.size ≠ 0 ∧ bs.length = r.ty.size then
      some (if r.ty.isSigned then signed (8 * r.ty.size) (leVal bs) else (leVal bs : Int))
    else none

/-! ### Classes of requests (R434) -/

/-- Class of a read (R434). -/
def readClass (index : Nat) : Nat :=
  if (0x2200 ≤ index ∧ index < 0x2400) ∨ (0x2500 ≤ index ∧ index < 0x2600) ∨ (0x6000 ≤ index ∧ index < 0x6100) then 3 else 2

/-- Class of a write (R434). -/
def requestClass (index sub : Nat) (segmented : Bool) : Nat :=
  if (index = 0x2010 ∧ sub = 1) ∨ (0x3000 ≤ index ∧ index < 0x3400 ∧ index % 0x40 = 1 ∧ sub = 1)
    ∨ (0x4110 ≤ index ∧ index < 0x4120 ∧ sub = 2) ∨ (0x4210 ≤ index ∧ index < 0x4218 ∧ sub = 2)
    ∨ (0x3400 ≤ index ∧ index < 0x3700 ∧ index % 0x10 = 5 ∧ sub = 4) then 1
  else if (0x2200 ≤ index ∧ index < 0x2400) ∨ (0x2500 ≤ index ∧ index < 0x2600) ∨ (0x6000 ≤ index ∧ index < 0x6100) ∨ segmented then 3
  else 2

/-! ### Front and answer -/

/-- Where a request goes after its arrival checks. -/
inductive Front
  | stop (s : State)
  | go (s : State)

/-- Entries that recovery answers (R533). -/
def inRecovery (index : Nat) : Bool :=
  index == 0x1018 || index == 0x2000 || index == 0x2001 || (decide (0x2200 ≤ index) && decide (index ≤ 0x2204))
    || (decide (0x2300 ≤ index) && decide (index ≤ 0x2340))

/-- DOZE_SLEEPING (R500). -/
def State.showDoze (s : State) : State := s.setB Gl.POWER_STATUS 3 (!s.bit Gl.DOMAINS_ON 4 || !s.bit Gl.DOMAINS_ON 7)

/-- A domain is on again. -/
def State.domainOn (s : State) (i : Nat) : State :=
  let p := s.power
  let s := { s with power := { p with
    waking := if p.waking.testBit i then p.waking - 2 ^ i else p.waking,
    motionIdle := if i = 4 then none else p.motionIdle, senseIdle := if i = 7 then none else p.senseIdle } }
  ((s.setB Gl.DOMAINS_ON i true).count Gl.DOMAIN_WAKES).showDoze

/-- An access to an entry of MOTION (axes) or SENSE (Mantis, depth sensors) wakes its domain, or restarts its 100 ms (R483, R484).
DEDUCED: log entry 141. -/
def State.touch (s : State) (index : Nat) : State :=
  let p := s.power
  if 0x3400 ≤ index ∧ index < 0x3700 then
    (if s.bit Gl.DOMAINS_ON 4 then { s with power := { p with motionIdle := p.motionIdle.map (fun _ => s.now) } } else s.domainOn 4)
  else if 0x3800 ≤ index ∧ index < 0x3A00 then
    (if s.bit Gl.DOMAINS_ON 7 then { s with power := { p with senseIdle := p.senseIdle.map (fun _ => s.now) } } else s.domainOn 7)
  else s

/-- RX_FRAMES of the port a request came by: a message of source 0 or 1 was counted frame by frame on its CAN port (R432); others
came by UDP; an SDO is counted on CAN0. DEDUCED: log entry 127. -/
def State.countRx (s : State) (via : Via) : State := match via with
  | .msg m => if 2 ≤ m.source then s.count (Et.RX_FRAMES (m.source % 2)) else s
  | .sdo => s.count (Cb.RX_FRAMES 0)
  | .pdo | .mirror => s

/-- Answer before any check of the entry: the abort goes out, and nothing is kept. DEDUCED: log entry 121. -/
def State.turnAway (s : State) (via : Via) (ab cls : Nat) : State := match via with
  | .msg m => { s with answer := some ab }.send (.response m.source ab cls)
  | .sdo => { s with answer := some ab }.send (.response 0 ab cls)
  | .pdo | .mirror => { s with answer := none }

/-- Under which number a path's segmented write is held: 0 for the SDO server (R420), else the source's number plus 1 (R428). -/
def segSource (via : Via) : Nat := match via with | .msg m => m.source + 1 | _ => 0

/-- A request that has its slot already: a further segment of the source's open write (R434), a bulk message reassembled frame by frame, or
an entry of a PDO, which is tested as one frame (R37). What a partner wrote takes no slot. -/
def ownsSlot (via : Via) (seg : Option Seg) (s : State) : Bool :=
  let further := match seg, lookup (segSource via) s.net.segs with
    | some g, some w => decide (g.offset ≠ 0) && !w.timedOut
    | _, _ => false
  match via with
  | .pdo | .mirror => true
  | .sdo => further
  | .msg m => further || (lookup m.source s.net.bulk).isSome

/-- Slots in use and their peak, while a request is served (R43). -/
def State.countSlots (s : State) (owns : Bool) : State :=
  if owns then s else (s.wrn Gl.TXN_IN_FLIGHT (slotsHeld s + 1)).slotPeak

/-- A session that no 600 s without a valid request have closed (R433). -/
def sessionLive (s : State) (x : Session) : Bool := decide (s.now < x.lastValid + 30000000)

/-- The sessions that are open. -/
def liveSessions (s : State) : List Session := s.sessions.filter (sessionLive s)

/-- REQUEST_ID of a request whose command names none: it is a request of its own, never a retry. DESIGN CHOICE: log entry 222. -/
def noReqId : Nat := 65536

/-- The session of a message (R433): an unknown one is answered, a bad tag or an old counter is not. -/
def frontMsg (m : Msg) (cls : Nat) (content : Nat × Nat × Val × Option Seg) (s : State) : Front :=
  let known := m.session = 0 ∨ (liveSessions s).any (fun (x : Session) => x.num == m.session)
  if ¬ known then .stop (s.turnAway (.msg m) abSession cls)
  else if m.session ≠ 0 ∧ m.tagOk = false then .stop { s.count Gl.AUTH_FAILURES with answer := none }
  else match s.net.kept.find? (fun (k : Kept) => decide (m.reqId < noReqId) && k.source == m.source && k.reqId == m.reqId && k.counter == m.counter
             && k.content == content && decide (s.now ≤ k.at_ + 100000)) with
    | some k =>
      let e : Egress := if k.data = [] then .response m.source k.abort cls else .bulkResponse m.source k.data
      .stop { (s.count Gl.DM_RETRIES_ANSWERED).send e with answer := some k.abort }
    | none =>
      if m.session ≠ 0 ∧ s.sessions.any (fun (x : Session) => x.num == m.session && decide (m.counter ≤ x.counter)) then
        .stop { s.count Gl.AUTH_FAILURES with answer := none }
      else
        let s : State := { s with
          sessions := s.sessions.map (fun (x : Session) => if x.num = m.session then { x with counter := m.counter, lastValid := s.now } else x) }
        .go (s.touch content.1)

/-- A request that ends here gives its slot back (R43). -/
def Front.free : Front → Front
  | .stop s => .stop s.showTxn
  | .go s => .go s

/-- Reachability (R486, R533), slot, session, tag, retry and counter (R37, R433, R429). -/
def front (via : Via) (cls : Nat) (content : Nat × Nat × Val × Option Seg) (s : State) : Front :=
  let recovery := s.rdn Gl.BOOT_MODE = 1 ∨ s.rdn Gl.BOOT_MODE = 2
  if s.running = false then .stop { s with answer := none }
  else
    let s := s.countRx via
    if recovery ∧ inRecovery content.1 = false then
      .stop (match via with | .msg _ => s.turnAway via abState cls | _ => { s with answer := none })
    else if slotFree cls s = false ∧ ownsSlot via content.2.2.2 s = false then
      let s := s.refuseSlot cls
      -- a bulk segment is discarded, as a PDO is
      .stop (match via with
        | .msg m => if m.source < 2 then { s with answer := none } else s.turnAway via abNoSlot cls
        | _ => s.turnAway via abNoSlot cls)
    else
      let s := s.countSlots (ownsSlot via content.2.2.2 s)
      let s := if cls = 1 then s.c1Latency else s
      Front.free (match via with
      | .sdo => if s.net.nmt = 4 ∨ recovery then .stop { s with answer := none } else .go (s.touch content.1)
      | .pdo => if s.net.nmt = 5 ∧ ¬ recovery then .go (s.touch content.1) else .stop { s with answer := none }
      | .mirror => .go (s.touch content.1)
      | .msg m => frontMsg m cls content s)

/-- At most `n` kept responses of a source stay, the newest first (R429). -/
def keepLast (src : Nat) : Nat → List Kept → List Kept
  | _, [] => []
  | 0, k :: r => if k.source = src then keepLast src 0 r else k :: keepLast src 0 r
  | n + 1, k :: r => if k.source = src then k :: keepLast src n r else k :: keepLast src (n + 1) r

/-- Answer a request (R426, R429): record the abort code, queue the response, keep it for retries. -/
def reply (via : Via) (cls : Nat) (content : Nat × Nat × Val × Option Seg) (ab : Nat) (s : State) : State :=
  let s := { s with answer := some ab }.showTxn
  match via with
  | .pdo | .mirror => s
  | .sdo => s.send (.response 0 ab cls)
  | .msg m =>
    let s := s.send (.response m.source ab cls)
    let k : Kept := { source := m.source, reqId := m.reqId, counter := m.counter, content, abort := ab, at_ := s.now }
    { s with net := { s.net with kept := keepLast m.source 16 (k :: s.net.kept) } }

/-- RMA: every entry is read-only at every level (R519). -/
def frozenByRma (s : State) : Bool := s.rdn Gl.SECURITY_STATE == 3

/-- A value of fixed size is written whole (R428): OFFSET 0 and FINAL set. -/
def whole (seg : Option Seg) : Bool := match seg with
  | none => true
  | some g => g.offset == 0 && g.final

/-- The checks of R439 up to the range, for a write of a number: the row and the value. `lv` replaces the level of R13
where the entry's own rule names one. -/
def checkNum (via : Via) (index sub : Nat) (v : Val) (seg : Option Seg) (lv : Option (Level → Bool)) (s : State) : Except Nat Int :=
  match exists_ index sub s with
  | .error e => .error e
  | .ok r =>
    let l := levelOf via s
    let lvlOk := via == .mirror || (match lv with | some f => f l | none => levelMayWrite r.acc l)
    if lvlOk = false then .error abLevel
    else if r.acc = .ro ∨ r.acc = .const ∨ frozenByRma s then .error abReadOnly
    else if whole seg = false then .error abLength
    else match numOf r v with
      | none => .error abLength
      | some n => match rangeCheck r index sub n with
        | some e => .error e
        | none => .ok n

/-- Whether R4 refuses a write: the entry belongs to a doorway that is configured out. -/
def configuredOut (index sub : Nat) (s : State) : Bool :=
  match rowOf index sub with
  | some r => match r.doorway index sub with
    | some d => decide (s.doorwaysConfigured ≤ d)
    | none => false
  | none => false

/-- A write of a number to an entry whose accepted value acts as `e`; `refused` is what else a refusal by PDO does (R54). -/
def writeSeg (via : Via) (index sub : Nat) (v : Val) (seg : Option Seg) (lv : Option (Level → Bool)) (refused : State → State)
    (e : Effect) (s : State) : State :=
  let cls := requestClass index sub false
  let content := (index, sub, v, seg)
  match front via cls content s with
  | .stop s => s
  | .go s =>
    match checkNum via index sub v seg lv s with
    | .error ab => reply via cls content ab (if via = .pdo then refused s else s)
    | .ok n =>
      if configuredOut index sub s then reply via cls content abState (if via = .pdo then refused s else s)
      else match e n s with
        | .error ab => reply via cls content ab (if via = .pdo then refused s else s)
        | .ok s' => reply via cls content 0 (s'.mirrorWrite via (key index sub) (valueBytes (key index sub) n))

/-- The same in one piece, as every path but a dictionary message sends it. -/
def writeNum (via : Via) (index sub : Nat) (v : Val) (lv : Option (Level → Bool)) (refused : State → State) (e : Effect)
    (s : State) : State := writeSeg via index sub v none lv refused e s

/-- The effect of an entry without behaviour of its own: the value is stored (R437). -/
def store (index sub : Nat) : Effect := fun n s => .ok (s.wr (key index sub) n)

/-- Longest pause between segments: 500 ms of the SDO server (R420), 1 s of a dictionary message (R428). -/
def segPause (src : Nat) : Nat := if src = 0 then 25000 else 50000

/-- The segmented write that a source has open is discarded (R428), and counted unless its pause has been counted already. -/
def State.discardOpen (s : State) (src : Nat) : State := match lookup src s.net.segs with
  | none => s
  | some w =>
    let s' := { s with net := { s.net with segs := erase src s.net.segs } }
    if w.timedOut then s' else s'.count Gl.SEGMENTED_WRITES_DISCARDED

/-- A write of a DOMAIN value (R428): in one piece, or in segments of up to 1024 bytes from one source. `e` is applied to the
whole value. -/
def writeBytes (via : Via) (index sub : Nat) (v : Val) (seg : Option Seg) (lv : Option (Level → Bool))
    (e : List ByteN → State → Except Nat State) (s : State) : State :=
  let cls := requestClass index sub seg.isSome
  let content := (index, sub, v, seg)
  match front via cls content s with
  | .stop s => s
  | .go s =>
    match exists_ index sub s with
    | .error ab => reply via cls content ab s
    | .ok r =>
      let l := levelOf via s
      let lvlOk := via == .mirror || (match lv with | some f => f l | none => levelMayWrite r.acc l)
      if lvlOk = false then reply via cls content abLevel s
      else if r.acc = .ro ∨ r.acc = .const ∨ frozenByRma s then reply via cls content abReadOnly s
      else match v with
        | .num _ => reply via cls content abLength s
        | .bytes bs =>
          let whole := fun (bs : List ByteN) (s : State) =>
            if configuredOut index sub s then reply via cls content abState s
            else match e bs s with
              | .error ab => reply via cls content ab s
              | .ok s' => reply via cls content 0 (s'.mirrorWrite via (key index sub) bs)
          match seg with
          | none => whole bs s
          | some g =>
            let src := segSource via
            if bs.length > 1024 then reply via cls content abLength s
            else if s.net.segs.any (fun x => x.1 != src && x.2.index == index && x.2.sub == sub && !x.2.timedOut) then
              reply via cls content abState s
            else if g.offset = 0 then
              if g.final then whole bs (s.discardOpen src)
              else
                let s := s.discardOpen src
                reply via cls content 0 { s with net := { s.net with segs := place src { index, sub, bytes := bs, last := s.now } s.net.segs } }
            else match lookup src s.net.segs with
              | none => reply via cls content abSegment s
              | some w =>
                if w.timedOut ∨ w.last + segPause src < s.now then reply via cls content abTimedOut (s.discardOpen src)
                else if w.index ≠ index ∨ w.sub ≠ sub ∨ g.offset ≠ w.bytes.length then
                  reply via cls content abSegment (s.discardOpen src)
                else if g.final then whole (w.bytes ++ bs) { s with net := { s.net with segs := erase src s.net.segs } }
                else reply via cls content 0
                  { s with net := { s.net with segs := place src { w with bytes := w.bytes ++ bs, last := s.now } (erase src s.net.segs) } }

end Sys2Proof.Machine
end

