-- ==== Sys2Proof/Machine/Path.lean ====
section
/-!
DEFINITION. The path of a group move in continuous time (R80 to R97), planned as segments and sampled at motion-tick
boundaries. Speeds are in 1/s of the path parameter, times in seconds, all exact rationals; a square root is taken to
2^−40 (assumption 7).
-/
namespace Sys2Proof.Machine

/-- Integer square root, bit by bit from bit `k`. -/
def isqrtFrom : Nat → Nat → Nat → Nat
  | 0, n, r => if (r + 1) * (r + 1) ≤ n then r + 1 else r
  | k + 1, n, r =>
    let t := r + 2 ^ (k + 1)
    isqrtFrom k n (if t * t ≤ n then t else r)

/-- Integer square root. DESIGN CHOICE: log entry 7. -/
def isqrt (n : Nat) : Nat := if n = 0 then 0 else isqrtFrom (Nat.log2 n / 2 + 1) n 0

/-- Square root of a rational, to 2^−40 below. -/
def ratSqrt (x : Rat) : Rat :=
  if x ≤ 0 then 0 else mkRat (isqrt (x.num.toNat * 2 ^ 80 / x.den)) (2 ^ 40)

/-- Largest integer not above a rational, and rounding to the nearest. -/
def ratRound (x : Rat) : Int := (x + 1 / 2).floor

/-- Ramp time of R84 for a change of speed `dv`; `j = 0` is no jerk limit (R83). -/
def rampTime (dv a j : Rat) : Rat :=
  if a ≤ 0 then 0 else
  if j ≤ 0 then dv / a
  else if dv ≥ a * a / j then dv / a + a / j else 2 * ratSqrt (dv / j)

/-- Time for which the acceleration of that ramp rises. -/
def rampTj (dv a j : Rat) : Rat :=
  if a ≤ 0 ∨ j ≤ 0 then 0 else if dv ≥ a * a / j then a / j else ratSqrt (dv / j)

/-- Path length of a ramp between two speeds. -/
def rampLen (u w a j : Rat) : Rat := (u + w) / 2 * rampTime (if u ≤ w then w - u else u - w) a j

/-- A ramp segment. -/
def rampSeg (k : SegKind) (u w a j : Rat) : PathSeg :=
  let dv := if u ≤ w then w - u else u - w
  { kind := k, v0 := u, v1 := w, dur := rampTime dv a j, tj := rampTj dv a j }

/-- Length of a segment. -/
def PathSeg.len (g : PathSeg) : Rat := (g.v0 + g.v1) / 2 * g.dur

/-- Largest deceleration of a falling segment. -/
def PathSeg.decel (g : PathSeg) : Rat := if g.dur - g.tj = 0 then 0 else (g.v0 - g.v1) / (g.dur - g.tj)

/-- Jerk of an S-shaped segment, 0 for a straight one. -/
def PathSeg.jerk (g : PathSeg) : Rat :=
  if g.tj ≤ 0 ∨ g.dur - g.tj ≤ 0 then 0 else (if g.v0 ≤ g.v1 then g.v1 - g.v0 else g.v0 - g.v1) / (g.tj * (g.dur - g.tj))

/-- Path speed `t` seconds into a segment. -/
def PathSeg.velAt (g : PathSeg) (t : Rat) : Rat :=
  if g.dur ≤ 0 ∨ t ≥ g.dur then g.v1 else
  let acc := if g.dur - g.tj = 0 then 0 else (g.v1 - g.v0) / (g.dur - g.tj)
  if t < g.tj then g.v0 + acc * t * t / (2 * g.tj)
  else if t ≤ g.dur - g.tj then g.v0 + acc * g.tj / 2 + acc * (t - g.tj)
  else g.v1 - acc * (g.dur - t) * (g.dur - t) / (2 * g.tj)

/-- Path length covered `t` seconds into a segment. -/
def PathSeg.posAt (g : PathSeg) (t : Rat) : Rat :=
  if g.dur ≤ 0 ∨ t ≥ g.dur then g.len else
  let acc := if g.dur - g.tj = 0 then 0 else (g.v1 - g.v0) / (g.dur - g.tj)
  if t < g.tj then g.v0 * t + acc * t * t * t / (6 * g.tj)
  else if t ≤ g.dur - g.tj then
    let u := t - g.tj
    g.v0 * g.tj + acc * g.tj * g.tj / 6 + (g.v0 + acc * g.tj / 2) * u + acc * u * u / 2
  else
    let u := g.dur - t
    g.len - (g.v1 * u - acc * u * u * u / (6 * g.tj))

/-- A falling ramp, `el` seconds old, that goes on at once at the greater deceleration `d` (R93): the S-shaped ramp of its own jerk
that has the present speed and deceleration, and the time into it. A ramp whose deceleration already falls stays as it is. -/
def PathSeg.steeper (g : PathSeg) (el d : Rat) : PathSeg × Rat :=
  let j := g.jerk
  let v := g.velAt el
  if j ≤ 0 then (rampSeg g.kind v g.v1 d 0, 0)
  else if el > g.dur - g.tj then (g, el)
  else
    let dec := j * min el g.tj
    (rampSeg g.kind (v + dec * dec / (2 * j)) g.v1 d j, dec / j)

/-- The rise time of the deceleration of a ramp of a given time: with jerk `j`, or half the ramp where that needs more jerk
(R96, R97). -/
def tjWithin (dv t j : Rat) : Rat :=
  let disc := t * t - 4 * dv / j
  if j ≤ 0 then 0 else if disc < 0 then t / 2 else (t - ratSqrt disc) / 2

/-- The falling ramp that ends exactly `room` further on. -/
def brakeWithin (u w room j : Rat) : PathSeg :=
  { kind := .brake, v0 := u, v1 := w, dur := 2 * room / (u + w), tj := tjWithin (u - w) (2 * room / (u + w)) j }

/-- Bisection: the largest value in `[lo, hi]`, to 2^−n of the interval, at which `ok` holds, given that it holds at `lo`. -/
def bisect : Nat → (Rat → Bool) → Rat → Rat → Rat
  | 0, _, lo, _ => lo
  | n + 1, ok, lo, hi => let m := (lo + hi) / 2; if ok m then bisect n ok m hi else bisect n ok lo m

/-- The largest speed, up to `top`, from which a falling ramp to `w`, or to which a rising ramp from `w`, fits into `len`. -/
def maxEntry (w len d j top : Rat) : Rat :=
  if j ≤ 0 then min top (max w (ratSqrt (w * w + 2 * d * len)))
  else if rampLen top w d j ≤ len then top else bisect 40 (fun x => decide (rampLen x w d j ≤ len)) w top

/-- The peak speed of a stretch of length `len` entered at `u` and left at `w`, under limit `top`. -/
def peakSpeed (u w len top : Rat) (l : PathLimits) : Rat :=
  let fits := fun p => decide (rampLen u p l.a l.j + rampLen p w l.d l.j ≤ len)
  if fits top then top
  else if l.j ≤ 0 then min top (max (max u w) (ratSqrt ((2 * l.a * l.d * len + l.d * u * u + l.a * w * w) / (l.a + l.d))))
  else bisect 40 fits (max u w) top

/-- A stretch of the path with one speed limit (R87). -/
structure Stretch where
  lo : Rat
  hi : Rat
  top : Rat
  deriving DecidableEq, Repr

/-- Insert into a rising list. -/
def insRat (x : Rat) : List Rat → List Rat
  | [] => [x]
  | y :: r => if x ≤ y then x :: y :: r else y :: insRat x r

/-- Neighbours with one limit are one stretch. -/
def joinStretches : List Stretch → List Stretch
  | [] => []
  | x :: r => match joinStretches r with
    | y :: q => if x.top = y.top then { x with hi := y.hi } :: q else x :: y :: q
    | [] => [x]

/-- Cut the path from `s` to 1 at the cap boundaries and give each stretch the smallest limit over it. -/
def stretches (s v : Rat) (caps : List Stretch) : List Stretch :=
  let cuts := ((s :: 1 :: caps.foldr (fun c r => c.lo :: c.hi :: r) []).filter (fun x => s ≤ x ∧ x ≤ 1)).foldr insRat []
  let rec go : List Rat → List Stretch
    | a :: b :: r =>
      if a = b then go (b :: r)
      else
        let m := (a + b) / 2
        { lo := a, hi := b, top := caps.foldl (fun t c => if c.lo ≤ m ∧ m ≤ c.hi then min t c.top else t) v } :: go (b :: r)
    | _ => []
  joinStretches (go cuts)

/-- Speeds at the entries of the stretches from which every later limit can be met, ending at speed `w`. -/
def entrySpeeds (l : PathLimits) (w : Rat) : List Stretch → List Rat
  | [] => [w]
  | x :: r =>
    let t := entrySpeeds l w r
    maxEntry (min x.top (t.headD w)) (x.hi - x.lo) l.d l.j x.top :: t

/-- Segments over a stretch of length `len` under limit `top`, entered at a speed `u` within it, and the speed at its end, at most
`wMax`. Where the jerk in force gives a ramp that no longer fits, the ramp begins at once and ends exactly at its position.
DEDUCED: log entry 39. -/
def planOne (l : PathLimits) (top len u wMax : Rat) : List PathSeg × Rat :=
  let wm := min wMax top
  if u > wm ∧ rampLen u wm l.d l.j > len then ([brakeWithin u wm len l.j], wm)
  else
    let w := if u < wm then maxEntry u len l.a l.j wm else wm
    let p := peakSpeed u w len top l
    let rise := if p > u then [rampSeg .rise u p l.a l.j] else []
    let down := if p > w then [rampSeg .brake p w l.d l.j] else []
    let runLen := len - (if p > u then rampLen u p l.a l.j else 0) - (if p > w then rampLen p w l.d l.j else 0)
    (rise ++ (if runLen > 0 ∧ p > 0 then [{ kind := SegKind.run, v0 := p, v1 := p, dur := runLen / p, tj := 0 }] else []) ++ down, w)

/-- Segments over the stretches from position `s` and speed `u`. A speed above the limit falls to it at once (R91), across a cap
boundary where the next limit allows it. -/
def planOver (l : PathLimits) : List Stretch → List Rat → Rat → Rat → List PathSeg
  | [], _, _, _ => []
  | x :: r, ws, s, u =>
    let wm := ws.tail.headD 0
    let len := x.hi - s
    let fall := rampSeg .limitFall u x.top l.d l.j
    if len ≤ 0 then planOver l r ws.tail s u
    else if u ≤ x.top then
      let (gs, w) := planOne l x.top len u wm
      gs ++ planOver l r ws.tail x.hi w
    else if fall.len + (if x.top > wm then rampLen x.top wm l.d l.j else 0) ≤ len then
      let (gs, w) := planOne l x.top (len - fall.len) x.top wm
      fall :: gs ++ planOver l r ws.tail x.hi w
    else if x.top ≤ wm then fall :: planOver l r ws.tail (s + fall.len) x.top
    else brakeWithin u wm len l.j :: planOver l r ws.tail x.hi wm

/-- The plan from path position `s` and speed `v` to s = 1 at speed 0 (R83 to R87). -/
def planPath (l : PathLimits) (caps : List Stretch) (s v : Rat) : List PathSeg :=
  if l.v ≤ 0 ∨ l.a ≤ 0 ∨ l.d ≤ 0 then [] else
  let st := stretches s l.v caps
  planOver l st (entrySpeeds l 0 st) s v

/-- Advance a list of segments by `dt`: (distance, remaining segments, time into the head, speed). -/
def advance : List PathSeg → Rat → Rat → Rat → Rat × List PathSeg × Rat × Rat
  | [], _, _, v => (0, [], 0, if v > 0 then 0 else v)
  | g :: r, el, dt, _ =>
    if el + dt < g.dur then (g.posAt (el + dt) - g.posAt el, g :: r, el + dt, g.velAt (el + dt))
    else
      let (x, gs, e, v) := advance r 0 (el + dt - g.dur) g.v1
      (g.len - g.posAt el + x, gs, e, v)

/-- The stop ramp from speed `v` at path position `s` (R96, R97): its segment and whether R97 raised a limit. `tMax` is the
longest time allowed, and the ramp never carries the path beyond 1. -/
def stopPlan (d j v s tMax : Rat) : PathSeg × Bool :=
  let t0 := rampTime v d j
  -- R97: raise the deceleration, and the jerk where the jerk limit alone makes the ramp too long
  let jBad := decide (j > 0) && decide (2 * ratSqrt (v / (if j > 0 then j else 1)) > tMax)
  let long := decide (t0 > tMax) && decide (tMax > 0)
  let t1 := if long then tMax else t0
  let tj1 := if !long then rampTj v d j else if jBad then t1 / 2 else tjWithin v t1 j
  -- R96: bring the path to rest at s = 1 at the latest
  let room := 1 - s
  let g : PathSeg := { kind := .stop, v0 := v, v1 := 0, dur := t1, tj := if j ≤ 0 then 0 else tj1 }
  if v > 0 ∧ g.len > room then ({ brakeWithin v 0 room j with kind := .stop }, long) else (g, long)

end Sys2Proof.Machine
end

