-- ==== Sys2Proof/Machine/Terms.lean ====
section
/-!
DEFINITION. Terms that several engines read: which axes a doorway has (R44), what a doorway's side and release are, which
axes are in STO, how an input code reads.
-/
namespace Sys2Proof.Machine

/-- Doorway type and side in force (R44, R46). -/
def doorType (s : State) (d : Nat) : Nat := s.pn (Gl.SET_DOORWAY_TYPE d)
def doorSide (s : State) (d : Nat) : Nat := s.pn (Gl.SET_DOORWAY_SIDE d)

/-- A doorway that is neither NOT_USED, nor configured out, nor absent (R45, R4). -/
def configured (s : State) (d : Nat) : Bool := decide (d < s.doorwaysConfigured) && doorType s d != 0

/-- Leaves of a doorway (R44). -/
def leavesOf (s : State) (d : Nat) : List Nat :=
  match doorType s d with
  | 0 => [] | 1 | 3 | 5 => [3 * d] | _ => [3 * d, 3 * d + 1]

/-- TRUE for a type with a step or bridge plate (R44). -/
def hasStep (s : State) (d : Nat) : Bool := decide (3 ≤ doorType s d)

/-- Configured axes of a doorway. -/
def axesOf (s : State) (d : Nat) : List Nat :=
  if configured s d then leavesOf s d ++ (if hasStep s d then [3 * d + 2] else []) else []

/-- Every configured doorway, and every configured axis. -/
def allDoors (s : State) : List Nat := (List.range s.doorways).filter (configured s)
def allAxes (s : State) : List Nat := (allDoors s).flatMap (axesOf s)

/-- Side released and zero speed, as the sequencer formed them in the last door tick (R57). -/
def released (s : State) (d : Nat) : Bool := if doorSide s d = 0 then s.rdb Gl.LEFT_RELEASED else s.rdb Gl.RIGHT_RELEASED
def zeroSpeed (s : State) : Bool := s.rdb Gl.ZERO_SPEED

/-- STATE of a doorway (R47). -/
def doorState (s : State) (d : Nat) : Nat := s.rdn (Dr.STATE d)

/-- An axis held in STO by a safety channel (R269): either channel's demand is enough; or by the STO that every link carries
(R324, R327), or by channel B for want of the keep-alive (R325). -/
def safetySto (s : State) (a : Nat) : Bool := s.safety.stoA.testBit a || s.safety.stoB.testBit a || s.safety.linkSto || s.duplex.lapsed

/-- A motion tick begins at this count, and has not begun yet (R22). -/
def motionDue (s : State) : Bool := s.rdn Gl.FAST_TICK_COUNT % 5 == 0 && s.boundary.motionAt != some s.now

/-- Link UP (R189). -/
def linkUp (s : State) (d : Nat) : Bool := s.rdn (Lk.LINK_STATE d) == 5

/-- A loop fault in BRAKE_SHORT: within the first 500 ms of the fault (R126). -/
def braking (s : State) (a : Nat) : Bool :=
  let x := s.axis a
  s.rdn (Ax.LOOP_FAULT_CAUSE a) != 0 && x.faultBrake && !heldFor x.faultAt s.now 25000

/-- Row 1 of R126: the drive mode STO. A doorway state with its axes in STO (R47), a failed step (R67) and an angle that is not known
(R141) also give it, once a BRAKE_SHORT has run. -/
def axisSto (s : State) (a : Nat) : Bool :=
  let d := doorOf a
  let x := s.axis a
  let st := doorState s d
  !(axesOf s d).contains a || safetySto s a || !linkUp s d || s.rdn (Dr.TABLE_STATE d) != 2
    || (s.rdn (Ax.LOOP_FAULT_CAUSE a) != 0 && !braking s a)
    || (!braking s a && (st == 0 || st == 8 || st == 9 || st == 10))
    || (!braking s a && ((s.door d).stepSto && roleOf a == 2
      || x.align.isNone && (s.rdn (Ax.ANGLE_STATE a) == 0 || s.rdn (Ax.ANGLE_STATE a) == 3)))

/-- The depth sensors of a doorway, and a failed one under DEPTH_FAIL_ACTION CREEP (R218). DEDUCED: log entry 35. -/
def sensorsOf (d : Nat) : List Nat := [2 * d, 2 * d + 1]
def sensorEnabled (s : State) (n : Nat) : Bool := s.pb (Sn.DEPTH_ENABLE n)
def sensorFailed (s : State) (n : Nat) : Bool := s.bit (Sn.SENSOR_STATUS n) 1
def depthDegraded (s : State) (d : Nat) : Bool :=
  s.pn (Gl.DEPTH_FAIL_ACTION d) == 1 && (sensorsOf d).any (fun n => sensorEnabled s n && sensorFailed s n)

/-- Drive modes of R124. -/
def mSto : Nat := 0
def mRun : Nat := 1
def mHold : Nat := 2
def mBrake : Nat := 3
def mTest : Nat := 4

/-- The drive mode of an axis (R126). -/
def driveMode (s : State) (a : Nat) : Nat :=
  let x := s.axis a
  -- a shadowed axis follows the holder's record (R335)
  if x.shadow.isSome then x.shadow.getD mSto else
  if axisSto s a then mSto else if braking s a then mBrake else if x.align.isSome then mTest
  else if x.holdStart.isSome then mHold else mRun

/-- An axis in a manual mode (R109). -/
def manual (s : State) (a : Nat) : Bool := s.pn (Ax.AXIS_MODE a) != 0

/-- Whether any axis of a doorway is in a manual mode (R110). -/
def doorManual (s : State) (d : Nat) : Bool := (axesOf s d).any (manual s)

/-- Pair that an input belongs to (R368), its field die, and whether the pair is enabled. -/
def pairOf (n : Nat) : Nat := n % 24
def dieOf (n : Nat) : Nat := n / 24
def pairOn (s : State) (p : Nat) : Bool := s.pn (Gl.PAIR_MODE p) != 0

/-- The named line reference of a die (R366). -/
def lineRef (s : State) (die : Nat) : Nat := s.pn (if die = 0 then Gl.LINE_REF_A else Gl.LINE_REF_B)

/-- Class of an input by its entries: its pair's where the pair is enabled (R368). -/
def ownClass (s : State) (n : Nat) : Nat := if pairOn s (pairOf n) then s.pn (Gl.PAIR_CLASS (pairOf n)) else s.pn (In.INPUT_CLASS n)

/-- Whether an input is the line reference of its die (R366). -/
def isLineRef (s : State) (n : Nat) : Bool := lineRef s (dieOf n) == 0x40 + n

/-- The one line class of the device's inputs and pairs (R366), where there is one. -/
def lineClass (s : State) : Option Nat := ((List.range 48).filter (fun n => !isLineRef s n)).findSome? (fun n => if 2 ≤ ownClass s n then some (ownClass s n) else none)

/-- Class of an input in force: a line reference takes that of the line inputs, whatever its own entries say (R366). -/
def classOf (s : State) (n : Nat) : Nat := if isLineRef s n then (lineClass s).getD (ownClass s n) else ownClass s n

/-- The value a field input reads (R364, R367): its filtered value, but inactive in wire break and, in a line class, while the
reference of its die is low. -/
def inputReads (s : State) (n : Nat) : Bool :=
  s.bit Gl.INPUT_STATE n && !s.bit Gl.WIRE_BREAK_MASK n
    && !(decide (2 ≤ classOf s n) && s.bit Gl.FIELD_STATUS (4 + dieOf n))

/-- Code that contact `c` of a doorway is assigned to (R234), 0xFF none. -/
def contactCode (s : State) (d c : Nat) : Nat := s.pn (key (0x5050 + d) c)

/-- Whether an input of code `c` (R61) reads active: node inputs of doorway `d`, field inputs, 0xFF none. -/
def inputActive (s : State) (d c : Nat) : Bool :=
  if c < 8 then (getD {} s.contacts d).filt.testBit c
  else if 0x40 ≤ c ∧ c ≤ 0x6F then inputReads s (c - 0x40)
  else false

/-- Distance in addresses, and nm, of one table address of axis travel (R111): TRAVEL_PER_REV / (POLE_PAIRS · 1536). -/
def addressPitch (s : State) (a : Nat) : Rat :=
  mkRat (s.pn (Ax.TRAVEL_PER_REV a)) (s.pn (Ax.POLE_PAIRS a) * 1536)

/-- Travel of one electrical revolution, nm. -/
def electricalRev (s : State) (a : Nat) : Nat := s.pn (Ax.TRAVEL_PER_REV a) / max (s.pn (Ax.POLE_PAIRS a)) 1

/-- All configured axes of a doorway in STO (R122, R144). -/
def allSto (s : State) (d : Nat) : Bool := (axesOf s d).all (axisSto s)

/-- A fault cause reported to the sequencer (R49 priority 2, R53). -/
def State.faultDoor (s : State) (d cause : Nat) : State :=
  let x := s.door d
  s.setDoor d { x with faults := if x.faults.contains cause then x.faults else x.faults ++ [cause] }

end Sys2Proof.Machine
end

