-- ==== Sys2Proof/Machine/Loops.lean ====
section
/-!
DEFINITION. The loop engines (chapter 4): the commutation table, the current loop, the resistance estimate, the electrical
angle, loop faults. Fixed-point arithmetic stands for the manual's real numbers (assumption 8): currents in µA, voltages in
µV, angles in 1/65536 of a table address, trigonometric functions to about 2^−50.
-/
namespace Sys2Proof.Machine

/-! ### Angles -/

/-- One electrical revolution: 1536 addresses of 65536 parts. -/
def fullTurn : Nat := 100663296

/-- π · 2^60. -/
def piQ : Int := 3622009729038561421

/-- Taylor sum with terms t, −t·x²/((m+1)(m+2)), ... in 2^−60. -/
def taylor : Nat → Int → Int → Nat → Int
  | 0, _, _, _ => 0
  | n + 1, x, t, m => t + taylor n x (-(t * (x * x / 2 ^ 60) / 2 ^ 60) / ((m + 1) * (m + 2))) (m + 2)

/-- Cosine and sine of `r` parts, r at most a quarter turn, in 2^−60. -/
def cosPart (r : Nat) : Int := taylor 14 (2 * piQ * r / fullTurn) (2 ^ 60) 0
def sinPart (r : Nat) : Int := taylor 14 (2 * piQ * r / fullTurn) (2 * piQ * r / fullTurn) 1

/-- Cosine and sine of an angle in parts, in 2^−60. DESIGN CHOICE: log entry 8. -/
def cosQ (t : Int) : Int :=
  let n := (t % fullTurn).toNat
  let r := n % (fullTurn / 4)
  match n / (fullTurn / 4) with
  | 0 => cosPart r | 1 => -sinPart r | 2 => -cosPart r | _ => sinPart r
def sinQ (t : Int) : Int := cosQ (t - (fullTurn / 4 : Nat))

/-- Angle of a vector in the first quadrant, bit by bit. -/
def atanFrom : Nat → Int → Int → Nat → Nat
  | 0, _, _, r => r
  | k + 1, x, y, r =>
    let t := r + 2 ^ k
    atanFrom k x y (if t ≤ fullTurn / 4 ∧ y * cosPart t ≥ x * sinPart t then t else r)

/-- atan2(y, x) in parts. -/
def atan2Q (y x : Int) : Int :=
  if x = 0 ∧ y = 0 then 0
  else if 0 < x ∧ 0 ≤ y then atanFrom 25 x y 0
  else if x ≤ 0 ∧ 0 < y then (fullTurn / 4 : Nat) + atanFrom 25 y (-x) 0
  else if x < 0 ∧ y ≤ 0 then (fullTurn / 2 : Nat) + atanFrom 25 (-x) (-y) 0
  else (3 * fullTurn / 4 : Nat) + atanFrom 25 (-y) x 0

/-- Nearest integer to n / d, for d > 0. -/
def divRound (n d : Int) : Int := (2 * n + d) / (2 * d)

/-! ### The table (R118 to R122) -/

/-- Nearest integer to n / d, halves away from zero; a distance to a half below 2^−20 is the error of the cosine. DEDUCED: log entry 51. -/
def entryRound (n : Int) (d : Nat) : Int :=
  let m : Int := ((2 * n.natAbs + d + d / 2 ^ 20) / (2 * d) : Nat)
  if n < 0 then -m else m

/-- Entry i of the SINE and SINE_THIRD forms (R121). -/
def sineEntry (i : Nat) : Int := entryRound (32767 * cosQ (65536 * i)) (2 ^ 60)
def thirdEntry (i : Nat) : Int :=
  let c := cosQ (65536 * i)
  let c3 := cosQ (3 * 65536 * i)
  -- (cos x − cos 3x / 6) / 0.866025
  max (-32767) (min 32767 (entryRound (32767 * (6 * c - c3) * 1000000) (6 * 866025 * 2 ^ 60)))

/-- The table that a doorway loads (R121): 1536 signed values, as bytes least significant first. -/
def tableBytes (s : State) (d : Nat) : List ByteN :=
  match s.rdn (Dr.TABLE_FORM d) with
  | 0 => (List.range 1536).flatMap (fun i => leBytes 2 (twos 16 (sineEntry i)))
  | 1 => (List.range 1536).flatMap (fun i => leBytes 2 (twos 16 (thirdEntry i)))
  | _ => s.blob (Dr.TABLE_CUSTOM d)

/-- A TABLE_FORM write (R121, R122). DESIGN CHOICE: log entry 208. -/
def tableFormEffect (d : Nat) : Effect := fun n s =>
  if n = 1 ∧ (axesOf s d).any (fun a => s.pn (Ax.MOTOR_TYPE a) == 1) then .error abValue
  else if n = 2 ∧ s.blob (Dr.TABLE_CUSTOM d) = [] then .error abState
  else if allSto s d = false then .error abState
  else .ok ((s.wr (Dr.TABLE_FORM d) n).setDoor d { s.door d with tableReload := true })

/-- A TABLE_CUSTOM write (R121, R122): exactly 3072 bytes. DESIGN CHOICE: log entry 208. -/
def tableCustomEffect (d : Nat) (bs : List ByteN) (s : State) : Except Nat State :=
  if bs.length ≠ 3072 then .error abLength
  else if allSto s d = false then .error abState
  else .ok ((s.setBlob (Dr.TABLE_CUSTOM d) bs).setDoor d { s.door d with tableReload := true })

/-- R122: a write of TABLE_FORM or of TABLE_CUSTOM; the reload begins at the next door tick. -/
def execTableReload (via : Via) (d : Nat) (form : Option Int) (custom : Option (List ByteN)) (s : State) :
    Host.Outcome State Fault Refusal := done s (
  let s := match custom with
    | some bs => writeBytes via (0x3006 + 0x40 * d) 2 (.bytes bs) none none (tableCustomEffect d) s
    | none => s
  (match form with
    | some n => writeNum via (0x3006 + 0x40 * d) 1 (.num n) none id (tableFormEffect d) s
    | none => s))

/-! ### Gains and limits (R133, R134) -/

/-- RES_EST in µΩ: the estimate, or RES_20C where there is none and while no test current is configured (R135). -/
def resMicro (s : State) (a : Nat) : Nat :=
  if s.pn (Ax.RES_TEST_CURRENT a) = 0 then 1000 * s.pn (Ax.RES_20C a) else (s.axis a).res.getD (1000 * s.pn (Ax.RES_20C a))

/-- 2π · 10^15, the product of a gain's factors is divided by 10^15. -/
def twoPiE : Nat := 6283185307179586

/-- KP_I and ADDRESS_PITCH at a door-tick boundary: L_PHASE · 2π · CURRENT_BANDWIDTH, shown in mV/A (R133), and the pitch of
the motor data in force (R111, R144). -/
def gainPTick (s : State) (a : Nat) : State :=
  let s := s.wr (Ax.ADDRESS_PITCH a) (ratRound (addressPitch s a))
  let kp := s.pn (Ax.L_PHASE a) * s.pn (Ax.CURRENT_BANDWIDTH a) * twoPiE
  if (s.axis a).gainP = kp then s
  else (s.setAxis a { s.axis a with gainP := kp }).wr (Ax.KP_I a) (divRound (kp : Int) (10 ^ 18))

/-- KI_I in mV/(A·ms) and RES_EST after a change of the estimate (R133). DEDUCED: log entry 49. -/
def gainIChange (s : State) (a r : Nat) : State :=
  if (s.axis a).gainRes = r then s
  else
    let ki := r * s.pn (Ax.CURRENT_BANDWIDTH a) * twoPiE
    ((s.setAxis a { s.axis a with gainI := ki, gainRes := r }).wr (Ax.KI_I a) (divRound (ki : Int) (10 ^ 21))).wr
      (Ax.RES_EST a) (divRound (r : Int) 1000)

/-- KI_I, RES_EST and WINDING_TEMP at a fast-tick boundary after a change of the estimate, WINDING_TEMP also after one of RES_20C (R133,
R137). -/
def gainITick (s : State) (a : Nat) : State :=
  let r := resMicro s a
  let r20 : Nat := max (1000 * s.pn (Ax.RES_20C a)) 1
  if (s.axis a).gainRes = r ∧ (s.axis a).tempRes = r20 then s
  else
    let s := gainIChange s a r
    (s.setAxis a { s.axis a with tempRes := r20 }).wr (Ax.WINDING_TEMP a)
      (max (-400) (min 3000 (200 + divRound (((r : Int) - r20) * 1000000) (r20 * 393))))

/-- I_FULLSCALE and V_FULLSCALE of the node. -/
def iFull (s : State) (a : Nat) : Nat := s.rdn (Ax.I_FULLSCALE a)
def vFull (s : State) (a : Nat) : Nat := s.rdn (Ax.V_FULLSCALE a)

/-- A leaf held by its lock alone: HOLD_ZERO_LOCKED in CLOSED_LOCKED (R107). -/
def zeroHold (s : State) (a : Nat) : Bool := s.pb (Ax.HOLD_ZERO_LOCKED a) && doorState s (doorOf a) == 1 && roleOf a != 2

/-- A reduced-force close runs (R223): in CLOSING, or on its way into the lock, its move closes or waits to begin. -/
def reducedClose (s : State) (d : Nat) : Bool :=
  (s.door d).reduced && (doorState s d == 5 || doorState s d == 2) && (match (s.door d).move with | some m => m.closing | none => true)

/-- The ramped limit of R106, R107 in µA: RUN_CURRENT, falling over 50 ms to the hold level. -/
def currentLimit (s : State) (a : Nat) : Int :=
  let x := s.axis a
  let run := 1000 * s.pn (Ax.RUN_CURRENT a)
  let hold := if zeroHold s a then 0 else run * s.pn (Ax.HOLD_LEVEL a) / 100
  let lim := match x.holdStart with
    | none => run
    | some t => let e := min (s.now - t) 2500; if x.holdDone then hold else run - (run - hold) * e / 2500
  -- a reduced-force close: FINAL_FORCE / force_constant, plus the friction terms at creep speed (R223)
  let d := doorOf a
  let fc := s.pn (Ax.MOTOR_KT a) * twoPiE / (max (s.pn (Ax.TRAVEL_PER_REV a)) 1 * 10 ^ 6)
  let red := (100 * (s.pn (Dr.FINAL_FORCE d) + s.pn (Ax.FRICTION_STATIC a)) + s.pn (Ax.FRICTION_VISCOUS a) * s.pn (Ax.CREEP_SPEED a))
    * 1000000 / max fc 1
  let lim := if reducedClose s d ∧ roleOf a ≠ 2 then min lim red else lim
  min lim (950 * iFull s a)

/-- The current limit used against overcurrent: OVERCURRENT_LIMIT, or I_FULLSCALE where that is lower (R149). -/
def overcurrentLimit (s : State) (a : Nat) : Nat := min (s.pn (Ax.OVERCURRENT_LIMIT a)) (iFull s a)

/-! ### Encoder and angle (R140, R141) -/

/-- The electrical angle that a count gives, in parts (R140). -/
def countAngle (s : State) (a : Nat) (count : Int) : Int :=
  let cpr := max (s.pn (Ax.ENCODER_CPR a)) 1
  ((count % (cpr : Int)) * (s.pn (Ax.POLE_PAIRS a) * fullTurn : Nat) / cpr + (65536 * s.pn (Ax.COMMUTATION_OFFSET a) : Nat)) % fullTurn

/-- Electrical angle in parts (R140, R141). DESIGN CHOICE: log entry 44. DEDUCED: log entry 46. -/
def angleOf (s : State) (a : Nat) : Int :=
  let x := s.axis a
  if s.rdn (Ax.ANGLE_STATE a) = 1 then
    -- sector midpoint
    ((256 * Config.commSector x.comm + 128) * 65536 + 65536 * s.pn (Ax.COMMUTATION_OFFSET a) : Nat) % fullTurn
  else countAngle s a (x.count + x.rebase)

/-- Position in nm from a count (R140): scaled by TRAVEL_PER_REV / ENCODER_CPR, negated with ENCODER_INVERT, plus the offset. -/
def positionOf (s : State) (a : Nat) (count : Int) : Int :=
  let p := count * s.pn (Ax.TRAVEL_PER_REV a) / (max (s.pn (Ax.ENCODER_CPR a)) 1 : Nat)
  (if s.pb (Ax.ENCODER_INVERT a) then -p else p) + (s.axis a).offsetNm

/-! ### Loop faults (R145 to R147) -/

/-- Reaction BRAKE_SHORT is possible for the causes of reaction FAULT_REACTION. -/
def brakeCause (s : State) (a cause : Nat) : Bool := decide (4 ≤ cause) && decide (cause ≤ 8) && s.pn (Ax.FAULT_REACTION a) == 1

/-- A loop fault: latch the cause (the lowest of a boundary), place the drive mode, send the doorway to FAULT (R147). A later fault with
reaction STO ends a BRAKE_SHORT that runs (R126, R145). -/
def State.loopFault (s : State) (a cause : Nat) : State :=
  let old := s.rdn (Ax.LOOP_FAULT_CAUSE a)
  let x := s.axis a
  let again := old != 0 && x.faultAt != some s.now
  let s := if again then s.setAxis a { x with faultBrake := x.faultBrake && brakeCause s a cause } else
    (s.wrn (Ax.LOOP_FAULT_CAUSE a) (if old = 0 then cause else min old cause)).setAxis a
      { x with faultAt := some s.now, align := none,
               faultBrake := if old = 0 ∨ cause < old then brakeCause s a cause else x.faultBrake }
  (s.setB (Ax.LOOP_STATUS a) 4 true).faultDoor (doorOf a) 6

/-! ### Whether an axis moves -/

/-- A move of the doorway is active. -/
def moveRuns (s : State) (d : Nat) : Bool := match (s.door d).move with
  | some m => !m.ended
  | none => false

/-- Whether an axis takes part in a move of its doorway that has not ended. -/
def axisInMove (s : State) (a : Nat) : Bool := match (s.door (doorOf a)).move with
  | some m => !m.ended && (m.axes.any (·.a == a) || m.seeks.any (·.a == a))
  | none => false

/-- A manual demand is active. -/
def manualMoving (s : State) (a : Nat) : Bool :=
  let x := s.axis a
  manual s a && (x.remaining != 0 || ratRound x.demandNm != x.setNm || x.manStop.isSome)

/-- Whether an axis has an active move or manual demand. -/
def axisMoving (s : State) (a : Nat) : Bool := axisInMove s a || manualMoving s a

/-! ### The current loop (R28 to R30, R127 to R136) -/

/-- Phase current in µA from a sinc3 output (R130). -/
def phaseCurrent (full y : Nat) : Int := (full : Int) * 10000 * (2 * (y : Int) - 262144) / (2 * 262144 * 4)

/-- i_d and i_q of the loop sample (R120, R132). -/
def park (s : State) (a : Nat) (theta : Int) : Int × Int :=
  let x := s.axis a
  let p0 := phaseCurrent (iFull s a) x.y0
  let p1 := phaseCurrent (iFull s a) x.y1
  let al := p0
  -- three-phase: P1 is read at +120°, P2 = −(P0 + P1) at +240°; stepper: P1 at +90°
  let be := if s.pn (Ax.MOTOR_TYPE a) = 1 then -p1 else (-(p0 + p1) - p1) * 1000000 / 1732051
  let c := cosQ theta
  let n := sinQ theta
  ((al * c + be * n) / 2 ^ 60, (be * c - al * n) / 2 ^ 60)

/-- Flux linkage in µWb (R132). -/
def fluxMicro (s : State) (a : Nat) : Int :=
  let kt := 1000 * s.pn (Ax.MOTOR_KT a)
  let pp := max (s.pn (Ax.POLE_PAIRS a)) 1
  if s.pn (Ax.MOTOR_TYPE a) = 1 then kt / pp else 2 * kt / (3 * pp)

/-- Electrical speed times a quantity: parts per fast tick to rad/s, result divided by `den`. -/
def omegaTimes (omega q den : Int) : Int := omega * q * twoPiE * 50000 / (fullTurn * 10 ^ 15 * den)

/-- Demands of the d axis: the test current (R135) or the alignment current (R142, R143), in µA. -/
def idDemand (s : State) (a : Nat) : Int :=
  let x := s.axis a
  match x.align with
  | some r =>
    -- the current of an alignment run is ramped at the begin of each of its two stages
    let t := s.now - r.started
    let t := if r.self ∨ 30000 ≤ t then t else t % 15000
    (500 * s.pn (Ax.RUN_CURRENT a) * min t 5000 / 5000 : Nat)
  | none =>
    let t := 1000 * s.pn (Ax.RES_TEST_CURRENT a)
    if t = 0 ∨ currentLimit s a = 0 then 0 else if x.resPos then t else -(t : Int)

/-- Whether the test current is applied (R135). -/
def resTesting (s : State) (a : Nat) : Bool :=
  let m := driveMode s a
  (m == mRun || m == mHold) && s.pn (Ax.RES_TEST_CURRENT a) != 0 && currentLimit s a != 0

/-- Address and amplitude of a vector (R29): lead of 60 µs plus twice the cable delay, which TIMING_ADVANCE measures; in TABLE_TEST
the amplitude is limited to the 1023 of R124. DEDUCED: log entry 168. DESIGN CHOICE: log entry 170. -/
def vectorWord (s : State) (a : Nat) (vd vq omega theta : Int) : Nat × Nat × Bool :=
  let lead := 60000 + s.rdn (Lk.TIMING_ADVANCE (doorOf a))
  let t := theta + omega * lead / 20000 + atan2Q vq vd
  let addr := (divRound t 65536 % 1536).toNat
  let mag := isqrt ((vd * vd + vq * vq).toNat * 2 ^ 20)
  let amp := if vFull s a = 0 then 0 else (divRound (mag * 4095 : Nat) (vFull s a * 1000 * 1024 : Nat)).toNat
  let top := if driveMode s a = mTest then 1023 else 4095
  (addr, min amp top, decide (amp > top))

/-! ### Filters (R127, R128) -/

/-- Coefficient n of the sinc3 filter of decimation 64, n = 0–189: three running sums of 64 bits one after another (R128). -/
def sincCoef (n : Nat) : Nat :=
  let half := fun (k : Nat) => (k + 1) * (k + 2) / 2 - (if 64 ≤ k then 3 * ((k - 63) * (k - 62) / 2) else 0)
  if n < 95 then half n else half (189 - n)

/-- Output of the filter over the lowest 190 bits of a stream, 0–262144. -/
def sinc3 (w : Nat) : Nat := (List.range 190).foldl (fun y i => if w.testBit i then y + sincCoef i else y) 0

/-- The loop sample of a frame's stream: 95 bits before the boundary and 95 from it onwards, which are bits 305 to 494 (R127, R128). -/
def loopSample (stream : Nat) : Nat := sinc3 (stream / 2 ^ 5 % 2 ^ 190)

/-- Where in the frame of fast tick `f` the windows of monitoring samples end: every 64th bit of the gapless stream. DESIGN CHOICE: log entry 182. -/
def monitorEnds (f : Nat) : List Nat := (List.range 500).filter (fun i => (500 * f + i) % 64 == 63)

/-- Monitoring samples of a stream in the frame of fast tick `f`, earliest first (R128): a window that begins in the previous frame takes
the 190 bits kept of it, and gives no sample where that frame is missing. -/
def monitorSamples (f : Nat) (tail : Option Nat) (stream : Nat) : List Nat :=
  (monitorEnds f).filterMap (fun i => match tail with
    | some t => some (sinc3 ((t * 2 ^ 500 + stream) / 2 ^ (499 - i) % 2 ^ 190))
    | none => if 189 ≤ i then some (sinc3 (stream / 2 ^ (499 - i) % 2 ^ 190)) else none)

/-- Ones-density of a sample outside 0.02–0.98 (R145). -/
def overrange (y : Nat) : Bool := decide (50 * y < 262144) || decide (49 * 262144 < 50 * y)

/-- Samples in succession that are out of range, after those of a frame. -/
def overRun (n : Nat) (ys : List Nat) : Nat := ys.foldl (fun n y => if overrange y then n + 1 else 0) n

/-- The largest magnitude from mid-scale of the samples of any phase (R128, R145); P2 = −(P0 + P1) of a three-phase motor. -/
def samplePeak (two : Bool) (y0 y1 : List Nat) : Nat :=
  let mid := fun (y : Nat) => (y : Int) - 131072
  let one := (y0 ++ y1).foldl (fun m y => max m (mid y).natAbs) 0
  if two then one else (y0.zip y1).foldl (fun m y => max m (mid y.1 + mid y.2).natAbs) one

/-- The streams of an axis in a valid frame of this fast tick (R127, R128): the loop sample, the monitoring samples and what the checks
of R145 take of them. -/
def Axis.takeStreams (x : Axis) (now : Nat) (two : Bool) (s0 s1 : Nat) : Axis :=
  let on := decide (x.streamAt = some (now - 1) ∧ 0 < now)
  let m0 := monitorSamples now (if on then some x.tail0 else none) s0
  let m1 := monitorSamples now (if on then some x.tail1 else none) s1
  { x with y0 := loopSample s0, y1 := loopSample s1, monPeak := samplePeak two m0 m1,
           over0 := overRun (if on then x.over0 else 0) m0, over1 := overRun (if on then x.over1 else 0) m1,
           tail0 := s0 % 2 ^ 190, tail1 := s1 % 2 ^ 190, streamAt := some now }

/-- Set-point word (R123): ADDRESS [31:21], AMPLITUDE [20:9], DRIVE_MODE [8:6]. -/
def setWord (addr amp mode : Nat) : Nat := addr * 2 ^ 21 + amp * 2 ^ 9 + mode * 2 ^ 6

/-- The address that an alignment run holds or turns (R142, R143). -/
def alignAddress (s : State) (r : Align) : Nat :=
  let t := s.now - r.started
  if r.self then (if t ≤ 5000 then 0 else if t < 25000 then (t - 5000) * 1536 / 20000 % 1536 else 0)
  else if t < 15000 then 0 else 384

/-- The squared phase currents of a slot added to the period of PHASE_LOSS (R145); a stepper has two phases. -/
def addPhases (s : State) (a : Nat) (p : PhasePeriod) : PhasePeriod :=
  let x := s.axis a
  let i0 := phaseCurrent (iFull s a) x.y0
  let i1 := phaseCurrent (iFull s a) x.y1
  let i2 := if s.pn (Ax.MOTOR_TYPE a) = 1 then 0 else i0 + i1
  { p with p0 := p.p0 + i0.natAbs ^ 2, p1 := p.p1 + i1.natAbs ^ 2, p2 := p.p2 + i2.natAbs ^ 2 }

/-- One phase's RMS lies below 0.15 of the mean of the others (R145). -/
def phaseMissing (s : State) (a : Nat) (p : PhasePeriod) : Bool :=
  let r0 := isqrt p.p0
  let r1 := isqrt p.p1
  let r2 := isqrt p.p2
  if s.pn (Ax.MOTOR_TYPE a) = 1 then decide (100 * r0 < 15 * r1) || decide (100 * r1 < 15 * r0)
  else decide (200 * r0 < 15 * (r1 + r2)) || decide (200 * r1 < 15 * (r0 + r2)) || decide (200 * r2 < 15 * (r0 + r1))

/-- The periods of PHASE_LOSS at a motion tick: 20 ms each, while the demand is large enough. DEDUCED: log entry 169. -/
def State.phaseTick (s : State) (a : Nat) (demand : Bool) : State :=
  let x := s.axis a
  if demand = false then s.setAxis a { x with phase := {} }
  else match x.phase.since with
  | none => s.setAxis a { x with phase := { since := some s.now } }
  | some t => if t + 1000 ≤ s.now then s.setAxis a { x with phase := { since := some s.now, lost := phaseMissing s a x.phase } } else s

/-- An uplink data frame is expected on the axis's link (R189). -/
def dataExpected (s : State) (a : Nat) : Bool := let st := s.rdn (Lk.LINK_STATE (doorOf a)); decide (3 ≤ st) && st != 6

/-- A missing sample, counted (R131); on a link that sends no data frames nothing is missing. DEDUCED: log entry 183. -/
def State.sampleMissed (s : State) (a : Nat) : State :=
  if dataExpected s a then (s.count (Ax.MISSED_SAMPLES a)).latch (Ax.LOOP_STATUS a) 8 (Ax.SAMPLE_MISSED_REPEATS a) else s

/-- IQ as its entry shows it, mA, within its range (R149). -/
def State.showIq (s : State) (a : Nat) (i : Int) : State := s.wr (Ax.IQ a) (max (-200000) (min 200000 (divRound i 1000)))

/-- A slot in STO or BRAKE_SHORT: no vector; the currents of a sample are formed all the same (R132, R139). DESIGN CHOICE: log entry 180. -/
def idleSlot (s : State) (a m : Nat) : State :=
  let x := s.axis a
  let s := if x.fresh then s else s.sampleMissed a
  let (i_d, i_q) := if x.fresh then park s a x.angle else (x.iD, x.iQ)
  let s := s.setAxis a { x with intD := 0, intQ := 0, vD := 0, vQ := 0, amp := 0, addr := 0, limited := false, limitedRun := 0, fresh := false, slotFrozen := false,
                                iqDemand := 0, intV := 0, iD := i_d, iQ := i_q,
                                stoSince := (if m = mSto then stamp true x.stoSince s.now else none),
                                words := (setWord 0 0 m :: x.words).take 8 }
  s.showIq a i_q

/-- A slot without a sample (R131): the integrators stay, and the previous vector turns on; TABLE_TEST keeps its limit (R125). -/
def missedSlot (s : State) (a m : Nat) : State :=
  let x := s.axis a
  let om := if x.align.isSome then 0 else x.omega
  let addr := (x.addr + (divRound om 65536 % 1536).toNat) % 1536
  let amp := if m = mTest then min x.amp 1023 else x.amp
  (s.sampleMissed a).setAxis a { x with addr, amp, slotFrozen := true, words := (setWord addr amp m :: x.words).take 8 }

/-- A slot that runs the current loop on its sample (R29, R132). With HOLD_ZERO_LOCKED and the limit ramped to 0 a locked leaf's
amplitude is 0 (R107). The ticks of SATURATION count during a move (R145). -/
def runSlot (s : State) (a m : Nat) : State :=
  let x := s.axis a
  let (theta, omega) := match x.align with
    | some r => ((65536 * alignAddress s r : Nat), (0 : Int))
    | none => (x.angle, x.omega)
  let (i_d, i_q) := park s a theta
  let lim := currentLimit s a
  let iqDem := if x.align.isSome then 0 else max (-lim) (min lim x.iqDemand)
  let e_d := (if resTesting s a ∨ x.align.isSome then idDemand s a else 0) - i_d
  let e_q := iqDem - i_q
  let v_d := (x.gainP : Int) * e_d / 10 ^ 21 + x.intD
  let v_q := (x.gainP : Int) * e_q / 10 ^ 21 + x.intQ
  let dec := s.pb (Ax.DECOUPLING a)
  let L := s.pn (Ax.L_PHASE a)
  let v_d := if dec then v_d - omegaTimes omega (L * i_q) 1000000 else v_d
  let v_q := if dec then v_q + omegaTimes omega (L * i_d + fluxMicro s a * 1000000) 1000000 else v_q
  let (addr, amp, limd) := vectorWord s a v_d v_q omega theta
  let zero := m == mHold && lim == 0 && zeroHold s a
  let amp := if zero then 0 else amp
  -- an alignment run holds the vector at its own address
  let addr := match x.align with | some r => alignAddress s r | none => addr
  let hold := limd || zero
  let step := fun (e : Int) => (x.gainI : Int) * e * 20 / 10 ^ 27
  let r := x.resNow
  let r := { r with n := r.n + 1, vd := r.vd + v_d, id := r.id + i_d, iq := r.iq + i_q, speed := r.speed + x.speed,
                    limited := r.limited || limd }
  let s := s.setAxis a { x with
    iD := i_d, iQ := i_q, vD := v_d, vQ := v_q, addr, amp, limited := limd, slotFrozen := hold,
    limitedRun := if limd && axisMoving s a then x.limitedRun + 1 else 0,
    intD := if hold then x.intD else x.intD + step e_d, intQ := if hold then x.intQ else x.intQ + step e_q,
    phase := addPhases s a x.phase, fresh := false, resNow := r, iqPeak := max x.iqPeak (Int.natAbs i_q), stoSince := none,
    words := (setWord addr amp m :: x.words).take 8 }
  let s := if limd then s.latch (Ax.LOOP_STATUS a) 5 (Ax.SATURATED_REPEATS a) else s
  s.showIq a i_q

/-- One axis slot of a fast tick (R131, R132): the new set-point word and the loop's state. -/
def loopSlot (s : State) (a : Nat) : State :=
  let m := driveMode s a
  if m = mSto ∨ m = mBrake then idleSlot s a m else if (s.axis a).fresh then runSlot s a m else missedSlot s a m

/-- An alignment run records the encoder count (R142, R143): of a self-alignment at its start and at the end of its hold, else at the
end of each of its two stages. -/
def State.alignMark (s : State) (a : Nat) : State :=
  let x := s.axis a
  match x.align with
  | none => s
  | some r =>
    let t := s.now - r.started
    let c0 := if r.c0.isNone ∧ (r.self ∨ 15000 ≤ t) then some (x.count + x.rebase) else r.c0
    let c1 := if r.c1.isNone ∧ (if r.self then 35000 else 30000) ≤ t then some (x.count + x.rebase) else r.c1
    s.setAxis a { x with align := some { r with c0, c1 } }

/-- Fast-tick checks of R145: causes 1, 2 and 4. -/
def fastChecks (s : State) (a : Nat) : State :=
  if axisSto s a then s else
  let x := s.axis a
  let overCur := (x.monPeak : Int) * 10000 * (iFull s a) / (262144 * 4) > 1000 * (overcurrentLimit s a : Int)
  let s := if overCur then s.loopFault a 1 else s
  let s := if x.over0 ≥ 8 ∨ x.over1 ≥ 8 then s.loopFault a 2 else s
  if x.encStreak ≥ 3 ∨ x.encJump then s.loopFault a 4 else s

/-- Slot of an axis in its engine (R30). -/
def slotOf (a : Nat) : Nat := 3 * (doorOf a / 2) + roleOf a

/-- The estimator update of R136, at the fast tick whose turn the axis has. -/
def resUpdate (s : State) (a : Nat) : State :=
  let x := s.axis a
  if resTesting s a = false ∨ x.resNow.n = 0 then s.setAxis a { x with resNow := {}, resPrev := none } else
  let cur := x.resNow
  let mean := fun (p : ResPeriod) (f : ResPeriod → Int) => f p / (max p.n 1 : Nat)
  let (x, s) := match x.resPrev with
    | none => (x, s)
    | some prev =>
      let (p, n) := if x.resPos then (cur, prev) else (prev, cur)
      let dvd := mean p (·.vd) - mean n (·.vd)
      let did := mean p (·.id) - mean n (·.id)
      let diq := mean cur (·.iq) - mean prev (·.iq)
      let dsp := mean cur (·.speed) - mean prev (·.speed)
      let valid := did ≥ 1000 * (s.pn (Ax.RES_TEST_CURRENT a) : Int) ∧ 5 * Int.natAbs diq < did ∧ Int.natAbs dsp < 5000000
        ∧ cur.limited = false ∧ prev.limited = false
      if valid then
        let raw := dvd * 1000000 / did
        let r20 : Int := 1000 * s.pn (Ax.RES_20C a)
        let est := (resMicro s a : Int) + (raw - resMicro s a) / 64
        let est := max (r20 / 2) (min (2 * r20) est)
        let bad := if raw < r20 / 2 ∨ raw > 2 * r20 then x.resBad + 1 else 0
        let s := if bad = 100 then
            (s.latch (Ax.LOOP_STATUS a) 6 (Ax.RES_OUT_OF_RANGE_REPEATS a)).raise 0x3301 a (divRound est 1000)
          else s
        ({ x with res := some est.toNat, resBad := if bad = 100 then 0 else bad }, s)
      else (x, s)
  s.setAxis a { x with resPrev := some cur, resNow := {}, resPos := !x.resPos }

/-- The loop flags [0]–[4] of LOOP_STATUS (R148). -/
def loopFlags (s : State) (a : Nat) : State :=
  let m := driveMode s a
  let k := Ax.LOOP_STATUS a
  let s := s.setB k 0 (m == mRun || m == mHold || m == mTest)
  let s := s.setB k 1 (s.axis a).limited
  let s := s.setB k 2 (s.pb (Ax.DECOUPLING a))
  let s := s.setB k 3 (resTesting s a)
  s.setB k 4 (s.rdn (Ax.LOOP_FAULT_CAUSE a) != 0)

/-- RES_EST after an interruption of 60 s or more restarts from RES_20C (R137). -/
def resInterrupt (s : State) (a : Nat) : State :=
  let x := s.axis a
  if heldFor x.stoSince s.now 3000000 ∧ x.res.isSome then s.setAxis a { x with res := none } else s

/-- The loop engines' work in one fast tick (R30, R130): the estimator's turn, then every slot; a fault that a slot detects is in its
word (R145). -/
def loopEngines (s : State) : State :=
  (allAxes s).foldl (fun s a =>
    let s := if s.now % 24 = slotOf a then resUpdate s a else s
    loopFlags ((loopSlot (fastChecks (resInterrupt s a) a) a).alignMark a) a) s

/-! ### Position and speed loops (R138, R139) -/

/-- Force constant, mN per A (R138): MOTOR_KT · 2π / TRAVEL_PER_REV. -/
def forceConstant (s : State) (a : Nat) : Int :=
  (s.pn (Ax.MOTOR_KT a) * twoPiE : Nat) / (max (s.pn (Ax.TRAVEL_PER_REV a)) 1 * 10 ^ 6 : Nat)

/-- Measured position and filtered speed of one axis, latched at the boundary of a motion tick (R23, R138). DEDUCED: log entry 47. -/
def measureAxis (s : State) (a : Nat) : State :=
  let x := s.axis a
  let pos := x.posNm
  -- position difference over the tick, first-order filter of 0.5 ms: 1/6 of the step per 100 µs
  let raw := (pos - x.lastPosNm) * 10000
  let speed := x.speed + (raw - x.speed) / 6
  let s := s.setAxis a { x with speed := speed, lastPosNm := pos, speedPeak := max x.speedPeak (Int.natAbs speed) }
  let s := s.wr (Ax.SPEED a) (max (-5000) (min 5000 (divRound speed 1000000)))
  s.wr (Ax.POSITION a) (max (-2000000) (min 2000000 (divRound pos 1000)))

/-- The position and speed loops of one axis in a motion tick, on the set-point sampled at its boundary (R85, R138). Their demand is
released at the next boundary. -/
def positionLoop (s : State) (a : Nat) : State :=
  let x := s.axis a
  let pos := x.posNm
  let speed := x.speed
  let e_p := x.setNm - pos
  let moving := axisSto s a = false
  let vdem := e_p * s.pn (Ax.KP_POS a) / 10 + (if s.pb (Ax.SPEED_FF a) then x.setVel else 0)
  let e_v := vdem - speed
  let kp := s.pn (Ax.KP_SPEED a)
  let fc := forceConstant s a
  -- g · nm/s² / (mN/A) in µA
  let ff := if fc = 0 ∨ s.pn (Ax.MOVING_MASS a) = 0 then 0 else (s.pn (Ax.MOVING_MASS a) : Int) * x.setAcc / (fc * 1000)
  -- mA per mm/s is nA per nm/s · 10^-3·10^3: 1 mA/(mm/s) = 10^-3 µA/(nm/s)
  let iq := kp * e_v / 1000 + x.intV + ff
  let lim := currentLimit s a
  let frozen := x.frozen
  let inLim := -lim ≤ iq ∧ iq ≤ lim
  let intV := if moving ∧ inLim ∧ frozen = false then x.intV + kp * e_v / 1000 / (10 * max (s.pn (Ax.TI_SPEED a)) 1 : Nat) else x.intV
  let dem := max (-lim) (min lim iq)
  let fe := Int.natAbs e_p / 1000
  let s := s.setAxis a { x with
    intV := if moving then intV else if x.shadow.isSome then x.intV else 0,
    iqNext := if moving then dem else 0,
    setNm := if moving then x.setNm else pos, followPeak := max x.followPeak fe }
  let s := s.wr (Ax.IQ_DEMAND a) (divRound (if moving then dem else 0) 1000)
  let s := s.wr (Ax.POSITION_SETPOINT a) (max (-2000000) (min 2000000 (divRound (if moving then x.setNm else pos) 1000)))
  s.wrn (Ax.FOLLOWING_ERROR a) (min (if moving then fe else 0) 2000000)

/-- Motion-tick monitors of R145: the time stamps of causes 3, 5 and 7, and FOLLOWING_ERROR at once. -/
def motionChecks (s : State) (a : Nat) : State :=
  if axisSto s a then
    s.setAxis a { s.axis a with phaseLossSince := none, phase := {}, commFaultSince := none, stallSince := none }
  else
    let x := s.axis a
    let run : Int := 1000 * s.pn (Ax.RUN_CURRENT a)
    let mag := isqrt (x.latD * x.latD + x.latQ * x.latQ).toNat
    let demand := decide (5 * Int.natAbs x.iqDemand ≥ run)
    let lost := demand && decide (10 * mag < Int.natAbs x.iqDemand)
    let commF := 2 * Int.natAbs x.latQ > run ∧ Int.natAbs x.speed > 20000000 ∧ (x.speed > 0) ≠ (x.latQ > 0)
    let d := doorOf a
    let kind := (s.door d).move.map (·.kind)
    let inMove := axisMoving s a
    let exempt := match kind with
      | some .closeLeaves | some .closeGroup | some .driveLock | some .reclose | some .refClose | some .refFinal => roleOf a != 2
      | some .seekOpen | some .seekClose | some .seekStepOut | some .seekStepIn => true
      | _ => false
    let stalled := inMove && !exempt && decide (currentLimit s a > 0) && decide ((Int.natAbs x.iqNext : Int) ≥ currentLimit s a)
      && decide (Int.natAbs x.speed < 2000000)
    let s := s.setAxis a { x with
      phaseLossSince := stamp lost x.phaseLossSince s.now,
      commFaultSince := stamp (decide commF) x.commFaultSince s.now,
      stallSince := stamp stalled x.stallSince s.now }
    let s := s.phaseTick a demand
    if s.rdn (Ax.FOLLOWING_ERROR a) > s.pn (Ax.FOLLOWING_ERROR_LIMIT a) then s.loopFault a 6 else s

/-! ### Fault commands (R145 to R147, R126) -/

/-- PHASE_LOSS: measured current magnitude below a tenth of the demand, or one phase's RMS too small, for 20 ms. -/
def execPhaseLoss (a : Nat) (s : State) : Host.Outcome State Fault Refusal :=
  done s (if heldFor (s.axis a).phaseLossSince s.now 1000 ∨ (s.axis a).phase.lost then s.loopFault a 3 else s)

def execCommutation (a : Nat) (s : State) : Host.Outcome State Fault Refusal :=
  done s (if heldFor (s.axis a).commFaultSince s.now 2500 then s.loopFault a 5 else s)

/-- The hard stop of a manual mode: the demand is set to the stopped position (R100, R147). -/
def State.manualStop (s : State) (a : Nat) : State :=
  let x := s.axis a
  (s.setAxis a { x with setNm := x.posNm, setVel := 0, setAcc := 0, demandNm := x.posNm, remaining := 0, rate := 0, manVel := 0,
                        jogNext := none, stallSince := none, manStop := none, manSeen := false }).wr (Ax.JOG_STEPS a) 0

/-- STALL (R145 to R147): off with STALL_TIME 0; in a manual mode a hard stop with no fault. -/
def execStall (a : Nat) (s : State) : Host.Outcome State Fault Refusal := done s (
  let t := s.pn (Ax.STALL_TIME a)
  (if t ≠ 0 ∧ heldFor (s.axis a).stallSince s.now (50 * t) then
      (if manual s a then s.manualStop a else s.loopFault a 7)
    else s))

/-- SATURATION (R145, R146): the amplitude was limited in every fast tick for SATURATION_TIME, during a move. -/
def execSaturation (a : Nat) (s : State) : Host.Outcome State Fault Refusal := done s (
  let t := s.pn (Ax.SATURATION_TIME a)
  (if t ≠ 0 ∧ axisMoving s a ∧ (s.axis a).limitedRun ≥ 50 * t then s.loopFault a 8 else s))

/-- The 500 ms of BRAKE_SHORT end, and the axis goes to STO (R126). -/
def execBrakeShortEnd (a : Nat) (s : State) : Host.Outcome State Fault Refusal := done s (
  let x := s.axis a
  (if s.rdn (Ax.LOOP_FAULT_CAUSE a) ≠ 0 ∧ x.faultBrake ∧ heldFor x.faultAt s.now 25000 then
      s.setAxis a { x with faultBrake := false }
    else s))

/-! ### Alignment (R142, R143) -/

/-- At least one electrical revolution from both ends (R142). -/
def awayFromEnds (s : State) (a : Nat) : Bool :=
  let p := (s.axis a).posNm
  let e : Int := electricalRev s a
  decide (e ≤ p) && decide (p + e ≤ 1000 * s.p (Ax.STROKE a))

/-- ANGLE_COMMAND (R142). -/
def angleEffect (a : Nat) : Effect := fun n s =>
  let d := doorOf a
  let x := s.axis a
  if n ≠ 0 ∧ configured s d = false then .error abState
  else if n = 1 then
    if doorState s d = 4 ∧ released s d ∧ zeroSpeed s ∧ (leavesOf s d).all (awayFromEnds s) ∧ (axesOf s d).contains a then
      .ok ((s.wr (Ax.ANGLE_COMMAND a) n).setAxis a { x with align := some { self := false, started := s.now, prevState := s.rdn (Ax.ANGLE_STATE a) } })
    else .error abState
  else if n = 2 then
    .ok (match x.align with
      | some r => ((s.wr (Ax.ANGLE_COMMAND a) n).wrn (Ax.ANGLE_STATE a) r.prevState).setAxis a { x with align := none }
      | none => s.wr (Ax.ANGLE_COMMAND a) n)
  else .ok (s.wr (Ax.ANGLE_COMMAND a) n)

def execAlignmentRunStart (via : Via) (a : Nat) (s : State) : Host.Outcome State Fault Refusal :=
  done s (writeNum via (0x340A + 0x10 * a) 8 (.num 1) none id (angleEffect a) s)

def execAlignmentRunCancel (via : Via) (a : Nat) (s : State) : Host.Outcome State Fault Refusal :=
  done s (writeNum via (0x340A + 0x10 * a) 8 (.num 2) none id (angleEffect a) s)

/-- The angle is VALID, and the offset just written is the one in force. -/
def State.alignedCount (s : State) (a : Nat) : State :=
  (s.enforce (Ax.COMMUTATION_OFFSET a) (s.rd (Ax.COMMUTATION_OFFSET a))).wrn (Ax.ANGLE_STATE a) 2

/-- How an alignment run that has recorded its angles A0 and A1 ends (R142 steps 3 and 4): ANGLE_STATE, and LOOP_FAULT_CAUSE or 0. -/
def runVerdict (s : State) (a : Nat) : Option (Nat × Nat) := do
  let r ← (s.axis a).align
  let diff := (countAngle s a (← r.c1) - countAngle s a (← r.c0)) % fullTurn
  if r.self then none
  else if 299 * 65536 ≤ diff ∧ diff ≤ 469 * 65536 then some (2, 0)
  else some (3, if 1067 * 65536 ≤ diff ∧ diff ≤ 1237 * 65536 then 10 else 9)

/-- How a self-alignment that has recorded its counts ends (R143 steps 3 and 4): 0, or LOOP_FAULT_CAUSE. The angle must have moved in
the sense of the field's turning. -/
def selfVerdict (s : State) (a : Nat) : Option Nat := do
  let r ← (s.axis a).align
  let moved := ((← r.c1) - (← r.c0)) * (1536 * s.pn (Ax.POLE_PAIRS a) : Nat)
  let cpr : Int := s.pn (Ax.ENCODER_CPR a)
  if r.self = false then none
  else if 768 * cpr ≤ moved ∧ moved ≤ 2304 * cpr then some 0
  else some (if moved < 0 then 10 else 9)

/-- A run is over with VALID: COMMUTATION_OFFSET is written so that the angle at the recorded count of its end reads `at_`. -/
def State.alignValid (s : State) (a : Nat) (at_ : Int) : State :=
  let c := ((s.axis a).align.bind (·.c1)).getD 0
  ((s.setAxis a { s.axis a with align := none }).wr (Ax.COMMUTATION_OFFSET a)
    ((s.p (Ax.COMMUTATION_OFFSET a) + at_ - divRound (countAngle s a c) 65536) % 1536)).alignedCount a

/-- A run is over with FAILED and a cause. -/
def State.alignFailed (s : State) (a cause : Nat) : State :=
  ((s.setAxis a { s.axis a with align := none }).wrn (Ax.ANGLE_STATE a) 3).loopFault a cause

/-- ALIGNMENT_RUN_END (R142): the run completes, with the ANGLE_STATE and the cause that its recorded angles give; it is not over with
any other. -/
def execAlignmentRunEnd (a state cause : Nat) (s : State) : Host.Outcome State Fault Refusal := done s (
  if runVerdict s a = some (state, cause) then
    -- the angle at step 2 reads 384
    if state = 2 then s.alignValid a 384 else s.alignFailed a cause
  else s)

/-- STEPPER_SELF_ALIGNMENT_END (R143): the run completes, with the cause that its recorded counts give, 0 where the start goes on; it
is not over with any other. -/
def execStepperSelfAlignmentEnd (a cause : Nat) (s : State) : Host.Outcome State Fault Refusal := done s (
  if selfVerdict s a = some cause then
    -- the angle reads 0 where the rotor stood at the end of the hold
    if cause = 0 then s.alignValid a 0
    else (s.setDoor (doorOf a) { s.door (doorOf a) with startWait := none, granted := none }).alignFailed a cause
  else s)

end Sys2Proof.Machine
end

