-- ==== Sys2Proof/Machine/Node.lean ====
section
/-!
DEFINITION. The frames of a doorway link as bytes (R155 to R179), and the power node of a doorway (chapter 5): its management channel
(R182 to R187), what it does with downlink frames (R171 to R175), its training (R179, R180), its uplink frames (R165), the phase
voltages it forms (R119, R120). What a node is (its identity, axes, sensors) is opaque: byte i of an answer is `Config.nodeByte`.
-/
namespace Sys2Proof.Machine

def State.node (s : State) (d : Nat) : Node := getD {} s.nodes d
def State.setNode (s : State) (d : Nat) (x : Node) : State := { s with nodes := putD {} s.nodes d x }

/-! ### Frames (R153 to R155, R161, R165, R166, R179) -/

/-- Bytes 1 to 495 of a frame: its fields, then reserved zeros. -/
def content (bs : List ByteN) : List ByteN := (bs ++ List.replicate 495 0).take 495

/-- The 12 bytes of RESP_DATA. -/
def pad12 (bs : List ByteN) : List ByteN := (bs ++ List.replicate 12 0).take 12

/-- Bits 4g to 4g + 3 of a bitstream, the earliest in the highest place (R166). -/
def nibble (stream g : Nat) : Nat := stream / 2 ^ (496 - 4 * g) % 16

/-- BITSTREAMS of three axes: group g carries four bits of each of the six streams (R166). -/
def bitstreams (axes : List UpAxis) : List ByteN :=
  (List.range 125).flatMap (fun g => [0, 1, 2].map (fun k => let u := axes.getD k {}; 16 * nibble u.s0 g + nibble u.s1 g))

/-- Encoder word (R167). -/
def encWord (u : UpAxis) : Nat := (if u.encErr then 2 ^ 31 else 0) + u.comm % 8 * 2 ^ 28 + u.encRsv % 16 * 2 ^ 24 + u.count % 2 ^ 24

/-- DEPTH_CTRL, DEPTH_CHUNK, DEPTH_FRAME_NO and DEPTH_DATA (R165, R170). -/
def chunkBytes (f : UpFrame) : List ByteN := match f.chunk with
  | some c => [1 + 2 * (c.sensor % 2) + 4 * (f.depthRsv % 64), c.chunk % 256, c.frameNo % 256]
      ++ (c.pixels.flatMap (beBytes 2) ++ List.replicate 64 0).take 64
  | none => [f.depthIdle.getD 0 0 / 2 * 2 % 256] ++ (f.depthIdle.drop 1 ++ List.replicate 66 0).take 66

/-- Bytes 1 to 495 of an uplink data frame (R165). -/
def upBytes (f : UpFrame) : List ByteN := content ([f.frameType % 256] ++ beBytes 2 f.seq ++ beBytes 2 f.status ++ bitstreams f.axes
  ++ [0, 1, 2].flatMap (fun k => beBytes 4 (encWord (f.axes.getD k {})))
  ++ [f.inputsA % 256, f.inputsBInv % 256, f.outputsRb % 256, twos 8 f.nodeTemp] ++ beBytes 2 (twos 16 f.dcCurrent) ++ beBytes 2 f.dcVoltage
  ++ beBytes 2 f.appliedSeq ++ [0, 1, 2].flatMap (fun k => beBytes 4 (f.axes.getD k {}).appliedSp)
  ++ [f.respTag % 256, f.respResult % 256] ++ pad12 f.respData ++ chunkBytes f)

/-- CONTROL (R162). -/
def controlByte (f : DownFrame) : ByteN := (if f.hold then 128 else 0) + (if f.shadow then 64 else 0) + (if f.resume then 32 else 0)
  + f.ctlRsv % 32

/-- Bytes 1 to 495 of a downlink data frame (R161). -/
def downBytes (f : DownFrame) : List ByteN := content ([f.frameType % 256] ++ beBytes 2 f.seq ++ [controlByte f, f.safeStoA % 256, f.safeRunB % 256,
  f.outputs % 256] ++ f.words.flatMap (beBytes 4) ++ [f.mgmtTag % 256, f.mgmtOp % 256] ++ beBytes 2 f.mgmtAddr ++ beBytes 2 f.mgmtLen
  ++ (f.mgmtData ++ List.replicate 384 0).take 384 ++ f.tail)

/-- Bytes of PRBS-7, x^7 + x^6 + 1, from a register of 7 bits whose highest is sent first (R179). DEDUCED: log entry 185. -/
def prbsByte : Nat → Nat → Nat → Nat × Nat
  | 0, r, b => (r, b)
  | n + 1, r, b => prbsByte n (r * 2 % 128 + (r / 64 + r / 32 % 2) % 2) (2 * b + r / 64)
def prbs : Nat → Nat → List ByteN
  | 0, _ => []
  | n + 1, r => let x := prbsByte 8 r 0; x.2 :: prbs n x.1

/-- Bytes 1 to 495 of a training frame (R179). -/
def trainBytes (f : TrainFrame) : List ByteN :=
  [0x13] ++ beBytes 2 f.seq ++ [f.step % 256, f.txLevel % 256, f.rxErrors % 256, f.reqLevel % 256, f.caps % 256] ++ prbs 487 127

/-- A frame with the CRC of its bytes 1 to 495 in its last four (R155). -/
def sealUp (f : UpFrame) : UpFrame := { f with crc := crc32 (upBytes f) }
def sealDown (f : DownFrame) : DownFrame := { f with crc := crc32 (downBytes f) }
def sealTrain (f : TrainFrame) : TrainFrame := { f with crc := crc32 (trainBytes f) }

/-- An SOF in its place (R154): 500 characters after the last one, and the next 500 after it. -/
def sofOk (last : Option Nat) (sof : Nat) (cut : Bool) : Bool := decide (last.map (· + 500) = some sof) && !cut

/-- An SOF that does not follow 500 characters after the last one is a framing error (R154). -/
def sofMisplaced (last : Option Nat) (sof : Nat) : Bool := match last with
  | some l => sof != l + 500
  | none => false

/-! ### Training (R179, R180) -/

/-- A training frame free of errors. -/
def trainOk (last : Option Nat) (f : TrainFrame) : Bool := f.errs == 0 && sofOk last f.sof f.cut && f.crc == crc32 (trainBytes f)

/-- The errors that a training frame shows, at least one where it is not valid. -/
def trainErrs (f : TrainFrame) (ok : Bool) : Nat := if ok then 0 else max 1 f.errs

/-- One frame of LOCK: the run of valid frames, which ends the errors at 64. DEDUCED: log entry 186. -/
def Train.lockFrame (t : Train) (f : TrainFrame) (ok : Bool) : Train :=
  if ok then { t with count := t.count + 1, errors := if 64 ≤ t.count + 1 then 0 else t.errors }
  else { t with count := 0, errors := min 255 (t.errors + trainErrs f ok) }

/-- One frame of SWEEP: 256 at each level, whose errors are counted (R180). -/
def Train.sweepFrame (t : Train) (f : TrainFrame) (ok : Bool) : Train :=
  let level := t.count / 256
  { t with bad := if ok ∨ t.bad.contains level then t.bad else t.bad ++ [level], count := t.count + 1,
           errors := min 255 ((if t.count % 256 = 0 then 0 else t.errors) + trainErrs f ok) }

/-- Levels without an error in SWEEP. -/
def Train.good (t : Train) : List Nat := [0, 1, 2, 3].filter (fun l => !t.bad.contains l)

/-- The pre-emphasis level that a sender in training uses (R180): 0, the swept one, then the one asked for. -/
def Train.level (t : Train) : Nat := if t.step = 1 then 0 else if t.step = 2 then min 3 (t.count / 256) else t.asked

/-- RX_ERRORS of a sender: in LOCK it is not 0 before 64 valid frames have followed one another. DEDUCED: log entry 186. -/
def Train.rxErrors (t : Train) : Nat := if t.step = 1 ∧ t.count < 64 then max 1 t.errors else t.errors

/-- The training frame of a sender (R179). -/
def trainFrame (t : Option Train) (seq caps level : Nat) : TrainFrame :=
  sealTrain { seq, step := (t.map (·.step)).getD 1, txLevel := level, rxErrors := (t.map (·.rxErrors)).getD 0,
              reqLevel := (t.map (·.request)).getD 0, caps }

/-- A node follows the STEP that it receives, and asks for the lowest level without an error, 3 where there is none (R180). -/
def Train.follow (t : Train) (f : TrainFrame) (ok : Bool) : Train :=
  let t := if ok ∧ f.step ≠ t.step then
      { t with step := f.step, count := 0, bad := if f.step = 2 then [] else t.bad,
               request := if t.step = 2 then t.good.headD 3 else t.request, errors := 0 }
    else t
  let t := if ok then { t with asked := f.reqLevel % 4 } else t
  match t.step with
  | 1 => t.lockFrame f ok
  | 2 => if t.count < 1024 then t.sweepFrame f ok else t
  | _ => { t with errors := min 255 (t.errors + trainErrs f ok) }

/-! ### What the node is -/

/-- Bytes of an answer that the node's make gives. DESIGN CHOICE: log entry 56. -/
def nodeBytes (d op addr n : Nat) : List ByteN := (List.range n).map (fun i => Config.nodeByte d op addr i % 256)

/-- The node has axis k; its number of depth sensors (R184, READ_CAPS). -/
def nodeHasAxis (d k : Nat) : Bool := Config.nodeByte d 0x02 k 8 % 256 == 1
def nodeSensors (d : Nat) : Nat := Config.nodeByte d 0x02 3 2 % 256
def nodePreemph (d : Nat) : Bool := Config.nodeByte d 0x02 3 3 % 2 == 1

/-! ### Bridges and outputs -/

/-- DRIVE_MODE, ADDRESS and AMPLITUDE of a set-point word (R123). -/
def wordMode (w : Nat) : Nat := w / 64 % 8
def wordAddr (w : Nat) : Nat := w / 2 ^ 21
def wordAmp (w : Nat) : Nat := w / 512 % 4096

/-- A word that a node may apply (R125). -/
def wordValid (w : Nat) : Bool :=
  decide (wordAddr w < 1536) && decide (wordMode w < 5) && (wordMode w != 4 || decide (wordAmp w ≤ 1023))

/-- States of R168. -/
def nInit : Nat := 0
def nSto : Nat := 1
def nRunning : Nat := 2
def nHolding : Nat := 3

def Node.stopped (n : Node) : Bool := n.state == nInit || n.state == nSto

/-- Bridge of axis k is disabled (R124, R164, R168, R173, R185). -/
def bridgeOff (n : Node) (k : Nat) : Bool :=
  n.stopped || n.stoA.testBit k || !n.runB.testBit k || wordMode (n.words.getD k 0) == 0 || n.trip.testBit k
    || !(n.config.getD 0 0).testBit k

def bridgesOff (n : Node) : Bool := (List.range 3).all (bridgeOff n)

/-- NODE_STATUS of the node on a port (R168). -/
def nodeStatus (n : Node) (port : Nat) : Nat :=
  port * 32768 + (List.range 3).foldl (fun m k => if bridgeOff n k then m + 2 ^ (12 + k) else m) 0 + n.trip * 512 + n.state * 64
    + (if n.tableValid then 32 else 0) + (if n.bothHold then 16 else 0) + (if n.substitute then 8 else 0) + (if n.held then 4 else 0)
    + (if n.dcLow then 2 else 0) + (if n.overTemp then 1 else 0)

/-- Entry i of the active table, most significant byte first (R187). -/
def tableEntry (n : Node) (i : Nat) : Int := signed 16 (256 * n.table.getD (2 * i) 0 + n.table.getD (2 * i + 1) 0)

/-- Offsets at which phases P0, P1, P2 read the table (R120). -/
def phaseOffset (twoPhase : Bool) (p : Nat) : Nat := if twoPhase then 384 * p else 512 * p

/-- Voltage of phase p of axis k in millionths of V_FULLSCALE (R119, R120); `none` with the bridge disabled or shorted. -/
def phaseVolts (n : Node) (k p : Nat) : Option Int :=
  let w := n.words.getD k 0
  if bridgeOff n k ∨ wordMode w = 3 then none
  else
    let two := (n.config.getD 1 0).testBit k
    some (tableEntry n ((wordAddr w + phaseOffset two p) % 1536) * wordAmp w * 1000000 / (32767 * 4095))

/-! ### Ports -/

def Node.port (n : Node) (p : Nat) : NodePort := if p = 0 then n.portA else n.portB
def Node.setPort (n : Node) (p : Nat) (x : NodePort) : Node := if p = 0 then { n with portA := x } else { n with portB := x }

/-! ### Applying frames (R159, R171 to R175) -/

/-- What a downlink data frame must be by itself to be valid at the node (R171). -/
def frameValid (f : DownFrame) : Bool :=
  f.ok && f.crc == crc32 (downBytes f) && f.frameType == 0x12 && f.words.all wordValid && decide (f.mgmtLen ≤ 384)

/-- The frame of a port whose last SOF was `last`, where it is valid and in its place (R154, R171). -/
def validOf (last : Option Nat) (f : Option DownFrame) : Option DownFrame := match f with
  | some x => if sofOk last x.sof x.cut && frameValid x then some x else none
  | none => none

/-- The valid frame that a port has, and the port after its SOF. -/
def Node.valid (n : Node) (p : Nat) (f : Option DownFrame) : Option DownFrame := validOf (n.port p).lastSof f
def Node.tookSof (n : Node) (p : Nat) (f : Option DownFrame) : Node := match f with
  | some x => n.setPort p { n.port p with lastSof := some x.sof }
  | none => n

/-- R172's `newer`. -/
def newer (n : Node) (seq : Nat) : Bool := let k := (seq + 65536 - n.lastSeq) % 65536; decide (1 ≤ k) && decide (k ≤ 32)

/-- Words, safety bytes and outputs of a frame in force (R172). A trip clears with an STO word for its axis (R168). -/
def Node.apply (n : Node) (f : DownFrame) (port : Nat) : Node :=
  { n with words := f.words, stoA := f.safeStoA % 8, runB := f.safeRunB % 8, outputs := f.outputs % 16, lastSeq := f.seq, missed := 0,
           held := false, state := nRunning, appliedPort := port,
           trip := (List.range 3).foldl (fun m k => if n.trip.testBit k ∧ wordMode (f.words.getD k 0) ≠ 0 then m + 2 ^ k else m) 0 }

/-- STO_LATCHED (R172, R173): bridges and outputs off, the words reported as 0; the last APPLIED_SEQ, HELD, SUBSTITUTE, the table and the
configuration stay. DEDUCED: log entry 61. -/
def Node.latch (n : Node) (both : Bool) : Node :=
  { n with state := nSto, words := [0, 0, 0], outputs := 0, bothHold := n.bothHold || both, run := 0, missed := 0, missA := 0, missB := 0 }

/-- The STO paths at an apply instant (R280): each takes its byte where the frame passes its own check, and acts alone under R173 where
eight in a row have failed it; a path found failed latches STO. -/
def Node.paths (n old : Node) (m : NodeMeas) : Node :=
  let badA := m.pathBad.testBit 0
  let badB := m.pathBad.testBit 1
  let missA := if n.stopped then 0 else if n.held || badA then old.missA + 1 else 0
  let missB := if n.stopped then 0 else if n.held || badB then old.missB + 1 else 0
  let n := { n with missA, missB, stoA := if badA then old.stoA else n.stoA, runB := if badB then old.runB else n.runB, pathFail := m.pathFail }
  if n.pathFail ≠ 0 ∨ 8 ≤ missA ∨ 8 ≤ missB then n.latch false else n

/-- No applicable frame at this apply instant (R172, R173). -/
def Node.miss (n : Node) : Node :=
  if n.missed + 1 = 8 then n.latch false else { n with missed := n.missed + 1, held := true, state := nHolding }

/-- A frame with HOLD = 0, SHADOW = 1 and a newer SEQ, which may substitute. -/
def shadowOf (n : Node) (f : Option DownFrame) : Bool := match f with
  | some x => !x.hold && x.shadow && newer n x.seq
  | none => false

/-- R172's decision in RUNNING or HOLDING. `pick` chooses where both ports carry a frame that may substitute: the manual names
neither. DESIGN CHOICE: log entry 55. -/
def Node.decide (n : Node) (fa fb : Option DownFrame) (pick : Bool) : Node :=
  let holds := fun (f : Option DownFrame) => match f with | some x => x.hold | none => false
  let sub := fun (f : Option DownFrame) (port : Nat) => match f with
    | some x => { n.apply x port with substitute := true }
    | none => n
  let shadow := if shadowOf n fa ∧ (pick ∨ shadowOf n fb = false) then sub fa 0
    else if shadowOf n fb then sub fb 1 else n.miss
  match fa, fb with
  | some x, some y => if x.hold ∧ y.hold then n.latch true
    else if x.hold ∧ newer n x.seq then { n.apply x 0 with substitute := false }
    else if y.hold ∧ newer n y.seq then { n.apply y 1 with substitute := false }
    else shadow
  | some x, none => if holds (some x) ∧ newer n x.seq then { n.apply x 0 with substitute := false } else shadow
  | none, some y => if holds (some y) ∧ newer n y.seq then { n.apply y 1 with substitute := false } else shadow
  | none, none => n.miss

/-- R174 in INIT or STO_LATCHED: frames with HOLD = 1 on exactly one port count towards a resume. -/
def Node.resume (n : Node) (fa fb : Option DownFrame) : Node :=
  let held := fun (f : Option DownFrame) => match f with
    | some x => if x.hold then some x else none
    | none => none
  let count := fun (x : DownFrame) (port : Nat) =>
    let r := if 0 < n.run ∧ x.seq = (n.prevSeq + 1) % 65536 then n.run + 1 else 1
    let n := { n with run := r, prevSeq := x.seq }
    if x.resume ∧ 5 ≤ r ∧ n.tableValid ∧ n.config ≠ [] ∧ n.pathFail = 0 then { n.apply x port with bothHold := false } else n
  match held fa, held fb with
  | some x, none => count x 0
  | none, some y => count y 1
  | _, _ => { n with run := 0 }

/-- NODE_RESUME (R174): an apply instant in INIT or STO_LATCHED; without effect in any other state. -/
def execNodeResume (d : Nat) (fa fb : Option DownFrame) (s : State) : Host.Outcome State Fault Refusal := done s (
  let n := s.node d
  (if n.stopped then s.setNode d (((n.resume (n.valid 0 fa) (n.valid 1 fb)).tookSof 0 fa).tookSof 1 fb) else s))

/-- NODE_POWER_UP (R175): power-up or reset of the node; bridges and outputs off, no table, no configuration. -/
def execNodePowerUp (d : Nat) (s : State) : Host.Outcome State Fault Refusal := done s (s.setNode d {})

/-! ### The management channel (R182, R184 to R187) -/

/-- RESP_RESULT (R186). -/
def rOk : Nat := 0
def rBusy : Nat := 1
def rBadOp : Nat := 2
def rBadRange : Nat := 3
def rMismatch : Nat := 4
def rNotAllowed : Nat := 5
def rSensorFault : Nat := 6

/-- What an operation does: its result and data, and the node after it. -/
abbrev NodeOp := Node → Nat × List ByteN × Node

/-- The last response on a port, and a new one. -/
def Node.resp (n : Node) (port : Nat) : Response := if port = 0 then n.respA else n.respB
def Node.setResp (n : Node) (port : Nat) (r : Response) : Node := if port = 0 then { n with respA := r } else { n with respB := r }

/-- A message taken from a valid frame on a port (R175, R182): each tag is executed at most once; tag 0 is no message. DEDUCED: log entry 58. -/
def State.manage (s : State) (d : Nat) (m : Mgmt) (f : NodeOp) : State :=
  let n := s.node d
  if m.tag = 0 ∨ 255 < m.tag ∨ (n.resp m.port).tag = m.tag then s else
  let (r, data, n) := f n
  s.setNode d (n.setResp m.port { tag := m.tag, result := r, data := pad12 data })

/-- Executed with data in answer. -/
def answering (bs : List ByteN) : NodeOp := fun n => (rOk, bs, n)
def refusing (r : Nat) : NodeOp := fun n => (r, [], n)

/-- An operation of the holder with the bridges off (R184): its ranges first, then its permission. -/
def holderOp (m : Mgmt) (needOff : Bool) (ok : Bool) (f : NodeOp) : NodeOp := fun n =>
  if ok = false then (rBadRange, [], n)
  else if m.hold = false ∨ (needOff ∧ bridgesOff n = false) then (rNotAllowed, [], n)
  else f n

/-- The operations of R184, as a port's message brings them; each executes at most once (R182). -/
def State.mgIdentify (s : State) (d : Nat) (m : Mgmt) : State :=
  s.manage d m (if m.addr ≠ 0 ∨ m.data ≠ [] then refusing rBadRange else answering (nodeBytes d 0x01 0 12))

def State.mgReadCaps (s : State) (d : Nat) (m : Mgmt) : State :=
  s.manage d m (if 3 < m.addr ∨ m.data ≠ [] then refusing rBadRange
    else answering (nodeBytes d 0x02 m.addr (if m.addr = 3 then 4 else 10)))

/-- The shadow table: what it holds before the first write, the node's make gives. -/
def Node.shadow (n : Node) (d : Nat) : List ByteN := if n.shadowTable = [] then nodeBytes d 0x10 0 3072 else n.shadowTable

/-- Put bytes into a list at an offset. -/
def overlay (l : List ByteN) (at_ : Nat) (bs : List ByteN) : List ByteN := l.take at_ ++ bs ++ l.drop (at_ + bs.length)

def State.mgTableWrite (s : State) (d : Nat) (m : Mgmt) : State :=
  let n := m.data.length
  s.manage d m (holderOp m true (decide (1 ≤ n) && decide (n ≤ 384) && decide (m.addr + n ≤ 3072))
    (fun x => (rOk, [], { x with shadowTable := overlay (x.shadow d) m.addr (m.data.map (· % 256)) })))

def State.mgTableCommit (s : State) (d : Nat) (m : Mgmt) : State :=
  s.manage d m (holderOp m true (decide (m.data.length = 4))
    (fun x =>
      let c := crc32 (x.shadow d)
      if c = beVal m.data then (rOk, beBytes 4 c, { x with table := x.shadow d, tableValid := true })
      else (rMismatch, beBytes 4 c, x)))

/-- TABLE_CHECK (R184). DESIGN CHOICE: log entry 56. -/
def State.mgTableCheck (s : State) (d : Nat) (m : Mgmt) : State :=
  s.manage d m (if m.addr ≠ 0 ∨ m.data ≠ [] then refusing rBadRange
    else fun x => (rOk, (if x.tableValid then beBytes 4 (crc32 x.table) else nodeBytes d 0x12 0 4) ++ [if x.tableValid then 1 else 0], x))

/-- CONFIG_WRITE (R184, R185): a block that enables an absent axis or sensor names one. DEDUCED: log entry 59. -/
def State.mgConfigWrite (s : State) (d : Nat) (m : Mgmt) : State :=
  let axesOk := (List.range 3).all (fun k => !(m.data.getD 0 0).testBit k || nodeHasAxis d k)
  let sensorsOk := (List.range 2).all (fun i => !(m.data.getD 2 0).testBit i || decide (i < nodeSensors d))
  s.manage d m (holderOp m true (decide (m.addr = 0) && decide (m.data.length = 8) && axesOk && sensorsOk)
    (fun x => (rOk, [], { x with config := m.data.map (· % 256) })))

/-- CONFIG_READ (R184). DESIGN CHOICE: log entry 56. -/
def State.mgConfigRead (s : State) (d : Nat) (m : Mgmt) : State :=
  s.manage d m (if m.addr ≠ 0 ∨ m.data ≠ [] then refusing rBadRange
    else fun x => (rOk, (if x.config = [] then nodeBytes d 0x21 0 8 else x.config), x))

/-- A sensor's reply: whether it answers, and up to 12 bytes of a content that the manual leaves to the sensor. DESIGN CHOICE: log entry 57. -/
def State.sensorReply (s : State) : (Nat × List ByteN) × State :=
  let (r, s) := s.fresh
  let (v, s) := s.fresh
  ((if r % 2 = 0 then (rOk, leBytes 12 v) else (rSensorFault, [])), s)

def State.mgSensorWrite (s : State) (d : Nat) (m : Mgmt) : State :=
  let n := m.data.length
  let (r, s) := s.sensorReply
  s.manage d m (holderOp m false (decide (m.addr < min 2 (nodeSensors d)) && decide (1 ≤ n) && decide (n ≤ 384))
    (fun x => (r.1, r.2, x)))

def State.mgSensorRead (s : State) (d : Nat) (m : Mgmt) : State :=
  let (r, s) := s.sensorReply
  s.manage d m (if m.addr < min 2 (nodeSensors d) ∧ m.data = [] then fun x => (r.1, r.2, x) else refusing rBadRange)

/-- SET_TIMING (R157, R184): the TIMING_ADVANCE of the port on which it arrives. -/
def State.mgSetTiming (s : State) (d : Nat) (m : Mgmt) : State :=
  let t := beVal m.data
  s.manage d m (if m.data.length ≠ 2 ∨ 400 < t then refusing rBadRange
    else fun x =>
      if x.stopped = false ∧ x.appliedPort = m.port then (rNotAllowed, [], x)
      else (rOk, [], if m.port = 0 then { x with taA := t } else { x with taB := t }))

def State.mgEcho (s : State) (d : Nat) (m : Mgmt) : State :=
  s.manage d m (if 384 < m.data.length then refusing rBadRange else answering (m.data.take 12))

/-- A management message with the operation that it names; an unknown one answers BAD_OP (R184, R186). -/
def State.mgServe (s : State) (d op : Nat) (m : Mgmt) : State := match op with
  | 0x01 => s.mgIdentify d m | 0x02 => s.mgReadCaps d m
  | 0x10 => s.mgTableWrite d m | 0x11 => s.mgTableCommit d m | 0x12 => s.mgTableCheck d m
  | 0x20 => s.mgConfigWrite d m | 0x21 => s.mgConfigRead d m
  | 0x30 => s.mgSensorWrite d m | 0x31 => s.mgSensorRead d m
  | 0x40 => s.mgSetTiming d m | 0x50 => s.mgEcho d m
  | _ => s.manage d m (refusing rBadOp)

/-- The message of a valid frame on a port, whether or not the frame is applied (R175). -/
def State.serveFrame (s : State) (d port : Nat) (f : Option DownFrame) : State := match f with
  | some x => s.mgServe d x.mgmtOp { port, tag := x.mgmtTag, hold := x.hold, addr := x.mgmtAddr, data := x.mgmtData.take x.mgmtLen }
  | none => s

/-- IDENTIFY on a port of a node (R184). -/
def execIdentify (d : Nat) (m : Mgmt) (s : State) : Host.Outcome State Fault Refusal := done s (s.mgIdentify d m)

/-- READ_CAPS on a port of a node (R184). -/
def execReadCaps (d : Nat) (m : Mgmt) (s : State) : Host.Outcome State Fault Refusal := done s (s.mgReadCaps d m)

/-- TABLE_WRITE on a port of a node (R184). -/
def execTableWrite (d : Nat) (m : Mgmt) (s : State) : Host.Outcome State Fault Refusal := done s (s.mgTableWrite d m)

/-- TABLE_COMMIT on a port of a node (R184). -/
def execTableCommit (d : Nat) (m : Mgmt) (s : State) : Host.Outcome State Fault Refusal := done s (s.mgTableCommit d m)

/-- TABLE_CHECK on a port of a node (R184). -/
def execTableCheck (d : Nat) (m : Mgmt) (s : State) : Host.Outcome State Fault Refusal := done s (s.mgTableCheck d m)

/-- CONFIG_WRITE on a port of a node (R184). -/
def execConfigWrite (d : Nat) (m : Mgmt) (s : State) : Host.Outcome State Fault Refusal := done s (s.mgConfigWrite d m)

/-- CONFIG_READ on a port of a node (R184). -/
def execConfigRead (d : Nat) (m : Mgmt) (s : State) : Host.Outcome State Fault Refusal := done s (s.mgConfigRead d m)

/-- SENSOR_WRITE on a port of a node (R184). -/
def execSensorWrite (d : Nat) (m : Mgmt) (s : State) : Host.Outcome State Fault Refusal := done s (s.mgSensorWrite d m)

/-- SENSOR_READ on a port of a node (R184). -/
def execSensorRead (d : Nat) (m : Mgmt) (s : State) : Host.Outcome State Fault Refusal := done s (s.mgSensorRead d m)

/-- SET_TIMING on a port of a node (R184). -/
def execSetTiming (d : Nat) (m : Mgmt) (s : State) : Host.Outcome State Fault Refusal := done s (s.mgSetTiming d m)

/-- ECHO on a port of a node (R184). -/
def execEcho (d : Nat) (m : Mgmt) (s : State) : Host.Outcome State Fault Refusal := done s (s.mgEcho d m)

/-! ### Uplink frames and training at the node (R165, R168, R175, R179) -/

/-- The uplink frame of a port (R165): what the node measured, what is in force, and its response on that port. A sensor forwards
where DEPTH_ENABLE has its bit (R185). -/
def Node.upFrame (n : Node) (d p : Nat) (m : NodeMeas) : UpFrame :=
  let r := n.resp p
  sealUp {
     seq := ((n.port p).upSeq + 1) % 65536, status := nodeStatus n p,
     axes := [0, 1, 2].map (fun k => { (if nodeHasAxis d k then m.axes.getD k {} else {}) with appliedSp := n.words.getD k 0, encRsv := 0 }),
     inputsA := m.inputsA % 256, inputsBInv := 255 - m.inputsB % 256, outputsRb := n.outputs, nodeTemp := m.temp, dcCurrent := m.dcCurrent,
     dcVoltage := m.dcVoltage, appliedSeq := n.lastSeq, respTag := r.tag, respResult := r.result, respData := r.data,
     chunk := m.chunk.filter (fun c => (n.config.getD 2 0).testBit (c.sensor % 2)) }

/-- The frame that a port sends for the next boundary: an uplink frame, unless the port is in training and received no data frame. -/
def Node.sendUp (n : Node) (d p : Nat) (f : Option DownFrame) (m : NodeMeas) : Node :=
  let x := n.port p
  if x.train.isSome ∧ f.isNone then n
  else n.setPort p { x with train := none, training := none, upSeq := (x.upSeq + 1) % 65536, up := some (n.upFrame d p m) }

/-- NODE_TRIP, DC_LINK_LOW and OVERTEMP as the node finds them (R168). -/
def Node.measured (n : Node) (m : NodeMeas) : Node :=
  { n with trip := n.trip ||| m.trips % 8, dcLow := m.dcLow, overTemp := m.overTemp, pathFail := m.pathFail }

/-- What the node decides on the valid frames of both ports (R172, R174). -/
def State.nodeDecide (s : State) (d : Nat) (fa fb : Option DownFrame) : State :=
  let n := s.node d
  let (r, s') := s.fresh
  if n.stopped then s.setNode d (n.resume fa fb)
  else if shadowOf n fa ∧ shadowOf n fb then s'.setNode d (n.decide fa fb (r % 2 == 0))
  else s.setNode d (n.decide fa fb true)

/-- NODE_APPLY_INSTANT (R172, R174, R175): the node decides once on the frames of both ports, serves their management messages, and forms
the uplink frames of its next boundary from what it measures. DEDUCED: log entry 60. -/
def execNodeApplyInstant (d : Nat) (f : PortFrames) (m : NodeMeas) (s : State) : Host.Outcome State Fault Refusal := done s (
  let fa := (s.node d).valid 0 f.a
  let fb := (s.node d).valid 1 f.b
  let old := s.node d
  let s := (s.setNode d (((old.tookSof 0 f.a).tookSof 1 f.b).measured m)).nodeDecide d fa fb
  let s := s.setNode d ((s.node d).paths old m)
  let s := (s.serveFrame d 0 fa).serveFrame d 1 fb
  s.setNode d (((s.node d).sendUp d 0 fa m).sendUp d 1 fb m))

/-- A training frame at a port of a node (R175, R179, R180): the port follows the run, and answers in kind. -/
def State.nodeTrain (s : State) (d p : Nat) (f : TrainFrame) : State :=
  let n := s.node d
  let x := n.port p
  let ok := trainOk x.lastSof f
  let t := (x.train.getD { started := s.now }).follow f ok
  let seq := (x.trainSeq + 1) % 65536
  s.setNode d (n.setPort p { x with
    train := some t, trainSeq := seq, lastSof := some f.sof, up := none,
    training := some (trainFrame (some t) seq (if nodePreemph d then 1 else 0) (if nodePreemph d then t.level else 0)) })

end Sys2Proof.Machine
end

