-- ==== Sys2Proof/Machine/Inputs.lean ====
section
/-!
DEFINITION. Field inputs and safe input pairs (chapter 11), and the contacts of a doorway with their filters and their
readings in both channels (chapter 7).
-/
namespace Sys2Proof.Machine

/-! ### Safe input pairs (R368 to R370) -/

/-- A channel's own reading of a pair, without the latch term (R369): channel A reads INp on die A, channel B IN(p + 24). DEDUCED: log entry 73. -/
def pairOwn (s : State) (p : Nat) (ch : Chan) : Bool :=
  let mode := s.pn (Gl.PAIR_MODE p)
  let n := match ch with | .A => p | .B => p + 24
  let raw := s.bit Gl.INPUT_STATE n
  let gives := match ch with | .A => raw | .B => if mode = 2 then !raw else raw
  mode != 0 && gives && !s.bit Gl.WIRE_BREAK_MASK n && !(decide (2 ≤ s.pn (Gl.PAIR_CLASS p)) && s.bit Gl.FIELD_STATUS (4 + dieOf n))

def pairLatched (s : State) (p : Nat) : Bool := s.bit Gl.PAIR_DISCREPANCY_MASK p

/-- A channel's reading of a pair (R369). -/
def pairReading (s : State) (p : Nat) (ch : Chan) : Bool := pairOwn s p ch && !pairLatched s p

/-- The pair as the application sees it (R369). -/
def pairActive (s : State) (p : Nat) : Bool := pairReading s p .A && pairReading s p .B

/-- The pair as a channel takes it: own reading and the other channel's last exchanged one (R369). -/
def pairTaken (s : State) (p : Nat) (ch : Chan) : Bool :=
  pairReading s p ch && (match ch with | .A => s.pairs.exB | .B => s.pairs.exA).testBit p

/-- A pair assigned as a doorway contact is supervised by R239. -/
def pairIsContact (s : State) (p : Nat) : Bool :=
  (List.range s.doorways).any (fun d => (List.range 7).any (fun i => contactCode s d (i + 1) == 0x80 + p))

/-- Field supply of either die missing (R374). -/
def supplyMissing (s : State) : Bool := s.bit Gl.FIELD_STATUS 1 || s.bit Gl.FIELD_STATUS 3

/-- Time stamp of a difference between the channels' readings of a pair. -/
def State.stampPair (s : State) (p : Nat) : State :=
  let differ := pairOn s p && (pairReading s p .A != pairReading s p .B) && !supplyMissing s
  let old := lookup p s.pairs.diffSince
  { s with pairs := { s.pairs with
      diffSince := match stamp differ old s.now with
        | some t => place p t (erase p s.pairs.diffSince)
        | none => erase p s.pairs.diffSince } }

/-- PAIR_STATE of every pair, the exchanged readings and the count of R370's 100 door ticks, at a door tick. -/
def State.pairsTick (s : State) : State :=
  (List.range 24).foldl (fun s p =>
    let s := s.stampPair p
    let both := !pairOwn s p .A && !pairOwn s p .B
    let n := if both then min 100 (getD 0 s.pairs.quiet p + 1) else 0
    let s := s.setB Gl.PAIR_STATE p (pairActive s p)
    { s with pairs := { s.pairs with quiet := putD 0 s.pairs.quiet p n } }) s

/-- The readings that the cross-compare exchanges (R266). -/
def pairMask (s : State) (ch : Chan) : Nat :=
  (List.range 24).foldl (fun m p => if pairReading s p ch then m + 2 ^ p else m) 0

/-! ### Contacts (R234 to R240) -/

def State.con (s : State) (d : Nat) : Contacts := getD {} s.contacts d
def State.setCon (s : State) (d : Nat) (x : Contacts) : State := { s with contacts := putD {} s.contacts d x }

/-- Node inputs unknown (R177): no valid uplink frame in the 8 fast ticks before this boundary. -/
def nodeUnknown (s : State) (d : Nat) : Bool := match (s.con d).lastValid with
  | none => true
  | some t => decide (t + 8 < s.now)

/-- A channel's own reading of contact c, without the latch of R239: unassigned contacts read as R234 states. -/
def contactOwn (s : State) (d c : Nat) (ch : Chan) : Bool :=
  let code := contactCode s d c
  if code < 8 then
    !nodeUnknown s d && (match ch with | .A => (s.con d).conA | .B => (s.con d).conB).testBit (c - 1)
  else if 0x80 ≤ code ∧ code ≤ 0x97 then pairReading s (code - 0x80) ch
  else c == 4 || c == 5

/-- A contact as both channels read it, whatever R239 has latched. -/
def contactReads (s : State) (d c : Nat) : Bool := contactOwn s d c .A && contactOwn s d c .B

/-- Contact discrepancy latched (R239). -/
def contactLatched (s : State) (d c : Nat) : Bool := (s.con d).latched.testBit (c - 1)

/-- The contact as the sequencer uses it: both channels' readings, no discrepancy latched (R240). DEDUCED: log entry 32. -/
def contact (s : State) (d c : Nat) : Bool := contactReads s d c && !contactLatched s d c

/-- The contact as a safety channel takes it: own reading, and the other channel's last exchanged reading (R238). -/
def contactTaken (s : State) (d c : Nat) (ch : Chan) : Bool :=
  contactOwn s d c ch && (match ch with | .A => (s.con d).exB | .B => (s.con d).exA).testBit (c - 1) && !contactLatched s d c

/-- SAFE_LOCKED and the step term, in a channel's view (R240, R244). -/
def safeLocked (s : State) (d : Nat) (ch : Chan) : Bool :=
  contactTaken s d 1 ch && contactTaken s d 2 ch && contactTaken s d 3 ch
def safeStep (s : State) (d : Nat) (ch : Chan) : Bool := !hasStep s d || contactTaken s d 6 ch

/-- The mask of a channel's own readings. -/
def contactMask (s : State) (d : Nat) (ch : Chan) : Nat :=
  (List.range 7).foldl (fun m i => if contactOwn s d (i + 1) ch then m + 2 ^ i else m) 0

/-- Contacts that the type of a configured doorway requires (R234). -/
def requiredContacts (s : State) (d : Nat) : List Nat := if configured s d = false then [] else if hasStep s d then [1, 2, 3, 6] else [1, 2, 3]

/-- Stamps of disagreement and of agreement of one contact (R239). -/
def State.stampContact (s : State) (d c : Nat) : State :=
  let x := s.con d
  let differ := contactOwn s d c .A != contactOwn s d c .B
  let upd := fun (m : Store Nat) (b : Bool) => match stamp b (lookup c m) s.now with
    | some t => place c t (erase c m)
    | none => erase c m
  s.setCon d { x with diffSince := upd x.diffSince differ, agreeSince := upd x.agreeSince (!differ && contactLatched s d c) }

/-- Stamps of every contact of every doorway that names pair p. -/
def State.stampPairContacts (s : State) (p : Nat) : State :=
  (List.range s.doorways).foldl (fun s d =>
    (List.range 7).foldl (fun s i => if contactCode s d (i + 1) = 0x80 + p then s.stampContact d (i + 1) else s) s) s

/-- Display words and stamps of a doorway's contacts at a door tick (R259, R260). -/
def State.contactsTick (s : State) (d : Nat) : State :=
  let s := (List.range 7).foldl (fun s i => s.stampContact d (i + 1)) s
  let s := s.wrn (Dr.CONTACTS_A d) (contactMask s d .A)
  let s := s.wrn (Dr.CONTACTS_B d) (contactMask s d .B)
  let k := Dr.CONTACT_STATUS d
  let s := s.setB k 0 (nodeUnknown s d)
  let s := s.setB k 1 ((s.con d).latched != 0)
  let s := s.setB k 2 ((requiredContacts s d).any (fun c => contactCode s d c == 0xFF))
  let s := s.setB k 3 (safeLocked s d .A && safeLocked s d .B)
  s.setB k 4 (safeStep s d .A && safeStep s d .B)

/-- Raw samples of a doorway's node inputs, from a valid uplink frame (R169, R236). -/
def State.nodeSample (s : State) (d inA inB : Nat) : State :=
  let x := s.con d
  let upd := fun (m : Store Nat) (i : Nat) (old new : Bool) => if old = new then m else place i s.now (erase i m)
  let since := (List.range 8).foldl (fun m i =>
    upd (upd m i (x.rawA.testBit i) (inA.testBit i)) (8 + i) (x.rawB.testBit i) (inB.testBit i)) x.since
  s.setCon d { x with rawA := inA % 256, rawB := inB % 256, since, lastValid := some s.now }

/-- Since when a raw node input has its value. -/
def rawSince (x : Contacts) (i : Nat) : Nat := (lookup i x.since).getD 0

/-- A filtered bit follows its raw bit once that has held for `ticks` fast ticks. -/
def filterBits (old raw : Nat) (held : Nat → Bool) : Nat :=
  (List.range 8).foldl (fun m i => if (if held i then raw else old).testBit i then m + 2 ^ i else m) 0

/-- The application's filters of the node inputs in a fast tick: CONTACT_FILTER for requests and limit switches (assumption
13), 0.1 ms for edges on both paths (R212). DEDUCED: log entry 13. -/
def State.nodeFilter (s : State) (d : Nat) : State :=
  let x := s.con d
  let f := 5 * s.pn (Ct.CONTACT_FILTER d)
  let held := fun (base n i : Nat) => decide (rawSince x (base + i) + n ≤ s.now)
  let edgeA := filterBits x.edgeA x.rawA (held 0 5)
  let edgeB := filterBits x.edgeB x.rawB (held 8 5)
  let diff := (List.range 8).foldl (fun m i =>
    match stamp (edgeA.testBit i != edgeB.testBit i) (lookup i m) s.now with
    | some t => place i t (erase i m)
    | none => erase i m) x.edgeDiff
  s.setCon d { x with filt := filterBits x.filt x.rawA (held 0 f), edgeA, edgeB, edgeDiff := diff }

/-- CONTACT_FILTERED_CHANGE (R236): the raw value of a node-input contact has held its new state for CONTACT_FILTER in one
channel. -/
def execContactFilteredChange (d c : Nat) (ch : Chan) (v : Bool) (s : State) : Host.Outcome State Fault Refusal := done s (
  let code := contactCode s d c
  let x := s.con d
  let (raw, base) := match ch with | .A => (x.rawA, 0) | .B => (x.rawB, 8)
  (if 1 ≤ c ∧ c ≤ 7 ∧ code < 8 ∧ raw.testBit code = v ∧ rawSince x (base + code) + 5 * s.pn (Ct.CONTACT_FILTER d) ≤ s.now then
      let put := fun (m : Nat) => (setBit (m : Int) (c - 1) v).toNat
      let s := s.setCon d (match ch with
        | .A => { x with conA := put x.conA }
        | .B => { x with conB := put x.conB })
      let s := s.stampContact d c
      match ch with
      | .A => s.wrn (Dr.CONTACTS_A d) (contactMask s d .A)
      | .B => s.wrn (Dr.CONTACTS_B d) (contactMask s d .B)
    else s))

/-- CONTACT_DISCREPANCY (R239): the two channels' readings of one contact have differed for longer than CONTACT_DISCREPANCY_TIME. -/
def execContactDiscrepancy (d c : Nat) (s : State) : Host.Outcome State Fault Refusal := done s (
  let x := s.con d
  let t := 50 * s.pn (Ct.CONTACT_DISCREPANCY_TIME d) + 1
  (if configured s d ∧ 1 ≤ c ∧ c ≤ 7 ∧ contactLatched s d c = false ∧ heldFor (lookup c x.diffSince) s.now t then
      let s := s.setCon d { x with latched := x.latched + 2 ^ (c - 1), agreeSince := erase c x.agreeSince }
      let s := s.setB (Dr.CONTACT_STATUS d) 1 true
      let s := s.latch (Dr.CONTACT_STATUS d) 8 (Dr.DISCREPANCY_SEEN_REPEATS d)
      let s := s.count (Dr.DISCREPANCIES d)
      (s.raise 0x05C1 d c).faultDoor d 5
    else s))

/-- The two readings of every latched contact have agreed for 100 ms (R239). -/
def contactsAgreed (s : State) (d : Nat) : Bool :=
  (List.range 7).all (fun i => !contactLatched s d (i + 1) || heldFor (lookup (i + 1) (s.con d).agreeSince) s.now 5000)

/-- Clear the latch of R239. -/
def State.clearDiscrepancy (s : State) (d : Nat) : State :=
  (s.setCon d { s.con d with latched := 0, agreeSince := [] }).setB (Dr.CONTACT_STATUS d) 1 false

/-! ### Sensitive edges (R212) -/

/-- A field input that serves as a sensitive edge, as filtered with 0.1 ms (R212), reads as any field input does (R364, R367). -/
def edgeReads (s : State) (n : Nat) : Bool :=
  s.boundary.edgeIn.testBit n && !(decide (2 ≤ classOf s n) && s.bit Gl.FIELD_STATUS (4 + dieOf n))

/-- Whether a leaf's edge counts as operated. -/
def edgeOperated (s : State) (a : Nat) : Bool :=
  let code := s.pn (Gl.EDGE_INPUT a)
  let x := s.con (doorOf a)
  if code < 8 then
    x.edgeA.testBit code || x.edgeB.testBit code || heldFor (lookup code x.edgeDiff) s.now 50
  else if 0x40 ≤ code ∧ code ≤ 0x6F then edgeReads s (code - 0x40) || s.bit Gl.WIRE_BREAK_MASK (code - 0x40)
  else false

def doorEdge (s : State) (d : Nat) : Bool := (leavesOf s d).any (edgeOperated s)

/-- Whether a field input serves as a sensitive edge. -/
def isEdgeInput (s : State) (n : Nat) : Bool := (allAxes s).any (fun a => s.pn (Gl.EDGE_INPUT a) == 0x40 + n)

/-! ### Field inputs -/

/-- The input as the 0.1 ms filter of a sensitive edge gives it. -/
def State.setEdge (s : State) (n : Nat) (v : Bool) : State :=
  { s with boundary := { s.boundary with edgeIn := (setBit s.boundary.edgeIn n v).toNat } }

/-- A STEP input that reads inactive may give its next coarse step (R111). -/
def State.stepInactive (s : State) (n : Nat) (v : Bool) : State :=
  (List.range 4).foldl (fun s p => if v = false ∧ s.pn (Gl.STEP_DIR_INPUTS (2 * p)) = 0x40 + n then
    { s with boundary := { s.boundary with stepSeen := (setBit s.boundary.stepSeen p false).toNat } } else s) s

/-- The input as its own filter gives it (R360). One that reads active is never in wire break (R363). -/
def State.setInput (s : State) (n : Nat) (v : Bool) : State :=
  let s := s.stepInactive n v
  let s := if v then s.setB Gl.WIRE_BREAK_MASK n false else s
  let s := (s.setB Gl.INPUT_STATE n v).wr (In.FILTERED n) (b2i v)
  (s.stampPair (pairOf n)).stampPairContacts (pairOf n)

/-- INPUT_FILTERED_CHANGE (R212, R360, R375): while the supply of its die is missing an input reads inactive. -/
def execInputFilteredChange (n : Nat) (v : Filtered) (s : State) : Host.Outcome State Fault Refusal := done s (
  if n < 48 then
    let on := !s.bit Gl.FIELD_STATUS (1 + 2 * dieOf n)
    match v with
    | .own v => s.setInput n (v && on)
    | .edge v => s.setEdge n (v && on)
  else s)

/-- Whether the wire-break check acts on an input (R363, R368). -/
def breakChecked (s : State) (n : Nat) : Bool :=
  let p := pairOf n
  (if pairOn s p then s.pb (Gl.PAIR_WIRE_BREAK p) && (decide (24 ≤ n) || s.pn (Gl.PAIR_MODE p) == 1)
   else s.pb (In.WIRE_BREAK_ENABLE n)) && decide (classOf s n < 2)

/-- WIRE_BREAK (R363, R364): current below 0.25 mA at every sample for the filter time. -/
def execWireBreak (n : Nat) (s : State) : Host.Outcome State Fault Refusal :=
  done s (if n < 48 ∧ breakChecked s n ∧ s.bit Gl.INPUT_STATE n = false ∧ s.bit Gl.FIELD_STATUS (1 + 2 * dieOf n) = false
      ∧ s.bit Gl.WIRE_BREAK_MASK n = false then
      let s := s.setB Gl.WIRE_BREAK_MASK n true
      let s := s.latch Gl.WIRE_BREAK_SEEN n (In.WIRE_BREAK_REPEATS n)
      let s := s.raise (if isEdgeInput s n || pairOn s (pairOf n) then 0x0402 else 0x3401) n (s.rd (In.INPUT_CURRENT n))
      (s.stampPair (pairOf n)).stampPairContacts (pairOf n)
    else s)

/-- WIRE_BREAK_END (R363, R375). -/
def execWireBreakEnd (n : Nat) (s : State) : Host.Outcome State Fault Refusal :=
  done s (if n < 48 ∧ s.bit Gl.WIRE_BREAK_MASK n ∧ s.bit Gl.FIELD_STATUS (1 + 2 * dieOf n) = false then
      ((s.setB Gl.WIRE_BREAK_MASK n false).stampPair (pairOf n)).stampPairContacts (pairOf n)
    else s)

/-- PAIR_DISCREPANCY (R370): the readings have differed for longer than PAIR_DISCREPANCY_TIME. -/
def execPairDiscrepancy (p : Nat) (s : State) : Host.Outcome State Fault Refusal :=
  done s (if p < 24 ∧ pairOn s p ∧ pairIsContact s p = false ∧ pairLatched s p = false ∧ supplyMissing s = false
      ∧ heldFor (lookup p s.pairs.diffSince) s.now (50 * s.pn (Gl.PAIR_DISCREPANCY_TIME p) + 1) then
      let s := s.setB Gl.PAIR_DISCREPANCY_MASK p true
      let s := s.setB Gl.PAIR_STATE p false
      let s := s.count Gl.PAIR_DISCREPANCIES
      (s.raise 0x0403 p 0).stampPair p
    else s)

/-- PAIR_DISCREPANCY_CLEAR (R370): both own readings inactive at 100 consecutive door ticks. -/
def execPairDiscrepancyClear (p : Nat) (s : State) : Host.Outcome State Fault Refusal :=
  done s (if p < 24 ∧ pairLatched s p ∧ 100 ≤ getD 0 s.pairs.quiet p then
      (s.setB Gl.PAIR_DISCREPANCY_MASK p false).stampPair p
    else s)

/-- I_nom in µA of the device's one line class (R365, R366), `none` where no input or pair is in a line class. -/
def lineNominal (s : State) : Option Nat := (lineClass s).map (fun c => if c = 2 then 2700 else 2520)

/-- Every pair of a die's inputs after a change of its reference or supply. -/
def State.stampDie (s : State) : State := (List.range 24).foldl (fun s p => (s.stampPair p).stampPairContacts p) s

/-- The reading of a reference's current, 0.02 mA (R378). -/
def State.showRef (s : State) (die iref : Nat) : State :=
  s.wrn (if die = 0 then Gl.LINE_REF_CURRENT_A else Gl.LINE_REF_CURRENT_B) (min 255 (iref / 20))

/-- LINE_REF_LOW (R367), with I_ref in µA. -/
def execLineRefLow (die iref : Nat) (s : State) : Host.Outcome State Fault Refusal := done s (
  match lineNominal s with
  | some nom =>
    if die < 2 ∧ lineRef s die ≠ 0xFF ∧ 100 * iref < 55 * nom ∧ s.bit Gl.FIELD_STATUS (4 + die) = false then
      let s := (s.showRef die iref).setB Gl.FIELD_STATUS (4 + die) true
      (s.raise 0x0404 die (iref / 20 : Nat)).stampDie
    else s
  | none => s)

/-- LINE_REF_RESTORED (R367). -/
def execLineRefRestored (die iref : Nat) (s : State) : Host.Outcome State Fault Refusal := done s (
  match lineNominal s with
  | some nom =>
    if die < 2 ∧ 55 * nom ≤ 100 * iref ∧ s.bit Gl.FIELD_STATUS (4 + die) then
      ((s.showRef die iref).setB Gl.FIELD_STATUS (4 + die) false).stampDie
    else s
  -- without a line class there is no I_nom to be below
  | none => if die < 2 ∧ s.bit Gl.FIELD_STATUS (4 + die) then ((s.showRef die iref).setB Gl.FIELD_STATUS (4 + die) false).stampDie else s)

/-! ### Field supplies (R374 to R376) -/

/-- The measured supply of a die. -/
def State.showSupply (s : State) (die mv : Nat) : State := s.wrn (if die = 0 then Gl.VFIELD_A else Gl.VFIELD_B) (min 50000 mv)

/-- VFIELD_LOW (R374): below 16.8 V for 10 samples enters, above 17.3 V leaves. -/
def execVfieldLow (die : Nat) (enter : Bool) (mv : Nat) (s : State) : Host.Outcome State Fault Refusal := done s (
  let b := 2 * die
  (if die < 2 ∧ enter ∧ mv < 16800 ∧ s.bit Gl.FIELD_STATUS b = false then
      let s := (s.showSupply die mv).setB Gl.FIELD_STATUS b true
      (s.latch Gl.FIELD_STATUS (8 + b) (Gl.FIELD_REPEATS b)).raise 0x1441 die mv
    else if die < 2 ∧ enter = false ∧ 17300 < mv ∧ s.bit Gl.FIELD_STATUS b then
      (s.showSupply die mv).setB Gl.FIELD_STATUS b false
    else s))

/-- Every input of a die taken as inactive (R375, R376). DEDUCED: log entry 74. -/
def State.dieInactive (s : State) (die : Nat) : State :=
  ((List.range 24).foldl (fun s i => let n := 24 * die + i; (((s.setB Gl.INPUT_STATE n false).wr (In.FILTERED n) 0).setEdge n false).stepInactive n false)
    s).stampDie

/-- FIELD_DIE_REPORT_TIMEOUT (R376): no report for 200 µs; the inputs follow again with the next filtered changes. -/
def execFieldDieReportTimeout (die : Nat) (s : State) : Host.Outcome State Fault Refusal :=
  done s (if die < 2 then s.dieInactive die else s)

end Sys2Proof.Machine
end

