-- ==== Sys2Proof/Machine/Motion.lean ====
section
/-!
DEFINITION. The motion engine (chapter 3): moves of a doorway group, seeks, stops, limit switches, standstill and hold
current, step-follower and jog.
-/
namespace Sys2Proof.Machine

/-- One motion tick in seconds. -/
def motionDt : Rat := mkRat 1 10000

/-! ### Limits and caps (R81, R86, R87) -/

/-- abs(D) of an axis in mm. -/
def MoveAxis.mm (m : MoveAxis) : Rat := mkRat (Int.natAbs (m.target - m.start)) 1000000

/-- The axes of a move with D ≠ 0. -/
def Move.moving (m : Move) : List MoveAxis := m.axes.filter (fun x => x.start != x.target)

/-- The smallest of some values, 0 for none. -/
def minOf : List Rat → Rat
  | [] => 0
  | x :: r => r.foldl min x

/-- The limits of one axis of a move from the values in force (R81), in the units of their entries. -/
def axisLimits (s : State) (m : Move) (a : Nat) : MoveLimits :=
  -- a failed depth sensor caps every closing move at CREEP_SPEED (R218)
  let slow := m.creep || (m.closing && m.axes.any (fun x => roleOf x.a != 2 && depthDegraded s (doorOf x.a)))
  -- a reversal uses STOP_DECEL in place of ACCEL and DECEL (R221)
  let rev := m.kind == .reverse || m.kind == .relief
  { v := s.pn (if slow then Ax.CREEP_SPEED a else Ax.MAX_SPEED a), a := s.pn (if rev then Ax.STOP_DECEL a else Ax.ACCEL a),
    d := s.pn (if rev then Ax.STOP_DECEL a else Ax.DECEL a), j := s.pn (Ax.JERK a), stop := s.pn (Ax.STOP_DECEL a) }

/-- Path limits of R81 from those of the moving axes. -/
def pathLimits (ax : List (MoveAxis × MoveLimits)) : PathLimits :=
  let per := fun (f : MoveLimits → Nat) => minOf (ax.map (fun x => (f x.2 : Rat) / x.1.mm))
  let js := ax.filter (fun x => x.2.j != 0)
  { v := per (·.v), a := per (·.a), d := per (·.d), j := minOf (js.map (fun x => (x.2.j : Rat) / x.1.mm)), stop := per (·.stop) }

/-- Path limits of a move from the values in force. -/
def limitsFor (s : State) (m : Move) : PathLimits := pathLimits (m.moving.map (fun x => (x, axisLimits s m x.a)))

/-- The stretch of the path over which a cap from `lo` to `hi` in nm, with a speed other than 0, limits an axis (R87). -/
def capStretch (x : MoveAxis) (lo hi : Int) (v : Nat) : Option Stretch :=
  if v = 0 ∨ x.start = x.target then none else
  let pos := fun (p : Int) => (p - x.start : Rat) / (x.target - x.start)
  let (u, w) := if x.target < x.start then (pos hi, pos lo) else (pos lo, pos hi)
  if w ≤ 0 ∨ u ≥ 1 then none else some { lo := max 0 u, hi := min 1 w, top := (v : Rat) / x.mm }

/-- The four caps of an axis in the direction of a move (R86): lowest and highest position in µm, and speed. -/
def capEntries (s : State) (x : MoveAxis) : List (Int × Int × Nat) :=
  let closing := decide (x.target < x.start)
  (List.range 4).map (fun n =>
    (s.p (if closing then Ax.CLOSE_CAP_LO x.a n else Ax.OPEN_CAP_LO x.a n), s.p (if closing then Ax.CLOSE_CAP_HI x.a n else Ax.OPEN_CAP_HI x.a n),
      s.pn (if closing then Ax.CLOSE_CAP_SPEED x.a n else Ax.OPEN_CAP_SPEED x.a n)))

/-- Active caps of an axis as stretches of the path (R87). -/
def capsOf (s : State) (x : MoveAxis) : List Stretch :=
  (capEntries s x).filterMap (fun c => capStretch x (1000 * c.1) (1000 * c.2.1) c.2.2)

/-- Caps of a move. -/
def capsFor (s : State) (m : Move) : List Stretch := m.moving.flatMap (capsOf s)

/-- Whether a cap limits the path at `p` (R87). -/
def capActive (caps : List Stretch) (p vLim : Rat) : Bool := caps.any (fun c => decide (c.lo ≤ p ∧ p ≤ c.hi ∧ c.top < vLim))

/-- Whether the speed cap of a failed depth sensor limits a closing move (R218): CREEP_SPEED gives it a smaller path speed than
MAX_SPEED does, or a seek a smaller speed than it was begun for. -/
def creepCapped (s : State) (m : Move) : Bool :=
  let least := fun (f : Nat → Nat) => minOf (m.moving.map (fun x => (s.pn (f x.a) : Rat) / x.mm))
  m.seeks.any (fun k => k.capped && !k.ended)
    || m.closing && m.axes.any (fun x => roleOf x.a != 2 && depthDegraded s (doorOf x.a))
        && decide (least Ax.CREEP_SPEED < least Ax.MAX_SPEED)

/-- The longest stop ramp (R97): the shortest SF7_STOP_TIME of the moving axes, less 10 ms, in seconds. -/
def stopTimeMax (s : State) (axes : List Nat) : Rat :=
  minOf (axes.map (fun a => mkRat (s.p (Gl.SF7_STOP_TIME a) - 10) 1000))

/-! ### Starting and stopping a move -/

/-- An active limit switch towards which an axis would move (R99). -/
def intoSwitch (s : State) (a : Nat) (opening : Bool) : Bool :=
  let c := s.pn (if opening then Ax.LIMIT_INPUT_OPEN a else Ax.LIMIT_INPUT_CLOSE a)
  inputActive s (doorOf a) c

/-- Latch LIMIT_STOP (R99, R116). DEDUCED: log entry 40. -/
def State.limitStop (s : State) (a : Nat) : State := s.latch (Ax.AXIS_STATUS a) 9 (Ax.LIMIT_STOP_REPEATS a)

/-- Drop the hold ramp of an axis: the limit returns to RUN_CURRENT (R108). -/
def State.leaveHold (s : State) (a : Nat) : State :=
  let s := s.setAxis a { s.axis a with holdStart := none, holdDone := false, stillSince := none }
  s.setB (Ax.AXIS_STATUS a) 3 false

/-- Reset the peaks kept for the recorder at the start of a move (R451). -/
def State.clearPeaks (s : State) (a : Nat) : State :=
  s.setAxis a { s.axis a with iqPeak := 0, followPeak := 0, speedPeak := 0, forcePeak := 0, envCount := 0 }

/-- The 46 bytes of an axis in a MOVE message (R349): start and target in nm, limits, four caps. DEDUCED: log entry 101. -/
def moveAxisBytes (s : State) (m : Move) (x : MoveAxis) : List ByteN :=
  let l := axisLimits s m x.a
  leBytes 4 (twos 32 x.start) ++ leBytes 4 (twos 32 x.target) ++ leBytes 2 l.v ++ leBytes 2 l.a ++ leBytes 2 l.d ++ leBytes 4 l.j ++ leBytes 2 l.stop
    ++ (capEntries s x).flatMap (fun c => leBytes 2 (c.1.toNat / 32) ++ leBytes 2 ((c.2.1.toNat + 31) / 32) ++ leBytes 2 c.2.2)

/-- The MOVE message of the mirror (R349), sent by the holder at a move's start and at a change of its limits: doorway, MOVE_ID, start
boundary, and every axis. -/
def State.mirrorMove (s : State) (d : Nat) : State :=
  match (s.door d).move with
  | some m =>
    if s.holds = false then s
    else s.mirrorSend 3 ([d, m.moveId % 256] ++ leBytes 4 (m.started % 2 ^ 32) ++ m.axes.flatMap (moveAxisBytes s m))
  | none => s

/-- A move or a manual demand begins on an axis: no hold ramp, and the integral runs again (R106, R108). -/
def State.wakeAxis (s : State) (a : Nat) : State :=
  let s := s.leaveHold a
  s.setAxis a { s.axis a with frozen := false }

/-- Start an interpolated move of a doorway (R80, R85): targets in nm by axis. DESIGN CHOICE: log entry 205. -/
def State.startMove (s : State) (d : Nat) (kind : MoveKind) (closing creep : Bool) (targets : List (Nat × Int)) : State :=
  let axes := targets.map (fun t => { a := t.1, start := (s.axis t.1).setNm, target := t.2 : MoveAxis })
  let x := s.door d
  let m : Move := { kind, closing, axes, started := s.now, moveId := x.moveCount + 1, creep }
  let lim := limitsFor s m
  let blocked := m.moving.filter (fun y => intoSwitch s y.a (decide (y.target > y.start)))
  let s := blocked.foldl (fun s y => s.limitStop y.a) s
  let s := axes.foldl (fun s y => (s.wakeAxis y.a).clearPeaks y.a) s
  let m := if m.moving = [] then { m with s := 1, ended := true, reached := true, lim := lim }
    else if blocked ≠ [] then { m with ended := true, limitStopped := true, lim := lim }
    else { m with lim := lim, rampDecel := lim.d, segs := planPath lim (capsFor s m) 0 0 }
  let s := ((s.setDoor d { x with move := some m, moveCount := x.moveCount + 1 }).wr (Dr.PATH_S d) (if m.reached then 2 ^ 30 else 0)).mirrorMove d
  if m.reached then s.wr (Dr.MOVE_TIME_LAST d) 0 else s

/-- The ramp of a seek to its speed in mm/s, and its run (R82). -/
def seekPlan (v speed acc jerk : Rat) : List PathSeg :=
  [rampSeg .rise v speed acc jerk, { kind := .run, v0 := speed, v1 := speed, dur := 1000000 }]

/-- The stop ramp of a seek (R82, R97), with the group's longest time; a ramp that R97 shortened is counted. -/
def State.seekStop (s : State) (d : Nat) (axes : List Nat) (k : SeekAxis) : State × SeekAxis :=
  let (g, long) := stopPlan (s.pn (Ax.STOP_DECEL k.a)) (s.pn (Ax.JERK k.a)) k.vel (-1000000) (stopTimeMax s axes)
  (if long then s.count (Dr.STOP_RAMPS_SHORTENED d) else s,
    { k with ended := true, limit := none, segs := if k.vel ≤ 0 then [] else [g], elapsed := 0, dec := max (s.pn (Ax.STOP_DECEL k.a)) g.decel })

/-- Stop ramps of all seeks of a move that run. -/
def State.seekStops (s : State) (d : Nat) (m : Move) : State × List SeekAxis :=
  m.seeks.foldl (fun (acc : State × List SeekAxis) k =>
    if k.ended then (acc.1, acc.2 ++ [k])
    else let (s, k) := acc.1.seekStop d (m.seeks.map (·.a)) k; (s, acc.2 ++ [k])) (s, [])

/-- The speed a seek may have: CREEP_SPEED for a leaf that closes while a depth sensor of its doorway has failed (R218). -/
def seekSpeed (s : State) (a : Nat) (opening : Bool) (speed : Rat) : Rat :=
  if opening = false ∧ roleOf a ≠ 2 ∧ depthDegraded s (doorOf a) then min speed (s.pn (Ax.CREEP_SPEED a)) else speed

/-- One axis of a move without targets at its start: its plan, or its end where it would go into its own active switch (R99),
which is the end condition of a seek on the way out (R103). -/
def seekStart (s : State) (kind : MoveKind) (a : Nat) (opening : Bool) (speed : Nat) : SeekAxis :=
  let acc : Rat := s.pn (Ax.ACCEL a)
  let v := seekSpeed s a opening speed
  let k : SeekAxis := { a, opening, start := (s.axis a).setNm, segs := [], speed := v, acc, capped := decide (v < speed) }
  if intoSwitch s a opening then
    { k with ended := true, hit := true, found := if kind == .seekOpen || kind == .seekStepOut then some (s.axis a).posNm else none }
  else { k with segs := seekPlan 0 v acc (s.pn (Ax.JERK a)) }

/-- Start a move without targets (R82): each axis with its direction and speed in mm/s. A reference close into an active switch
ends as a group where it starts. -/
def State.startSeek (s : State) (d : Nat) (kind : MoveKind) (closing : Bool) (axes : List (Nat × Bool × Nat)) : State :=
  let x := s.door d
  let sk := axes.map (fun t => seekStart s kind t.1 t.2.1 t.2.2)
  let none_ := kind == .refClose && sk.any (·.ended)
  let fin := none_ || sk.all (·.ended)
  let s := (sk.filter (·.ended)).foldl (fun s k => s.limitStop k.a) s
  let s := axes.foldl (fun s t => (s.wakeAxis t.1).clearPeaks t.1) s
  let sk := if none_ then sk.map (fun k => { k with ended := true, segs := [] }) else sk
  (s.setDoor d { x with move := some { kind, closing, axes := [], seeks := sk, started := s.now, moveId := x.moveCount + 1,
                                       ended := fin, reached := fin && !none_, limitStopped := none_ },
                        moveCount := x.moveCount + 1 }).mirrorMove d

/-- Begin a stop ramp of the group (R96, R97): at this boundary, behind the sample of its motion tick where that tick still has to come. -/
def State.rampStop (s : State) (d : Nat) : State :=
  let x := s.door d
  match x.move with
  | none => s
  | some m =>
    if m.ended ∨ m.stopping ∨ m.stopDue then s
    else if motionDue s ∧ m.started < s.now then s.setDoor d { x with move := some { m with stopDue := true } }
    else if m.seeks ≠ [] then
      let (s, ks) := s.seekStops d m
      s.setDoor d { s.door d with move := some { m with stopping := true, seeks := ks } }
    else if m.v ≤ 0 then s.setDoor d { x with move := some { m with ended := true, stopping := true, segs := [] } }
    else
      let (g, long) := stopPlan m.lim.stop m.lim.j m.v m.s (stopTimeMax s (m.moving.map (·.a)))
      let s := if long then s.count (Dr.STOP_RAMPS_SHORTENED d) else s
      s.setDoor d { x with move := some { m with stopping := true, segs := [g], elapsed := 0, rampDecel := max m.lim.stop g.decel } }

/-- The hard stop of the group (R96): speed set-points 0, position set-points frozen at the measured positions. -/
def State.hardStop (s : State) (d : Nat) : State :=
  let x := s.door d
  match x.move with
  | none => s
  | some m =>
    let axes := m.axes.map (·.a) ++ m.seeks.map (·.a)
    let s := axes.foldl (fun s a => let y := s.axis a; s.setAxis a { y with setNm := y.posNm, setVel := 0, setAcc := 0 }) s
    s.setDoor d { x with move := some { m with ended := true, stopping := true, v := 0, segs := [], elapsed := 0, reached := false, hard := true } }

/-- Drop a move altogether: its axes are in STO, or the doorway left its state. -/
def State.dropMove (s : State) (d : Nat) : State := (s.hardStop d).setDoor d { (s.hardStop d).door d with move := none }

/-! ### One motion tick of a move -/

/-- The motion parameters that take effect at motion ticks (R90, R24, R229). -/
def motionKeys (a : Nat) : List Nat :=
  [Ax.MAX_SPEED a, Ax.ACCEL a, Ax.DECEL a, Ax.JERK a, Ax.STOP_DECEL a, Ax.CREEP_SPEED a,
   Ax.ENV_ENABLE a, Ax.ENV_K_CLOSE a, Ax.ENV_MARGIN_CLOSE a, Ax.ENV_K_OPEN a, Ax.ENV_MARGIN_OPEN a, Ax.SPREAD_MIN a,
   Ax.FRICTION_STATIC a, Ax.FRICTION_VISCOUS a, Ax.KP_POS a, Ax.KP_SPEED a, Ax.TI_SPEED a, Ax.SPEED_FF a,
   Ax.FOLLOWING_ERROR_LIMIT a, Ax.STEP_SCALE a, Ax.LIMIT_STOP_MODE a, Ax.STALL_TIME a, Ax.STANDSTILL_DELAY a,
   Ax.LIMIT_INPUT_OPEN a, Ax.LIMIT_INPUT_CLOSE a, Ax.JOG_RATE a, Dr.LEARN_STOP_FORCE (doorOf a)]
    ++ (List.range 12).flatMap (fun i => [key (0x3402 + 0x10 * a) (i + 1), key (0x3403 + 0x10 * a) (i + 1)])

/-- The limits of R90. -/
def limitKeys (a : Nat) : List Nat := [Ax.MAX_SPEED a, Ax.ACCEL a, Ax.DECEL a, Ax.JERK a, Ax.STOP_DECEL a]

/-- Put the motion parameters of an axis in force; tell whether DECEL or STOP_DECEL fell. A move in which a limit changes is no
learning cycle (R197). -/
def State.enforceMotion (s : State) (a : Nat) : State × Bool :=
  let lowered := decide (s.rd (Ax.DECEL a) < s.p (Ax.DECEL a)) || decide (s.rd (Ax.STOP_DECEL a) < s.p (Ax.STOP_DECEL a))
  let changed := (limitKeys a).any (fun k => s.rd k != s.p k) && axisInMove s a
  let s := if changed then s.setDoor (doorOf a) { s.door (doorOf a) with spoiled := true } else s
  ((motionKeys a).foldl (fun s k => s.enforce k (s.rd k)) s, lowered)

/-- The motion parameters of every axis in force, and the axes whose DECEL or STOP_DECEL fell. -/
def State.enforceAxes (s : State) : State × List Nat :=
  (allAxes s).foldl (fun (r : State × List Nat) a =>
    let (s, l) := r.1.enforceMotion a
    (s, if l then a :: r.2 else r.2)) (s, [])

/-- Whether the head segment is a deceleration ramp. -/
def Move.decelerating (m : Move) : Bool := match m.segs with
  | g :: _ => g.kind == .brake || g.kind == .limitFall || g.kind == .stop
  | [] => false

/-- Where the ramp under way ends, and at which speed. -/
def rampEnd (m : Move) : Rat × Rat := match m.segs with
  | g :: _ => (m.s + (g.len - g.posAt m.elapsed), g.v1)
  | [] => (m.s, m.v)

/-- A plan in which the path does not rise above its present speed before `upTo` (R93). -/
def planHolding (l : PathLimits) (caps : List Stretch) (s v upTo : Rat) : List PathSeg :=
  planPath l ({ lo := s, hi := upTo, top := v } :: caps) s v

/-- The path can come to rest in time, and keep every later cap, from position `s` and speed `v`. -/
def fitsFrom (l : PathLimits) (caps : List Stretch) (s v : Rat) : Bool := match stretches s l.v caps with
  | x :: r => let w := (entrySpeeds l 0 r).headD 0; decide (v ≤ w) || decide (rampLen v w l.d l.j ≤ x.hi - s)
  | [] => decide (v ≤ 0)

/-- A ramp that begins at once with deceleration `d` and jerk `j`, and goes on at the values in force from the speed at which these
just end it at its position (R94, R95). Where that ramp itself does not fit, the values in force end at the position. DEDUCED:
log entry 39. -/
def planAtOnce (new : PathLimits) (caps : List Stretch) (d j s v : Rat) : List PathSeg :=
  let at_ := fun (u : Rat) => s + rampLen v u d j
  if at_ 0 > 1 then planPath new caps s v
  else
    let u := bisect 40 (fun u => fitsFrom new caps (at_ u) u) 0 v
    rampSeg .brake v u d j :: planPath new caps (at_ u) u

/-- The plan from `s` at speed `v` at which the path may rise or brake. Where the braking point of the values in force lies behind, a
ramp begins at once: at the deceleration in use where that is the greater (R94), with the jerk in force where it still ends at its
position so, else with the jerk in use (R95). -/
def planFrom (new old : PathLimits) (caps : List Stretch) (s v : Rat) : List PathSeg :=
  if fitsFrom new caps s v then planPath new caps s v
  else
    let d := max new.d old.d
    planAtOnce new caps d (if fitsFrom { new with d } caps s v then new.j else old.j) s v

/-- The plan behind a change of limits during a rise of jerk `rampJ` that keeps it (R95): it rises as far as the values in force
can still brake from. -/
def planRise (new old : PathLimits) (caps : List Stretch) (s v rampJ : Rat) : List PathSeg :=
  match planPath { new with j := rampJ } caps s v with
  | h :: _ =>
    let fits := fun (p : Rat) => fitsFrom new caps (s + rampLen v p new.a rampJ) p
    if h.kind = .rise ∧ fits v then
      let p := if fits h.v1 then h.v1 else bisect 40 fits v h.v1
      rampSeg .rise v p new.a rampJ :: planPath new caps (s + rampLen v p new.a rampJ) p
    else planFrom new old caps s v
  | [] => []

/-- The plan behind a change of limits during a rise or a run. -/
def planOn (new old : PathLimits) (caps : List Stretch) (s v rampJ : Rat) : List PathSeg :=
  if rampJ = new.j then planFrom new old caps s v else planRise new old caps s v rampJ

/-- Replan after a change of limits (R90 to R95): the new move, and whether a reduction was deferred. DEDUCED: log entry 39. -/
def replan (m : Move) (new : PathLimits) (caps : List Stretch) (lowered : Bool) : Move × Bool :=
  let m' := { m with lim := new }
  match m.segs with
  | [] => (m', false)
  | g :: _ =>
    match g.kind with
    | .stop =>
      if new.stop > m.lim.stop ∧ new.stop > m.rampDecel then
        let (g, el) := g.steeper m.elapsed new.stop
        ({ m' with segs := [g], elapsed := el, rampDecel := new.stop }, false)
      else (m', lowered)
    | .limitFall =>
      let (g, el, dec) := if new.d > m.rampDecel then
          let r := g.steeper m.elapsed new.d
          (r.1, r.2, new.d)
        else (g, m.elapsed, m.rampDecel)
      let n := { m' with segs := [g], elapsed := el, rampDecel := dec }
      let (e, w) := rampEnd n
      ({ n with segs := g :: planFrom new m.lim caps e w }, lowered)
    | .brake =>
      let (e, w) := rampEnd m
      -- the path holds its speed where the greater value, with the jerk in force, still ends the ramp at its position (R93, R95)
      if new.d > m.rampDecel ∧ fitsFrom new ({ lo := m.s, hi := e, top := m.v } :: caps) m.s m.v then
        ({ m' with segs := planHolding new caps m.s m.v e, elapsed := 0, rampDecel := new.d }, false)
      else ({ m' with segs := g :: planFrom new m.lim caps e w }, lowered)
    | _ =>
      let e := m.s + (g.len - g.posAt m.elapsed)
      if g.kind = .rise ∧ new = { m.lim with j := new.j } ∧ fitsFrom new caps e g.v1 then
        -- a change of jerk alone applies from the next ramp (R95)
        ({ m' with segs := g :: planPath new caps e g.v1 }, false)
      else
        let behind := decide (new.d < m.lim.d) && !fitsFrom new caps m.s m.v
        ({ m' with segs := planOn new m.lim caps m.s m.v (if g.kind = .rise then g.jerk else new.j), elapsed := 0,
                   rampDecel := if behind then m.lim.d else new.d }, behind)

/-- Set-points of an interpolated move from its path state (R80). -/
def State.placeSetpoints (s : State) (m : Move) (acc : Rat) : State :=
  m.axes.foldl (fun s x =>
    let D : Rat := (x.target - x.start : Int)
    let y := s.axis x.a
    let p := if m.ended ∧ m.reached then x.target else x.start + ratRound (m.s * D)
    s.setAxis x.a { y with setNm := p, setVel := ratRound (m.v * D), setAcc := ratRound (acc * D) }) s

/-- Advance an interpolated move by one motion tick. DESIGN CHOICE: log entry 174. -/
def State.advanceMove (s : State) (d : Nat) (m : Move) : State :=
  if m.ended then s else
  let (dx, segs, el, v) := advance m.segs m.elapsed motionDt m.v
  let s1 := min 1 (m.s + dx)
  let fin := segs.isEmpty
  let reached := fin && (!m.stopping || decide (s1 ≥ 1))
  let m2 := { m with s := (if fin && !m.stopping then 1 else s1), v := (if fin then 0 else v), segs, elapsed := el, ended := fin, reached,
                     rampDecel := if segs.length < m.segs.length && !m.stopping then m.lim.d else m.rampDecel }
  let s := s.placeSetpoints m2 (if fin then 0 else (v - m.v) * 10000)
  let s := s.setDoor d { s.door d with move := some m2 }
  let s := s.wr (Dr.PATH_S d) (ratRound (m2.s * 2 ^ 30))
  if m2.ended ∧ m2.reached then s.wrn (Dr.MOVE_TIME_LAST d) (min 600000 ((s.now - m.started) / 50)) else s

/-- One tick of a seek along its ramps: the set-point moves by the way it has gone. -/
def State.runSeek (s : State) (k : SeekAxis) : State × SeekAxis :=
  let (dx, segs, el, v) := advance k.segs k.elapsed motionDt k.vel
  let old := k.vel
  let k := { k with segs, elapsed := el, vel := (if segs.isEmpty then 0 else v), way := k.way + dx }
  let w := ratRound (1000000 * k.way)
  let u := ratRound (1000000 * k.vel)
  -- a profile that has ended accelerates no mass (R194)
  let acc := if segs.isEmpty then 0 else ratRound (1000000 * 10000 * (k.vel - old))
  (s.setAxis k.a { s.axis k.a with setNm := k.start + (if k.opening then w else -w), setVel := (if k.opening then u else -u),
                                   setAcc := (if k.opening then acc else -acc) }, k)

/-- Changed limits on the ramps of a seek (R92, R93): ACCEL at once on the way up, a higher STOP_DECEL at once in the stop ramp, and
a lower speed at DECEL (R91, R218), a higher one at once too (R93). -/
def seekReplan (s : State) (k : SeekAxis) : SeekAxis :=
  let acc : Rat := s.pn (Ax.ACCEL k.a)
  let dec : Rat := s.pn (Ax.STOP_DECEL k.a)
  let fall : Rat := s.pn (Ax.DECEL k.a)
  let top := seekSpeed s k.a k.opening k.speed
  match k.segs with
  | g :: _ =>
    if g.kind ≠ .stop ∧ top < k.speed then
      let run : PathSeg := { kind := .run, v0 := top, v1 := top, dur := 1000000 }
      { k with speed := top, capped := true, elapsed := 0, dec := fall, segs :=
        if k.vel > top then [rampSeg .limitFall k.vel top fall (s.pn (Ax.JERK k.a)), run] else seekPlan k.vel top acc g.jerk }
    else if g.kind = .limitFall ∧ fall > k.dec then
      let (h, el) := g.steeper k.elapsed fall
      { k with dec := fall, segs := h :: k.segs.drop 1, elapsed := el }
    else if g.kind = .rise ∧ acc ≠ k.acc then { k with acc, segs := seekPlan k.vel k.speed acc g.jerk, elapsed := 0 }
    else if g.kind = .stop ∧ dec > k.dec then
      let (g, el) := g.steeper k.elapsed dec
      { k with dec, segs := [g], elapsed := el }
    else k
  | [] => k

/-- The end condition of a seek other than a limit switch: force at standstill for 50 ms on the way out, the switch of the
doorway or of the step on the way back (R103). -/
def seekFound (s : State) (m : Move) (k : SeekAxis) (closedSwitch stepRetracted : Bool) : Bool := match m.kind with
  | .seekOpen | .seekStepOut => heldFor k.stillSince s.now 2500
  | .seekClose => closedSwitch
  | .seekStepIn => stepRetracted
  | _ => false

/-- The way after which a seek ends without an end condition: STROKE + 100,000 µm in a reference close; else where a stop ramp begun
one tick later would carry it beyond 1,600,000 µm. -/
def seekFar (s : State) (m : Move) (k : SeekAxis) : Bool :=
  if m.kind = .refClose then decide (k.way * 1000 > (s.pn (Ax.STROKE k.a) : Rat) + 100000)
  else
    let (g, _) := stopPlan (s.pn (Ax.STOP_DECEL k.a)) (s.pn (Ax.JERK k.a)) k.speed (-1000000) (stopTimeMax s (m.seeks.map (·.a)))
    decide (k.way + k.speed / 10000 + g.len > 1600)

/-- A switch into which a seek moved (R99): LIMIT_STOP, and at the next boundary the stop of LIMIT_STOP_MODE; a seek already in its
stop ramp can only stop harder. -/
def State.seekHit (s : State) (k : SeekAxis) : State × SeekAxis :=
  let hard := s.pn (Ax.LIMIT_STOP_MODE k.a) == 0
  (s.limitStop k.a, { k with hit := true, ended := true, limit := if k.ended && !hard then none else some hard })

/-- One tick of one seek: a limit stop seen at the last boundary, then the ramps up to this one, changed limits, and the end
conditions (R82, R88, R90, R99, R103). -/
def State.seekTick (s : State) (d : Nat) (m : Move) (k : SeekAxis) (closedSwitch stepRetracted : Bool) : State × SeekAxis :=
  let y := s.axis k.a
  let still := decide (Int.natAbs y.speed < 5000000) && decide (s.rd (Ax.LEAF_FORCE k.a) ≥ s.p (Dr.LEARN_STOP_FORCE d))
  let k := { k with stillSince := stamp still k.stillSince s.now }
  let moved := !k.segs.isEmpty
  match k.limit with
  | some true =>
    (s.setAxis k.a { y with setNm := y.posNm, setVel := 0, setAcc := 0 }, { k with limit := none, segs := [], vel := 0, way := 0, start := y.posNm })
  | some false => let (s, k) := s.runSeek k; s.seekStop d (m.seeks.map (·.a)) k
  | none =>
    let (s, k) := s.runSeek k
    let k := seekReplan s k
    let found := seekFound s m k closedSwitch stepRetracted
    let sw := intoSwitch s k.a k.opening
    let out := m.kind == .seekOpen || m.kind == .seekStepOut
    let fresh := sw && !k.hit && moved
    let k := { k with hit := k.hit && sw, found := if k.found.isNone ∧ (found ∨ (out ∧ sw)) then some y.posNm else k.found }
    if fresh then s.seekHit k
    else if k.ended then (s, k)
    else if found ∨ seekFar s m k then s.seekStop d (m.seeks.map (·.a)) k
    else (s, k)

/-- A limit switch, or the end of the way, in a reference close stops the whole group (R88, R99). -/
def State.refStop (s : State) (d : Nat) (m : Move) : State × Move :=
  if m.kind = .refClose ∧ m.seeks.any (fun k => k.ended) then
    match (m.seeks.filterMap (fun k => k.limit)) with
    | [] => let (s, ks) := s.seekStops d m; (s, { m with seeks := ks })
    | ls => (s, { m with limitStopped := true, seeks := m.seeks.map (fun k => { k with ended := true, limit := some (ls.any (fun b => b)) }) })
  else (s, m)

/-- Advance the seeks of a move by one tick. DEDUCED: log entry 42. -/
def State.advanceSeeks (s : State) (d : Nat) (m : Move) (closedSwitch stepRetracted : Bool) : State :=
  if m.ended then s else
  let (s, ks) := m.seeks.foldl (fun (acc : State × List SeekAxis) k =>
    let (s, k) := acc.1.seekTick d m k closedSwitch stepRetracted
    (s, acc.2 ++ [k])) (s, [])
  let (s, m) := s.refStop d { m with seeks := ks }
  let fin := m.seeks.all (fun k => k.ended && k.limit.isNone && k.segs.isEmpty)
  s.setDoor d { s.door d with move := some { m with ended := fin, reached := fin && !m.stopping } }

/-- Limit switches of a move at a boundary (R99): each that becomes active, in a stop ramp too, latches LIMIT_STOP, and the stop is
remembered for the next boundary; a hard stop prevails. -/
def State.watchSwitches (s : State) (d : Nat) : State :=
  match (s.door d).move with
  | none => s
  | some m =>
    if m.ended ∨ m.seeks ≠ [] then s else
    let act := (m.moving.filter (fun y => intoSwitch s y.a (decide (y.target > y.start)))).map (·.a)
    let hit := act.filter (fun a => !m.limAxes.contains a)
    let hard := hit.any (fun a => s.pn (Ax.LIMIT_STOP_MODE a) == 0)
    let s := hit.foldl State.limitStop s
    s.setDoor d { s.door d with move := some { m with
      limAxes := act, limitSeen := if hit = [] then m.limitSeen else some (hard || m.limitSeen.getD false) } }

/-- ACC_DEFERRED on the axes whose DECEL or STOP_DECEL was lowered (R94). -/
def State.deferAcc (s : State) (axes : List Nat) : State :=
  axes.foldl (fun s a => s.latch (Ax.AXIS_STATUS a) 8 (Ax.ACC_DEFERRED_REPEATS a)) s

/-- A seek of the move decelerates, in its stop ramp or to a lowered speed (R91). -/
def SeekAxis.decelerating (k : SeekAxis) : Bool := match k.segs with
  | g :: _ => g.kind == .stop || g.kind == .limitFall
  | [] => false

/-- Changed limits on the path of a move at the boundary it has reached (R90). A move in which a limit changed is no learning cycle
(R197). -/
def State.replanTick (s : State) (d : Nat) (lowered : List Nat) : State :=
  match (s.door d).move with
  | none => s
  | some m =>
    if m.ended then s else
    let new := limitsFor s m
    -- a move that was taken over keeps its limits until this unit's own change (R340)
    let same : Bool := decide (new = m.held.getD m.lim)
    let m := if same then m else { m with held := none }
    let (n, deferred) := if same then (m, false) else replan m new (capsFor s m) (lowered ≠ [])
    let s := if same then s else (s.setDoor d { s.door d with spoiled := true, move := some n }).mirrorMove d
    if deferred ∨ m.decelerating then s.deferAcc lowered else s

/-- The stop ramp that the door tick of this boundary asked for (R23, R48). -/
def State.stopAsked (s : State) (d : Nat) : State :=
  match (s.door d).move with
  | some m => if m.stopDue then (s.setDoor d { s.door d with move := some { m with stopDue := false } }).rampStop d else s
  | none => s

/-- The motion tick of the doorway's move: the path up to this boundary, changed limits, the limit stop seen last; `lowered` are the
axes whose DECEL or STOP_DECEL fell at this boundary. -/
def State.pathTick (s : State) (d : Nat) (closedSwitch stepRetracted : Bool) (lowered : List Nat) : State :=
  match (s.door d).move with
  | none => s
  | some m =>
    -- at the boundary at which a move begins, its sample is its start (R85)
    if m.ended ∨ s.now ≤ m.started then s
    else if m.seeks ≠ [] then
      (s.deferAcc (lowered.filter (fun a => m.seeks.any (fun k => k.a == a && k.decelerating)))).advanceSeeks d m closedSwitch stepRetracted
    else
      let n := { m with limitSeen := none, limitStopped := m.limitStopped || m.limitSeen.isSome }
      if m.limitSeen = some true then (s.setDoor d { s.door d with move := some n }).hardStop d
      else
        let s := (s.advanceMove d n).replanTick d lowered
        (if m.limitSeen.isSome then s.rampStop d else s).watchSwitches d

/-- One motion tick of the doorway's move, and a stop that begins at its boundary. -/
def State.moveTick (s : State) (d : Nat) (closedSwitch stepRetracted : Bool) (lowered : List Nat) : State :=
  (s.pathTick d closedSwitch stepRetracted lowered).stopAsked d

/-- Standstill (R106): no active move, and abs(measured speed) below 2 mm/s. -/
def atStandstill (s : State) (a : Nat) : Bool := !axisMoving s a && decide (Int.natAbs (s.axis a).speed < 2000000)

/-- The motion flags [0]–[7] of AXIS_STATUS (R116). -/
def motionFlags (s : State) (a : Nat) : State :=
  let d := doorOf a
  let k := Ax.AXIS_STATUS a
  let x := s.axis a
  let mv := (s.door d).move
  let inMove := axisInMove s a
  let manMove := manualMoving s a
  let dec := (manual s a && x.manStop.isSome) || inMove && (match mv with
    | some m => m.decelerating || m.seeks.any (fun k => k.a == a && k.decelerating)
    | none => false)
  let cap := inMove && (match mv with | some m => capActive (capsFor s m) m.s m.lim.v || creepCapped s m | none => false)
  let s := s.setB k 0 (inMove || manMove)
  let s := s.setB k 1 dec
  let s := s.setB k 2 (atStandstill s a)
  let s := s.setB k 3 x.holdDone
  let s := s.setB k 4 x.referenced
  let s := s.setB k 5 cap
  let s := s.setB k 6 (intoSwitch s a true)
  s.setB k 7 (intoSwitch s a false)

/-! ### Standstill and hold current (R106 to R108) -/

/-- STANDSTILL_DELAY of an axis at a motion tick: it starts, goes on or lapses; an axis in STO has no hold current (R106, R108). -/
def State.standstill (s : State) (a : Nat) : State :=
  let x := s.axis a
  if axisSto s a then s.leaveHold a
  else if atStandstill s a then s.setAxis a { x with stillSince := stamp true x.stillSince s.now }
  else if x.stillSince.isSome || x.holdStart.isSome then s.leaveHold a else s

/-- STANDSTILL_DELAY has passed: the limit ramps to the hold level over 50 ms. -/
def execStandstillDelayExpiry (a : Nat) (s : State) : Host.Outcome State Fault Refusal := done s (
  let x := s.axis a
  (if x.holdStart.isNone ∧ heldFor x.stillSince s.now (50 * s.pn (Ax.STANDSTILL_DELAY a)) then
      s.setAxis a { x with holdStart := some s.now, holdDone := false, frozen := true }
    else s))

/-- The ramp ends: HOLD_REDUCED. -/
def execHoldRampEnd (a : Nat) (s : State) : Host.Outcome State Fault Refusal := done s (
  let x := s.axis a
  (if heldFor x.holdStart s.now 2500 ∧ x.holdDone = false then
      (s.setAxis a { x with holdDone := true }).setB (Ax.AXIS_STATUS a) 3 true
    else s))

/-! ### Manual modes (R109 to R114) -/

/-- A coarse step in nm (R112): STEP_SCALE · ADDRESS_PITCH, the pitch not rounded. DESIGN CHOICE: log entry 206. -/
def coarseNm (s : State) (a : Nat) : Rat := (s.pn (Ax.STEP_SCALE a) : Rat) * addressPitch s a

/-- Backlog of R113. -/
def backlog (s : State) (a : Nat) : Rat :=
  let x := s.axis a
  let b := x.demandNm - (x.setNm : Rat)
  if b < 0 then -b else b

/-- STEP_OVERRUN begins with a backlog above 64 coarse steps, and ends below 32 (R113). -/
def State.checkBacklog (s : State) (a : Nat) : State :=
  let x := s.axis a
  let b := backlog s a
  let c := coarseNm s a
  if x.discarding then (if b < 32 * c then s.setAxis a { x with discarding := false } else s)
  else if b > 64 * c then (s.setAxis a { x with discarding := true }).latch (Ax.AXIS_STATUS a) 11 (Ax.STEP_OVERRUN_REPEATS a)
  else s

/-- One coarse step with its interval in fast ticks (R112 to R114): accepted, or discarded and counted (R113). DEDUCED: log entry 43.
DESIGN CHOICE: log entry 177. -/
def State.coarse (s : State) (a : Nat) (opening : Bool) (interval : Rat) : State :=
  let s := s.checkBacklog a
  let c := coarseNm s a
  if intoSwitch s a opening then (s.count (Ax.STEPS_DISCARDED a)).limitStop a
  else if (s.axis a).discarding then s.count (Ax.STEPS_DISCARDED a)
  else
    let s := (s.wrn (Ax.STEP_INTERVAL_LAST a) (min 50000 (20 * interval).floor.toNat)).wakeAxis a
    let x := s.axis a
    s.setAxis a { x with
      demandNm := x.demandNm + x.remaining, remaining := (if opening then c else -c), rate := c * 5 / max interval 1, lastStep := some s.now }

/-- Interval of a step (R112): 10 ms for the first step and after a pause of more than 50 ms. -/
def stepInterval (s : State) (a : Nat) : Nat := match (s.axis a).lastStep with
  | none => 500
  | some t => if s.now - t > 2500 then 500 else s.now - t

/-- The axes that follow a STEP/DIR pair (R111); not those in STO. DESIGN CHOICE: log entry 206. -/
def followers (s : State) (p : Nat) : List Nat :=
  (allAxes s).filter (fun a => s.pn (Ax.AXIS_MODE a) == 1 && s.pn (Ax.STEP_PAIR a) == p && !axisSto s a)

/-- The rising filtered edge of a pair's STEP input (R111, R373), once for each activation, with DIR as it reads then: one coarse
step for every axis that follows the pair. -/
def State.stepEdge (s : State) (p : Nat) : State :=
  if p < 4 ∧ inputActive s 0 (s.pn (Gl.STEP_DIR_INPUTS (2 * p))) ∧ s.boundary.stepSeen.testBit p = false then
    let s := { s with boundary := { s.boundary with stepSeen := s.boundary.stepSeen + 2 ^ p } }
    let opening := inputActive s 0 (s.pn (Gl.STEP_DIR_INPUTS (2 * p + 1)))
    (followers s p).foldl (fun s a => s.coarse a opening (stepInterval s a)) s
  else s

/-- Begin the stop ramp of a manual axis (R97, R114): STOP_DECEL, or what the shortest stop time needs. DEDUCED: log entry 166. -/
def State.manualRamp (s : State) (a : Nat) : State :=
  let x := s.axis a
  if x.manVel = 0 then s.setAxis a { x with manStop := none }
  else
    let need := (if x.manVel < 0 then -x.manVel else x.manVel) / 1000000 / stopTimeMax s [a]
    let dec : Rat := s.pn (Ax.STOP_DECEL a)
    let s := if dec < need then s.count (Dr.STOP_RAMPS_SHORTENED (doorOf a)) else s
    s.setAxis a { x with manStop := some (max dec need) }

/-- The time of a jog's next step has come. -/
def jogDue (s : State) (a : Nat) : Bool := match (s.axis a).jogNext with
  | some t => decide (t ≤ s.now)
  | none => false

/-- A write of JOG_STEPS (R114). DESIGN CHOICE: log entry 178. DESIGN CHOICE: log entry 179. -/
def jogEffect (a : Nat) : Effect := fun n s =>
  let x := s.axis a
  if n = -32768 then .error abLow
  else if configured s (doorOf a) = false ∨ s.pn (Ax.AXIS_MODE a) ≠ 2 then .error abState
  else if n = 0 then
    -- a stop ramp, and the remaining steps are cleared
    .ok (((s.wr (Ax.JOG_STEPS a) 0).setAxis a { x with jogNext := none, remaining := 0, rate := 0 }).manualRamp a)
  else if x.jogNext.isSome then .error abState
  else .ok ((s.wr (Ax.JOG_STEPS a) n).setAxis a { x with jogNext := some (s.now : Rat), manStop := none })

def execJogStart (via : Via) (a : Nat) (n : Int) (s : State) : Host.Outcome State Fault Refusal :=
  done s (if n = 0 then s else writeNum via (0x3405 + 0x10 * a) 4 (.num n) none id (jogEffect a) s)

def execJogStop (via : Via) (a : Nat) (s : State) : Host.Outcome State Fault Refusal :=
  done s (writeNum via (0x3405 + 0x10 * a) 4 (.num 0) none id (jogEffect a) s)

/-- The next coarse step of a jog, where its time has come, at 1/JOG_RATE (R114). -/
def State.jogCoarse (s : State) (a : Nat) : State :=
  let x := s.axis a
  let left := s.rd (Ax.JOG_STEPS a)
  let per := mkRat 50000 (max (s.pn (Ax.JOG_RATE a)) 1)
  if s.pn (Ax.AXIS_MODE a) = 2 ∧ left ≠ 0 ∧ jogDue s a then
    let s := s.coarse a (decide (left > 0)) per
    let left' := if left > 0 then left - 1 else left + 1
    (s.wr (Ax.JOG_STEPS a) left').setAxis a { s.axis a with jogNext := if left' = 0 then none else some (x.jogNext.getD 0 + per) }
  else s

/-- JOG_STEP (R114): the jog interval elapses. DEDUCED: log entry 194. -/
def execJogStep (a : Nat) (s : State) : Host.Outcome State Fault Refusal := done s (s.jogCoarse a)

/-- COARSE_STEP (R111, R112, R114): a STEP edge of pair `n`, or with `jog` the jog step of axis `n`. DEDUCED: log entry 194. -/
def execCoarseStep (jog : Bool) (n : Nat) (s : State) : Host.Outcome State Fault Refusal :=
  done s (if jog then s.jogCoarse n else s.stepEdge n)

/-- The greatest speed in this tick from which an axis comes to rest exactly `ad` nm further on, this tick's travel counted, with
`down` nm/s less in every tick: `v + (v - down) + …` is at most `ad` in ticks. -/
def landingSpeed (down ad : Rat) : Rat :=
  if down ≤ 0 then 10000 * ad else
  let q := 10000 * ad / down
  let k : Nat := (isqrt (1 + 8 * q).floor.toNat - 1) / 2
  10000 * ad / (k + 1) + k * down / 2

/-- The interpolator's speed towards its demand in one motion tick (R112): `along` now, within MAX_SPEED, ACCEL and DECEL, and so that
it can stop at the demand `ad` nm away. -/
def nextSpeed (s : State) (a : Nat) (along ad : Rat) : Rat :=
  let up : Rat := 100 * s.pn (Ax.ACCEL a)
  let down : Rat := 100 * s.pn (Ax.DECEL a)
  let top := min ((1000000 : Rat) * s.pn (Ax.MAX_SPEED a)) (landingSpeed down ad)
  if along < 0 then min 0 (along + down)
  else if along ≤ top then min top (along + up) else max top (along - down)

/-- The interpolator in one motion tick (R112, R113): the demand takes its part, and the set-point moves towards it; it does not
pass the demand. DESIGN CHOICE: log entry 207. -/
def State.interpolate (s : State) (a : Nat) : State :=
  let x := s.axis a
  let absR := if x.remaining < 0 then -x.remaining else x.remaining
  let part := min absR x.rate
  let sg : Rat := if x.remaining < 0 then -part else part
  let dem := x.demandNm + sg
  let dist := dem - (x.setNm : Rat)
  let dir : Rat := if dist < 0 then -1 else 1
  let ad := if dist < 0 then -dist else dist
  let v := nextSpeed s a (x.manVel * dir) ad
  let land := decide (v / 10000 ≥ ad)
  let v := dir * (if land then 10000 * ad else v)
  (s.setAxis a { x with demandNm := dem, remaining := x.remaining - sg, setNm := if land then ratRound dem else x.setNm + ratRound (v / 10000),
                        manVel := v, setVel := ratRound v, setAcc := ratRound (10000 * (v - x.manVel)) }).checkBacklog a

/-- One motion tick of a stop ramp in a manual mode: the demand goes with the set-point. -/
def State.rampTick (s : State) (a : Nat) (dec : Rat) : State :=
  let x := s.axis a
  let v := if x.manVel > 0 then max 0 (x.manVel - dec * 100) else min 0 (x.manVel + dec * 100)
  let p := x.setNm + ratRound (v / 10000)
  s.setAxis a { x with setNm := p, setVel := ratRound v, manVel := v, setAcc := ratRound (10000 * (v - x.manVel)), demandNm := p,
                       manStop := if v = 0 then none else some dec }

/-- The limit switch seen at the last boundary stops the axis at this one (R99, R100): the demand is where it stops. -/
def State.manualLimit (s : State) (a : Nat) : State :=
  let x := s.axis a
  let s := s.setAxis a { x with remaining := 0, rate := 0, manSeen := false }
  if s.pn (Ax.LIMIT_STOP_MODE a) = 0 then
    s.setAxis a { s.axis a with setNm := x.posNm, setVel := 0, setAcc := 0, demandNm := x.posNm, manVel := 0, manStop := none }
  else match x.manStop with
  | some dec => s.rampTick a dec
  | none => (s.interpolate a).manualRamp a

/-- A limit switch into which a manual axis has moved from `old` (R99): LIMIT_STOP once, and the stop at the next boundary. -/
def State.watchManual (s : State) (a : Nat) (old : Int) : State :=
  let x := s.axis a
  if x.setNm = old then s
  else if intoSwitch s a (decide (x.setNm > old)) then
    (if x.manHit then s else (s.limitStop a).setAxis a { (s.limitStop a).axis a with manSeen := true, manHit := true })
  else s.setAxis a { x with manHit := false }

/-- The set-point of a manual axis in one motion tick (R99, R100, R112). -/
def State.manualTick (s : State) (a : Nat) : State :=
  let x := s.axis a
  if axisSto s a then
    s.setAxis a { x with demandNm := x.posNm, remaining := 0, rate := 0, manVel := 0, setAcc := 0, discarding := false, manStop := none,
                         manSeen := false }
  else if x.manSeen then s.manualLimit a
  else match x.manStop with
  | some dec => (s.rampTick a dec).watchManual a x.setNm
  | none => (s.interpolate a).watchManual a x.setNm

/-- Whether AXIS_MODE may change (R109). -/
def modeChangeOk (s : State) (a : Nat) : Bool :=
  let d := doorOf a
  let x := s.door d
  let st := doorState s d
  (axesOf s d).contains a && atStandstill s a && (st == 4 || st == 2 || st == 1)
    && x.startWait.isNone && x.granted.isNone && x.learn.isNone

end Sys2Proof.Machine
end

