-- ==== Sys2Proof/Machine/Mantis.lean ====
section
/-!
DEFINITION. Mantis (chapter 6): the force estimate, the learned envelopes, the criteria, the depth sensors and their
backgrounds. The reaction on a doorway is in Doors.
-/
namespace Sys2Proof.Machine

def State.leaf (s : State) (a : Nat) : Leaf := getD {} s.leaves a
def State.setLeaf (s : State) (a : Nat) (x : Leaf) : State := { s with leaves := putD {} s.leaves a x }
def State.sensor (s : State) (n : Nat) : Sensor := getD {} s.sensors n
def State.setSensor (s : State) (n : Nat) (x : Sensor) : State := { s with sensors := putD {} s.sensors n x }

/-- TRUE for a leaf, FALSE for a step or bridge plate (R229). -/
def isLeaf (s : State) (a : Nat) : Bool := decide (roleOf a < 2) && (axesOf s (doorOf a)).contains a

/-! ### The force estimate (R194) -/

/-- A closing move of an axis: of its doorway's move, or of its manual mode. -/
def closingNow (s : State) (a : Nat) : Bool :=
  match (s.door (doorOf a)).move with
  | some m => match m.seeks.find? (fun k => k.a == a) with
    | some k => !k.opening
    | none => m.closing
  | none => manual s a && decide ((s.axis a).setVel < 0)

/-- q-current force in mN, positive in the opening direction, with the current latched at the boundary (R23). -/
def motorForce (s : State) (a : Nat) : Int := forceConstant s a * (s.axis a).latQ / 1000000

/-- MOVING_MASS · accel_setpoint in mN: g times nm/s² is 10^−9 mN. -/
def massForce (s : State) (a : Nat) : Int := (s.pn (Ax.MOVING_MASS a) : Int) * (s.axis a).setAcc / 1000000000

/-- Friction terms in mN. -/
def frictionForce (s : State) (a : Nat) : Int :=
  (100 * s.pn (Ax.FRICTION_STATIC a) : Nat) + (s.pn (Ax.FRICTION_VISCOUS a) : Int) * Int.natAbs (s.axis a).speed / 1000000

/-- F in mN; outside a move dir is +1. -/
def leafForce (s : State) (a : Nat) : Int :=
  let m := motorForce s a - massForce s a
  (if closingNow s a then -m else m) - frictionForce s a

/-- ½ · MOVING_MASS · speed² in mJ: g · (nm/s)² is 10^−18 mJ. -/
def leafEnergy (s : State) (a : Nat) : Nat :=
  s.pn (Ax.MOVING_MASS a) * (Int.natAbs (s.axis a).speed) ^ 2 / (2 * 10 ^ 18)

/-! ### Envelopes (R195 to R209) -/

/-- The stroke, in µm, against which a leaf's envelopes are held (R202, R203). -/
def envStroke (s : State) (a : Nat) : Nat := if s.pn (Ax.STROKE a) ≠ 0 then s.pn (Ax.STROKE a) else (s.leaf a).held.toNat

/-- Bin of the leaf's measured position: one bin width of STROKE / 256 µm is STROKE units of 1/256 µm. -/
def leafBin (s : State) (a : Nat) (posNm : Int) : Nat :=
  let st := max (envStroke s a) 1
  (max 0 (min 255 ((posNm * 256 / 1000 + (s.leaf a).offset) / (st : Nat)))).toNat

/-- Envelope of a direction. -/
def envOf (x : Leaf) (closing : Bool) : Envelope := if closing then x.close else x.opn

def envState (s : State) (a : Nat) (closing : Bool) : Nat := s.rdn (if closing then Ax.ENV_STATE_CLOSE a else Ax.ENV_STATE_OPEN a)

/-- Threshold of R208 in mN at a bin. -/
def envThreshold (s : State) (a : Nat) (closing : Bool) (bin : Nat) : Int :=
  let (mean, spread) := (envOf (s.leaf a) closing).getD bin (0, 0)
  let k := s.pn (if closing then Ax.ENV_K_CLOSE a else Ax.ENV_K_OPEN a)
  let margin := s.pn (if closing then Ax.ENV_MARGIN_CLOSE a else Ax.ENV_MARGIN_OPEN a)
  25 * mean + k * max (25 * spread) (100 * (s.pn (Ax.SPREAD_MIN a) : Int)) / 10 + 100 * margin

/-- Moves in which the envelope criterion acts (R209, R226, R565). -/
def envMove : MoveKind → Bool
  | .openLeaves | .openGroup | .closeLeaves | .closeGroup | .reclose | .reverse | .relief => true
  | _ => false

/-- A move of a doorway has to do with the envelopes: not on the way into the lock (R565). -/
def envMoves (s : State) (d : Nat) (m : Move) : Bool := envMove m.kind && !(m.closing && doorState s d == 2)

/-- Whether the envelope criterion acts for a leaf now. -/
def envActs (s : State) (a : Nat) (m : Move) : Bool :=
  let st := envState s a m.closing
  (st == 3 || st == 4) && s.pb (Ax.ENV_ENABLE a) && decide (((s.axis a).posNm.natAbs : Int) > 1000 * s.p (Ax.CLOSED_WINDOW a))
    -- a reduced-force close runs without it (R223)
    && envMoves s (doorOf a) m && !((s.door (doorOf a)).reduced && m.closing)

/-- State of an envelope after `c` cycles (R201). -/
def envStateAt (s : State) (c : Nat) : Nat :=
  if c = 0 then 0 else if c < 8 then 1 else if c < s.pn Gl.ENV_MIN_CYCLES then 2 else if s.pb Gl.LEARN_FREEZE then 4 else 3

/-- MANTIS_STATUS (R228). -/
def State.mantisMask (s : State) : State :=
  s.wrn Gl.MANTIS_STATUS ((List.range s.doorways).foldl (fun m d =>
    if configured s d ∧ (leavesOf s d).any (fun a => envState s a true < 3 || envState s a false < 3) then m + 2 ^ d else m) 0)

/-- Mark a leaf's envelopes for a commit within 100 ms (R206). -/
def State.envDirty (s : State) (a : Nat) : State :=
  let x := s.leaf a
  s.setLeaf a { x with commitBy := match x.commitBy with | some t => some t | none => s.after 100 }

/-- Reset the envelopes of a leaf (R204): where both are EMPTY then, ENV_OFFSET is 0 as well (R202); raises 0x3350. -/
def State.resetEnvelopes (s : State) (a trigger : Nat) (close opn : Bool) : State :=
  let x := s.leaf a
  let both := (close || x.close == []) && (opn || x.opn == [])
  let s := s.setLeaf a { x with close := if close then [] else x.close, opn := if opn then [] else x.opn,
                                offset := if both then 0 else x.offset }
  let s := if close then (s.wr (Ax.ENV_STATE_CLOSE a) 0).wr (Ax.ENV_CYCLES_CLOSE a) 0 else s
  let s := if opn then (s.wr (Ax.ENV_STATE_OPEN a) 0).wr (Ax.ENV_CYCLES_OPEN a) 0 else s
  let s := if both then s.wr (Ax.ENV_OFFSET a) 0 else s
  (s.raise 0x3350 a (trigger + (if close then 256 else 0) + (if opn then 512 else 0) : Nat)).envDirty a

/-- Bins at fractional old indices (R203, R205): linear between neighbours, nearest beyond the ends. -/
def resample (e : Envelope) (index : Nat → Rat) : Envelope :=
  if e = [] then [] else
  (List.range 256).map (fun j =>
    let x := index j
    let at_ := fun (i : Int) => e.getD (max 0 (min 255 i)).toNat (0, 0)
    if x < 0 then at_ 0 else if x > 255 then at_ 255 else
      let i := x.floor
      let f := x - i
      let (m0, s0) := at_ i
      let (m1, s1) := at_ (i + 1)
      (ratRound (m0 + f * (m1 - m0 : Int)), ratRound (s0 + f * (s1 - s0 : Int))))

/-- A new stroke in force remaps the envelopes (R203). -/
def State.remapEnvelopes (s : State) (a : Nat) : State :=
  let x := s.leaf a
  let new := s.p (Ax.STROKE a)
  if new = 0 ∨ new = x.held then s
  else if x.held = 0 then s.setLeaf a { x with held := new }
  else
    let idx := fun (j : Nat) => ((j : Rat) + 1 / 2) * new / x.held - 1 / 2
    (s.setLeaf a { x with held := new, close := resample x.close idx, opn := resample x.opn idx }).envDirty a

/-- A reference shift in µm (R202): added to ENV_OFFSET; whole bins are moved; an overflow resets both envelopes. -/
def State.shiftEnvelopes (s : State) (a : Nat) (shift : Int) : State :=
  let x := s.leaf a
  if x.close = [] ∧ x.opn = [] then s else
  let off := x.offset + 256 * shift
  if Int.natAbs off > 20000 * 256 then s.resetEnvelopes a 4 true true
  else
    let w : Int := max (envStroke s a) 1
    let k := off.tdiv w
    let mv := fun (e : Envelope) => if e = [] then [] else
      (List.range 256).map (fun (i : Nat) => e.getD (max 0 (min 255 ((i : Int) + k))).toNat (0, 0))
    let off := off - k * w
    ((s.setLeaf a { x with offset := off, close := mv x.close, opn := mv x.opn }).wr (Ax.ENV_OFFSET a) (divRound off 256)).envDirty a

/-- One envelope's update at the end of a learning cycle (R199, R200): the bins and how many were rejected. -/
def updateBins (s : State) (a c : Nat) (old : Envelope) (acc : Store (Int × Nat)) : Envelope × Nat :=
  let floor : Rat := 4 * s.pn Gl.LEARN_FLOOR
  let smin : Int := 4 * s.pn (Ax.SPREAD_MIN a)
  let g : Rat := if c < 8 then 1 / 4 else 1 / 64
  let abs := fun (r : Rat) => if r < 0 then -r else r
  (List.range 256).foldl (fun (r : Envelope × Nat) i =>
    let (mean, spread) := old.getD i (0, 0)
    match lookup i acc with
    | none => (r.1 ++ [(mean, spread)], r.2)
    | some (sum, n) =>
      let x : Rat := mkRat sum (25 * max n 1)
      if c = 0 then (r.1 ++ [(max (-32768) (min 32767 (ratRound x)), smin)], r.2)
      else
        let nm := max (-32768) (min 32767 (ratRound (mean + g * (x - mean))))
        let ns := min 65535 (max smin (ratRound (spread + g * (abs (x - mean) - spread))))
        let bad := c ≥ 8 && (decide (abs (nm - mean : Int) * 20 > max (abs mean) floor) || decide (abs (ns - spread : Int) * 20 > max (spread : Rat) floor))
        if bad then (r.1 ++ [(mean, spread)], r.2 + 1) else (r.1 ++ [(nm, ns)], r.2)) ([], 0)

/-- The end of a cycle of one leaf and direction that would be a learning cycle (R197 to R201). -/
def State.learnLeaf (s : State) (a : Nat) (closing : Bool) : State :=
  let left := if closing then Ax.LEARN_HOLDOFF_LEFT_CLOSE a else Ax.LEARN_HOLDOFF_LEFT_OPEN a
  if s.rdn left > 0 then s.wrn left (s.rdn left - 1)
  else if envState s a closing = 4 then s
  else
    let cyc := if closing then Ax.ENV_CYCLES_CLOSE a else Ax.ENV_CYCLES_OPEN a
    let c := s.rdn cyc
    let x := s.leaf a
    let (e, bad) := updateBins s a c (envOf x closing) x.acc
    if bad > s.pn Gl.BIN_REJECT_LIMIT then
      let s := s.addSat (Ax.BINS_REJECTED a) bad max32
      (s.count (Ax.CYCLES_REJECTED a)).raise 0x3342 a ((if closing then 0 else 65536) + bad : Nat)
    else
      let s := s.addSat (Ax.BINS_REJECTED a) bad max32
      let s := s.setLeaf a (if closing then { x with close := e } else { x with opn := e })
      let c' := min (c + 1) max16
      let s := s.wrn cyc c'
      (s.wrn (if closing then Ax.ENV_STATE_CLOSE a else Ax.ENV_STATE_OPEN a) (envStateAt s c')).envDirty a

/-- Only the unit that holds the drive token learns (R207). -/
def State.learnCycle (s : State) (d : Nat) (closing : Bool) : State :=
  let x := s.door d
  if s.rdb Gl.HOLDER ∧ x.fullStroke ∧ x.spoiled = false ∧ x.reduced = false ∧ x.learn.isNone then
    (leavesOf s d).foldl (fun s a => s.learnLeaf a closing) s
  else s

/-- A disturbance (R198): both hold-off counts of every leaf start again. -/
def State.disturb (s : State) (d : Nat) : State :=
  let n := s.pn Gl.LEARN_HOLDOFF
  let s := s.setDoor d { s.door d with spoiled := true }
  (leavesOf s d).foldl (fun s a => (s.wrn (Ax.LEARN_HOLDOFF_LEFT_CLOSE a) n).wrn (Ax.LEARN_HOLDOFF_LEFT_OPEN a) n) s

/-- LEARN_FREEZE in force (R201): ACTIVE becomes FROZEN, or FROZEN returns to ACTIVE. -/
def State.applyFreeze (s : State) : State :=
  let newState := if s.pb Gl.LEARN_FREEZE then 4 else 3
  let from_ := if s.pb Gl.LEARN_FREEZE then 3 else 4
  (allAxes s).foldl (fun s a => [true, false].foldl (fun s c =>
    if isLeaf s a ∧ envState s a c = from_ then s.wrn (if c then Ax.ENV_STATE_CLOSE a else Ax.ENV_STATE_OPEN a) newState else s) s) s

/-! ### The envelope window (R205) -/

/-- The selected leaf and direction. -/
def envSelected (s : State) : Nat × Bool := (s.rdn Gl.ENV_SELECT / 256, s.rdn Gl.ENV_SELECT % 2 == 0)

/-- A write of ENV_SELECT. -/
def envSelectEffect : Effect := fun n s =>
  if n.toNat % 256 / 2 ≠ 0 ∨ isLeaf s (n.toNat / 256) = false then .error abValue else .ok (s.wr Gl.ENV_SELECT n)

/-- Doorway states in which the window may write. -/
def windowOpen (s : State) (d : Nat) : Bool := [1, 4, 9, 8, 10].contains (doorState s d)

/-- The bins of 1024 bytes: mean, then spread, each least significant byte first. -/
def envOfBytes : Nat → List ByteN → Envelope
  | 0, _ => []
  | n + 1, bs => (signed 16 (leVal (bs.take 2)), (leVal ((bs.drop 2).take 2) : Int)) :: envOfBytes n (bs.drop 4)

/-- An accepted write of the window waits for the next door tick, behind those before it (R205). -/
def State.leafAct (s : State) (a : Nat) (w : LeafAct) : State := s.setLeaf a { s.leaf a with acts := (s.leaf a).acts ++ [w] }

/-- ENV_DATA_WRITE (R205). -/
def envDataEffect (bs : List ByteN) (s : State) : Except Nat State :=
  let (a, closing) := envSelected s
  if bs.length ≠ 1024 then .error abLength
  else if isLeaf s a = false ∨ windowOpen s (doorOf a) = false then .error abState
  else .ok (s.leafAct a (.write (!closing) (envOfBytes 256 bs)))

def execEnvDataWrite (via : Via) (bs : List ByteN) (s : State) : Host.Outcome State Fault Refusal :=
  done s (writeBytes via 0x3900 2 (.bytes bs) none none envDataEffect s)

/-- ENV_COMMAND. -/
def envCommandEffect : Effect := fun n s =>
  let (a, closing) := envSelected s
  if n = 0 then .ok s
  else if isLeaf s a = false ∨ windowOpen s (doorOf a) = false then .error abState
  else .ok (s.leafAct a (if n = 2 then .reset true true else .reset closing (!closing)))

def execEnvResetOne (via : Via) (s : State) : Host.Outcome State Fault Refusal :=
  done s (writeNum via 0x3900 3 (.num 1) none id envCommandEffect s)

def execEnvResetBoth (via : Via) (s : State) : Host.Outcome State Fault Refusal :=
  done s (writeNum via 0x3900 3 (.num 2) none id envCommandEffect s)

/-- A window write in effect: the envelope is ACTIVE, or FROZEN; the other direction keeps its points of the rail. -/
def State.installEnvelope (s : State) (a : Nat) (closing : Bool) (e : Envelope) : State :=
  let x := s.leaf a
  let idx := fun (i : Nat) => (i : Rat) + mkRat x.offset (max (envStroke s a) 1)
  let other := resample (envOf x (!closing)) idx
  let s := s.setLeaf a (if closing then { x with close := e, opn := other, offset := 0 } else { x with opn := e, close := other, offset := 0 })
  let c := s.pn Gl.ENV_MIN_CYCLES
  let s := (s.wrn (if closing then Ax.ENV_CYCLES_CLOSE a else Ax.ENV_CYCLES_OPEN a) c).wr (Ax.ENV_OFFSET a) 0
  (s.wrn (if closing then Ax.ENV_STATE_CLOSE a else Ax.ENV_STATE_OPEN a) (if s.pb Gl.LEARN_FREEZE then 4 else 3)).envDirty a

/-- What a door tick brings for a leaf: the window's writes and commands in their order, a new stroke. -/
def State.leafTick (s : State) (a : Nat) : State :=
  let acts := (s.leaf a).acts
  let s := s.setLeaf a { s.leaf a with acts := [] }
  (acts.foldl (fun (s : State) w => match w with
    | .write o e => s.installEnvelope a (!o) e
    | .reset c o => s.resetEnvelopes a 3 c o) s).remapEnvelopes a

/-- The motor and encoder data that a leaf's envelopes hold for (R204). -/
def motorData (s : State) (a : Nat) : List Int :=
  [Ax.MOTOR_TYPE a, Ax.POLE_PAIRS a, Ax.TRAVEL_PER_REV a, Ax.MOTOR_KT a, Ax.MOVING_MASS a, Ax.ENCODER_TYPE a, Ax.ENCODER_CPR a,
   Ax.ENCODER_INVERT a].map s.rd

/-- The commit of a leaf's envelopes: the shadow record becomes current (R206). -/
def State.commitLeaf (s : State) (a : Nat) : State :=
  let x := { s.leaf a with commitBy := none, acc := [], acts := [] }
  let c : LeafCommit := { leaf := x, motor := motorData s a, stateClose := s.rd (Ax.ENV_STATE_CLOSE a), stateOpen := s.rd (Ax.ENV_STATE_OPEN a),
                          cyclesClose := s.rd (Ax.ENV_CYCLES_CLOSE a), cyclesOpen := s.rd (Ax.ENV_CYCLES_OPEN a) }
  { s with leafCommits := putD {} s.leafCommits a c }.setLeaf a { s.leaf a with commitBy := none }

/-! ### Depth sensors (R213 to R218) -/

def sensorDoor (n : Nat) : Nat := n / 2

/-- Columns and rows of a pixel index: 64 columns by 48 rows, row-major (R170). -/
def inBox (s : State) (n i : Nat) : Bool :=
  let c := i % 64
  let r := i / 64
  decide (s.pn (Sn.BOX_COL_LO n) ≤ c) && decide (c ≤ s.pn (Sn.BOX_COL_HI n))
    && decide (s.pn (Sn.BOX_ROW_LO n) ≤ r) && decide (r ≤ s.pn (Sn.BOX_ROW_HI n))

/-- Confidence and distance of a pixel word. -/
def pxConf (w : Nat) : Nat := w / 4096 % 16
def pxDist (w : Nat) : Nat := w % 4096

/-- A pixel shorter than its background by more than DEPTH_DELTA (R213), the background in 1/256 mm. -/
def pxOccupied (s : State) (n w : Nat) (bg : Option Nat) : Bool := match bg with
  | none => false
  | some b => decide (s.pn (Sn.MIN_CONFIDENCE n) ≤ pxConf w) && decide (256 * (pxDist w + s.pn (Sn.DEPTH_DELTA n)) < b)

/-- Occupied and invalid box pixels of a frame, and the box's size. -/
def boxCounts (s : State) (n : Nat) : Nat → List Nat → List (Option Nat) → Nat × Nat × Nat
  | _, [], _ => (0, 0, 0)
  | i, w :: ws, bg =>
    let (o, v, t) := boxCounts s n (i + 1) ws bg.tail
    if inBox s n i then
      (o + (if pxOccupied s n w (bg.headD none) then 1 else 0), v + (if pxConf w < s.pn (Sn.MIN_CONFIDENCE n) then 1 else 0), t + 1)
    else (o, v, t)

/-- Tracking of the background (R217): 1/256 of the difference of a pixel within DEPTH_DELTA / 2. -/
def trackPixels (s : State) (n : Nat) : List Nat → List (Option Nat) → List (Option Nat)
  | w :: ws, some b :: bs =>
    let diff : Int := 256 * (pxDist w : Int) - b
    (if s.pn (Sn.MIN_CONFIDENCE n) ≤ pxConf w ∧ 2 * Int.natAbs diff ≤ 256 * s.pn (Sn.DEPTH_DELTA n) then some ((b : Int) + diff / 256).toNat
     else some b) :: trackPixels s n ws bs
  | _ :: ws, none :: bs => none :: trackPixels s n ws bs
  | [], bs => bs
  | _, [] => []

/-- The box of an enabled sensor that has not failed is occupied (R213). -/
def zoneSeen (s : State) (d : Nat) : Bool :=
  (sensorsOf d).any (fun n => sensorEnabled s n && !sensorFailed s n && s.bit (Sn.SENSOR_STATUS n) 0)

/-- A failed sensor under DEPTH_FAIL_ACTION HOLD, which counts as occupied (R218). -/
def depthFailedHold (s : State) (d : Nat) : Bool :=
  s.pn (Gl.DEPTH_FAIL_ACTION d) == 0 && (sensorsOf d).any (fun n => sensorEnabled s n && sensorFailed s n)

/-- The closing zone is occupied (R213, R218). -/
def zoneOccupied (s : State) (d : Nat) : Bool := zoneSeen s d || depthFailedHold s d

/-- The leaf gap in nm, and the mute of R214. -/
def leafGap (s : State) (d : Nat) : Int := (leavesOf s d).foldl (fun g a => g + (s.axis a).posNm) 0
def depthMuted (s : State) (d : Nat) : Bool := decide (leafGap s d < 1000 * s.p (Dr.DEPTH_MUTE_GAP d))

/-- What holds a close start (R215). -/
def closeHeld (s : State) (d : Nat) : Bool :=
  doorEdge s d || (zoneOccupied s d && !depthMuted s d)

/-- A doorway of R32's first group. -/
def depthFirst (s : State) (d : Nat) : Bool :=
  let x := s.door d
  let st := doorState s d
  st == 5 || st == 6 || (st == 4 && (x.warnUntil.isSome || x.holdSince.isSome || (match x.startWait with
    | some w => w.kind == .close || w.kind == .retry || w.kind == .reduced
    | none => false)))

/-- The frame that Mantis takes next (R32). -/
def nextFrame (s : State) : Option DepthFrame :=
  let better := fun (f g : DepthFrame) => decide (f.arrived < g.arrived) || (f.arrived == g.arrived && decide (f.n < g.n))
  let pick := fun (l : List DepthFrame) => l.foldl (fun (b : Option DepthFrame) f => match b with
    | none => some f
    | some g => if better f g then some f else some g) none
  match pick (s.depthQueue.filter (fun f => depthFirst s (sensorDoor f.n))) with
  | some f => some f
  | none => pick s.depthQueue

/-- Too many box pixels of a frame are invalid (R218). -/
def tooInvalid (s : State) (n inv tot : Nat) : Bool := decide (inv * 100 > s.pn (Sn.INVALID_LIMIT n) * tot)

/-- A reassembled frame handed to channel A with the CRC of its chunks (R276): channel A counts it where that CRC matches. DEDUCED: log
entry 71. -/
def State.handFrame (s : State) (f : DepthFrame) : State :=
  let x := s.sensor f.n
  if sensorEnabled s f.n = false ∨ s.safety.stalls.handed.testBit f.n then s else
  let (occ, inv, tot) := boxCounts s f.n 0 f.pixels x.bg
  s.setSensor f.n { x with ownNext := x.ownNext ++ [(f.arrived + 575, decide (s.pn (Sn.MIN_PIXELS f.n) ≤ occ), tooInvalid s f.n inv tot)] }

/-- A frame queued to Mantis when its last chunk arrives; an older unprocessed frame of the sensor is dropped (R32). -/
def State.queueFrame (s : State) (f : DepthFrame) : State :=
  let s := s.handFrame f
  let s := if s.depthQueue.any (fun g => g.n == f.n) then s.count Gl.DEPTH_FRAMES_DROPPED else s
  { s with depthQueue := s.depthQueue.filter (fun g => g.n != f.n) ++ [f] }

/-- DEPTH_FRAME_PROCESSED (R213, R217, R218). -/
def execDepthFrameProcessed (s : State) : Host.Outcome State Fault Refusal := done s (
  match nextFrame s with
  | none => s
  | some f =>
    let n := f.n
    let d := sensorDoor n
    let s := { s with depthQueue := s.depthQueue.filter (fun g => g.n != n) }
    let s := s.raiseMax Gl.DEPTH_WAIT_MAX (min 65535 (20 * (s.now - f.arrived)) : Nat)
    let x := s.sensor n
    let (occ, inv, tot) := boxCounts s n 0 f.pixels x.bg
    let s := (s.wrn (Sn.OCCUPIED_PIXELS n) occ).wrn (Sn.INVALID_PIXELS n) inv
    let s := (s.count (Sn.FRAMES_PROCESSED n)).setB (Sn.SENSOR_STATUS n) 0 (decide (s.pn (Sn.MIN_PIXELS n) ≤ occ))
    let bad := tooInvalid s n inv tot
    let track := doorState s d == 1 && s.rdn (Sn.BG_STATE n) == 2
    let bg := if track then trackPixels s n f.pixels x.bg else x.bg
    let hourly := track && match x.tracked with | some t => decide (t + 180000000 ≤ s.now) | none => false
    let good := if bad then 0 else x.goodRun + 1
    let x := { x with
      bg, badRun := if bad then x.badRun + 1 else 0, goodRun := good, lastFrame := some s.now,
      learning := match x.learning with
        | some fs => if fs.length < 64 then some (f.pixels :: fs) else some fs
        | none => none
      tracked := if hourly then some s.now else if track then (match x.tracked with | some t => some t | none => some s.now) else x.tracked
      commitBy := if hourly then s.after 100 else x.commitBy }
    let s := s.setSensor n x
    (if sensorFailed s n ∧ 3 ≤ good ∧ s.rdn (Sn.BG_STATE n) = 2 then s.setB (Sn.SENSOR_STATUS n) 1 false else s))

/-- Whether a condition of R218 holds. -/
def depthCondition (s : State) (n cond : Nat) : Bool :=
  let x := s.sensor n
  match cond with
  | 1 => match x.lastFrame with | some t => decide (t + 5000 ≤ s.now) | none => decide (5000 ≤ s.now)
  | 2 => decide (3 ≤ x.badRun)
  | 3 => s.rdn (Sn.BG_STATE n) != 2
  | 4 => x.nodeFault
  | _ => false

/-- A close limited to CREEP_SPEED for a failed depth sensor raises its event (R218). -/
def State.creepEvent (s : State) (d : Nat) : State := if depthDegraded s d then s.raise 0x0383 d 0 else s

/-- A closing move of a doorway runs. -/
def closingRuns (s : State) (d : Nat) : Bool := match (s.door d).move with
  | some m => m.closing && !m.ended
  | none => false

/-- DEPTH_SENSOR_FAILED (R218): a close that runs is limited from now on. -/
def execDepthSensorFailed (n cond : Nat) (s : State) : Host.Outcome State Fault Refusal :=
  done s (if n < 32 ∧ sensorEnabled s n ∧ sensorFailed s n = false ∧ depthCondition s n cond then
      let t := ((s.setB (Sn.SENSOR_STATUS n) 1 true).setSensor n { s.sensor n with goodRun := 0 }).raise 0x1381 n cond
      if closingRuns s (sensorDoor n) ∧ depthDegraded s (sensorDoor n) = false then t.creepEvent (sensorDoor n) else t
    else s)

/-- The commit of a sensor's background, with a BG_STATE of FAILED (R206, R232). -/
def State.commitSensor (s : State) (n : Nat) : State :=
  let x := s.sensor n
  s.setSensor n { x with commitBy := none, committed := x.bg, failedNv := x.failed }

/-- BG_COMMAND (R216). -/
def bgEffect (n : Nat) : Effect := fun v s =>
  if v = 0 then .ok s
  else if [1, 4, 9, 10].contains (doorState s (sensorDoor n)) = false then .error abState
  else .ok ((s.wr (Sn.BG_STATE n) 1).setSensor n { s.sensor n with learning := some [] })

def execBgLearnStart (via : Via) (n : Nat) (s : State) : Host.Outcome State Fault Refusal :=
  done s (if n < 32 then writeNum via (0x3820 + n) 1 (.num 1) none id (bgEffect n) s else s)

/-- Insert into a rising list. -/
def insertNat (v : Nat) : List Nat → List Nat
  | [] => [v]
  | x :: r => if v ≤ x then v :: x :: r else x :: insertNat v r

/-- Median in 1/256 mm, the mean of the two middle readings for an even number (assumption 14); none below 48 readings. DESIGN CHOICE: log entry 14. -/
def medianOf (vals : List Nat) : Option Nat :=
  let l := vals.foldl (fun l v => insertNat v l) []
  let n := l.length
  if n < 48 then none
  else if n % 2 = 1 then some (256 * l.getD (n / 2) 0)
  else some (128 * (l.getD (n / 2 - 1) 0 + l.getD (n / 2) 0))

/-- Pixels of the whole frame, and of the box, without a valid background. -/
def missingBg (s : State) (n : Nat) (bg : List (Option Nat)) : Nat × Nat × Nat :=
  (List.range 3072).foldl (fun (r : Nat × Nat × Nat) i =>
    let none_ := (bg.getD i none).isNone
    (r.1 + (if none_ then 0 else 1), r.2.1 + (if inBox s n i && none_ then 1 else 0), r.2.2 + (if inBox s n i then 1 else 0))) (0, 0, 0)

/-- The background of the frames of a learning: per pixel the median of its readings of at least MIN_CONFIDENCE. -/
def learntBg (conf : Nat) (fs : List (List Nat)) : List (Option Nat) :=
  (List.range 3072).map (fun i => medianOf (fs.filterMap (fun f =>
    if conf ≤ pxConf (f.getD i 0) ∧ i < f.length then some (pxDist (f.getD i 0)) else none)))

/-- BG_LEARN_END (R216): after 64 processed frames. -/
def execBgLearnEnd (n : Nat) (s : State) : Host.Outcome State Fault Refusal := done s (
  let x := s.sensor n
  match x.learning with
  | some fs =>
    if fs.length < 64 then s else
    let bg := learntBg (s.pn (Sn.MIN_CONFIDENCE n)) fs
    let (valid, lost, tot) := missingBg s n bg
    (if lost * 10 > tot then (s.wr (Sn.BG_STATE n) 3).setSensor n { x with learning := none, failed := true, commitBy := s.after 100 }
      else ((s.wr (Sn.BG_STATE n) 2).wrn (Sn.BG_VALID_PIXELS n) valid).setSensor n
        { x with learning := none, bg, failed := false, commitBy := s.after 100, tracked := some s.now })
  | none => s)

/-! ### Criteria of a motion tick (R208 to R212) -/

/-- The force estimate of a motion tick: LEAF_FORCE, LEAF_ENERGY, the bin's sample, the peak. -/
def State.forceTick (s : State) (a : Nat) : State :=
  let f := leafForce s a
  let x := s.axis a
  let mv := (s.door (doorOf a)).move
  let inMove := match mv with | some m => !m.ended | none => manual s a && axisMoving s a
  let s := s.wr (Ax.LEAF_FORCE a) (max (-100000) (min 100000 (divRound f 100)))
  let s := s.wrn (Ax.LEAF_ENERGY a) (min 1000000 (leafEnergy s a))
  let s := s.setAxis a { x with forces := (f :: x.forces).take 3, forcePeak := if inMove then max x.forcePeak f else x.forcePeak }
  match mv with
  | some m =>
    if isLeaf s a ∧ m.ended = false ∧ envMoves s (doorOf a) m then
      let b := leafBin s a x.posNm
      let l := s.leaf a
      let (sum, n) := getD (0, 0) l.acc b
      (s.setLeaf a { l with acc := putD (0, 0) l.acc b (sum + f, n + 1) }).wr (Ax.ENV_THRESHOLD a)
        (max (-100000) (min 100000 (divRound (envThreshold s a m.closing b) 100)))
    else s
  | none => s

/-- Counts of consecutive samples of the force and energy criteria (R208). -/
def State.criteriaTick (s : State) (a : Nat) : State :=
  let x := s.axis a
  let f := x.forces.headD 0
  let env := match (s.door (doorOf a)).move with
    | some m => isLeaf s a && !m.ended && envActs s a m && decide (f > envThreshold s a m.closing (leafBin s a x.posNm))
    | none => false
  -- F has a criterion in moves, manual demands and alignment runs only (R208, R226)
  let acts := axisMoving s a || x.align.isSome
  let ab := acts && decide (f > 100 * (s.pn (Gl.FORCE_LIMIT a) : Int))
  let lim := s.pn (Gl.ENERGY_LIMIT a)
  let en := acts && lim != 0 && decide (s.pn (Ax.MOVING_MASS a) * Int.natAbs x.speed ^ 2 > lim * (2 * 10 ^ 18))
  s.setAxis a { x with envCount := if env then min 3 (x.envCount + 1) else 0,
                       absCount := if ab then min 3 (x.absCount + 1) else 0,
                       energyCount := if en then min 3 (x.energyCount + 1) else 0 }

/-- Cause bits of R208 that are true for an axis at this boundary, in a move of the given direction. -/
def causesOf (s : State) (a : Nat) (closing depthActs : Bool) : Nat :=
  let x := s.axis a
  let d := doorOf a
  let leaf := isLeaf s a
  let env := leaf && x.envCount == 3
  let edge := leaf && closing && edgeOperated s a
  let dep := leaf && closing && depthActs && !depthMuted s d
  (if env then 1 else 0) + (if x.absCount = 3 then 2 else 0) + (if x.energyCount = 3 then 4 else 0) + (if edge then 8 else 0)
    + (if dep && zoneSeen s d then 16 else 0) + (if dep && depthFailedHold s d then 32 else 0)

end Sys2Proof.Machine
end

