-- ==== Sys2Proof/Machine/Recorder.lean ====
section
/-!
DEFINITION. Scarab, the recorder (chapter 14): intake, samples, stamps, windows, clearing, event counters.
-/
namespace Sys2Proof.Machine

/-! ### Commits (R456) -/

/-- Commit a record: it takes the next COMMIT_SEQ as its CHANGE_SEQ. -/
def State.commit (s : State) (area record : Nat) : State :=
  let q := (s.rdn Gl.COMMIT_SEQ + 1) % 2 ^ 32
  let s := s.wrn Gl.COMMIT_SEQ q
  { s with recd := { s.recd with changeSeq := putD 0 s.recd.changeSeq (65536 * area + record) q } }

/-- Index of a code in the catalogue. -/
def codeIndex (c : Nat) : Nat := catalogue.findIdx (fun x => x.1 == c)

/-- Commit every code-table record that changed (R456: at most once per door tick, and at nPWR_WARN). -/
def State.commitCodes (s : State) : State :=
  let recs := (s.recd.codesDirty.map (fun c => codeIndex c / 4)).eraseDups
  let s := recs.foldl (fun s r => s.commit 6 r) s
  { s with recd := { s.recd with codesDirty := [] } }

/-! ### First-occurrence log (R448) -/

/-- Write a log record, or refuse it when the log is full. -/
def State.logRecord (s : State) (e : Event) (again : Bool) : State :=
  let n := s.rdn Gl.FIRST_LOG_COUNT
  if n < 16384 then
    let s := { s with recd := { s.recd with log := s.recd.log ++ [LogRec.mk e again] } }
    let s := (s.wr Gl.FIRST_LOG_COUNT (n + 1 : Nat)).commit 7 (n / 4)
    let s := s.ecEach (fun s k => s.pn (Ec.EC_MODE k) == 1 && s.pn (Ec.EC_SOURCE k) == 255)
    if n + 1 = 16384 ∧ s.bit Gl.RECORDER_STATUS 0 = false then
      (s.setB Gl.RECORDER_STATUS 0 true).raise 0x3003 0xFF 16384
    else s
  else (s.count Gl.LOG_REFUSED).latch Gl.RECORDER_STATUS 11 (Gl.RECORDER_REPEATS 3)

/-- Take the oldest event from the intake FIFO (R448). -/
def State.takeEvent (s : State) : State :=
  match s.recd.intake with
  | [] => s
  | e :: r =>
    let s := { s with recd := { s.recd with intake := r, sampleTurn := true } }
    let again := s.recd.log.any (fun x => x.ev.code == e.code && x.ev.inst == e.inst)
    if again = false ∨ alwaysLog e.code then s.logRecord e again else s

def execEventIntake (s : State) : Host.Outcome State Fault Refusal :=
  done s (if s.recd.accepting ∧ (s.recd.sampleTurn = false ∨ s.recd.samples = []) then s.takeEvent else s)

/-! ### Histograms and extremes (R450 to R452) -/

/-- Floor of the base-2 logarithm of t / 10 ms, by halving. -/
def logBin (t : Nat) : Nat := if t < 10 then 0 else min 31 (1 + Nat.log2 (t / 10))

/-- Bin of a linear histogram. -/
def linBin (v low : Int) (width : Nat) : Nat :=
  if v < low then 0 else min 31 (1 + ((v - low) / (max width 1 : Nat)).toNat)

/-- Bin of a sample: which histogram kind, with LOW and WIDTH of the dictionary (R451). -/
def binOf (s : State) (area hist : Nat) (v : Int) : Nat :=
  if area = 1 then linBin v (s.p (Gl.DOOR_HIST_LOW (hist % 8))) (s.pn (Gl.DOOR_HIST_WIDTH (hist % 8)))
  else if area = 2 then linBin v (s.p (Gl.AXIS_HIST_LOW (hist % 4))) (s.pn (Gl.AXIS_HIST_WIDTH (hist % 4)))
  else if area = 3 then logBin v.toNat
  else if hist = 7 then logBin v.toNat
  else linBin v (s.p (Gl.DEVICE_HIST_LOW hist)) (s.pn (Gl.DEVICE_HIST_WIDTH hist))

/-- Number of a histogram in the extremes table (R452). -/
def extremeIndex (area hist : Nat) : Nat :=
  if area = 1 then hist else if area = 2 then 128 + hist else if area = 3 then 320 + hist else 380 + hist

def State.hist (s : State) (area hist : Nat) : Hist := getD {} s.recd.hists (4096 * area + hist)

def State.setHist (s : State) (area hist : Nat) (h : Hist) : State :=
  { s with recd := { s.recd with hists := putD {} s.recd.hists (4096 * area + hist) h } }

/-- A histogram with a sample in bin `b` and in its extremes (R450, R452). -/
def Hist.add (h : Hist) (b : Nat) (v : Int) (secs cycles : Nat) : Hist :=
  let h := { h with bins := putD 0 h.bins b (min (getD 0 h.bins b + 1) max32), samples := min (h.samples + 1) max32 }
  let h := if h.valid = false ∨ v < h.low then { h with low := v, minSecs := secs, minCycles := cycles } else h
  let h := if h.valid = false ∨ v > h.high then { h with high := v, maxSecs := secs, maxCycles := cycles } else h
  { h with valid := true }

/-- Take the oldest sample (R449). -/
def State.takeSample (s : State) : State :=
  match s.recd.samples with
  | [] => s
  | x :: r =>
    let s := { s with recd := { s.recd with samples := r, sampleTurn := false } }
    let log := x.area = 3 ∨ (x.area = 4 ∧ x.hist = 7)
    let v := if log then min x.value 0x7FFFFFFF else x.value
    let s := s.setHist x.area x.hist ((s.hist x.area x.hist).add (binOf s x.area x.hist x.value) v s.secs s.cycles)
    ((s.commit x.area (2 * x.hist)).commit 5 (extremeIndex x.area x.hist / 2))

def execSampleIntake (s : State) : Host.Outcome State Fault Refusal :=
  done s (if s.recd.accepting ∧ (s.recd.sampleTurn ∨ s.recd.intake = []) then s.takeSample else s)

/-! ### Stamps (R455) -/

/-- The samples that fall due with the minute (R451). -/
def State.minuteSamples (s : State) : State :=
  let s := (s.recd.minuteMax.zip [0, 1, 2]).foldl (fun s x => s.sample 4 x.2 x.1) s
  let s := (s.recd.minuteMin.zip [3, 4, 5]).foldl (fun s x => s.sample 4 x.2 x.1) s
  { s with recd := { s.recd with minuteMax := [], minuteMin := [] } }

/-- A second of operation: the count is kept modulo 2^32 (R455) and committed; every 60 s the minute's samples are taken, and
PROOF_TEST_DUE follows the operating time (R294). -/
def execOperatingSecond (s : State) : Host.Outcome State Fault Refusal := done s (
  if s.rdn Gl.POWER_STATE > 1 then s else
  let n := (s.secs + 1) % 2 ^ 32
  let s := (s.wrn Gl.OPERATING_SECONDS n).commit 0 0
  let s := { s with nv := putD 0 s.nv Gl.OPERATING_SECONDS (n : Int) }
  let s := if n % 60 = 0 then s.minuteSamples else s
  let gone := (n - s.rdn Gl.LAST_PROOF_TEST) / 3600
  let left := s.rdn Gl.PROOF_TEST_INTERVAL - gone
  -- the event is due again once PROOF_TEST_DUE has stood above 0
  let s := if left = 0 then s else { s with safety := { s.safety with proofRaised := none } }
  (s.wrn Gl.PROOF_TEST_DUE left))

/-! ### Windows (R459 to R463) -/

/-- Records of an area (R460). -/
def areaRecords (s : State) : Nat → Nat
  | 0 => 1 | 1 => if s.part.d8 then 128 else 256 | 2 => if s.part.d8 then 192 else 384 | 3 => 120 | 4 => 16
  | 5 => 256 | 6 => 128 | 7 => 4096 | 8 => 128 | _ => 0

/-- 32 bins as bytes. -/
def histBytes (h : Hist) (half : Nat) : List ByteN := (List.range 16).flatMap (fun i => leBytes 4 (getD 0 h.bins (16 * half + i)))

/-- Area, histogram and instance of extremes entry e (R452). -/
def extremeOf (e : Nat) : Nat × Nat × Nat :=
  if e < 128 then (1, e, e / 8) else if e < 320 then (2, e - 128, (e - 128) / 4)
  else if e < 380 then (3, e - 320, (e - 320) / 2) else (4, e - 380, 0xFF)

/-- An extremes entry of 32 bytes (R452). -/
def extremeBytes (s : State) (e : Nat) : List ByteN :=
  let (area, hist, inst) := extremeOf e
  if e ≥ 388 then List.replicate 32 0 else
  let h := s.hist area hist
  leBytes 2 (4096 * area + hist) ++ [inst, if h.valid then 1 else 0] ++ leBytes 4 (twos 32 h.low) ++ leBytes 4 (twos 32 h.high)
    ++ leBytes 4 h.minSecs ++ leBytes 3 h.minCycles ++ [0] ++ leBytes 4 h.maxSecs ++ leBytes 3 h.maxCycles ++ [0] ++ leBytes 4 h.samples

/-- A code-table entry of 16 bytes (R462). -/
def codeBytes (s : State) (i : Nat) : List ByteN :=
  let c := (catalogue[i]?.map (·.1)).getD 0
  let r := s.code c
  leBytes 2 c ++ [0, 0] ++ leBytes 4 r.occ ++ leBytes 4 r.supp ++ leBytes 4 r.last

/-- A log record of 16 bytes (R448). -/
def logBytes (x : LogRec) : List ByteN :=
  leBytes 2 x.ev.code ++ [x.ev.inst % 256, if x.repeated then 1 else 0] ++ leBytes 4 x.ev.secs ++ leBytes 3 x.ev.cycles ++ [0]
    ++ leBytes 4 (twos 32 x.ev.datum)

/-- The names of R444, in the order of the table. -/
def eventNames1 : List String := [
  "HIST_LIMITS_CHANGED", "RECORDER_CLEARED", "FIRST_LOG_FULL", "RECORD_CORRUPT", "POWER_WARNING", "CORE_WARNING", "WAKE_FAIL",
  "WAKE_RETRY", "DOMAIN_NOT_READY", "SLEEP_ABORTED", "OVERTEMPERATURE", "DEVICE_RESET", "WATCHDOG_RESET", "BOOT_HALTED",
  "RECOVERY_BOOT", "DEBUG_SAFE_STATE", "ROLLBACK_FAULT", "SESSION_OPENED", "SESSION_REFUSED", "FW_VERIFIED", "FW_ACTIVATED",
  "FW_CONFIRMED", "FW_REVERTED", "ROLLBACK_RAISED", "DEBUG_UNLOCKED", "ANCHOR_CHANGED", "COSIGN_CHANGED", "RMA_ENTERED"]
def eventNames2 : List String := [
  "C0_DEADLINE_MISS", "ETH_LINK_DOWN", "CAN_BUS_OFF", "HEARTBEAT_MISSING", "SYNC_MISSING", "NMT_RESET_NODE", "PARTNER_LOST",
  "TAKEOVER", "PARTNER_CHECK_MISMATCH", "STAG_CONFLICT", "CONFIG_UNSYNCED", "SAFE_STATE", "STO_UNCONFIRMED",
  "LOOP_VIEW_DISAGREEMENT", "PROOF_TEST_DUE", "SO_FAULT", "SO_OPEN_LOAD", "SO_UNTESTED", "NSL_WATCHDOG", "NSL_FAILED",
  "DOORWAY_FAULT", "RELEASE_LOST_AT_SPEED", "HANDLE_IN_FAULT", "REFERENCE_JUMP", "RES_OUT_OF_RANGE", "OBSTRUCTION", "CYCLE_REJECTED",
  "ENVELOPE_RESET"]
def eventNames3 : List String := [
  "DEPTH_FAILED", "DEPTH_HOLD_LONG", "DEPTH_CREEP_CLOSE", "LINK_LOST", "LISTEN_LINK_FAILED", "NODE_CHANGED", "WIRE_BREAK",
  "WIRE_BREAK_SAFE", "PAIR_DISCREPANCY", "LINE_REF_LOW", "VFIELD_LOW", "VFIELD_MISSING", "LAMP_FAILED", "LAMP_OPEN_LOAD",
  "LAMP_SHORT_TO_SUPPLY", "COIL_OVERCURRENT", "COIL_OPEN_LOAD", "COIL_SHORT_TO_SUPPLY", "COIL_NO_CURRENT", "DIE_OVERTEMP",
  "DISSIPATION_TRIP", "DISSIPATION_UNRESOLVED", "SET_CONFIRMED", "SET_PREVIOUS", "SET_CORRUPT", "CONTACT_DISCREPANCY"]
def eventNames : List String := eventNames1 ++ eventNames2 ++ eventNames3

/-- NAME of catalogue entry i: the table's name padded to 12 bytes; what stands there for a longer name is open. DESIGN CHOICE: log entry 9. -/
def nameBytes (i : Nat) : List ByteN :=
  let t := ((eventNames[i]?.getD "").toList).map (fun c => c.toNat)
  let bs := if t.length ≤ 12 then t else (Config.catalogueName i).map (fun b => b % 128)
  (bs ++ List.replicate 12 0).take 12

/-- A catalogue entry of 16 bytes (R444). -/
def catalogueBytes (i : Nat) : List ByteN :=
  match catalogue[i]? with
  | some (c, a) => leBytes 2 c ++ [if a then 1 else 0, 0] ++ nameBytes i
  | none => List.replicate 16 0

/-- The directory record (R461). -/
def directoryBytes (s : State) : List ByteN :=
  [1, 0, 0, 0] ++ leBytes 4 s.secs ++ leBytes 3 s.cycles ++ [0] ++ leBytes 4 (s.rdn Gl.WAKE_COUNT) ++ leBytes 4 (s.rdn Gl.COMMIT_SEQ)
    ++ leBytes 4 (s.rdn Gl.INTAKE_LOST) ++ leBytes 4 (s.rdn Gl.SAMPLES_LOST) ++ leBytes 2 (s.rdn Gl.FIRST_LOG_COUNT)
    ++ [if s.bit Gl.RECORDER_STATUS 0 then 1 else 0, 0] ++ leBytes 4 (s.rdn Gl.CLEARS) ++ leBytes 4 (s.rdn Gl.LAST_CLEAR_SECONDS)
    ++ leBytes 4 (s.rdn Gl.RECORDS_CORRUPTED) ++ leBytes 4 (s.rdn Gl.LOG_REFUSED) ++ List.replicate 16 0

/-- The 64 bytes of a record (R460). -/
def recordBytes (s : State) (area r : Nat) : List ByteN :=
  if area = 0 then directoryBytes s
  else if area ≤ 4 then histBytes (s.hist area (r / 2)) (r % 2)
  else if area = 5 then extremeBytes s (2 * r) ++ extremeBytes s (2 * r + 1)
  else if area = 6 then (List.range 4).flatMap (fun i => codeBytes s (4 * r + i))
  else if area = 7 then (List.range 4).flatMap (fun i => match s.recd.log[4 * r + i]? with
    | some x => logBytes x
    | none => List.replicate 16 0)
  else (List.range 4).flatMap (fun i => catalogueBytes (4 * r + i))

/-- CHANGE_SEQ of a record: both halves of a histogram carry the same (R460). -/
def recordSeq (s : State) (area r : Nat) : Nat :=
  getD 0 s.recd.changeSeq (65536 * area + (if 1 ≤ area ∧ area ≤ 4 then r - r % 2 else r))

/-- The contexts in use: one idle for 60 s is released (R459). -/
def liveCtxs (s : State) : List Ctx := s.recd.contexts.filter (fun c => decide (s.now < c.lastUse + 3000000))

/-- The context of a source, opening one where fewer than 8 are held (R459). DEDUCED: log entry 137. -/
def ctxOf (s : State) (src : Nat) : Option Ctx :=
  match (liveCtxs s).find? (fun c => c.source == src) with
  | some c => some c
  | none => if (liveCtxs s).length < 8 then some { source := src } else none

/-- Keep a context, stamped with its use. -/
def State.setCtx (s : State) (c : Ctx) : State :=
  { s with recd := { s.recd with contexts := { c with lastUse := s.now } :: (liveCtxs s).filter (fun x => x.source != c.source) } }

/-- A message of a source outside a session, as the window commands carry it. DESIGN CHOICE: log entry 222. -/
def viaOf (src : Nat) : Via := .msg { source := src, reqId := noReqId }

/-- Answer a read (R426). -/
def State.answerRead (s : State) (src ab : Nat) (bs : List ByteN) : State :=
  { s with answer := some ab }.send (if ab = 0 then .bulkResponse src bs else .response src ab 3)

/-- What a read gives its source: the abort code, or the bytes. -/
def State.answerWith (src : Nat) (r : Except Nat (List ByteN) × State) : State := match r.1 with
  | .ok bs => r.2.answerRead src 0 bs
  | .error ab => r.2.answerRead src ab []

/-- A read of class C3 that has a command of its own: it arrives as any request does (R37, R433, R533), and is answered. -/
def State.readFrom (s : State) (source index sub : Nat) (take : State → Except Nat (List ByteN) × State) : State :=
  match front (viaOf source) 3 (index, sub, .num (-1), none) s with
  | .stop s => s
  | .go s => (State.answerWith source (take s)).showTxn

/-- R459: copy the record at CURSOR and advance it. -/
def windowTake (source : Nat) (s : State) : Except Nat (List ByteN) × State :=
  match ctxOf s source with
  | none => (.error abState, s)
  | some c =>
    if c.cursor ≥ areaRecords s c.area then (.error abState, s.setCtx c)
    else
      let bs := recordBytes s c.area c.cursor
      (.ok bs, s.setCtx { c with cursor := c.cursor + 1, changeSeq := recordSeq s c.area c.cursor, data := bs })

/-- A read of CURSOR, CHANGE_SEQ, AREA, BULK_COUNT or BULK_REMAINING shows the source's own context (R459, R463). -/
def ctxBytes (c : Ctx) (sub : Nat) : List ByteN := match sub with
  | 1 => leBytes 2 c.cursor
  | 3 => leBytes 4 c.changeSeq
  | 4 => leBytes 1 c.area
  | 5 => leBytes 2 c.bulkCount
  | _ => leBytes 2 c.bulkLeft

/-- Whether a sub-index of 0x6000 belongs to the context. -/
def ctxSub (sub : Nat) : Bool := [1, 3, 4, 5, 6].contains sub

/-- Read an entry of the source's context, which the read keeps in use. -/
def ctxRead (source sub : Nat) (s : State) : Except Nat (List ByteN) × State := match ctxOf s source with
  | none => (.error abState, s)
  | some c => (.ok (ctxBytes c sub), s.setCtx c)

/-- WINDOW_READ (R459). -/
def execWindowRead (source : Nat) (s : State) : Host.Outcome State Fault Refusal :=
  done s (s.readFrom source 0x6000 2 (windowTake source))

/-- R459: AREA selects the area, returns CURSOR to 0 and cancels any bulk read. -/
def areaEffect (source : Nat) : Effect := fun n s =>
  match ctxOf s source with
  | none => .error abState
  | some c => .ok (s.setCtx { c with area := n.toNat, cursor := 0, bulkLeft := 0 })

def execAreaWrite (source : Nat) (v : Int) (s : State) : Host.Outcome State Fault Refusal :=
  done s (writeNum (viaOf source) 0x6000 4 (.num v) none id (areaEffect source) s)

/-- A write of CURSOR (R459). -/
def cursorEffect (source : Nat) : Effect := fun n s =>
  match ctxOf s source with
  | none => .error abState
  | some c => if n.toNat > areaRecords s c.area then .error abHigh else .ok (s.setCtx { c with cursor := n.toNat })

/-- R463: BULK_COUNT requests, truncates or cancels. DEDUCED: log entry 138. -/
def bulkCountEffect (source : Nat) : Effect := fun n s =>
  match ctxOf s source with
  | none => .error abState
  | some c =>
    let left := areaRecords s c.area - c.cursor
    .ok (s.setCtx { c with bulkCount := n.toNat, bulkLeft := if n = 0xFFFF then left else min n.toNat left })

def execBulkCountWrite (source : Nat) (v : Int) (s : State) : Host.Outcome State Fault Refusal :=
  done s (writeNum (viaOf source) 0x6000 5 (.num v) none id (bulkCountEffect source) s)

/-- R463: how many records one BULK_DATA read gives, at most 15 of what is left of the bulk and of the area. -/
def bulkTaken (s : State) (c : Ctx) : Nat := min 15 (min c.bulkLeft (areaRecords s c.area - c.cursor))

/-- R463: up to 15 items of 68 bytes, none behind the end of the area. DEDUCED: log entry 138. -/
def bulkDataTake (source : Nat) (s : State) : Except Nat (List ByteN) × State :=
  match ctxOf s source with
  | none => (.error abState, s)
  | some c =>
    let n := bulkTaken s c
    let bs := (List.range n).flatMap (fun i =>
      recordBytes s c.area (c.cursor + i) ++ leBytes 4 (recordSeq s c.area (c.cursor + i)))
    (.ok bs, s.setCtx { c with cursor := c.cursor + n, bulkLeft := c.bulkLeft - n, data := bs })

/-- BULK_DATA_READ (R463). -/
def execBulkDataRead (source : Nat) (s : State) : Host.Outcome State Fault Refusal :=
  done s (s.readFrom source 0x6000 7 (bulkDataTake source))

/-- R459: a context idle for 60 s is released. -/
def execContextRelease (source : Nat) (s : State) : Host.Outcome State Fault Refusal :=
  done s { s with recd := { s.recd with contexts := s.recd.contexts.filter (fun c =>
    !(c.source == source && decide (c.lastUse + 3000000 ≤ s.now))) } }

/-! ### Clearing (R464) -/

/-- Clear the areas of a mask, in one commit. -/
def clearAreas (n : Nat) (s : State) : State :=
  let b := fun i => n.testBit i
  let s := if b 0 then (((s.wr Gl.INTAKE_LOST 0).wr Gl.SAMPLES_LOST 0).wr Gl.RECORDS_CORRUPTED 0).wr Gl.LOG_REFUSED 0 else s
  let h := s.recd.hists.map (fun x =>
    let area := x.1 / 4096
    let y := if b area then { x.2 with bins := [] } else x.2
    (x.1, if b 5 then { bins := y.bins : Hist } else y))
  let s := { s with recd := { s.recd with hists := h.filter (fun x => x.2 != ({} : Hist)) } }
  let s := if b 6 then
      { s with recd := { s.recd with codes := (s.recd.codes.map (fun x => (x.1, { bucket := x.2.bucket : CodeRec }))).filter (fun x => x.2 != ({} : CodeRec)), codesDirty := [] } }
    else s
  let s := if b 7 then ({ s with recd := { s.recd with log := [] } }.wr Gl.FIRST_LOG_COUNT 0).setB Gl.RECORDER_STATUS 0 false else s
  let q := (s.rdn Gl.COMMIT_SEQ + 1) % 2 ^ 32
  let s := s.wrn Gl.COMMIT_SEQ q
  let cs := (List.range 8).flatMap (fun a => if b a then (List.range (areaRecords s a)).map (fun r => 65536 * a + r) else [])
  { s with recd := { s.recd with changeSeq := cs.foldl (fun m k => putD 0 m k q) s.recd.changeSeq } }

/-- The histograms of the records that `f` changes, an empty one unlisted. -/
def State.mapHists (s : State) (f : Nat → Hist → Hist) : State :=
  { s with recd := { s.recd with hists := (s.recd.hists.map (fun x => (x.1, f x.1 x.2))).filter (fun x => x.2 != ({} : Hist)) } }

/-- A log record at its cleared content. -/
def clearedLog : LogRec := { ev := { code := 0, inst := 0, datum := 0, secs := 0, cycles := 0 }, repeated := false }

/-- Record r of an area at its cleared content (R457, R460). -/
def State.clearRecord (s : State) (area r : Nat) : State :=
  if area ≤ 4 then
    s.mapHists (fun k h => if k = 4096 * area + r / 2 then { h with bins := h.bins.filter (fun b => b.1 / 16 != r % 2) } else h)
  else if area = 5 then
    s.mapHists (fun k h => if [extremeOf (2 * r), extremeOf (2 * r + 1)].any (fun x => 4096 * x.1 + x.2.1 == k) then { bins := h.bins } else h)
  else if area = 6 then
    [0, 1, 2, 3].foldl (fun (s : State) i => match catalogue[4 * r + i]? with
      | some c => { s with recd := { s.recd with codes := putD {} s.recd.codes c.1 { bucket := (s.code c.1).bucket } } }
      | none => s) s
  else { s with recd := { s.recd with log := s.recd.log.mapIdx (fun i x => if i / 4 = r then clearedLog else x) } }

/-- A record that fails its check at power-up (R457), by its number 65536 · area + r: reset, counted, shown, reported. DEDUCED: log entry 190. -/
def State.repairRecord (s : State) (x : Nat) : State :=
  let area := x / 65536
  let r := x % 65536
  if area = 0 ∨ 7 < area ∨ areaRecords s area ≤ r then s
  else (((s.clearRecord area r).count Gl.RECORDS_CORRUPTED).latch Gl.RECORDER_STATUS 10 (Gl.RECORDER_REPEATS 2)).raise 0x3004 0xFF x

/-- R464: the effect of an accepted mask. -/
def clearEffect : Effect := fun n s =>
  if n = 0 then .error abValue else
  let s := clearAreas n.toNat s
  let s := (s.count Gl.CLEARS).wr Gl.LAST_CLEAR_SECONDS (s.secs : Nat)
  .ok (s.raise 0x3001 0xFF n)

def execClear (via : Via) (mask : Int) (s : State) : Host.Outcome State Fault Refusal :=
  done s (writeNum via 0x6002 1 (.num mask) none id clearEffect s)

/-! ### Histogram limits (R453) -/

/-- LOW of the entry's kind and WIDTH, from a write of one of them. -/
def histPair (index sub : Nat) (n : Int) (s : State) : Int × Int :=
  if index % 2 = 1 then (n, s.rd (key (index + 1) sub)) else (s.rd (key (index - 1) sub), n)

/-- Whether an index is one of the histogram limit entries: 0x6005 to 0x600A, odd LOW and even WIDTH. -/
def isHistLimit (index : Nat) : Bool := 0x6005 ≤ index && index ≤ 0x600A

/-- A write of one of them; any accepted one is a change. DEDUCED: log entry 197. -/
def histLimitEffect (index sub : Nat) : Effect := fun n s =>
  let (low, width) := histPair index sub n s
  if low + 30 * width > 0x7FFFFFFF then .error abHigh
  else .ok ({ s.wr (key index sub) n with recd := { s.recd with limitsChanged := key index sub :: s.recd.limitsChanged } })

def execHistLimitsChanged (via : Via) (index sub : Nat) (v : Int) (s : State) : Host.Outcome State Fault Refusal := done s (
  if isHistLimit index then (writeNum via index sub (.num v) none id (histLimitEffect index sub) s) else s)

/-- At a door tick: clear every histogram of a changed kind on every instance, in one commit, and raise 0x2002 (R453). DEDUCED: log entry 197. -/
def State.applyHistLimits (s : State) : State :=
  let s' := s.recd.limitsChanged.foldl (fun s k =>
    let index := k / 256
    let h := k % 256 - 1
    let area := if index ≤ 0x6006 then 1 else if index ≤ 0x6008 then 2 else 4
    let per := if area = 1 then 8 else if area = 2 then 4 else 8
    let hs := s.recd.hists.map (fun x =>
      if x.1 / 4096 = area ∧ x.1 % 4096 % per = h then (x.1, { x.2 with bins := [] }) else x)
    let q := (s.rdn Gl.COMMIT_SEQ + 1) % 2 ^ 32
    let cs := ((List.range (areaRecords s area / 2)).filter (fun i => i % per == h)).map (fun i => 65536 * area + 2 * i)
    let s := { s.wrn Gl.COMMIT_SEQ q with recd := { s.recd with
      hists := hs.filter (fun x => x.2 != ({} : Hist)), changeSeq := cs.foldl (fun m k => putD 0 m k q) s.recd.changeSeq } }
    s.raise 0x2002 0xFF (65536 * index + (h + 1) : Nat)) s
  { s' with recd := { s'.recd with limitsChanged := [] } }

/-! ### Event counters (R465 to R468) -/

/-- Kind of a source: 0 condition, 1 value, 2 event (R466). -/
def ecKind (src : Nat) : Nat := if src ≤ 80 then 0 else if src ≤ 120 then 1 else 2

/-- Largest instance + 1 of a source; `none` where R466, R467 show "–". -/
def ecInstances (s : State) (src : Nat) : Option Nat :=
  let nd := s.doorways
  if src ≤ 33 then some nd else if src ≤ 54 then some (3 * nd)
  else if src ≤ 60 then none
  else if src ≤ 62 then some 24 else if src = 63 then some 16 else if src = 64 ∨ src = 66 then some 48 else if src = 65 then some 24
  else if src ≤ 68 then none
  else if src = 69 then some nd else if src = 70 then some 32 else if src ≤ 72 then some 2
  else if src ≤ 80 then none
  else if src ≤ 90 then some (3 * nd) else if src ≤ 95 then some nd
  else if src ≤ 101 then none
  else if src = 102 then some (2 * nd) else if src ≤ 104 then some nd else if src = 105 then some 32
  else if src ≤ 108 then some 24 else if src ≤ 111 then none else if src = 112 then some 48 else if src ≤ 119 then none
  else if src = 120 then some 24
  else if src ≤ 253 then some 255
  else none

/-- Whether a selection is valid (R468). -/
def ecValid (s : State) (src mode inst code : Nat) : Bool :=
  mode == 0 ||
  ((match ecKind src with
      | 0 => mode == 1 || mode == 2
      | 1 => mode == 3 || mode == 4
      | _ => mode == 1)
   && (inst == 0xFF || (match ecInstances s src with
      | some n => decide (inst < n) && (src != 120 || decide (16 ≤ inst))
      | none => false))
   && (src != 253 || catalogue.any (fun x => x.1 == code)))

/-- A write of sub-index 1–4 of counter n. -/
def ecEffect (n sub : Nat) : Effect := fun v s =>
  let g := fun i => if sub = i then v.toNat else s.rdn (key (0x2500 + n) i)
  if ecValid s (g 1) (g 2) (g 3) (g 4) then
    .ok { s.wr (key (0x2500 + n) sub) v with recd := { s.recd with ecReset := if s.recd.ecReset.contains n then s.recd.ecReset else n :: s.recd.ecReset } }
  else .error abValue

def execEcConfigWrite (via : Via) (n sub : Nat) (v : Int) (s : State) : Host.Outcome State Fault Refusal := done s (
  if 1 ≤ sub ∧ sub ≤ 4 ∧ n < 32 then (writeNum via (0x2500 + n) sub (.num v) none id (ecEffect n sub) s) else s)

/-- A write of EC_RESET (R468, R563). -/
def ecResetEffect (n : Nat) : Effect := fun v s =>
  .ok (if v = 0 then s else { s with recd := { s.recd with ecReset := if s.recd.ecReset.contains n then s.recd.ecReset else n :: s.recd.ecReset } })

def execEcReset (via : Via) (n : Nat) (v : Int) (s : State) : Host.Outcome State Fault Refusal := done s (
  if n < 32 then (writeNum via (0x2500 + n) 7 (.num v) none id (ecResetEffect n) s) else s)

/-- At a door tick: reset the counters whose selection changed (R468). -/
def State.applyEcResets (s : State) : State :=
  let s' := s.recd.ecReset.foldl (fun s n =>
    let s := ((s.wr (Ec.EC_VALUE n) 0).wr (Ec.EC_VALID n) 0).wr (Ec.EC_RESET_AT n) (s.secs : Nat)
    { s with recd := { s.recd with ecCond := erase n s.recd.ecCond } }) s
  { s' with recd := { s'.recd with ecReset := [] } }

/-- A sample of a value source in MIN and MAX (R465): EC_VALUE holds 48 bits, sign-extended. -/
def State.ecSample (s : State) (n : Nat) (v : Int) : State :=
  let mode := s.pn (Ec.EC_MODE n)
  let old := signed 48 (s.rdn (Ec.EC_VALUE n))
  if mode ≠ 3 ∧ mode ≠ 4 then s
  else if s.rdb (Ec.EC_VALID n) = false ∨ (mode = 3 ∧ v < old) ∨ (mode = 4 ∧ v > old) then
    (s.wr (Ec.EC_VALUE n) (twos 48 v : Nat)).wr (Ec.EC_VALID n) 1
  else s

/-- Sample every counter on value source `src` for instance `inst` (R465: at every update of the value). -/
def State.ecUpdate (s : State) (src inst : Nat) (v : Int) : State :=
  (List.range 32).foldl (fun s n =>
    if s.pn (Ec.EC_SOURCE n) = src ∧ (s.pn (Ec.EC_INSTANCE n) = 0xFF ∨ s.pn (Ec.EC_INSTANCE n) = inst) then s.ecSample n v else s) s

/-- The dictionary entry behind a condition source: key and bit, per instance; the others are read by `ecCondition`. -/
def ecCondition (s : State) (src i : Nat) : Bool :=
  if src ≤ 10 then s.rdn (Dr.STATE i) == src
  else if src ≤ 33 then s.bit (Dr.STATUS i) (src - 11)
  else if src ≤ 45 then s.bit (Ax.AXIS_STATUS i) (src - 34)
  else if src ≤ 54 then s.bit (Ax.LOOP_STATUS i) (src - 46)
  else if src ≤ 60 then s.bit Gl.SO_STATE (src - 55)
  else if src = 61 then s.bit (Ou.OUT_STATUS i) 0
  else if src = 62 then (List.range 5).any (fun b => s.bit (Ou.OUT_STATUS i) (8 + b))
  else if src = 63 then s.bit Gl.LAMP_FAILED_MASK i
  else if src = 64 then s.bit Gl.INPUT_STATE i
  else if src = 65 then s.bit Gl.PAIR_STATE i
  else if src = 66 then s.bit Gl.WIRE_BREAK_MASK i
  else if src = 67 then s.bit Gl.FIELD_STATUS 0
  else if src = 68 then s.bit Gl.FIELD_STATUS 2
  else if src = 69 then s.rdn (Lk.LINK_STATE i) == 5
  else if src = 70 then s.rdn (Ns.CONN_STATE i) == 3
  else if src = 71 then s.rdb (Et.LINK_UP i)
  else if src = 72 then s.rdn (Cb.BUS_STATE i) == 2
  else if src = 73 then s.rdb Gl.HOLDER
  else if src = 74 then s.bit Gl.DUPLEX_STATUS 0
  else if src = 75 then s.rdb Gl.TICK_ALIGNED
  else if src = 76 then s.rdn Gl.POWER_STATE == 0
  else if src = 77 then s.rdn Gl.POWER_STATE == 1
  else if src = 78 then s.rdn Gl.SAFE_STATE_CAUSE != 0
  else if src = 79 then s.rdn Gl.SET_STATE == 1
  else (List.range 24).any (fun q => s.bit (Ou.OUT_STATUS q) 5)

/-- A value source sampled at every door tick (R467). -/
def ecValue (s : State) (src i : Nat) : Int :=
  match src with
  | 91 => s.rd (Dr.RUN_CURRENT i) | 92 => s.rd (Dr.START_WAIT_LAST i) | 93 => s.rd (Dr.MOVE_TIME_LAST i)
  | 94 => s.rd (Dr.OBS_FORCE_PEAK i) | 95 => s.rd (Dr.RETRY_COUNT i) | 96 => s.rd Gl.PREDICTED_SUM
  | 97 => s.rd Gl.TICK_PHASE_ERROR | 98 => s.rd Gl.TXN_IN_FLIGHT | 103 => s.rd (Lk.EYE_MARGIN i)
  | 104 => s.rd (Lk.CTLE_PEAKING i) | 106 => s.rd (Ou.CURRENT i) | 107 => s.rd (Ou.DELTA_T i)
  | 108 => s.rd (Ou.DISSIPATION i) | 109 => s.rd Gl.DISSIPATION_ESTIMATE | 110 => s.rd Gl.VFIELD_A | 111 => s.rd Gl.VFIELD_B
  | 112 => s.rd (In.INPUT_CURRENT i) | 113 => s.rd Gl.LINE_REF_CURRENT_A | 114 => s.rd Gl.LINE_REF_CURRENT_B
  | 115 => s.rd Gl.LOGIC_TEMP | 116 => s.rd Gl.FIELD_A_TEMP | 117 => s.rd Gl.FIELD_B_TEMP | 118 => s.rd Gl.VDD_CORE
  | 119 => s.rd Gl.VDD_IO | 81 => s.rd (Ax.LEAF_FORCE i) | 82 => s.rd (Ax.LEAF_ENERGY i) | 83 => s.rd (Ax.FORCE_PEAK_LAST i)
  | 84 => s.rd (Ax.IQ i) | 85 => s.rd (Ax.IQ_DEMAND i) | 86 => s.rd (Ax.SPEED i) | 87 => s.rd (Ax.FOLLOWING_ERROR i)
  | 88 => s.rd (Ax.WINDING_TEMP i) | 89 => s.rd (Ax.RES_EST i) | 90 => s.rd (Ax.POSITION i)
  | _ => 0

/-- The instances a counter watches. -/
def ecWatched (s : State) (n : Nat) : List Nat :=
  let inst := s.pn (Ec.EC_INSTANCE n)
  match ecInstances s (s.pn (Ec.EC_SOURCE n)) with
  | none => [0]
  | some m => if inst = 0xFF then List.range m else [inst]

/-- Event counters at a door tick: conditions in COUNT_EVENTS and COUNT_TIME, values sampled at door ticks (R465). -/
def State.ecDoorTick (s : State) : State :=
  (List.range 32).foldl (fun s n =>
    let src := s.pn (Ec.EC_SOURCE n)
    let mode := s.pn (Ec.EC_MODE n)
    if mode = 0 then s
    else if ecKind src = 0 then
      let c := (ecWatched s n).any (ecCondition s src)
      let was := getD 0 s.recd.ecCond n
      let s := { s with recd := { s.recd with ecCond := putD 0 s.recd.ecCond n (if c then 2 else 1) } }
      if mode = 2 then (if c then s.ecAdd n else s) else if c ∧ was = 1 then s.ecAdd n else s
    else if ecKind src = 1 ∧ 91 ≤ src ∧ src ≠ 99 ∧ src ≠ 100 ∧ src ≠ 101 ∧ src ≠ 102 ∧ src ≠ 105 ∧ src ≠ 120 then
      (ecWatched s n).foldl (fun s i => s.ecSample n (ecValue s src i)) s
    else s) s

/-- Event counters at a motion tick: value sources 81–90. -/
def State.ecMotionTick (s : State) : State :=
  (List.range 32).foldl (fun s n =>
    let src := s.pn (Ec.EC_SOURCE n)
    if s.pn (Ec.EC_MODE n) ≥ 3 ∧ 81 ≤ src ∧ src ≤ 90 then
      (ecWatched s n).foldl (fun s i => s.ecSample n (ecValue s src i)) s
    else s) s

end Sys2Proof.Machine
end

