-- ==== Sys2Proof/Machine/Safe.lean ====
section
/-!
DEFINITION. The safety channels, safety functions, safe outputs and the safety set (chapters 7 and 8). Both channels form
their terms each door tick from their own readings and from the other channel's last exchanged readings.
-/
namespace Sys2Proof.Machine

/-! ### The safety set (R288 to R292) -/

/-- Rows of 0x5003 to 0x50FF that the Commissioner writes. -/
def memberRows : List Row := rowsSafetySet.filter (fun r => r.acc == .rwc && decide (0x5003 ≤ r.base))

/-- Insert a key into a rising list. -/
def insertKey (k : Nat) : List Nat → List Nat
  | [] => [k]
  | x :: r => if k ≤ x then k :: x :: r else x :: insertKey k r

/-- Keys of the members of 0x5003 to 0x50FF, rising; instances absent on the D8 left out (R289). -/
def setMembers (s : State) : List Nat :=
  (List.range 0xFD).flatMap (fun i =>
    let index := 0x5003 + i
    let rows := memberRows.filter (fun r => r.hasIndex index)
    (List.range 48).flatMap (fun j =>
      let sub := j + 1
      match rows.find? (fun r => decide (r.subLo ≤ sub) && decide (sub ≤ r.subHi)) with
      | some r => match r.doorway index sub with
        | some d => if d < s.doorways then [key index sub] else []
        | none => [key index sub]
      | none => []))

/-- Every member in increasing order of index and sub-index. -/
def allMembers (s : State) : List Nat :=
  ((storedAxes s).flatMap (fun a => (axisMembers a).foldl (fun l k => insertKey k l) [])) ++ setMembers s

/-- Bytes of a member in the serialisation of R289. -/
def memberBytes (s : State) (k : Nat) : List ByteN := leBytes 2 (k / 256) ++ [k % 256] ++ valueBytes k (s.rd k)

/-- The check value of the stored set (R289). -/
def checkValue (s : State) : Nat :=
  crc32 (leBytes 4 (s.rdn Gl.PRODUCT_CODE) ++ (allMembers s).flatMap (memberBytes s))

/-- Each channel's check value follows its own copy of the set, into which every write of a member goes; a defect of a copy shows in its
value alone (R264). -/
def State.refreshCheck (s : State) : State :=
  let c := checkValue s
  let x := s.safety.stalls
  (s.wrn Gl.CHECK_VALUE (c ^^^ x.copyA % 2 ^ 32)).wrn Gl.CHECK_VALUE_B (c ^^^ x.copyB % 2 ^ 32)

/-- What the channels cannot do from this door tick on (R264 to R267). -/
def State.takeStalls (s : State) (x : Stalls) : State :=
  let old := s.safety.stalls
  let s := { s with safety := { s.safety with stalls := x } }
  if x.copyA = old.copyA ∧ x.copyB = old.copyB then s
  else (s.wrn Gl.CHECK_VALUE (s.rdn Gl.CHECK_VALUE ^^^ old.copyA % 2 ^ 32 ^^^ x.copyA % 2 ^ 32)).wrn Gl.CHECK_VALUE_B
    (s.rdn Gl.CHECK_VALUE_B ^^^ old.copyB % 2 ^ 32 ^^^ x.copyB % 2 ^ 32)

/-- Invalidate the confirmation (R13, R290, R292): SET_STATE leaves CONFIRMED and CONFIRM names no value (assumption 20).
DESIGN CHOICE: log entry 20. DEDUCED: log entry 78. -/
def State.invalidate (s : State) : State :=
  let s := { s with safety := { s.safety with confirming := none } }
  -- SET_STATE leaves CONFIRMED: the token is released at once (R326)
  (if s.rdn Gl.SET_STATE = 1 then (s.wr Gl.SET_STATE 0).letGo else s).wr Gl.CONFIRM 0

/-- The set entries and R288's axis entries in force from a confirmation, and from boot. -/
def State.enforceSet (s : State) : State := (allMembers s).foldl (fun s k => s.enforce k (s.rd k)) s

/-- WRITE_ENABLE (R290). -/
def writeEnableEffect : Effect := fun n s =>
  if n = 0 then .ok (s.wr Gl.WRITE_ENABLE 0)
  else if s.rdn Gl.SET_STATE = 1 ∧
      (s.safety.relA.testBit 2 = false ∨ s.safety.relB.testBit 2 = false
        ∨ (List.range s.doorways).any (fun d => [3, 5, 6].contains (doorState s d))) then .error abState
  else
    let s := s.invalidate
    .ok ((s.wr Gl.WRITE_ENABLE 1).wr Gl.SET_STATE 0)

def execWriteEnable (via : Via) (v : Int) (s : State) : Host.Outcome State Fault Refusal :=
  done s (writeNum via 0x5002 1 (.num v) none id writeEnableEffect s)

/-- CONFIRM (R291): the entry's own checks, then the state check. -/
def confirmEffect : Effect := fun n s =>
  if n ≠ s.rd Gl.CHECK_VALUE ∨ n ≠ s.rd Gl.CHECK_VALUE_B then .error abCheck
  else if (storedAxes s).any (fun a => roleOf a != 2 && decide (s.rdn (Ax.CURRENT_BANDWIDTH a) < 1000)) then .error abBandwidth
  else if s.rdn Gl.SET_STATE = 1 then .error abState
  else .ok { s.wr Gl.WRITE_ENABLE 0 with safety := { s.safety with confirming := some n.toNat } }

def execConfirm (via : Via) (v : Int) (s : State) : Host.Outcome State Fault Refusal :=
  done s (writeNum via 0x5001 1 (.num v) none id confirmEffect s)

/-- The confirmation takes effect at a door tick (R291). -/
def State.confirmTick (s : State) : State :=
  match s.safety.confirming with
  | none => s
  | some v =>
    let old := s.safety.lastCheck
    let s := { s with safety := { s.safety with confirming := none, lastCheck := v } }
    let s := ((s.wrn Gl.CONFIRM v).wr Gl.SET_STATE 1).wr Gl.WRITE_ENABLE 0
    let s := (s.count Gl.CONFIRMATIONS).wrn Gl.CONFIRMED_AT s.secs
    let cab := s.pn Gl.CAB_CONNECTION
    let s := ((s.raise 0x2582 0xFF old).raise 0x2581 0xFF v).enforceSet
    -- another connection has delivered nothing yet (R252, R253)
    if s.pn Gl.CAB_CONNECTION = cab then s else { s with cab := {} }

/-- The set as judged at power-up (R292). DEDUCED: log entry 79. -/
def State.judgeSet (s : State) : State :=
  let s := s.refreshCheck.enforceSet
  let c := s.rd Gl.CONFIRM
  if c = s.rd Gl.CHECK_VALUE ∧ c = s.rd Gl.CHECK_VALUE_B then s.wr Gl.SET_STATE 1
  else if c = 0 then s.wr Gl.SET_STATE 0
  else (s.wr Gl.SET_STATE 2).raise 0x0583 0xFF (s.rd Gl.CHECK_VALUE)

/-! ### Release, zero speed and the loop terms (R57, R240, R245, R246, R251, R252) -/

/-- The bits that the NSL source delivers to a channel: its own connection state, and the payload as of the last door tick
(R274). DEDUCED: log entry 75. -/
def nslBits (s : State) (ch : Chan) : Nat :=
  let n := s.pn Gl.CAB_CONNECTION
  if n < 32 ∧ s.rdn (match ch with | .A => Ns.CONN_STATE n | .B => Ns.CONN_STATE_B n) = 3 then s.cab.seen else 0

/-- A term of R57 from its source code. -/
def termOf (src : Nat) (line nsl : Bool) : Bool :=
  match src with | 0 => line | 1 => nsl | 2 => line || nsl | _ => line && nsl

/-- A channel's release and zero-speed terms: bit 0 left, 1 right, 2 zero speed. -/
def channelTerms (s : State) (ch : Chan) : Nat :=
  let other := match ch with | .A => s.safety.nslExB | .B => s.safety.nslExA
  let nsl := nslBits s ch &&& other
  let line := fun (k : Nat) => let c := s.pn k; decide (0x80 ≤ c) && decide (c ≤ 0x97) && pairTaken s (c - 0x80) ch
  let rs := s.pn Gl.RELEASE_SOURCE
  (if termOf rs (line Gl.LEFT_RELEASE_PAIR) (nsl.testBit 0) then 1 else 0)
    + (if termOf rs (line Gl.RIGHT_RELEASE_PAIR) (nsl.testBit 1) then 2 else 0)
    + (if termOf (s.pn Gl.ZERO_SPEED_SOURCE) (line Gl.ZERO_SPEED_PAIR) (nsl.testBit 2) then 4 else 0)

/-- A channel's terms as last formed. -/
def relOf (s : State) (ch : Chan) : Nat := match ch with | .A => s.safety.relA | .B => s.safety.relB

/-- The side term of SF2 in a channel (R269). -/
def sideTerm (rel side : Nat) : Bool := rel.testBit side && rel.testBit 2

/-- Term of a safe output in a channel (R245, R246). -/
def soTerm (s : State) (k : Nat) (ch : Chan) : Bool :=
  let part := allDoors s
  let locked := fun (p : Nat → Bool) => part.all (fun d => !p d || safeLocked s d ch)
  let steps := fun (p : Nat → Bool) => part.all (fun d => !p d || safeStep s d ch)
  let fixed := fun (k : Nat) => match k with
    | 0 => locked (fun _ => true)
    | 1 => locked (fun d => doorSide s d == 0)
    | 2 => locked (fun d => doorSide s d == 1)
    | _ => steps (fun _ => true)
  if k < 4 then fixed k else
  let mask := s.pn (if k = 4 then Gl.SO4_MASK else Gl.SO5_MASK)
  match s.pn (if k = 4 then Gl.SO4_FUNCTION else Gl.SO5_FUNCTION) with
  | 0 => false
  | 1 => fixed 0 | 2 => fixed 1 | 3 => fixed 2 | 4 => fixed 3
  | 5 => locked mask.testBit
  | 6 => locked mask.testBit && steps mask.testBit
  | 7 => part.all (fun d => contactTaken s d 5 ch)
  | 8 => sideTerm (relOf s ch) 0
  | 9 => sideTerm (relOf s ch) 1
  | _ => false

def soTerms (s : State) (ch : Chan) : Nat := (List.range 6).foldl (fun m k => if soTerm s k ch then m + 2 ^ k else m) 0

/-- R247: no output is energised while one of its conditions holds. -/
def outputsAllowed (s : State) : Bool :=
  s.rdn Gl.SET_STATE == 1 && s.rdn Gl.SAFE_STATE_CAUSE == 0 && !s.safety.debugSafe && s.rdn Gl.DEBUG_LEVEL != 2
    && !s.forcedSafe && !s.safety.inReset

/-! ### Safe outputs (R17, R248, R281 to R287) -/

def State.out (s : State) (k : Nat) : SafeOut := getD {} s.safety.outs k
def State.setOut (s : State) (k : Nat) (x : SafeOut) : State :=
  { s with safety := { s.safety with outs := putD {} s.safety.outs k x } }

/-- A latched fault of R285. -/
def soFaulted (s : State) (k : Nat) : Bool := s.bit (Gl.SO_STATUS k) 8

/-- A die's switches are kept open: its safety-port watchdog, its lost supply, or its temperature (R18, R265, R549). -/
def dieOpen (s : State) (die : Nat) : Bool :=
  (getD {} s.dies die).hot || if die = 0 then s.safety.dieA || s.bit Gl.FIELD_STATUS 1 else s.safety.dieB || s.bit Gl.FIELD_STATUS 3

/-- An output energised now (R298). -/
def energised (s : State) (k : Nat) : Bool := s.bit (Gl.SO_STATUS k) 2

/-- A pulse holds this switch of an output off (R284). -/
def pulsing (x : SafeOut) (side : Side) : Bool := match x.pulse with
  | some (ls, _) => ls == (side == .ls)
  | none => false

/-- The switch bits of an output while it is energised: the pulsed switch is off (R284). -/
def State.showSwitches (s : State) (k : Nat) : State :=
  if energised s k then (s.setB (Gl.SO_STATUS k) 0 (!pulsing (s.out k) .hs)).setB (Gl.SO_STATUS k) 1 (!pulsing (s.out k) .ls) else s

/-- A switch is driven on: the high side by channel A alone through die A, the low side by channel B alone through die B (R17). A switch
that is off turns on at a door-tick boundary, and not within 20 ms after the output opened (R248). -/
def switchOn (s : State) (k : Nat) (side : Side) : Bool :=
  let may := energised s k
    || (s.boundary.doorAt == some s.now && (match (s.out k).openedAt with | some t => decide (t + 1000 ≤ s.now) | none => true))
  !soFaulted s k && (match side with
    | .hs => s.safety.soA.testBit k && !dieOpen s 0 && (may || s.bit (Gl.SO_STATUS k) 0)
    | .ls => s.safety.soB.testBit k && !dieOpen s 1 && (may || s.bit (Gl.SO_STATUS k) 1))

/-- Each channel's demand carried out on its own switch (R17): the output is energised while both are on. -/
def State.driveOut (s : State) (k : Nat) : State :=
  let x := s.out k
  let dem := (s.safety.soA.testBit k, s.safety.soB.testBit k)
  let hs := switchOn s k .hs
  let ls := switchOn s k .ls
  let x := { x with demand := dem, changedAt := if dem = x.demand then x.changedAt else some s.now,
                    offLoad := if (energised s k || s.bit (Gl.SO_STATUS k) 1) && !ls then x.loadMa else x.offLoad }
  let s := s.setOut k x
  let was := energised s k
  let now := hs && ls
  if now = was then
    (if now then s else (s.setB (Gl.SO_STATUS k) 0 (hs && !pulsing x .hs)).setB (Gl.SO_STATUS k) 1 (ls && !pulsing x .ls))
  else if now then
    let s := (s.setB (Gl.SO_STATUS k) 2 true).setB Gl.SO_STATE k true
    (s.setOut k { x with onSince := some s.now }).showSwitches k
  else
    let s := (s.setB (Gl.SO_STATUS k) 2 false).setB Gl.SO_STATE k false
    -- a pulse under way runs to its verdict, and its switch stays off (R284)
    let s := s.setOut k { x with openedAt := some s.now, onSince := none }
    let s := (s.setB (Gl.SO_STATUS k) 0 (hs && !pulsing x .hs)).setB (Gl.SO_STATUS k) 1 (ls && !pulsing x .ls)
    match x.onSince with
    | some t => s.sample 3 (2 * (24 + k)) ((s.now - t) / 50 : Nat)
    | none => s

def State.driveOuts (s : State) : State := (List.range 6).foldl (fun s k => s.driveOut k) s

/-- Latch a fault of a safe output (R285): the code, the side, and for a cross fault the other output; both switches open. -/
def State.soFault (s : State) (k code : Nat) (side : Side) (other : Nat) : State :=
  let w := s.rdn (Gl.SO_STATUS k)
  let low := w % 256
  let sd := match side with | .hs => 0 | .ls => 1
  let x := s.out k
  let s := if soFaulted s k then s else
    match x.onSince with
    | some t => s.sample 3 (2 * (24 + k) + 1) ((s.now - t) / 50 : Nat)
    | none => s.sample 3 (2 * (24 + k) + 1) 0
  let s := s.wrn (Gl.SO_STATUS k) (low + 256 + code * 512 + sd * 4096 + other * 8192)
  let s := s.setOut k { s.out k with followUntil := if code = 1 ∨ code = 2 then some (s.now + 25000) else none, followLs := side == .ls }
  let s := if s.rdn Gl.SAFE_STATE_CAUSE ≠ 0 then
      { s with safety := { s.safety with heldFaults := s.safety.heldFaults ||| 2 ^ k } }
    else s
  let s := s.driveOut k
  s.raise 0x0201 k (s.rd (Gl.SO_STATUS k))

/-- A cross fault of outputs j and m (R286): latched on both. -/
def State.crossFault (s : State) (j m : Nat) (side : Side) : State := (s.soFault j 3 side m).soFault m 3 side j

/-- Slot of a switch's pulse (R283). -/
def pulseSlot (s : State) (k : Nat) (side : Side) : Nat :=
  80 * k + (match side with | .hs => 0 | .ls => 40) + (if s.rdn Gl.ROLE = 1 then 20 else 0)

/-- TEST_PULSE (R283, R284): 700 µs into the door tick of its slot, at least 10 ms after a demand change. -/
def execTestPulse (k : Nat) (side : Side) (s : State) : Host.Outcome State Fault Refusal := done s (
  let c := s.rdn Gl.FAST_TICK_COUNT
  let x := s.out k
  (if k < 6 ∧ energised s k ∧ x.pulse = none ∧ c / 50 % 500 = pulseSlot s k side ∧ c % 50 = 35
      ∧ (x.changedAt = none ∨ heldFor x.changedAt s.now 500) then
      (s.setOut k { x with pulse := some (side == .ls, s.now) }).showSwitches k
    else s))

/-- Whether output j undergoes a follow test on this side (R286). DEDUCED: log entry 77. -/
def following (s : State) (j : Nat) (side : Side) : Bool :=
  (s.out j).followLs == (side == .ls) && (match (s.out j).followUntil with | some t => decide (s.now ≤ t) | none => false)

/-- TEST_PULSE_END (R284, R286): 200 µs after its begin. -/
def execTestPulseEnd (k : Nat) (side : Side) (terminalOk supplyHigh : Bool) (loadMa : Nat) (follows : Option Nat) (s : State) :
    Host.Outcome State Fault Refusal := done s (
  let x := s.out k
  match x.pulse with
  | none => s
  | some (ls, start) =>
    if k ≥ 6 ∨ ls ≠ (side == .ls) ∨ s.now < start + 10 then s else
    let s := (s.setOut k { x with pulse := none, loadMa }).showSwitches k
    let open_ := ls && decide (loadMa < 5)
    let s := if ls then s.setB (Gl.SO_STATUS k) 3 open_ else s
    let s := if open_ then s.raise 0x3202 k 0 else s
    let s := if supplyHigh = false ∨ open_ then s.count Gl.PULSES_INCONCLUSIVE
      else if soFaulted s k then s
      else if terminalOk then
        let y := s.out k
        let y := if ls then { y with lsUntested := 0 } else { y with hsUntested := 0 }
        let s := s.setOut k y
        if y.hsUntested < 86400000 ∧ y.lsUntested < 86400000 then s.setB (Gl.SO_STATUS k) 4 false else s
      else s.soFault k (if ls then 2 else 1) side 0
    (match follows with
      | some j => if j < 6 ∧ j ≠ k ∧ following s j side then s.crossFault j k side else s
      | none => s))

/-- SWITCH_STATIC_FAULT (R282): the condition has held for 100 µs. `open_` is a switch that is on and does not conduct; else a
terminal that does not follow a switch that is off. `follows` is the other output of a cross fault (R286). With both switches off, a
terminal that gives no fault of its own undergoes the follow test alone. -/
def execSwitchStaticFault (k : Nat) (side : Side) (open_ : Bool) (follows : Option Nat) (s : State) : Host.Outcome State Fault Refusal := done s (
  let x := s.out k
  let settled := x.changedAt.isNone || heldFor x.changedAt s.now 500
  let isOn := s.bit (Gl.SO_STATUS k) (match side with | .hs => 0 | .ls => 1)
  let hsOn := s.bit (Gl.SO_STATUS k) 0
  let found : Bool := if open_ then isOn && settled
    else match side with
      | .hs => !isOn && x.pulse.isNone
      | .ls => !isOn && x.pulse.isNone && settled && hsOn && decide (5 ≤ x.offLoad)
  let lsOn := s.bit (Gl.SO_STATUS k) 1
  (if k < 6 ∧ soFaulted s k = false ∧ found = true then
      if open_ then s.soFault k 5 side 0
      else match follows with
        | some m => if m < 6 ∧ m ≠ k ∧ energised s m then s.crossFault k m side else s.soFault k (match side with | .hs => 1 | .ls => 2) side 0
        | none => s.soFault k (match side with | .hs => 1 | .ls => 2) side 0
    else if k < 6 ∧ open_ = false ∧ hsOn = false ∧ lsOn = false ∧ energised s k = false ∧ x.pulse = none
        ∧ (match x.followUntil with | some t => decide (t < s.now) | none => true) = true then
      s.setOut k { x with followUntil := some (s.now + 25000), followLs := side == .ls }
    else s))

/-- SO_OVERCURRENT (R281): the switch turns off at once and never retries. -/
def execSoOvercurrent (k : Nat) (side : Side) (s : State) : Host.Outcome State Fault Refusal :=
  done s (if k < 6 ∧ s.bit (Gl.SO_STATUS k) (match side with | .hs => 0 | .ls => 1) ∧ soFaulted s k = false then s.soFault k 4 side 0 else s)

/-- SO_UNTESTED (R284): 24 h of energised time without a passing pulse. -/
def execSoUntested (k : Nat) (side : Side) (s : State) : Host.Outcome State Fault Refusal := done s (
  let x := s.out k
  let n := match side with | .hs => x.hsUntested | .ls => x.lsUntested
  (if k < 6 ∧ 86400000 ≤ n ∧ s.bit (Gl.SO_STATUS k) 4 = false then (s.setB (Gl.SO_STATUS k) 4 true).raise 0x3203 k 0 else s))

/-- SO_FAULT_CLEAR (R287, R297): the entry reads 0, and the clear takes effect at the next door tick. -/
def soClearEffect : Effect := fun n s =>
  if n.toNat ≥ 64 then .error abValue
  else .ok { s with safety := { s.safety with clearing := s.safety.clearing ||| n.toNat } }

def execSoFaultClear (via : Via) (v : Int) (s : State) : Host.Outcome State Fault Refusal :=
  done s (writeNum via 0x5102 4 (.num v) none id soClearEffect s)

/-- The clears in effect (R287). -/
def State.applyClears (s : State) : State :=
  let s' := (List.range 6).foldl (fun s k =>
    if s.safety.clearing.testBit k ∧ s.safety.heldFaults.testBit k = false then
      (s.wrn (Gl.SO_STATUS k) (s.rdn (Gl.SO_STATUS k) % 256)).setOut k { s.out k with followUntil := none }
    else s) s
  { s' with safety := { s'.safety with clearing := 0 } }

/-! ### Channel discrepancy and the safe state (R267, R268) -/

/-- Every axis of the part. -/
def allAxesMask (s : State) : Nat := 2 ^ (3 * s.doorways) - 1

/-- Time stamps of the STO demands that await BRIDGE_OFF (R279). -/
def State.stampSto (s : State) (old : Nat) : State :=
  let new := s.safety.stoA ||| s.safety.stoB
  let sent := (List.range (3 * s.doorways)).foldl (fun m a =>
    if new.testBit a then (if old.testBit a then m else place a s.now (erase a m)) else erase a m) s.safety.stoSent
  { s with safety := { s.safety with stoSent := sent } }

/-- Each channel demands STO of every axis and no output. -/
def State.stoAll (s : State) : State :=
  let m := allAxesMask s
  let old := s.safety.stoA ||| s.safety.stoB
  { s with safety := { s.safety with stoA := m, stoB := m, soA := 0, soB := 0 } }.stampSto old

/-- The safe state with its cause: latched until a device reset. Each channel opens its switches and demands STO of every axis. DEDUCED: log entry 82. -/
def State.safeState (s : State) (cause : Nat) : State :=
  if s.rdn Gl.SAFE_STATE_CAUSE ≠ 0 then s else
  let s := (s.wrn Gl.SAFE_STATE_CAUSE cause).count Gl.CHANNEL_DISCREPANCIES
  (s.stoAll).letGo.driveOuts.raise 0x01C1 0xFF cause

/-- What the channels send at a motion-tick boundary (R265, R266): each toggles its alive signal and feeds its field die. -/
def State.channelSignals (s : State) : State :=
  let f := s.safety
  let x := f.stalls
  let fed := fun (p : Option SafetyPort) => match p with
    | some q => if s.now ≤ q.last + 5 then some { q with last := s.now } else some { since := s.now, last := s.now }
    | none => some { since := s.now, last := s.now }
  { s with safety := { f with
      aliveA := f.aliveA != !x.aliveA, aliveAtA := if x.aliveA then f.aliveAtA else some s.now,
      aliveB := f.aliveB != !x.aliveB, aliveAtB := if x.aliveB then f.aliveAtB else some s.now,
      portA := if x.portA then f.portA else fed f.portA, portB := if x.portB then f.portB else fed f.portB } }

/-- ALIVE_LOST (R267), found by one channel: the alive signal of the other has not toggled for 1 ms. -/
def execAliveLost (by_ : Chan) (s : State) : Host.Outcome State Fault Refusal :=
  let at_ := match by_ with | .A => s.safety.aliveAtB | .B => s.safety.aliveAtA
  done s (if s.safety.inReset = false ∧ heldFor at_ s.now 50 then s.safeState 4 else s)

/-- The frames on the safety port of a die, and whether its switches are open for want of them. -/
def safetyPort (s : State) (die : Nat) : Option SafetyPort := if die = 0 then s.safety.portA else s.safety.portB
def portExpired (s : State) (die : Nat) : Bool := if die = 0 then s.safety.dieA else s.safety.dieB

/-- No frame on a safety port for 500 µs. -/
def portQuiet (s : State) (die : Nat) : Bool := match safetyPort s die with
  | some p => decide (p.last + 25 ≤ s.now)
  | none => true

/-- Frames on a safety port every 100 µs for 20 ms, without a gap. -/
def portSteady (s : State) (die : Nat) : Bool := match safetyPort s die with
  | some p => decide (p.since + 1000 ≤ s.now) && decide (s.now ≤ p.last + 5)
  | none => false

/-- SAFETY_PORT_WATCHDOG (R265, R267): the die opens its switches; with both channels out of reset it is a discrepancy. -/
def execSafetyPortWatchdog (die : Nat) (s : State) : Host.Outcome State Fault Refusal := done s (
  if die ≥ 2 ∨ portQuiet s die = false ∨ portExpired s die then s else
  let s := { s with safety := if die = 0 then { s.safety with dieA := true } else { s.safety with dieB := true } }
  let s := s.driveOuts
  (if s.safety.inReset then s else s.safeState 5))

/-- SAFETY_PORT_RESUMED (R265): 20 ms of frames without a gap; the switches follow the demands again. -/
def execSafetyPortResumed (die : Nat) (s : State) : Host.Outcome State Fault Refusal := done s (
  if die ≥ 2 ∨ portSteady s die = false then s else
  { s with safety := if die = 0 then { s.safety with dieA := false } else { s.safety with dieB := false } })

/-! ### STO demands -/

/-- A mask with a list of bits. -/
def maskOf (l : List Nat) : Nat := l.foldl (fun m i => m ||| 2 ^ i) 0

/-- STO that SF2 and SF5 demand in a channel (R269, R275). -/
def sfDemand (s : State) (ch : Chan) : Nat :=
  let base := match ch with | .A => 0 | .B => 2
  (allDoors s).foldl (fun m d =>
    let side := doorSide s d
    let term := s.safety.side.testBit (base + side) && s.safety.sidePrev.testBit (base + side)
    m ||| (if !contactTaken s d 4 ch || !contactTaken s d 5 ch then maskOf (axesOf s d) else 0)
      ||| (if !term && safeLocked s d ch then maskOf (leavesOf s d) else 0)) 0

/-- STO demands of a channel at a door tick (R269, R275, R292, R518). DEDUCED: log entry 83. -/
def stoDemand (s : State) (ch : Chan) : Nat :=
  if s.rdn Gl.SET_STATE ≠ 1 ∨ s.rdn Gl.SAFE_STATE_CAUSE ≠ 0 ∨ s.safety.debugSafe ∨ s.forcedSafe then allAxesMask s else
  (allDoors s).foldl (fun m d => m ||| (if s.safety.sf4.testBit d || s.safety.sf7.testBit d then maskOf (axesOf s d) else 0)
    ||| (if s.safety.sf3.testBit d then maskOf (leavesOf s d) else 0)) (sfDemand s ch)

/-- STO of doorways demanded between door ticks by SF3, SF4 or SF7. -/
def State.stoNow (s : State) (axes : List Nat) : State :=
  let old := s.safety.stoA ||| s.safety.stoB
  let m := maskOf axes
  { s with safety := { s.safety with stoA := s.safety.stoA ||| m, stoB := s.safety.stoB ||| m } }.stampSto old

/-- STO_UNCONFIRMED (R279): no BRIDGE_OFF within 3 fast ticks of the demanding frame's apply instant, which lies two fast ticks
after the demand. -/
def execStoUnconfirmed (a : Nat) (s : State) : Host.Outcome State Fault Refusal := done s (
  let d := doorOf a
  (if (axesOf s d).contains a ∧ linkUp s d ∧ heldFor (lookup a s.safety.stoSent) s.now 5 then
      let s := { s with safety := { s.safety with stoSent := erase a s.safety.stoSent } }
      ((s.setB Gl.STO_UNCONFIRMED_MASK d true).raise 0x01C2 d a).faultDoor d 7
    else s))

/-- BRIDGE_OFF reads 1 in an uplink frame (R279). DEDUCED: log entry 76. -/
def State.stoConfirmed (s : State) (a : Nat) : State := { s with safety := { s.safety with stoSent := erase a s.safety.stoSent } }

/-! ### Release of the demands of SF3, SF4 and SF7 (R566) -/

/-- Speed over the last 4 motion ticks, as the position change in nm over 400 µs (R277), positive when opening. -/
def safeMove (x : Axis) : Int := x.sf4Pos.headD 0 - x.sf4Pos.getD 4 (x.sf4Pos.headD 0)

def clearBit (m i : Nat) : Nat := if m.testBit i then m - 2 ^ i else m

/-- Release once the doorway is in FAULT and the trigger has ended. -/
def State.releaseDemands (s : State) : State :=
  (allDoors s).foldl (fun s d =>
    if doorState s d ≠ 10 then s else
    let ax := axesOf s d
    let f := s.safety
    let f := { f with sf3 := clearBit f.sf3 d }
    let f := if ax.all (fun a => decide (3 ≤ (s.axis a).sf4Ok)) then { f with sf4 := clearBit f.sf4 d } else f
    let f := if ax.all (fun a => (s.axis a).sf7Held) then { f with sf7 := clearBit f.sf7 d } else f
    { s with safety := f }) s

/-- Whether a channel demands STO of an axis of a doorway for one of the reasons of R566: the cause SAFETY_STO. -/
def stoCausePresent (s : State) (d : Nat) : Bool :=
  (axesOf s d).any (fun a => s.safety.sfA.testBit a || s.safety.sfB.testBit a) || s.rdn Gl.SAFE_STATE_CAUSE != 0
    || s.safety.debugSafe || s.safety.sf3.testBit d || s.safety.sf4.testBit d || s.safety.sf7.testBit d

/-! ### The door tick of the channels -/

/-- A withdrawn side ends SF7's monitoring when its term is true again (R278). -/
def State.endMonitoring (s : State) : State :=
  (allAxes s).foldl (fun s a =>
    let side := doorSide s (doorOf a)
    if s.safety.side.testBit side ∧ s.safety.side.testBit (2 + side) then
      let x := s.axis a
      if x.sf7Until.isSome ∨ x.sf7Ref.isSome then
        s.setAxis a { x with sf7Until := none, sf7Ref := none, sf7Count := 0, sf7Fast := 0, sf7Held := x.sf7Held && s.safety.sf7.testBit (doorOf a) }
      else s
    else s) s

/-- Release and zero speed in both channels, and the side terms of SF2 (R57, R269, R274). -/
def State.formTerms (s : State) : State :=
  let ra := channelTerms s .A
  let rb := channelTerms s .B
  let side := (if sideTerm ra 0 then 1 else 0) + (if sideTerm ra 1 then 2 else 0) + (if sideTerm rb 0 then 4 else 0)
    + (if sideTerm rb 1 then 8 else 0)
  let na := nslBits s .A
  let nb := nslBits s .B
  let f := s.safety
  let s := { s with safety := { f with relA := ra, relB := rb, sidePrev := f.side, side, nslExA := na, nslExB := nb } }
  { s with cab := { s.cab with seen := s.cab.bits } }

/-- Bytes of an exchange record. -/
def exBytes (r : ExRecord) : List ByteN :=
  r.contacts.map (· % 256) ++ leBytes 3 r.pairs ++ [r.rel % 256, r.so % 256] ++ leBytes 6 r.sto ++ leBytes 4 r.check ++ leBytes 4 r.ticks

/-- The record of n doorways that bytes spell. -/
def exOf (n : Nat) (bs : List ByteN) : ExRecord :=
  { contacts := bs.take n, pairs := leVal ((bs.drop n).take 3), rel := bs.getD (n + 3) 0, so := bs.getD (n + 4) 0,
    sto := leVal ((bs.drop (n + 5)).take 6), check := leVal ((bs.drop (n + 11)).take 4), ticks := leVal ((bs.drop (n + 15)).take 4) }

/-- A channel's record as the other one takes it, `none` where it is missing, late, or fails its CRC (R266, R267). -/
def exTaken (w : Wire) (r : ExRecord) : Option ExRecord :=
  if w.lost then none
  else if w.flips = [] then some r
  else
    let bs := exBytes r
    let got := w.flips.foldl (fun l f => l.set f.1 ((l.getD f.1 0 ^^^ f.2) % 256)) (bs ++ leBytes 4 (crc32 bs))
    let body := got.take bs.length
    if crc32 body = leVal (got.drop bs.length) then some (exOf r.contacts.length body) else none

/-- The cross-compare of the last door tick's records (R238, R266, R267): each channel takes the other's readings and holds its own record
against the other's. With the cause of a discrepancy, 0 for none; demands that differ are one where they differed at the last compare
too. DEDUCED: log entry 211. -/
def State.crossCompare (s : State) (x : Exchange) : State × Nat :=
  match s.safety.recA, s.safety.recB with
  | some ra, some rb => match exTaken x.a ra, exTaken x.b rb with
    | some ga, some gb =>
      let f := s.safety
      let ds := (ra.sto ^^^ gb.sto) ||| (rb.sto ^^^ ga.sto)
      let dd := (ra.so ^^^ gb.so) ||| (rb.so ^^^ ga.so)
      let s := (List.range s.doorways).foldl (fun s d =>
        s.setCon d { s.con d with exA := ga.contacts.getD d 0, exB := gb.contacts.getD d 0 }) s
      let s := { s with pairs := { s.pairs with exA := ga.pairs, exB := gb.pairs }, safety := { f with stoDiff := ds, soDiff := dd } }
      (s, if ds &&& f.stoDiff ≠ 0 ∨ dd &&& f.soDiff ≠ 0 then 1
        else if ra.check ≠ gb.check ∨ rb.check ≠ ga.check then 2
        else if ra.ticks ≠ gb.ticks ∨ rb.ticks ≠ ga.ticks then 3 else 0)
    | _, _ => (s, 3)
  | _, _ => (s, 0)

/-- The exchange records of this door tick. -/
def State.formRecords (s : State) : State :=
  let f := s.safety
  let of := fun (ch : Chan) (rel so sto : Nat) (k : Nat) =>
    some { contacts := (List.range s.doorways).map (fun d => contactMask s d ch), pairs := pairMask s ch, rel, so, sto, check := s.rdn k,
           ticks := s.rdn Gl.FAST_TICK_COUNT : ExRecord }
  { s with safety := { f with recA := of .A f.relA f.soA f.stoA Gl.CHECK_VALUE, recB := of .B f.relB f.soB f.stoB Gl.CHECK_VALUE_B } }

/-- Demands of both channels (R266). -/
def State.formDemands (s : State) : State :=
  let f := s.safety
  let da := stoDemand s .A
  let db := stoDemand s .B
  let ta := soTerms s .A
  let tb := soTerms s .B
  let oa := if outputsAllowed s then ta else 0
  let ob := if outputsAllowed s then tb else 0
  let s := { s with safety := { f with stoA := da, stoB := db, soA := oa, soB := ob, sfA := sfDemand s .A, sfB := sfDemand s .B } }
  ((s.stampSto (f.stoA ||| f.stoB)).wrn Gl.SO_TERMS_A ta).wrn Gl.SO_TERMS_B tb

/-- Energised door ticks of each switch since its last passing pulse (R284). -/
def State.countUntested (s : State) : State :=
  (List.range 6).foldl (fun s k =>
    let x := s.out k
    if energised s k then s.setOut k { x with hsUntested := x.hsUntested + 1, lsUntested := x.lsUntested + 1 } else s) s

/-- The channels' evaluation of a door tick (R236 to R248, R266 to R269): the cross-compare of the last exchange, terms, STO demands,
output demands, outputs, the next exchange. -/
def State.safetyTick (s : State) (x : Exchange) : State :=
  let (s, cause) := s.crossCompare x
  let s := s.applyClears.formTerms.endMonitoring.releaseDemands.formDemands
  let s := s.wrn Gl.SAFE_LOCKED_MASK (maskOf ((allDoors s).filter (fun d => safeLocked s d .A && safeLocked s d .B)))
  let s := s.wrn Gl.SAFE_STEP_MASK (maskOf ((allDoors s).filter (fun d => safeStep s d .A && safeStep s d .B)))
  let s := if cause = 0 then s else s.safeState cause
  s.driveOuts.countUntested.formRecords

/-- On the expiry of the cab connection's watchdog each channel opens at once the outputs whose term has fallen (R274). -/
def State.cabLost (s : State) : State :=
  let ra := channelTerms s .A
  let rb := channelTerms s .B
  let f := s.safety
  let s := { s with safety := { f with relA := ra, relB := rb } }
  { s with safety := { s.safety with soA := f.soA &&& soTerms s .A, soB := f.soB &&& soTerms s .B } }.driveOuts

/-! ### Motion ticks of the channels (R272, R276 to R278) -/

/-- F_safe of R276 in mN. -/
def safeForce (s : State) (a : Nat) (closing : Bool) : Int :=
  let m := motorForce s a
  let mass := massForce s a
  if closing then -m + max 0 mass else m + max 0 (-mass)

/-- Whether a leaf is in a move, and in which direction. -/
def leafMove (s : State) (a : Nat) : Option Bool :=
  match (s.door (doorOf a)).move with
  | some m => if !m.ended && (m.axes.any (·.a == a) || m.seeks.any (·.a == a)) then some (closingNow s a) else none
  | none => if manual s a && axisMoving s a then some (closingNow s a) else none

/-- DEPTH and DEPTH_FAILED of the channels (R276): channel A's own count of a doorway's boxes, and a sensor that has failed in their view;
under CREEP the depth part of SF3 is not available. -/
def safeDepth (s : State) (d : Nat) : Bool :=
  !depthMuted s d && s.pn (Gl.DEPTH_FAIL_ACTION d) == 0
    && (sensorsOf d).any (fun n => sensorEnabled s n && !(s.sensor n).ownDown && (s.sensor n).own)
def safeDepthFailed (s : State) (d : Nat) : Bool :=
  !depthMuted s d && s.pn (Gl.DEPTH_FAIL_ACTION d) == 0 && (sensorsOf d).any (fun n => sensorEnabled s n && (s.sensor n).ownDown)

/-- A condition of R218 as the channels find it: channel A on the frames that it counted, channel B on the frames that were processed. -/
def ownCondition (s : State) (n : Nat) (x : Sensor) : Bool :=
  depthCondition s n 1 || depthCondition s n 3 || depthCondition s n 4 || decide (3 ≤ x.ownBad)
    || (match x.ownAt with | some t => decide (t + 5000 ≤ s.now) | none => decide (5000 ≤ s.now))

/-- The counts of a sensor that channel A completes, and the sensor's failure in the channels. DEDUCED: log entry 71. -/
def State.ownCount (s : State) (n : Nat) : State :=
  if sensorEnabled s n = false then s else
  let x := s.sensor n
  let got := x.ownNext.filter (fun r => decide (r.1 ≤ s.now))
  let x := got.foldl (fun (x : Sensor) r => { x with
    own := r.2.1, ownAt := some s.now, ownBad := if r.2.2 then x.ownBad + 1 else 0, ownGood := if r.2.2 then 0 else x.ownGood + 1 })
    { x with ownNext := x.ownNext.filter (fun r => decide (s.now < r.1)) }
  let bad := ownCondition s n x
  s.setSensor n { x with ownDown := bad || (x.ownDown && decide (x.ownGood < 3)), ownGood := if bad then 0 else x.ownGood }

/-- The backstop check of SF3: a leaf still carries current in the direction of travel above a tenth of RUN_CURRENT. -/
def backstopFails (s : State) (d : Nat) (opening : Bool) : Bool :=
  (leavesOf s d).any (fun a =>
    let i := (s.axis a).latQ
    decide ((if opening then i else -i) > 100 * (s.pn (Ax.RUN_CURRENT a) : Int)))

/-- SF3's criteria of one leaf: the detections of this boundary, as backstop checks that fall due. -/
def State.sf3Leaf (s : State) (a : Nat) : State :=
  let d := doorOf a
  let x := s.axis a
  match leafMove s a with
  | none => s.setAxis a { x with safeAbs := 0, safeEn := 0, safeMask := 0 }
  | some closing =>
    let ab := decide (safeForce s a closing > 100 * (s.pn (Gl.FORCE_LIMIT a) : Int))
    let lim := s.pn (Gl.ENERGY_LIMIT a)
    let en := lim != 0 && decide (s.pn (Ax.MOVING_MASS a) * Int.natAbs x.speed ^ 2 > lim * (2 * 10 ^ 18))
    let na := if ab then min 3 (x.safeAbs + 1) else 0
    let ne := if en then min 3 (x.safeEn + 1) else 0
    let mask := (if na = 3 then 1 else 0) + (if ne = 3 then 2 else 0) + (if closing ∧ edgeOperated s a then 4 else 0)
      + (if closing ∧ safeDepth s d then 8 else 0) + (if closing ∧ safeDepthFailed s d then 16 else 0)
    let new := fun (i : Nat) => mask.testBit i && !x.safeMask.testBit i
    let add := fun (t : Nat) (l : List Backstop) => l ++ [{ d, at_ := s.now + t, opening := !closing }]
    let bs := s.safety.backstops
    let bs := if new 0 then add 30 bs else bs
    let bs := if new 1 then add 30 bs else bs
    let bs := if new 2 then add 15 bs else bs
    let bs := if new 3 then add 0 bs else bs
    let bs := if new 4 then add 0 bs else bs
    { s.setAxis a { x with safeAbs := na, safeEn := ne, safeMask := mask } with safety := { s.safety with backstops := bs } }

/-- The backstop checks that are due. -/
def State.backstopTick (s : State) : State :=
  let dueNow := s.safety.backstops.filter (fun b => decide (b.at_ ≤ s.now))
  let s := { s with safety := { s.safety with backstops := s.safety.backstops.filter (fun b => decide (s.now < b.at_)) } }
  dueNow.foldl (fun s b =>
    if backstopFails s b.d b.opening then
      let s := { s with safety := { s.safety with sf3 := s.safety.sf3 ||| 2 ^ b.d } }
      (s.stoNow (leavesOf s b.d)).faultDoor b.d 7
    else s) s

/-- SF4 of one axis (R277): its speed at this boundary, and the counts of R277 and R566. -/
def State.sf4Axis (s : State) (a : Nat) : State :=
  let x := s.axis a
  let x := { x with sf4Pos := (x.posNm :: x.sf4Pos).take 5 }
  let fast := decide (Int.natAbs (safeMove x) > 400 * s.pn (Gl.SAFE_SPEED_LIMIT a))
  let x := { x with sf4Count := if fast && !axisSto s a then x.sf4Count + 1 else 0, sf4Ok := if fast then 0 else min 3 (x.sf4Ok + 1) }
  let s := s.setAxis a x
  if x.sf4Count = 3 then
    let d := doorOf a
    let s := { s with safety := { s.safety with sf4 := s.safety.sf4 ||| 2 ^ d } }
    (s.stoNow (axesOf s d)).faultDoor d 7
  else s

/-- An SF7 trip (R278). -/
def State.sf7Trip (s : State) (a : Nat) : State :=
  let d := doorOf a
  let s := { s with safety := { s.safety with sf7 := s.safety.sf7 ||| 2 ^ d } }
  let s := (axesOf s d).foldl (fun s b => s.setAxis b { s.axis b with sf7Held := false }) s
  let s := s.setAxis a { s.axis a with sf7Until := none, sf7Ref := none, sf7Count := 0, sf7Fast := 0 }
  (s.stoNow (axesOf s d)).faultDoor d 7

/-- An axis of a doorway that SF7 holds: where its trigger has ended, its new reference point is latched (R566). -/
def State.sf7Ended (s : State) (a : Nat) : State :=
  let x := s.axis a
  if s.safety.sf7.testBit (doorOf a) ∧ x.sf7Held = false ∧ safeMove x < 2000 then
    s.setAxis a { x with sf7Held := true, sf7Until := none, sf7Ref := some x.posNm, sf7Count := 0, sf7Fast := 0 }
  else s

/-- SF7 of one axis at a motion tick (R278). An axis in STO is not monitored, but keeps a reference point that R566 latched. -/
def State.sf7Axis (s : State) (a : Nat) : State :=
  let s := s.sf7Ended a
  let x := s.axis a
  let side := doorSide s (doorOf a)
  let off := !(s.safety.side.testBit side && s.safety.side.testBit (2 + side))
  if off = false ∨ axisSto s a then
    (if off ∧ x.sf7Held then s.setAxis a { x with sf7Ref := x.sf7Ref.map (fun r => min r x.posNm) }
      else if x.sf7Until.isSome ∨ x.sf7Ref.isSome then s.setAxis a { x with sf7Until := none, sf7Ref := none, sf7Count := 0, sf7Fast := 0 } else s)
  else
    let x := { x with sf7Held := false }
    let v := safeMove x
    match x.sf7Until, x.sf7Ref with
    | none, none =>
      if v < 2000 then s.setAxis a { x with sf7Ref := some x.posNm, sf7Count := 0 }
      else s.setAxis a { x with sf7Until := s.after (s.pn (Gl.SF7_STOP_TIME a)), sf7Start := v, sf7Fast := 0 }
    | some _, _ =>
      if v < 2000 then s.setAxis a { x with sf7Until := none, sf7Ref := some x.posNm, sf7Count := 0, sf7Fast := 0 }
      else
        let n := if v > x.sf7Start + 8000 then x.sf7Fast + 1 else 0
        let s := s.setAxis a { x with sf7Fast := n }
        if n = 3 then s.sf7Trip a else s
    | none, some r =>
      let r := min r x.posNm
      let n := if x.posNm - r > 5000000 then x.sf7Count + 1 else 0
      let s := s.setAxis a { x with sf7Ref := some r, sf7Count := n }
      if n = 14 then s.sf7Trip a else s

/-- SF7_STOP_WINDOW_EXPIRY (R278): the window ends with the axis still at or above 5 mm/s. -/
def execSf7StopWindowExpiry (a : Nat) (s : State) : Host.Outcome State Fault Refusal := done s (
  let x := s.axis a
  (if due x.sf7Until s.now ∧ 2000 ≤ safeMove x then s.sf7Trip a else s))

/-- The channels' work in a motion tick. -/
def State.safetyMotion (s : State) : State :=
  let s := (List.range (2 * s.doorways)).foldl (fun s n => s.ownCount n) s
  let s := (allAxes s).foldl (fun s a => (if isLeaf s a then s.sf3Leaf a else s).sf4Axis a |>.sf7Axis a) s
  s.backstopTick

/-! ### Field supplies that open safe outputs; the proof test -/

/-- VFIELD_MISSING (R374, R375, R18): below 9 V enters, above 10 V leaves. -/
def execVfieldMissing (die : Nat) (enter : Bool) (mv : Nat) (s : State) : Host.Outcome State Fault Refusal := done s (
  let b := 2 * die + 1
  (if die < 2 ∧ enter ∧ mv < 9000 ∧ s.bit Gl.FIELD_STATUS b = false then
      let s := (s.showSupply die mv).setB Gl.FIELD_STATUS b true
      let s := (s.latch Gl.FIELD_STATUS (8 + b) (Gl.FIELD_REPEATS b)).raise 0x0442 die mv
      (s.dieInactive die).driveOuts
    else if die < 2 ∧ enter = false ∧ 10000 < mv ∧ s.bit Gl.FIELD_STATUS b then
      (s.showSupply die mv).setB Gl.FIELD_STATUS b false
    else s))

/-- PROOF_TEST_DONE (R294): the Maintainer writes 1. DEDUCED: log entry 80. -/
def proofEffect : Effect := fun n s =>
  if n = 0 then .ok s
  else if n = 1 then
    let s := (s.wrn Gl.LAST_PROOF_TEST s.secs).wr Gl.PROOF_TEST_DUE (s.rd Gl.PROOF_TEST_INTERVAL)
    .ok { s with safety := { s.safety with proofRaised := none } }
  else .error abValue

def execProofTestDone (via : Via) (v : Int) (s : State) : Host.Outcome State Fault Refusal :=
  done s (writeNum via 0x5104 2 (.num v) none id proofEffect s)

/-- PROOF_TEST_DUE (R294): the event when the entry reaches 0, again every 24 h of operation. -/
def execProofTestDue (s : State) : Host.Outcome State Fault Refusal := done s (
  let again : Bool := match s.safety.proofRaised with
    | none => true
    | some t => decide (t + 86400 ≤ s.secs)
  (if s.rdn Gl.PROOF_TEST_DUE == 0 && again then
      ({ s with safety := { s.safety with proofRaised := some s.secs } }).raise 0x31C4 0xFF (s.rd Gl.LAST_PROOF_TEST)
    else s))

end Sys2Proof.Machine
end

