-- ==== Sys2Proof/Machine/Link.lean ====
section
/-!
DEFINITION. The doorway links at the D16 (chapter 5): the downlink frame of a fast tick, uplink frames, training, the management
exchanges, the link's states and its losses.
-/
namespace Sys2Proof.Machine

def State.link (s : State) (d : Nat) : Link := getD {} s.links d
def State.setLink (s : State) (d : Nat) (x : Link) : State := { s with links := putD {} s.links d x }

/-- States of R189. -/
def lOff : Nat := 0
def lDown : Nat := 1
def lTraining : Nat := 2
def lConfig : Nat := 3
def lReady : Nat := 4
def lUp : Nat := 5
def lLost : Nat := 6
def lListen : Nat := 7

def linkState (s : State) (d : Nat) : Nat := s.rdn (Lk.LINK_STATE d)

/-- A link that sends no data frames shows neither HOLDER nor SHADOWING (R193). -/
def State.noFrames (s : State) (d : Nat) : State := (s.setB (Lk.LINK_STATUS d) 1 false).setB (Lk.LINK_STATUS d) 2 false

/-- Enter a link state; LINK_STATUS [0] follows. -/
def State.toLink (s : State) (d st : Nat) : State :=
  let s := (s.wrn (Lk.LINK_STATE d) st).setB (Lk.LINK_STATUS d) 0 (st == lUp)
  if st < lConfig then s.noFrames d else s

/-! ### Losses (R178, R190, R191) -/

/-- Events, the doorway's fault and the counters of a link that fails with a cause. DESIGN CHOICE: log entry 209. -/
def State.linkFailed (s : State) (d cause : Nat) : State :=
  let st := linkState s d
  let s := s.wrn (Lk.LINK_CAUSE d) cause
  let s := if st = lUp ∨ st = lListen then s.count (Lk.LINK_LOSSES d) else s
  let s := if st = lTraining ∨ st = lConfig ∨ st = lReady then s.count (Lk.TRAIN_FAILURES d) else s
  let s := if s.rdn (Dr.TABLE_STATE d) = 1 then s.wr (Dr.TABLE_STATE d) 3 else s
  if s.holds then (s.raise 0x13C1 d cause).faultDoor d (if 7 ≤ cause ∧ cause ≤ 10 then 9 else 1)
  else if st = lListen then s.raise 0x33C2 d cause
  else s

/-- The link's exchange and resume are over. -/
def Link.idle (x : Link) : Link := { x with out := none, queue := [], exUntil := none, ready := 0, resumed := none, train := none }

/-- No node is connected (R149). -/
def State.clearScales (s : State) (d : Nat) : State :=
  [0, 1, 2].foldl (fun s k => (s.wr (Ax.V_FULLSCALE (3 * d + k)) 0).wr (Ax.I_FULLSCALE (3 * d + k)) 0) s

/-- Entry into LOST with a cause; RETRAIN_DELAY begins. -/
def State.loseLink (s : State) (d cause : Nat) : State :=
  let s := (s.linkFailed d cause).clearScales d
  let s := s.setLink d { (s.link d).idle with retrainAt := s.after (s.rdn (Lk.RETRAIN_DELAY d)) }
  s.toLink d lLost

/-- LINK_LOST (R178): it acts while its cause holds, in UP, and in LISTEN for missing frames. -/
def execLinkLost (d cause : Nat) (s : State) : Host.Outcome State Fault Refusal := done s (
  let x := s.link d
  let st := linkState s d
  let holds : Bool := match cause with
    | 4 => decide (8 ≤ x.missing) && (st == lUp || st == lListen)
    | 5 => decide (2 ≤ x.echoRun) && st == lUp
    | 6 => x.status / 64 % 8 == 1 && x.missing == 0 && st == lUp
    | _ => false
  (if d < 16 ∧ holds = true then s.loseLink d cause else s))

/-! ### Training (R179, R180, R191) -/

/-- A training frame at a D16's receiver: the step, its count and what the steps measure. LOCK ends with 64 consecutive valid frames
in each direction: the far end reports its own 64 by RX_ERRORS 0. `eye` chooses among the levels that were free of errors: the margins
that decide are analog. DEDUCED: log entry 63. DEDUCED: log entry 186. -/
def Train.frame (t : Train) (f : TrainFrame) (ok : Bool) (eye : Nat) : Train :=
  match t.step with
  | 1 =>
    let t := t.lockFrame f ok
    if t.count < 64 ∨ ok = false ∨ f.rxErrors ≠ 0 then t else { t with step := 2, count := 0, bad := [], errors := 0 }
  | 2 =>
    let t := t.sweepFrame f ok
    if t.count < 1024 then t
    else { t with step := 3, count := 0, delaySum := 0, errors := 0,
                  request := if t.good = [] then 3 else t.good.getD (eye % t.good.length) 3 }
  | 3 =>
    let t := { t with errors := min 255 (t.errors + trainErrs f ok) }
    if ok = false then t
    else
      let t := { t with count := t.count + 1, delaySum := t.delaySum + f.delayNs, asked := f.reqLevel % 4 }
      if t.count < 64 then t else { t with step := 4 }
  | _ => t

/-- The excess of R158 averaged over 64 frames, to 4 ns. DEDUCED: log entry 64. -/
def Train.delay (t : Train) : Nat := (t.delaySum / 64 + 2) / 4 * 4

/-- A new training run, in DOWN with character lock (R189). -/
def State.startTraining (s : State) (d : Nat) : State :=
  let x := s.link d
  if x.charLock then (s.setLink d { x with train := some { started := s.now }, retrainAt := none }).toLink d lTraining
  else (s.setLink d { x with train := none, retrainAt := none }).toLink d lDown

/-- A doorway link's receiver gains character lock. -/
def State.linkLock (s : State) (d : Nat) : State :=
  let s := s.setLink d { s.link d with charLock := true }
  if linkState s d = lDown then s.startTraining d else s

/-- A doorway link's receiver loses character lock (R189, R190): LOST with cause NO_SIGNAL, and DOWN at the end of RETRAIN_DELAY while
there is no lock. A link that is LOST keeps the cause of its entry. DEDUCED: log entry 187. -/
def State.linkUnlock (s : State) (d : Nat) : State :=
  let st := linkState s d
  let s := s.setLink d { s.link d with charLock := false, lastSof := none }
  if st = lOff ∨ st = lDown ∨ st = lLost then s else s.loseLink d 1

/-- The SOF of a frame received on a doorway link (R154). -/
def State.tookSof (s : State) (d sof : Nat) : State :=
  let x := s.link d
  let s := if sofMisplaced x.lastSof sof then s.count (Lk.FRAMING_ERRORS d) else s
  s.setLink d { s.link d with lastSof := some sof }

/-- A training frame on a doorway link. DEDUCED: log entry 62. -/
def State.linkTrain (s : State) (d : Nat) (f : TrainFrame) : State :=
  let ok := trainOk (s.link d).lastSof f
  let s := if linkState s d = lOff then s else s.tookSof d f.sof
  match linkState s d == lTraining, (s.link d).train with
  | true, some t =>
    let (eye, s) := s.fresh
    let t' := t.frame f ok eye
    let s := s.setLink d { s.link d with train := some t' }
    if t.step = 3 ∧ ok then (s.wrn (Lk.TX_PREEMPH d) t'.level).wrn (Lk.NODE_TX_PREEMPH d) (f.txLevel % 4) else s
  | _, _ => s

/-- RETRAIN_DELAY ends (R191). -/
def execRetrainDelayExpiry (d : Nat) (s : State) : Host.Outcome State Fault Refusal :=
  done s (if d < 16 ∧ linkState s d = lLost ∧ due (s.link d).retrainAt s.now then s.startTraining d else s)

/-! ### Management exchanges (R182, R183, R187 to R189) -/

/-- The next message of the exchange goes out under the next tag. -/
def State.nextMgmt (s : State) (d : Nat) : State :=
  let x := s.link d
  match x.queue with
  | [] => s.setLink d { x with out := none }
  | m :: r =>
    let t := x.tag % 255 + 1
    s.setLink d { x with tag := t, queue := r, out := some { tag := t, msg := m, sentAt := s.now } }

/-- The table in the order of R187: entry i at bytes 2i, 2i + 1, most significant byte first. -/
def linkTable (s : State) (d : Nat) : List ByteN :=
  let bs := tableBytes s d
  (List.range 1536).flatMap (fun i => [bs.getD (2 * i + 1) 0, bs.getD (2 * i) 0])

/-- Messages of a table load (R187). -/
def tableLoad (table : List ByteN) (crc : Nat) : List MgmtMsg :=
  (List.range 8).map (fun i => ({ op := 0x10, addr := 384 * i, data := (table.drop (384 * i)).take 384 } : MgmtMsg))
    ++ [{ op := 0x11, data := beBytes 4 crc }]

/-- The configuration block (R185): configured axes, two-phase axes, enabled sensors. -/
def configBlock (s : State) (d : Nat) : List ByteN :=
  let en := (axesOf s d).foldl (fun m a => m + 2 ^ roleOf a) 0
  let two := (axesOf s d).foldl (fun m a => if s.pn (Ax.MOTOR_TYPE a) = 1 then m + 2 ^ roleOf a else m) 0
  let sen := (sensorsOf d).foldl (fun m n => if sensorEnabled s n then m + 2 ^ (n % 2) else m) 0
  [en, two, sen, 0, 0, 0, 0, 0]

/-- SENSOR_WRITE of an enabled sensor. The manual gives no content: one byte that nothing constrains. -/
def State.sensorWrites (s : State) (d : Nat) : List MgmtMsg × State :=
  (sensorsOf d).foldl (fun (acc : List MgmtMsg × State) n =>
    if sensorEnabled acc.2 n then
      let (v, s) := acc.2.fresh
      (acc.1 ++ [{ op := 0x30, addr := n % 2, data := [v % 256] }], s)
    else acc) ([], s)

/-- An exchange begins: its timeout and its retries are those of this moment (R183, R192). -/
def State.startExchange (s : State) (d : Nat) (q : List MgmtMsg) : State :=
  (s.setLink d { s.link d with queue := q, exUntil := s.after (s.rdn (Lk.NODE_CONFIG_TIMEOUT d)),
                               exRetries := s.rdn (Lk.MGMT_RETRIES d) }).nextMgmt d

/-- TABLE_CRC and TABLE_STATE LOADING at the start of a load (R122). DEDUCED: log entry 69. -/
def State.beginLoad (s : State) (d crc : Nat) : State := (s.wrn (Dr.TABLE_CRC d) crc).wr (Dr.TABLE_STATE d) 1

/-- Entry into CONFIG (R189). -/
def State.enterConfig (s : State) (d : Nat) : State :=
  let s := s.setLink d { (s.link d).idle with missing := 0, echoRun := 0, retrainAt := none }
  let s := s.toLink d lConfig
  let common : List MgmtMsg := [{ op := 0x40, data := beBytes 2 (s.rdn (Lk.TIMING_ADVANCE d)) }, { op := 0x01 }, { op := 0x02, addr := 0 },
    { op := 0x02, addr := 1 }, { op := 0x02, addr := 2 }, { op := 0x02, addr := 3 }]
  let table := linkTable s d
  let crc := crc32 table
  if s.holds then
    let (sw, s) := s.sensorWrites d
    (s.beginLoad d crc).startExchange d (common ++ [{ op := 0x20, data := configBlock s d }] ++ tableLoad table crc ++ sw)
  else (s.wrn (Dr.TABLE_CRC d) crc).startExchange d (common ++ [{ op := 0x12 }])

/-- A reload of the table outside CONFIG (R122): the holder loads, in READY or UP. -/
def State.reloadTable (s : State) (d : Nat) : State :=
  let x := s.door d
  if x.tableReload = false then s else
  let st := linkState s d
  if st = lReady ∨ st = lUp ∨ st = lListen then
    if (s.link d).out.isSome then s else
    let s := s.setDoor d { x with tableReload := false }
    let table := linkTable s d
    let crc := crc32 table
    if st ≠ lListen then (s.beginLoad d crc).startExchange d (tableLoad table crc)
    else (s.wrn (Dr.TABLE_CRC d) crc).startExchange d [{ op := 0x12 }]
  -- a link start loads the table anyway
  else if st = lConfig then (s.setDoor d { x with tableReload := false }).enterConfig d
  else s.setDoor d { x with tableReload := false }

/-- Training of a doorway link is done (R180): TIMING_ADVANCE is 2c, at most 400 ns. -/
def State.linkTrained (s : State) (d : Nat) : State :=
  match linkState s d == lTraining, (s.link d).train with
  | true, some t =>
    if t.step ≠ 4 then s
    else if 400 < t.delay then s.loseLink d 3
    else (s.wrn (Lk.TIMING_ADVANCE d) t.delay).enterConfig d
  | _, _ => s

/-- A training run of a doorway link that is not complete within 100 ms (R180). -/
def State.linkTrainLate (s : State) (d : Nat) : State :=
  match linkState s d == lTraining, (s.link d).train with
  | true, some t => if t.started + 5000 ≤ s.now then s.loseLink d 2 else s
  | _, _ => s

/-- The exchange is complete: out of CONFIG into READY or LISTEN. DEDUCED: log entry 68. -/
def State.exchangeDone (s : State) (d : Nat) : State :=
  let s := s.setLink d { s.link d with exUntil := none, ready := 0, resumed := none }
  if linkState s d = lConfig then s.toLink d (if s.holds then lReady else lListen) else s

/-- What the node's refusal or an unfit answer does: the link is lost with the cause. -/
def State.identified (s : State) (d : Nat) (bs : List ByteN) : State :=
  let v := fun (i : Nat) => beVal ((bs.drop i).take 4)
  let s := (s.wrn (Lk.NODE_VENDOR d) (v 0)).wrn (Lk.NODE_PRODUCT d) (v 4)
  if s.rdn (Lk.NODE_SERIAL d) = v 8 then s else
  let s := ((s.wrn (Lk.NODE_SERIAL d) (v 8)).latch (Lk.LINK_STATUS d) 8 (Lk.NODE_CHANGED_REPEATS d)).raise 0x33C3 d (v 8)
  let s := s.setDoor d { s.door d with peaksOpen := [], peaksClose := [] }
  let s := (s.wr (Dr.START_PEAK_OPEN d) 0).wr (Dr.START_PEAK_CLOSE d) 0
  (leavesOf s d).foldl (fun s a => if configured s d then s.resetEnvelopes a 2 true true else s) s

/-- READ_CAPS of an axis (R184, R188): the full scales, and whether the node is fit. DESIGN CHOICE: log entry 210. -/
def State.axisCaps (s : State) (d k : Nat) (bs : List ByteN) : State :=
  let a := 3 * d + k
  let v := beVal (bs.take 4)
  let i := beVal ((bs.drop 4).take 4)
  let s := (s.wrn (Ax.V_FULLSCALE a) v).wrn (Ax.I_FULLSCALE a) i
  let phases := bs.getD 9 0
  let bad := (axesOf s d).contains a && (bs.getD 8 0 == 0 || v == 0 || i == 0
    || !phases.testBit (if s.pn (Ax.MOTOR_TYPE a) = 1 then 1 else 0))
  -- a full scale below what the limits ask for clamps them (R134, R149)
  let clamped := (axesOf s d).contains a && (decide (95 * i < 100 * s.pn (Ax.RUN_CURRENT a)) || decide (i < s.pn (Ax.OVERCURRENT_LIMIT a)))
  let s := if clamped then s.latch (Ax.LOOP_STATUS a) 7 (Ax.RUN_CURRENT_CLAMPED_REPEATS a) else s
  if bad then s.loseLink d 10 else s

/-- READ_CAPS of the node (R184, R188, R233): it reports the sensors below its count. DESIGN CHOICE: log entry 184. -/
def State.nodeCaps (s : State) (d : Nat) (bs : List ByteN) : State :=
  let n := bs.getD 2 0
  let s := s.wrn (Lk.NODE_REVISION d) (beVal (bs.take 2))
  let s := if n ≤ 2 then s.wrn (Lk.NODE_DEPTH_SENSORS d) n else s
  -- an enabled sensor that the node does not report makes it unfit (R233)
  if (sensorsOf d).any (fun i => sensorEnabled s i && decide (n ≤ i % 2)) then s.loseLink d 10 else s

/-- The result of an answered message (R186 to R188). Any result that is neither OK nor one of the named ones of its operation
ends the exchange with MGMT_FAILED. -/
def State.answered (s : State) (d : Nat) (m : MgmtMsg) (result : Nat) (bs : List ByteN) : State :=
  if m.op = 0x30 ∧ (result = rOk ∨ result = rSensorFault) then
    let n := 2 * d + m.addr
    s.setSensor n { s.sensor n with nodeFault := result == rSensorFault }
  else if m.op = 0x11 ∧ result = rMismatch then (s.wr (Dr.TABLE_STATE d) 3).loseLink d 9
  else if result ≠ rOk then s.loseLink d 7
  else match m.op with
    | 0x01 => s.identified d bs
    | 0x02 => if m.addr < 3 then s.axisCaps d m.addr bs else s.nodeCaps d bs
    | 0x11 => if beVal (bs.take 4) = s.rdn (Dr.TABLE_CRC d) then s.wr (Dr.TABLE_STATE d) 2 else (s.wr (Dr.TABLE_STATE d) 3).loseLink d 9
    | 0x12 => if beVal (bs.take 4) = s.rdn (Dr.TABLE_CRC d) ∧ bs.getD 4 0 ≠ 0 then s.wr (Dr.TABLE_STATE d) 2 else s.loseLink d 9
    | _ => s

/-- A management response in a valid uplink frame (R182, R183): BUSY ends the retries. -/
def State.response (s : State) (d tag result : Nat) (bs : List ByteN) : State :=
  let x := s.link d
  match x.out with
  | none => s
  | some o =>
    if tag ≠ o.tag then s
    else if result = rBusy then s.setLink d { x with out := some { o with busy := true, due := false } }
    else
      let s := (s.setLink d { x with out := none }).answered d o.msg result bs
      if linkState s d = lLost then s
      else if (s.link d).queue = [] then s.exchangeDone d
      else s.nextMgmt d

/-- MGMT_RETRY (R183): unanswered for 1 ms. -/
def execMgmtRetry (d : Nat) (s : State) : Host.Outcome State Fault Refusal := done s (
  let x := s.link d
  (match x.out with
  | some o =>
    if d < 16 ∧ o.busy = false ∧ o.due = false ∧ o.sentAt + 50 ≤ s.now then
      if o.tries < x.exRetries then
        (s.setLink d { x with out := some { o with tries := o.tries + 1, due := true } }).count (Lk.MGMT_RETRIES_USED d)
      else s.loseLink d 7
    else s
  | none => s))

/-- NODE_CONFIG_TIMEOUT (R183): the upper level cancels the outstanding message. -/
def execNodeConfigTimeout (d : Nat) (s : State) : Host.Outcome State Fault Refusal := done s (
  let x := s.link d
  (if d < 16 ∧ due x.exUntil s.now then
      (if x.out.isSome then s.count (Lk.MGMT_SUPERSEDED d) else s).loseLink d 8
    else s))

/-- RESUME_FAILED (R189): no RUNNING within 16 frames after the first RESUME. -/
def execResumeFailed (d : Nat) (s : State) : Host.Outcome State Fault Refusal :=
  done s (match (s.link d).resumed with
  | some n => if d < 16 ∧ linkState s d = lReady ∧ 16 ≤ n then s.loseLink d 11 else s
  | none => s)

/-! ### The downlink frame (R161 to R164, R338, R341, R342) -/

/-- Set-point words computed in the last slots of a doorway's axes. -/
def computedWords (s : State) (d : Nat) : List Nat :=
  -- while MOTION sleeps, all-zero words (R482)
  if s.bit Gl.DOMAINS_ON 4 = false then [0, 0, 0] else
  [0, 1, 2].map (fun k => if (axesOf s d).contains (3 * d + k) then (s.axis (3 * d + k)).words.headD 0 else 0)

/-- Node outputs: the lock output of the doorway (R64). -/
def nodeOutputs (s : State) (d : Nat) : Nat :=
  let c := s.pn (Dr.LOCK_OUTPUT d)
  if (s.door d).lockOn ∧ 0x10 ≤ c ∧ c ≤ 0x13 then 2 ^ (c - 0x10) else 0

/-- STO demands of a channel for the axes of a doorway: unconfigured axes are always demanded. DEDUCED: log entry 67. -/
def stoBits (s : State) (d mask : Nat) : Nat :=
  let lost := linkState s d == lLost || s.safety.linkSto
  [0, 1, 2].foldl (fun m k => if lost || mask.testBit (3 * d + k) || !(axesOf s d).contains (3 * d + k) then m + 2 ^ k else m) 0

/-- The sleep sequence has stopped the links' transmitters (R488 step 3). -/
def linksStopped (s : State) : Bool := heldFor s.power.sleepFrom s.now 160

/-- The training frame of this fast tick on a doorway link, in DOWN and TRAINING (R179, R180, R189); a D16 has pre-emphasis. -/
def State.sendTraining (s : State) (d : Nat) : State :=
  let x := s.link d
  let seq := (x.trainSeq + 1) % 65536
  s.setLink d { x with down := none, trainSeq := seq, trainDown := some (trainFrame x.train seq 1 ((x.train.map Train.level).getD 0)) }

/-- The data frame of this fast tick on a doorway link. -/
def State.sendData (s : State) (d : Nat) : State :=
  let st := linkState s d
  let x := s.link d
  let hold := s.holds
  let shadow := s.bit (Lk.LINK_STATUS d) 2 && !hold
  let tk := lookup d s.duplex.taken
  let frames := (tk.map (·.frames)).getD 0
  let kind := (tk.map (·.kind)).getD 0
  let resume := hold && ((st == lReady && decide (4 ≤ x.ready)) || (st == lUp && kind == 3 && frames == 4))
  let words := if st = lUp then
      (if kind = 2 ∧ frames = 0 then x.applied else if kind = 3 ∧ frames < 4 then [0, 0, 0] else computedWords s d)
    else if (st = lListen ∧ shadow) ∨ (st = lReady ∧ kind = 3 ∧ resume) then computedWords s d else [0, 0, 0]
  let seq := (x.seq + 1) % 65536
  let (mgmt, out) := match x.out with
    | some o => if o.due then (some (o.tag, o.msg), some { o with due := false, sentAt := s.now }) else (none, some o)
    | none => (none, none)
  let f : DownFrame := sealDown {
    ok := true, seq, hold, shadow, resume, safeStoA := if s.safety.stalls.byteA then 7 else stoBits s d s.safety.stoA,
    safeRunB := if s.safety.stalls.byteB then 0 else 7 - (if s.duplex.lapsed then 7 else stoBits s d s.safety.stoB), outputs := nodeOutputs s d, words,
    mgmtTag := (mgmt.map (·.1)).getD 0, mgmtOp := (mgmt.map (·.2.op)).getD 0, mgmtAddr := (mgmt.map (·.2.addr)).getD 0,
    mgmtLen := (mgmt.map (·.2.data.length)).getD 0, mgmtData := (mgmt.map (·.2.data)).getD [] }
  let s := s.setLink d { x with
    seq, down := some f, trainDown := none, out, sent := place seq words (x.sent.filter (fun p => decide (p.1 ≠ seq ∧ (seq + 65536 - p.1) % 65536 < 64))),
    ready := if st = lReady then x.ready + 1 else 0,
    resumed := match x.resumed with
      | some n => some (n + 1)
      | none => if resume ∧ st = lReady then some 0 else none }
  let s := s.setB (Lk.LINK_STATUS d) 1 hold
  match tk with
  | some t =>
    if hold = false then s else
    let m := if 4 ≤ t.frames then erase d s.duplex.taken else place d { t with frames := t.frames + 1 } (erase d s.duplex.taken)
    { s with duplex := { s.duplex with taken := m } }
  | none => s

/-- What the D16 sends on a doorway link in this fast tick (R189): nothing in OFF and while its transmitter is stopped (R488). -/
def State.sendDown (s : State) (d : Nat) : State :=
  let st := linkState s d
  if s.running = false then s
  else if st = lOff ∨ linksStopped s then (s.setLink d { s.link d with down := none, trainDown := none }).noFrames d
  else if st < lConfig then s.sendTraining d
  else s.sendData d

/-- Fast ticks without a valid uplink frame (R178). -/
def State.countMissing (s : State) (d : Nat) : State :=
  if linkState s d < lConfig then s else
  let x := s.link d
  s.setLink d { x with got := false, missing := if x.got then 0 else x.missing + 1 }

/-! ### Uplink frames (R165 to R170, R176 to R178) -/

/-- Encoder, currents and echo of one axis (R131, R140, R141, R145). DEDUCED: log entry 45. DEDUCED: log entry 48. -/
def State.takeAxis (s : State) (a : Nat) (u : UpAxis) (missing : Nat) : State :=
  let x := (s.axis a).takeStreams s.now (s.pn (Ax.MOTOR_TYPE a) == 1) u.s0 u.s1
  if u.encErr then (s.setAxis a { x with encStreak := x.encStreak + 1, fresh := false }).count (Ax.ENCODER_ERRORS a) else
  let raw : Nat := u.count % 2 ^ 24
  let cpr := s.pn (Ax.ENCODER_CPR a)
  let absolute := s.pn (Ax.ENCODER_TYPE a) == 2
  let diff : Int := if absolute then
      (let m : Int := ((raw : Int) - (x.rawCount : Int)) % ((max cpr 1 : Nat) : Int)
       if 2 * m > (cpr : Int) then m - (cpr : Int) else m)
    else signed 24 (raw + 2 ^ 24 - x.rawCount)
  let count : Int := if x.seen then x.count + diff else (raw : Int)
  -- a count step above 0.5 · ENCODER_CPR in one fast tick (R145)
  let jump := x.seen && x.encStreak == 0 && missing == 0 && decide ((cpr : Int) < 2 * diff.natAbs)
  let old := Config.commSector x.comm % 6
  let new := Config.commSector u.comm % 6
  -- the first edge of a commutation sensor re-bases the count (R141), not while an alignment run compares counts (R142)
  let edge := !absolute && s.rdn (Ax.ANGLE_STATE a) == 1 && x.align.isNone && x.commSeen && x.comm != u.comm && (new == (old + 1) % 6 || old == (new + 1) % 6)
  let n := if new = (old + 1) % 6 then new else old
  let rebase : Int := if edge then ((n * cpr / (6 * max (s.pn (Ax.POLE_PAIRS a)) 1) : Nat) : Int) - count else x.rebase
  let rev := max (s.pn (Ax.TRAVEL_PER_REV a)) 1
  let om : Int := x.speed * ((fullTurn * s.pn (Ax.POLE_PAIRS a) : Nat) : Int) / ((rev * 50000 : Nat) : Int)
  let s := s.setAxis a { x with
    encStreak := 0, encJump := jump, fresh := true, rawCount := raw, seen := true, count, comm := u.comm, commSeen := true,
    rebase, omega := if s.pb (Ax.ENCODER_INVERT a) then -om else om }
  let s := if edge then s.wr (Ax.ANGLE_STATE a) 2 else s
  -- a stepper whose encoder has commutation sensors has an angle from them (R141, R167)
  let coarse := !absolute && s.rdn (Ax.ANGLE_STATE a) == 0 && x.align.isNone && u.comm != 0
  let s := if coarse then s.wr (Ax.ANGLE_STATE a) 1 else s
  s.setAxis a { s.axis a with angle := angleOf s a, nowNm := positionOf s a (s.axis a).count }

/-- A depth chunk (R170). -/
def State.takeChunk (s : State) (d : Nat) (c : Chunk) : State :=
  let n := 2 * d + c.sensor % 2
  let x := s.sensor n
  if 95 < c.chunk then s.count (Lk.DEPTH_CHUNKS_BAD d) else
  let incomplete := 0 < x.nextChunk
  let fresh := !incomplete || c.frameNo != x.frameNo
  let s := if incomplete ∧ c.frameNo ≠ x.frameNo then s.count (Lk.DEPTH_INCOMPLETE d) else s
  if fresh then
    if c.chunk = 0 then s.setSensor n { x with frameNo := c.frameNo, nextChunk := 1, pixels := c.pixels }
    else (s.setSensor n { x with frameNo := c.frameNo, nextChunk := 0, pixels := [] }).count (Lk.DEPTH_CHUNKS_BAD d)
  else if c.chunk ≠ x.nextChunk then s.count (Lk.DEPTH_CHUNKS_BAD d)
  else if c.chunk < 95 then s.setSensor n { x with nextChunk := x.nextChunk + 1, pixels := x.pixels ++ c.pixels }
  else (s.setSensor n { x with nextChunk := 0, pixels := [] }).queueFrame { n, arrived := s.now, pixels := x.pixels ++ c.pixels }

/-- Receiver readouts (R181): the adaptation is analog, so the values are open within their ranges. DESIGN CHOICE: log entry 54. -/
def State.receiver (s : State) (d : Nat) : State :=
  let (a, s) := s.fresh
  let (b, s) := s.fresh
  let (c, s) := s.fresh
  let (e, s) := s.fresh
  (((s.wrn (Lk.CTLE_PEAKING d) (a % 121)).wr (Lk.DFE_TAP1 d) ((b % 128 : Nat) - 64)).wr (Lk.DFE_TAP2 d) ((c % 128 : Nat) - 64)).wrn
    (Lk.EYE_MARGIN d) (e % 256)

/-- Error counters of a frame as received (R153, R155, R158). -/
def State.countErrors (s : State) (d : Nat) (f : UpFrame) : State :=
  let s := if f.codeOk then s else s.count (Lk.CODE_ERRORS d)
  let s := if f.crc = crc32 (upBytes f) then s else s.count (Lk.CRC_ERRORS d)
  if f.late then s.count (Lk.TIMING_ERRORS d) else s

/-- NODE_STATUS, sequence and echo of a valid frame (R168, R176, R178, R192). DEDUCED: log entry 65. -/
def State.takeStatus (s : State) (d : Nat) (f : UpFrame) : State :=
  let x := s.link d
  let s := s.count (Lk.FRAMES_OK d)
  let s := match x.upSeq with
    | some q => if f.seq = (q + 1) % 65536 then s else s.count (Lk.UP_SEQ_GAPS d)
    | none => s
  -- NODE_STATE 4–7 is reserved (R168, R192). DESIGN CHOICE: log entry 184.
  let s := if f.status / 64 % 8 < 4 then s.wrn (Lk.NODE_STATE d) (f.status / 64 % 8) else s
  let s := if f.status.testBit 2 then s.count (Lk.NODE_HELD d) else s
  let s := if f.status.testBit 3 then s.count (Lk.NODE_SUBSTITUTED d) else s
  let echo := [0, 1, 2].map (fun k => (f.axes.getD k {}).appliedSp)
  let compared := linkState s d == lUp && !f.status.testBit 2 && !f.status.testBit 3
  let wrong := compared && (match lookup f.appliedSeq x.sent with | some w => w != echo | none => false)
  let s := s.setLink d { x with upSeq := some f.seq, got := true, missing := 0, status := f.status, applied := echo,
                                outputsRb := f.outputsRb % 16, nodeTemp := f.nodeTemp, dcVoltage := f.dcVoltage,
                                echoRun := if wrong then x.echoRun + 1 else 0,
                                heldRun := if f.status.testBit 2 ∨ f.status / 64 % 8 = 1 then x.heldRun + 1 else 0 }
  if wrong then s.count (Lk.ECHO_MISMATCHES d) else s

/-- Inputs, DC-link current and bridges of a valid frame (R73, R169, R279). DEDUCED: log entry 66. -/
def State.takeInputs (s : State) (d : Nat) (f : UpFrame) : State :=
  let s := s.nodeSample d f.inputsA (255 - f.inputsBInv % 256)
  let ma := 10 * f.dcCurrent.toNat
  let x := s.door d
  let s := s.setDoor d { x with dcLast := ma, measuring := x.measuring.map (fun (m : Bool × Nat × Nat) => (m.1, m.2.1, max m.2.2 ma)) }
  (axesOf s d).foldl (fun s a => if f.status.testBit (12 + roleOf a) then s.stoConfirmed a else s) s

/-- An uplink data frame that meets R153 to R156, with the last SOF received before it. -/
def upIntact (last : Option Nat) (f : UpFrame) : Bool :=
  f.codeOk && sofOk last f.sof f.cut && f.crc == crc32 (upBytes f) && f.frameType == 0x11

/-- What a valid uplink frame brings (R131, R170, R176, R182, R189). -/
def State.takeFrame (s : State) (d : Nat) (f : UpFrame) : State :=
  let missing := (s.link d).missing
  let s := (s.takeStatus d f).takeInputs d f
  let s := (axesOf s d).foldl (fun s a => s.takeAxis a (f.axes.getD (roleOf a) {}) missing) s
  let s := match f.chunk with | some c => s.takeChunk d c | none => s
  let s := s.response d f.respTag f.respResult f.respData
  let s := if linkState s d = lReady ∧ s.holds ∧ f.status / 64 % 8 = 2 then s.toLink d lUp else s
  if linkState s d = lUp ∨ linkState s d = lListen then s.receiver d else s

/-- UPLINK_FRAME (R154, R176): only a link in CONFIG or beyond takes data frames. -/
def execUplinkFrame (d : Nat) (f : UpFrame) (s : State) : Host.Outcome State Fault Refusal :=
  done s (if s.operating = false ∨ 16 ≤ d ∨ linkState s d = lOff then s else
    let ok := upIntact (s.link d).lastSof f
    let s := s.tookSof d f.sof
    if linkState s d < lConfig then s
    else
      let s := s.countErrors d f
      if ok = false then s
      else if f.status / 32768 % 2 ≠ s.rdn Gl.ROLE then
        (s.count (Lk.PORT_MISMATCHES d)).latch (Lk.LINK_STATUS d) 9 (Lk.PORT_MISMATCH_REPEATS d)
      else s.takeFrame d f)

/-! ### Door-tick work and COUNTERS_CLEAR -/

/-- Links of configured doorways run, the others are OFF (R189). -/
def State.linkTick (s : State) (d : Nat) : State :=
  let on := s.operating && configured s d
  let st := linkState s d
  let s := if on ∧ st = lOff then s.startTraining d
    else if on = false ∧ st ≠ lOff then (s.setLink d { (s.link d).idle with retrainAt := none, missing := 0, down := none, trainDown := none, lastSof := none }).toLink d lOff
    else s
  s.reloadTable d

/-- COUNTERS_CLEAR of a link (R192): L+0x02. -/
def linkClearEffect (d : Nat) : Effect := fun n s =>
  if 1 < n then .error abValue
  else if n = 0 then .ok s
  else .ok ((List.range 16).foldl (fun s i => s.wr (key (0x3A02 + 0x10 * d) (i + 1)) 0) s)

def execLinkCountersClear (via : Via) (d : Nat) (v : Int) (s : State) : Host.Outcome State Fault Refusal :=
  done s (writeNum via (0x3A05 + 0x10 * d) 1 (.num v) none id (linkClearEffect d) s)

end Sys2Proof.Machine
end

