-- ==== Sys2Proof/Machine/Doors.lean ====
section
/-!
DEFINITION. The moves of a doorway: how each begins and ends, references, the reaction to an obstruction, and the entry into
each door state (R48, R50 to R53, R64 to R67, R88, R101, R102, R220 to R227).
-/
namespace Sys2Proof.Machine

/-! ### Terms of a doorway -/

/-- Change a doorway's record. -/
def State.modDoor (s : State) (d : Nat) (f : Door → Door) : State := s.setDoor d (f (s.door d))

def stepAxis (d : Nat) : Nat := 3 * d + 2

/-- The step moves as one group with the leaves (R65, R66), unless a step fault bars it (R67). -/
def groupStep (s : State) (d : Nat) : Bool := hasStep s d && s.pn (Dr.STEP_SEQUENCE d) == 1 && !(s.door d).stepSto

def strokeNm (s : State) (a : Nat) : Int := 1000 * s.p (Ax.STROKE a)

/-- Every configured axis has a stroke (R79). -/
def strokesKnown (s : State) (d : Nat) : Bool := (axesOf s d).all (fun a => s.pn (Ax.STROKE a) != 0)

/-- R211 blocks closing. -/
def energyBlock (s : State) (d : Nat) : Bool :=
  (leavesOf s d).any (fun a => s.pn (Gl.ENERGY_LIMIT a) != 0 && s.pn (Ax.MOVING_MASS a) == 0)

/-- Whether the doorway may start a closing move at all (R79, R211). -/
def mayClose (s : State) (d : Nat) : Bool := strokesKnown s d && !energyBlock s d

def nearNm (s : State) (a : Nat) (p : Int) : Bool := decide ((Int.natAbs ((s.axis a).posNm - p) : Int) ≤ 1000 * s.p (Ax.CLOSED_WINDOW a))

/-- All leaves in the closed window; all at their open position (R78). -/
def inWindow (s : State) (d : Nat) : Bool := (leavesOf s d).all (fun a => nearNm s a 0)
def atOpenPos (s : State) (d : Nat) : Bool := (leavesOf s d).all (fun a => s.pn (Ax.STROKE a) != 0 && nearNm s a (strokeNm s a))

def closedSwitch (s : State) (d : Nat) : Bool := contact s d 3
def bothLocked (s : State) (d : Nat) : Bool := contact s d 1 && contact s d 2
def bothUnlocked (s : State) (d : Nat) : Bool := !contact s d 1 && !contact s d 2
def inService (s : State) (d : Nat) : Bool := contact s d 4
def handleHome (s : State) (d : Nat) : Bool := contact s d 5
def stepRetracted (s : State) (d : Nat) : Bool := !hasStep s d || contact s d 6

/-- The step has extended fully: its switch is made, or, with the switch unassigned, its extend move has ended at STROKE (R65,
R234). -/
def stepOut (s : State) (d : Nat) : Bool := contact s d 7 || (contactCode s d 7 == 0xFF && (s.door d).move.isNone && (match (s.door d).lastEnd with
  | some (.stepExtend, r) | some (.openGroup, r) => r
  | _ => false))

/-- A move of the leaves is active. -/
def leavesMove (s : State) (d : Nat) : Bool := (leavesOf s d).any (axisInMove s)

/-- An active move. -/
def inMotion (s : State) (d : Nat) : Bool := match (s.door d).move with
  | some m => !m.ended
  | none => false

/-! ### References (R101, R102) -/

/-- Move an axis's zero by `shift` nm: the measured and demanded positions, and a move that runs, stay where they are on the
rail. -/
def State.rebase (s : State) (a : Nat) (shift : Int) : State :=
  let x := s.axis a
  let s := s.setAxis a { x with
    offsetNm := x.offsetNm - shift, nowNm := x.nowNm - shift, posNm := x.posNm - shift, lastPosNm := x.lastPosNm - shift, setNm := x.setNm - shift,
    demandNm := x.demandNm - shift, sf4Pos := x.sf4Pos.map (fun p => p - shift), sf7Ref := x.sf7Ref.map (fun p => p - shift) }
  s.modDoor (doorOf a) (fun y => { y with move := y.move.map (fun m =>
    { m with axes := m.axes.map (fun z => if z.a = a then { z with start := z.start - shift, target := z.target - shift } else z),
             seeks := m.seeks.map (fun k => if k.a = a then { k with start := k.start - shift } else k) }) })

/-- The last reference shift of an axis is beyond its tolerance (R101, R104). -/
def shiftLarge (s : State) (a : Nat) : Bool := decide ((Int.natAbs (s.rd (Ax.REFERENCE_SHIFT a)) : Int) > s.p (Ax.REFERENCE_TOLERANCE a))

/-- An axis takes its reference (R101): the position reads 0, the shift is shown, and a large one is reported. -/
def State.takeReference (s : State) (a : Nat) : State :=
  let p := (s.axis a).posNm
  let um := divRound p 1000
  let s := (s.wr (Ax.REFERENCE_SHIFT a) (max (-2000000) (min 2000000 um))).rebase a p
  let s := s.setAxis a { s.axis a with referenced := true }
  let s := if isLeaf s a then s.shiftEnvelopes a um else s
  if (Int.natAbs um : Int) > s.p (Ax.REFERENCE_TOLERANCE a) then
    (s.latch (Ax.AXIS_STATUS a) 10 (Ax.REFERENCE_JUMP_REPEATS a)).raise 0x32C1 a um
  else s

/-! ### The end of a move -/

/-- Axes of a move. -/
def Move.ids (m : Move) : List Nat := m.axes.map (·.a) ++ m.seeks.map (·.a)

/-- What the recorder and the entries take from a move that has ended (R451), and how it ended. -/
def State.finishMove (s : State) (d : Nat) : State :=
  match (s.door d).move with
  | none => s
  | some m =>
    let s := m.ids.foldl (fun s a =>
      let x := s.axis a
      let s := s.sample 2 (4 * a) (s.rd (Ax.WINDING_TEMP a))
      let s := s.sample 2 (4 * a + 1) (x.iqPeak / (10 * max (s.pn (Ax.RUN_CURRENT a)) 1 : Nat))
      let s := s.sample 2 (4 * a + 2) x.followPeak
      let s := s.sample 2 (4 * a + 3) (x.speedPeak / (10000 * max (s.pn (Ax.MAX_SPEED a)) 1 : Nat))
      if isLeaf s a then s.wr (Ax.FORCE_PEAK_LAST a) (max (-100000) (min 100000 (divRound x.forcePeak 100))) else s) s
    let leaves := m.ids.filter (fun a => roleOf a != 2)
    let s := if m.closing ∧ leaves ≠ [] then
        s.sample 1 (8 * d + 2) (leaves.foldl (fun p a => max p (s.rd (Ax.FORCE_PEAK_LAST a))) (-100000))
      else s
    let s := if m.kind == .stepExtend || m.kind == .stepRetract then s.sample 1 (8 * d + 7) ((s.now - m.started) / 50 : Nat) else s
    s.modDoor d (fun x => { x with move := none, lastEnd := some (m.kind, m.reached) })

/-! ### The begin of a move -/

/-- Axes that a kind of move drives. -/
def kindAxes (s : State) (d : Nat) (k : MoveKind) : List Nat :=
  let grp := if groupStep s d then [stepAxis d] else []
  match k with
  | .stepExtend | .stepRetract | .seekStepOut | .seekStepIn => [stepAxis d]
  | .openGroup | .closeGroup => leavesOf s d ++ grp
  | _ => leavesOf s d

/-- A stepper without an angle aligns itself at its first start (R141, R143). DEDUCED: log entry 41. -/
def needsAlign (s : State) (a : Nat) : Bool := s.pn (Ax.MOTOR_TYPE a) == 1 && s.rdn (Ax.ANGLE_STATE a) == 0 && s.pn (Ax.ENCODER_TYPE a) == 1

/-- The sums of F in each bin start again for a new cycle (R199). -/
def State.clearBins (s : State) (d : Nat) : State := (leavesOf s d).foldl (fun s a => s.setLeaf a { s.leaf a with acc := [] }) s

/-- Begin a move of a doorway at this boundary. DESIGN CHOICE: log entry 175. -/
def State.launch (s : State) (d : Nat) (k : MoveKind) : State :=
  let s := s.finishMove d
  let leaves := leavesOf s d
  let step := stepAxis d
  let creep := (s.door d).reduced
  let stepTime := s.after (s.pn (Dr.STEP_TIMEOUT d))
  let group := groupStep s d
  let speed := s.pn (Dr.LEARN_SPEED d)
  let toOpen := leaves.map (fun a => (a, strokeNm s a))
  let toZero := leaves.map (fun a => (a, (0 : Int)))
  let withStep := fun (l : List (Nat × Int)) (p : Int) => if group then l ++ [(step, p)] else l
  match k with
  | .unlock =>
    let us := 1000 * s.p (Dr.UNLOCK_STROKE d)
    let s := s.startMove d k false false (leaves.map (fun a => (a, if strokeNm s a = 0 then us else min us (strokeNm s a))))
    s.modDoor d (fun x => { x with unlockUntil := s.after (s.pn (Dr.UNLOCK_TIMEOUT d)), unlockAt := some s.now })
  | .stepExtend => (s.startMove d k false false [(step, strokeNm s step)]).modDoor d (fun x => { x with stepUntil := stepTime, stepExtending := true })
  | .stepRetract => (s.startMove d k true false [(step, 0)]).modDoor d (fun x => { x with stepUntil := stepTime, stepExtending := false })
  | .openLeaves => s.startMove d k false false toOpen
  | .openGroup =>
    let s := s.startMove d k false false (withStep toOpen (strokeNm s step))
    if group then s.modDoor d (fun x => { x with stepUntil := stepTime, stepExtending := true }) else s
  | .closeLeaves => s.startMove d k true creep toZero
  | .closeGroup =>
    let s := s.startMove d k true creep (withStep toZero 0)
    if group then s.modDoor d (fun x => { x with stepUntil := stepTime, stepExtending := false }) else s
  | .driveLock | .reclose => s.startMove d k true (creep || (s.door d).refNeeded) toZero
  | .refFinal =>
    let s := s.startMove d k true true (withStep toZero 0)
    if group then s.modDoor d (fun x => { x with stepUntil := stepTime, stepExtending := false }) else s
  | .refClose => s.startSeek d k true (leaves.map (fun a => (a, false, s.pn (Ax.CREEP_SPEED a))))
  | .reverse =>
    let full := s.pn (Dr.REOPEN_MODE d) == 1
    let far := 1000 * s.p (Dr.REOPEN_DISTANCE d)
    s.startMove d k false false (leaves.map (fun a =>
      -- in a learn run the stroke may not be known yet
      (a, if strokeNm s a = 0 then (s.axis a).setNm + far else if full then strokeNm s a else min ((s.axis a).setNm + far) (strokeNm s a))))
  | .relief => s.startMove d k false false (leaves.map (fun a => (a, (s.axis a).setNm + 1000 * s.p (Dr.RELIEF_DISTANCE d))))
  | .seekOpen => s.startSeek d k false (leaves.map (fun a => (a, true, speed)))
  | .seekClose => s.startSeek d k true (leaves.map (fun a => (a, false, speed)))
  | .seekStepOut => s.startSeek d k false [(step, true, speed)]
  | .seekStepIn => s.startSeek d k true [(step, false, speed)]

/-- Whether a move of this kind may start: none without strokes but a learn run's (R79), a closing move of the leaves only as R211
allows, none on a doorway in a manual mode (R110). -/
def mayStart (s : State) (d : Nat) (k : MoveKind) : Bool :=
  !doorManual s d && (strokesKnown s d || (s.door d).learn.isSome) && (match k with
  | .closeLeaves | .closeGroup | .driveLock | .reclose | .refClose | .refFinal | .seekClose => !energyBlock s d
  | _ => true)

/-- Begin a move, after the self-alignment of the steppers that need it (R143). -/
def State.begin_ (s : State) (d : Nat) (k : MoveKind) : State :=
  if mayStart s d k = false then s else
  let need := (kindAxes s d k).filter (needsAlign s)
  if need = [] then s.launch d k
  else
    let s := need.foldl (fun s a => s.setAxis a { s.axis a with align := some { self := true, started := s.now, prevState := 0 } }) s
    s.modDoor d (fun x => { x with alignFor := some k })

/-- The aligned start goes on (R143). -/
def State.alignTick (s : State) (d : Nat) : State :=
  match (s.door d).alignFor with
  | none => s
  | some k =>
    let ax := kindAxes s d k
    if ax.any (fun a => (s.axis a).align.isSome) then s
    else if ax.all (fun a => s.rdn (Ax.ANGLE_STATE a) == 1 || s.rdn (Ax.ANGLE_STATE a) == 2) then
      (s.modDoor d (fun x => { x with alignFor := none })).launch d k
    else s.modDoor d (fun x => { x with alignFor := none })

/-- A move ends by a stop ramp, and STEP_TIMEOUT with it: a step that another event stops has not missed its time (R67). -/
def State.stopMove (s : State) (d : Nat) : State :=
  let step : Bool := match (s.door d).move with
    | some m => m.ids.contains (stepAxis d)
    | none => false
  let s := s.rampStop d
  if step then s.modDoor d (fun x => { x with stepUntil := none }) else s

/-- A new target: the present move ends by a stop ramp, and the new move follows (R89). -/
def State.redirect (s : State) (d : Nat) (k : MoveKind) : State :=
  if inMotion s d then (s.stopMove d).modDoor d (fun x => { x with thenMove := some k }) else s.begin_ d k

/-! ### Sequences (R64 to R66, R88) -/

/-- The opening goes on behind the unlock: the step first with STEP_SEQUENCE 0 (R65). -/
def openingKind (s : State) (d : Nat) : MoveKind :=
  let x := s.door d
  if x.learn.isSome then (if hasStep s d then .seekStepOut else .seekOpen)
  else if groupStep s d then .openGroup
  else if hasStep s d && !x.stepSto && s.pn (Dr.STEP_SEQUENCE d) == 0 && !contact s d 7 then .stepExtend
  else .openLeaves

/-- The closing move: a reference close while REFERENCE_NEEDED is set (R88), else leaves alone or the group (R66). -/
def closingKind (s : State) (d : Nat) : MoveKind :=
  if (s.door d).refNeeded then .refClose else if groupStep s d then .closeGroup else .closeLeaves

/-- Enter CLOSING with its move. -/
def State.enterClosing (s : State) (d : Nat) (reduced : Bool) : State :=
  let first := (s.door d).closeAt.isNone
  let s := (s.wr (Dr.STATE d) 5).modDoor d (fun x => { x with
    reduced, autoUntil := none, autoEnded := false, warnUntil := none, warnEnded := false, closePend := none, startWait := none,
    holdSince := none, holdRaised := false, dwellUntil := none, dwellEnded := false, spoiled := x.spoiled || x.refNeeded || x.afterManual, afterManual := false,
    closeAt := if first then some s.now else x.closeAt, fullStroke := if first then atOpenPos s d else x.fullStroke && atOpenPos s d })
  let s := (s.setB (Dr.MANTIS_DOOR_STATUS d) 5 reduced).setB (Dr.MANTIS_DOOR_STATUS d) 0 false
  let s := (s.clearBins d).creepEvent d
  s.redirect d (closingKind s d)

/-- Enter OPENING with its move; RETRY_COUNT returns to 0 (R222). -/
def State.enterOpening (s : State) (d : Nat) : State :=
  let s := (s.wr (Dr.STATE d) 3).wr (Dr.RETRY_COUNT d) 0
  let s := s.modDoor d (fun x => { x with
    opening := false, unlockUntil := none, openAttempts := 0, openStopped := false, openDwellUntil := none, openDwellEnded := false,
    closeAt := none, warnUntil := none, warnEnded := false, autoUntil := none, autoEnded := false, closePend := none, reduced := false,
    lastEnd := none, stepFailed := false, holdSince := none, holdRaised := false })
  let s := (s.setB (Dr.MANTIS_DOOR_STATUS d) 5 false).setB (Dr.MANTIS_DOOR_STATUS d) 0 false
  s.redirect d (openingKind s d)

/-- Lock step of the closing sequence (R64): the leaves are driven into the lock with LOCK_TYPE 0; LOCK_TIMEOUT runs. A drive that is a
close of its own raises the event of R218. -/
def State.lockStep (s : State) (d : Nat) (redirected : Bool) : State :=
  let own := (s.door d).closeAt.isNone
  let s := (s.wr (Dr.STATE d) 2).modDoor d (fun x => { x with
    opening := false, lockOn := false, unlockUntil := none, lockUntil := s.after (s.pn (Dr.LOCK_TIMEOUT d)), lockAt := some s.now })
  if s.pn (Dr.LOCK_TYPE d) ≠ 0 then (if redirected then s.rampStop d else s)
  else if redirected = false ∧ inMotion s d then s  -- the closing move runs on to 0
  else (if own then s.creepEvent d else s).redirect d .driveLock

/-- Begin the unlock (R64, R65). -/
def State.enterUnlock (s : State) (d : Nat) : State :=
  let lock := s.pn (Dr.LOCK_TYPE d) != 0
  let s := (s.wr (Dr.STATE d) 2).modDoor d (fun x => { x with
    opening := true, lockOn := lock, openAt := some s.now, unlockAt := some s.now, fullStroke := true,
    unlockUntil := none, wantRetract := false, preselUntil := none })
  let s := s.clearBins d
  let s := if lock then s else s.redirect d .unlock
  let x := s.door d
  -- UNLOCK_TIMEOUT counts from the start of the unlock move where there is one
  if lock = false ∧ (inMotion s d ∨ x.alignFor.isSome) then s else s.setDoor d { x with unlockUntil := s.after (s.pn (Dr.UNLOCK_TIMEOUT d)) }

/-- Enter CLOSED_LOCKED (R50, R66, R101, R451): reference, learning, the recorder's times, the step retract. -/
def State.enterLocked (s : State) (d : Nat) : State :=
  let x := s.door d
  let s := (s.wr (Dr.STATE d) 1).wr (Dr.RETRY_COUNT d) 0
  let s := (leavesOf s d).foldl (fun s a => s.takeReference a) s
  let s := match x.closeAt with | some t => s.sample 1 (8 * d) ((s.now - t) / 50 : Nat) | none => s
  let s := match x.lockAt with | some t => s.sample 1 (8 * d + 4) ((s.now - t) / 50 : Nat) | none => s
  let s := if x.closeAt.isSome then s.learnCycle d true else s
  let shifted := (leavesOf s d).any (shiftLarge s)
  let seq0 := hasStep s d && s.pn (Dr.STEP_SEQUENCE d) == 0
  let s := s.modDoor d (fun x => { x with
    lockUntil := none, lockAt := none, closeAt := none, refNeeded := false, reduced := false, spoiled := false, fullStroke := false,
    ignoreRequests := false, noReopen := false, lockOn := false,
    wantRetract := seq0 && x.learn.isNone && !x.stepSto && !contact s d 6 && strokesKnown s d,
    learn := x.learn.map (fun l => { l with shifts := l.shifts ++ [if shifted then 1 else 0], step := 6 }) })
  s.setB (Dr.MANTIS_DOOR_STATUS d) 5 false

/-- Enter OPEN: at the open position, or stopped on the way; the coil of the lock is de-energised (R64). -/
def State.enterOpen (s : State) (d : Nat) (byReach : Bool) : State :=
  let x := s.door d
  let auto := s.pn (Dr.AUTO_CLOSE_TIME d)
  let s := s.wr (Dr.STATE d) 4
  let s := match x.openAt with | some t => s.sample 1 (8 * d + 1) ((s.now - t) / 50 : Nat) | none => s
  let s := if byReach ∧ x.openStopped = false ∧ x.openAt.isSome ∧ atOpenPos s d then s.learnCycle d false else s
  s.modDoor d (fun x => { x with
    lockOn := false, openAt := none, openAttempts := 0, openStopped := false, openDwellUntil := none, openDwellEnded := false,
    autoUntil := if byReach && auto != 0 then s.after auto else none, autoEnded := false, spoiled := false, lastEnd := none,
    closeAt := none, noReopen := false, stepFailed := false })

/-- A stroke learn run is aborted (R104, R105). -/
def State.abortLearn (s : State) (d : Nat) : State :=
  if (s.door d).learn.isSome then (s.wr (Dr.LEARN_STATE d) 5).modDoor d (fun x => { x with learn := none }) else s

/-- A learn run that stops while the doorway goes on: its seeks end by a stop ramp, and the doorway then takes the return path
(assumption 22). DEDUCED: log entry 22. -/
def State.stopLearn (s : State) (d : Nat) (code : Nat) : State :=
  match (s.door d).learn with
  | some l => ((s.wrn (Dr.LEARN_STATE d) code).rampStop d).modDoor d (fun x => { x with learn := some { l with aborted := true } })
  | none => s

/-- Cancel what a doorway had under way: it enters FAULT, EMERGENCY_RELEASED or ISOLATED, whose axes are in STO (R47). -/
def State.cancelAll (s : State) (d : Nat) : State :=
  let s := ((s.finishMove d).abortLearn d).disturb d
  let s := (axesOf s d).foldl (fun s a =>
    let s := if (s.axis a).align.isSome then s.setAxis a { s.axis a with align := none } else s
    if manual s a then s.manualStop a else s) s
  let s := s.modDoor d (fun x => { x with
    opening := false, startWait := none, granted := none, measuring := none, warnUntil := none, warnEnded := false, autoUntil := none,
    autoEnded := false, unlockUntil := none, unlockAt := none, lockUntil := none, lockAt := none, stepUntil := none, preselUntil := none,
    dwellUntil := none, dwellEnded := false, openDwellUntil := none, openDwellEnded := false, closePend := none, wantRetract := false })
  let s := s.modDoor d (fun x => { x with
    closeAt := none, openAt := none, reduced := false, lockOn := false, thenMove := none, alignFor := none, obs := x.obs.filter (fun o => !o.quiet), obstructed := false,
    holdSince := none, holdRaised := false, openAttempts := 0, openStopped := false, rerun := false, stepRef := false, lastEnd := none })
  (s.setB (Dr.MANTIS_DOOR_STATUS d) 5 false).setB (Dr.MANTIS_DOOR_STATUS d) 0 false

/-- Record a fault cause: the first since the last successful RESET stays (R53); with its event (R444). -/
def State.recordFault (s : State) (d cause : Nat) : State :=
  let s := if s.rdn (Dr.FAULT_CAUSE d) = 0 then s.wrn (Dr.FAULT_CAUSE d) cause else s
  s.raise 0x1281 d (s.rd (Dr.FAULT_CAUSE d))

/-- Enter FAULT (R50, R53). -/
def State.enterFault (s : State) (d cause : Nat) : State := ((s.cancelAll d).recordFault d cause).wr (Dr.STATE d) 10

/-- The RESET of a FAULT clears its cause, with the loop faults and latches behind it (R53, R147, R239); for NODE_REJECTED the
learned start peaks are discarded (R73). -/
def State.clearFault (s : State) (d : Nat) : State :=
  let cause := s.rdn (Dr.FAULT_CAUSE d)
  let s := ((s.wr (Dr.FAULT_CAUSE d) 0).clearDiscrepancy d).modDoor d (fun x => { x with pairFault := false })
  let s := s.setB Gl.STO_UNCONFIRMED_MASK d false
  let s := (axesOf s d).foldl (fun s a =>
    (s.wr (Ax.LOOP_FAULT_CAUSE a) 0).setAxis a { s.axis a with faultAt := none, faultBrake := false }) s
  if cause = 9 then
    ((s.modDoor d (fun x => { x with peaksOpen := [], peaksClose := [] })).wr (Dr.START_PEAK_OPEN d) 0).wr (Dr.START_PEAK_CLOSE d) 0
  else s

/-- The return path (R51, R102): the state that matches the contacts, with no movement. What has spoiled the next learning cycle stays
(R197). DESIGN CHOICE: log entry 204. -/
def State.enterReturn (s : State) (d : Nat) : State :=
  let s := s.modDoor d (fun x => { x with handleRaised := false })
  let spoiled := (s.door d).spoiled
  let s := if hasStep s d ∧ contact s d 6 then s.takeReference (stepAxis d) else s
  if closedSwitch s d && bothLocked s d then (s.enterLocked d).modDoor d (fun x => { x with wantRetract := false, spoiled })
  else if closedSwitch s d then (s.modDoor d (fun x => { x with refNeeded := true })).lockStep d false
  else
    (s.wr (Dr.STATE d) 4).modDoor d (fun x => { x with
      refNeeded := true, lastEnd := none, opening := false, unlockUntil := none, lockOn := false, openAt := none })

/-! ### Step faults (R67) -/

/-- A step misses its time or is obstructed: it stops, goes to STO and stays there until the RESET. A group stops hard as a
whole; in a closing the leaves then go on alone, which is no full stroke (R197). -/
def State.stepFault (s : State) (d : Nat) : State :=
  let x := s.door d
  let group : Bool := match x.move with
    | some m => m.ids.contains (stepAxis d) && m.ids.any (fun a => roleOf a != 2)
    | none => false
  let alone : Bool := match x.move with
    | some m => m.ids == [stepAxis d]
    | none => false
  let s := s.setB (Dr.STATUS d) 19 true
  let s := if group || alone then s.hardStop d else s
  let again := group && !x.stepExtending
  s.modDoor d (fun x => { x with stepSto := true, interrupted := some x.stepExtending, stepUntil := none, rerun := false, stepRef := false,
                                 stepFailed := x.stepFailed || (x.stepExtending && doorState s d == 3),
                                 thenMove := if again then some .reclose else x.thenMove, spoiled := x.spoiled || again })

/-- The step's switch is made in time: the fault of an earlier try is cleared (R67, R68), and a retracted step takes its
reference (R101). -/
def State.stepTick (s : State) (d : Nat) : State :=
  let x := s.door d
  if hasStep s d = false then s else
  let made := if x.stepExtending then stepOut s d else contact s d 6
  if x.stepUntil.isSome ∧ made then
    let s := s.modDoor d (fun x => { x with stepUntil := none, interrupted := none, rerun := false, stepRef := !x.stepExtending })
    let s := s.setB (Dr.STATUS d) 19 false
    s
  else if x.stepRef ∧ inMotion s d = false ∧ contact s d 6 then
    (s.modDoor d (fun x => { x with stepRef := false })).takeReference (stepAxis d)
  else s

/-! ### Obstructions (R220 to R227, R565) -/

/-- Moves that are closing moves of leaves, with the reversal of R220. -/
def reversing : MoveKind → Bool
  | .closeLeaves | .closeGroup | .driveLock | .reclose | .refClose | .refFinal | .seekClose => true
  | _ => false

/-- Latch the values of an obstruction (R220): from the tick of the criterion's first sample. -/
def State.latchObs (s : State) (d a causes : Nat) : State :=
  let x := s.axis a
  let three := causes % 8 != 0
  let pos := if three then x.sf4Pos.getD 2 x.posNm else x.posNm
  let peak := if three then x.forces.foldl max (x.forces.headD 0) else x.forces.headD 0
  let um := divRound pos 1000
  let s := (s.wrn (Dr.OBS_CAUSES d) causes).wrn (Dr.OBS_AXIS d) a
  let s := s.wr (Dr.OBS_POSITION d) (max (-2000000) (min 2000000 um))
  let s := s.wr (Dr.OBS_FORCE_PEAK d) (max (-100000) (min 100000 (divRound peak 100)))
  let s := s.wrn (Dr.OBS_BIN d) (if isLeaf s a then leafBin s a pos else 0)
  let s := s.count (Dr.OBSTRUCTIONS d)
  let st := s.p (Ax.STROKE a)
  if st = 0 then s else s.sample 1 (8 * d + 3) (1000 * um / st)

/-- Cause bits set in OBS_CAUSES (R208). -/
def State.addCauses (s : State) (d causes : Nat) : State := s.wrn (Dr.OBS_CAUSES d) (s.rdn (Dr.OBS_CAUSES d) ||| causes)

/-- Detection at a motion tick (R208, R220, R225, R226): one reaction for all axes and criteria that are true. -/
def State.detectObs (s : State) (d : Nat) : State :=
  let x := s.door d
  match x.move with
  | none => s
  | some m =>
    if m.ended then s else
    -- an operated edge disturbs learning in an opening move too (R197, R198)
    let s := if doorEdge s d then s.disturb d else s
    let ids := if m.seeks = [] then m.moving.map (·.a) else m.seeks.map (·.a)
    let hits := ids.filterMap (fun a => let c := causesOf s a m.closing (!x.reduced); if c = 0 then none else some (a, c))
    let leaf := hits.filter (fun h => isLeaf s h.1)
    match leaf, hits with
    | [], [] => s
    | [], h :: _ =>
      ((s.disturb d).latchObs d h.1 (hits.foldl (fun c y => c ||| y.2) 0)).modDoor d (fun x => { x with obs := some { axis := h.1, reverse := false } })
    | h :: _, _ =>
      let s := s.disturb d
      let causes := hits.foldl (fun c y => c ||| y.2) 0
      let step := hits.any (fun y => !isLeaf s y.1)
      if m.kind == .reverse || m.kind == .relief then
        (s.addCauses d causes).modDoor d (fun x => { x with obs := some { axis := h.1, reverse := false, quiet := true, step } })
      else
        let s := s.latchObs d h.1 causes
        let rev := reversing m.kind
        s.modDoor d (fun x => { x with obs := some { axis := h.1, reverse := rev, step }, obstructed := x.obstructed || rev,
                                       closePend := if rev then none else x.closePend })

/-- Track the force peak of the obstructed axis (R220). -/
def State.trackPeak (s : State) (d : Nat) (o : Obs) : State :=
  if o.quiet then s else s.raiseMax (Dr.OBS_FORCE_PEAK d) (max (-100000) (min 100000 (divRound ((s.axis o.axis).forces.headD 0) 100)))

/-- The dwell behind a reversal (R221). -/
def State.startDwell (s : State) (d : Nat) : State :=
  s.modDoor d (fun x => { x with dwellUntil := s.after (s.pn (Dr.DWELL_TIME d)), dwellEnded := false })

/-- A step that is obstructed together with a leaf fails as well (R67, R225); what follows is the leaf's. -/
def State.stepToo (s : State) (d : Nat) (o : Obs) : State :=
  if o.step then (s.stepFault d).modDoor d (fun x => { x with thenMove := (s.door d).thenMove }) else s

/-- The boundary after the hard stop: the reversal starts, or the obstruction ends without one (R220, R224 to R227, R565). -/
def State.reactObs (s : State) (d : Nat) (o : Obs) : State :=
  let m := (s.door d).move
  let kind := m.map (·.kind)
  let s := if o.quiet then s else s.raise 0x1341 d (s.rd (Dr.OBS_FORCE_PEAK d))
  let limited := m.all (·.limitStopped)
  let s := (s.modDoor d (fun x => { x with obs := none })).stepToo d o
  let fault := (leavesOf s d).any (axisSto s) || (axesOf s d).any (fun a => s.rdn (Ax.LOOP_FAULT_CAUSE a) != 0)
  -- the move is gone with its doorway's state, or its end is a limit stop or a loop fault (R227)
  if limited || fault then s
  else if o.quiet then (s.finishMove d).startDwell d
  else if roleOf o.axis = 2 then
    let s := s.stepFault d
    match (s.door d).thenMove with
    | some k => ((s.finishMove d).modDoor d (fun x => { x with thenMove := none })).begin_ d k
    | none => if (s.door d).learn.isSome then (s.finishMove d).stopLearn d 5 else s
  else if o.reverse then s.launch d (if released s d && zeroSpeed s then .reverse else .relief)
  else match kind with
  | some .openLeaves | some .openGroup =>
    let n := (s.door d).openAttempts + 1
    let more := decide (n < s.pn (Dr.OPEN_RETRIES d))
    (s.finishMove d).modDoor d (fun x => { x with
      openAttempts := n, openStopped := true, lastEnd := none,
      openDwellUntil := if more then s.after (s.pn (Dr.OPEN_DWELL d)) else none, openDwellEnded := false })
  | some .unlock => s.finishMove d
  | some .seekOpen | some .seekStepOut | some .seekStepIn => (s.finishMove d).stopLearn d 5
  | _ => s

/-- The closed switch makes in a reference close (R88): each leaf's position is set to CLOSED_SWITCH_POS, and the leaves go on to
0 µm at the speed they have. DEDUCED: log entry 34. -/
def State.refSwitch (s : State) (d : Nat) : State :=
  match (s.door d).move with
  | some m =>
    if m.kind == .refClose && !m.ended && !m.stopping && m.seeks.all (fun k => !k.ended) && closedSwitch s d then
      let vel := (m.seeks.map (·.vel)).foldl max 0
      let s := (leavesOf s d).foldl (fun s a => s.rebase a ((s.axis a).posNm - 1000 * s.p (Ax.CLOSED_SWITCH_POS a))) s
      let s := s.launch d .refFinal
      match (s.door d).move with
      | some n =>
        let dist : Int := n.axes.foldl (fun t z => max t (Int.natAbs (z.target - z.start) : Int)) 0
        if dist = 0 ∨ n.ended then s else
        let v := min n.lim.v (1000000 * vel / dist)
        s.modDoor d (fun x => { x with move := some { n with v, segs := planPath n.lim (capsFor s n) 0 v } })
      | none => s
    else s
  | none => s

/-- An obstruction in a manual mode, and in an alignment run (R110, R226). DEDUCED: log entry 37. -/
def State.detectManual (s : State) (a : Nat) : State :=
  let x := s.axis a
  let d := doorOf a
  if x.align.isSome then
    if x.absCount = 3 then
      let self := match x.align with | some r => r.self | none => false
      let s := ((s.setAxis a { x with align := none }).wr (Ax.ANGLE_STATE a) 3).addCauses d 2
      if self then (s.modDoor d (fun y => { y with alignFor := none })).faultDoor d 6 else s
    else s
  else
    let c := causesOf s a (closingNow s a) true
    if manual s a ∧ axisMoving s a ∧ c ≠ 0 then ((s.addCauses d c).disturb d).manualStop a else s

/-- One motion tick of a doorway, after its axes' force estimates: detection, the steps of a reaction, the move. -/
def State.doorMotion (s : State) (lowered : List Nat) (d : Nat) : State :=
  match (s.door d).obs with
  | some o =>
    let s := s.trackPeak d o
    -- a limit switch seen in the tick of the detection stops the move as well (R227)
    if o.stage = 0 then (s.hardStop d).modDoor d (fun x => { x with
      obs := some { o with stage := 1 }, move := x.move.map (fun m => { m with limitStopped := m.limitStopped || m.limitSeen.isSome }) })
    else s.reactObs d o
  | none => ((s.detectObs d).moveTick d (closedSwitch s d) (contact s d 6) (lowered.filter (fun a => doorOf a == d))).refSwitch d

/-! ### The ends of moves -/

/-- The end of a learn-run seek (R103): end positions, candidates, and a seek that found no end. DEDUCED: log entry 167. -/
def State.seekEnded (s : State) (d : Nat) (m : Move) : State :=
  match (s.door d).learn with
  | none => s
  | some l =>
    let put := fun (st : Store Int) => m.seeks.foldl (fun st k => place k.a (divRound (k.found.getD 0) 1000) (erase k.a st)) st
    let none_ := if m.kind = .seekStepIn then !contact s d 6 else m.seeks.any (fun k => k.found.isNone)
    let l := { l with noEnd := l.noEnd || (none_ && !m.stopping) }
    let l := match m.kind, l.pass with
      | .seekOpen, 1 | .seekStepOut, 1 => { l with e1 := put l.e1 }
      | .seekOpen, _ | .seekStepOut, _ => { l with e2 := put l.e2 }
      | _, 1 => { l with c1 := put l.c1 }
      | _, _ => { l with c2 := put l.c2 }
    if m.kind == .seekStepIn && contact s d 6 then
      let s := s.takeReference (stepAxis d)
      s.modDoor d (fun x => { x with learn := some { l with shifts := l.shifts ++ [b2i (shiftLarge s (stepAxis d))] } })
    else s.modDoor d (fun x => { x with learn := some l })

/-- MOVE_END: the path has reached its target, or a stop has ended; the doorway goes on with what its sequence calls for. -/
def execMoveEnd (d : Nat) (s : State) : Host.Outcome State Fault Refusal := done s (
  let x := s.door d
  match x.move with
  | some m =>
    if m.ended = false ∨ x.obs.isSome then s else
    let s := s.finishMove d
    let seek := match m.kind with
      | .seekOpen | .seekClose | .seekStepOut | .seekStepIn => true
      | _ => false
    let s := if m.limitStopped && !seek then s.faultDoor d 6
      else if m.kind == .refClose && m.stopping = false && doorState s d == 5 then s.faultDoor d 6 else s
    let s := if seek then s.seekEnded d m else s
    let s := if m.kind == .reverse || m.kind == .relief then s.startDwell d else s
    (match x.thenMove with
      | some k => (s.modDoor d (fun x => { x with thenMove := none })).begin_ d k
      | none => s)
  | none => s)

end Sys2Proof.Machine
end

