-- ==== Sys2Proof/Machine/Sequencer.lean ====
section
/-!
DEFINITION. The door sequencer: car terms, commands, the evaluation of a doorway in a door tick (R48 to R75), the start
scheduler, the learn run, and the timers of the sequences.
-/
namespace Sys2Proof.Machine

/-! ### Car terms (R57, R251, R252) -/

/-- Whether the train-line pair of an assignment entry reads active. -/
def lineActive (s : State) (k : Nat) : Bool := let c := s.pn k; decide (0x80 ≤ c) && decide (c ≤ 0x97) && pairActive s (c - 0x80)

/-- The bits the NSL source delivers to the sequencer. -/
def nslNow (s : State) : Nat :=
  let n := s.pn Gl.CAB_CONNECTION
  if n < 32 ∧ s.rdn (Ns.CONN_STATE n) = 3 then s.cab.bits else 0

/-- LEFT_RELEASED, RIGHT_RELEASED, ZERO_SPEED and RELEASE_SOURCES of a door tick. -/
def State.carTerms (s : State) : State :=
  let l := lineActive s Gl.LEFT_RELEASE_PAIR
  let r := lineActive s Gl.RIGHT_RELEASE_PAIR
  let z := lineActive s Gl.ZERO_SPEED_PAIR
  let n := nslNow s
  let rs := s.pn Gl.RELEASE_SOURCE
  let s := s.wr Gl.LEFT_RELEASED (b2i (termOf rs l (n.testBit 0)))
  let s := s.wr Gl.RIGHT_RELEASED (b2i (termOf rs r (n.testBit 1)))
  let s := s.wr Gl.ZERO_SPEED (b2i (termOf (s.pn Gl.ZERO_SPEED_SOURCE) z (n.testBit 2)))
  s.wrn Gl.RELEASE_SOURCES ((if l then 1 else 0) + (if r then 2 else 0) + (if z then 4 else 0) + 8 * (n % 8))

/-! ### Commands (R54 to R56) -/

/-- Whether the latched cause of a FAULT is still present (R53, R566). DEDUCED: log entry 30. -/
def causePresent (s : State) (d : Nat) : Bool :=
  match s.rdn (Dr.FAULT_CAUSE d) with
  | 1 => !linkUp s d
  | 5 => !contactsAgreed s d || ((s.door d).pairFault && contactReads s d 1 != contactReads s d 2)
  | 6 => (axesOf s d).any (fun a =>
      let x := s.axis a
      decide ((x.monPeak : Int) * 10000 * (iFull s a) / (262144 * 4) > 1000 * (overcurrentLimit s a : Int)) || decide (8 ≤ x.over0) || decide (8 ≤ x.over1)
        || decide (3 ≤ x.encStreak) || x.encJump)
  | 7 => stoCausePresent s d
  | 8 => s.rdn Gl.SET_STATE != 1
  | 9 => !linkUp s d || s.rdn (Dr.TABLE_STATE d) != 2
  | _ => false

/-- A RESET while STEP_FAULT is set, outside FAULT, EMERGENCY_RELEASED and OBSTRUCTED_HOLD (R67). -/
def rerunOk (s : State) (d : Nat) : Bool :=
  let st := doorState s d
  s.bit (Dr.STATUS d) 19 && (match (s.door d).interrupted with
    | some true => st == 4 && released s d && zeroSpeed s
    | some false => st == 1 || st == 2 || st == 4
    | none => false)

/-- Whether a doorway command is accepted now (R54, R79, R102, R110, R211). DEDUCED: log entry 36. -/
def commandOk (s : State) (d n : Nat) : Bool :=
  let st := doorState s d
  let x := s.door d
  configured s d && (n == 0 || (!doorManual s d && (match n with
    | 4 => true
    | 1 => [1, 4, 5, 7].contains st && released s d && zeroSpeed s && !x.refNeeded && strokesKnown s d
    | 2 => (st == 4 || st == 7 || (st == 8 && handleHome s d)) && mayClose s d
    | 3 => st == 4 || st == 3
    | 5 => if st = 10 then !causePresent s d else if st = 8 then handleHome s d else if st = 7 then true else rerunOk s d
    | _ => st == 7 && mayClose s d)))

/-- COMMAND of a doorway: latched for the next door tick. -/
def commandEffect (d : Nat) : Effect := fun n s =>
  if commandOk s d n.toNat then
    let s := s.wr (Dr.COMMAND d) n
    .ok (if n = 0 then s else s.modDoor d (fun x => { x with cmds := x.cmds ++ [{ cmd := n.toNat, car := false }] }))
  else .error abState

/-- A refused or discarded command (R49, R54). -/
def State.countRefused (s : State) (d : Nat) : State := (s.count (Dr.COMMANDS_REFUSED d)).setB (Dr.STATUS d) 22 true

/-- A write of COMMAND. -/
def doorCommand (via : Via) (d : Nat) (n : Int) (s : State) : State :=
  writeNum via (0x3001 + 0x40 * d) 1 (.num n) none (fun s => s.countRefused d) (commandEffect d) s

def execOpen (via : Via) (d : Nat) (s : State) : Host.Outcome State Fault Refusal := done s (doorCommand via d 1 s)
def execClose (via : Via) (d : Nat) (s : State) : Host.Outcome State Fault Refusal := done s (doorCommand via d 2 s)
def execHoldOpen (via : Via) (d : Nat) (s : State) : Host.Outcome State Fault Refusal := done s (doorCommand via d 3 s)
def execEndHold (via : Via) (d : Nat) (s : State) : Host.Outcome State Fault Refusal := done s (doorCommand via d 4 s)
def execReset (via : Via) (d : Nat) (s : State) : Host.Outcome State Fault Refusal := done s (doorCommand via d 5 s)
def execForcedClose (via : Via) (d : Nat) (s : State) : Host.Outcome State Fault Refusal := done s (doorCommand via d 6 s)

/-- The doorway command and the side of a car command (R55). -/
def carAction : Nat → Option (Nat × Option Nat)
  | 1 => some (1, some 0) | 2 => some (1, some 1) | 3 => some (2, some 0) | 4 => some (2, some 1)
  | 5 => some (2, none) | 6 => some (3, none) | 7 => some (4, none) | _ => none

/-- A car command acts on every configured doorway of its side, whatever state each is in (R55). -/
def State.carCommand (s : State) (n : Nat) : State :=
  match carAction n with
  | none => s
  | some (c, side) => (allDoors s).foldl (fun s d =>
      if side = none ∨ side = some (doorSide s d) then s.modDoor d (fun x => { x with cmds := x.cmds ++ [{ cmd := c, car := true }] })
      else s) s

def carEffect : Effect := fun n s => .ok ((s.wr Gl.CAR_COMMAND n).carCommand n.toNat)

/-- A write of CAR_COMMAND. -/
def carWrite (via : Via) (n : Int) (s : State) : State := writeNum via 0x2010 1 (.num n) none id carEffect s

def execOpenLeft (via : Via) (s : State) : Host.Outcome State Fault Refusal := done s (carWrite via 1 s)
def execOpenRight (via : Via) (s : State) : Host.Outcome State Fault Refusal := done s (carWrite via 2 s)
def execCloseLeft (via : Via) (s : State) : Host.Outcome State Fault Refusal := done s (carWrite via 3 s)
def execCloseRight (via : Via) (s : State) : Host.Outcome State Fault Refusal := done s (carWrite via 4 s)
def execCloseAll (via : Via) (s : State) : Host.Outcome State Fault Refusal := done s (carWrite via 5 s)
def execHoldAll (via : Via) (s : State) : Host.Outcome State Fault Refusal := done s (carWrite via 6 s)
def execEndHoldAll (via : Via) (s : State) : Host.Outcome State Fault Refusal := done s (carWrite via 7 s)

/-- PASSENGER_REQUEST (R61): a rising edge on a request input, after the input's own filter. -/
def execPassengerRequest (d : Nat) (s : State) : Host.Outcome State Fault Refusal := done s (
  let on := fun (k : Nat) => inputActive s d (s.pn k)
  (if configured s d ∧ (on (Dr.REQUEST_INPUT_INSIDE d) ∨ on (Dr.REQUEST_INPUT_OUTSIDE d)) then
      s.modDoor d (fun x => { x with request := true })
    else s))

/-! ### Start scheduler (R72 to R75) -/

/-- Whether this unit's sequencer acts: the holder, or a unit whose partner does not hold the token (R344). DEDUCED: log entry 38. -/
def sequencing (s : State) : Bool := s.holds || !s.duplex.wasPartner

/-- Direction of a start, for the learned peaks: TRUE for opening. -/
def startOpens : StartKind → Bool
  | .opening | .stepExtend => true
  | _ => false

/-- Predicted start peak of a doorway in a direction (R73), mA. -/
def predictedPeak (s : State) (d : Nat) (opening : Bool) : Nat :=
  let l := if opening then (s.door d).peaksOpen else (s.door d).peaksClose
  let m := l.foldl max 0
  let v := m + m * s.pn Gl.START_MARGIN / 100
  if l.length < 8 then max (if l = [] then 0 else v) (s.pn (Dr.START_PEAK_DEFAULT d)) else v

/-- Request a start (R74): the wait begins. -/
def State.requestStart (s : State) (d : Nat) (k : StartKind) : State :=
  let x := s.door d
  if x.startWait.isSome ∨ x.granted.isSome then s else s.setDoor d { x with startWait := some { kind := k, since := s.now } }

/-- Grant the start of a doorway (R74, R75). -/
def State.grant (s : State) (d : Nat) : State :=
  let x := s.door d
  match x.startWait with
  | none => s
  | some w =>
    let t := (s.now - w.since) / 50
    let s := s.setDoor d { x with startWait := none, granted := some w.kind, lastGrant := some (predictedPeak s d (startOpens w.kind), s.now) }
    (s.wrn (Dr.START_WAIT_LAST d) (min 400 t)).sample 1 (8 * d + 6) t

/-- MOTION and SENSE are on (R483): a start cannot run without them. -/
def domainsReady (s : State) : Bool := s.bit Gl.DOMAINS_ON 4 && s.bit Gl.DOMAINS_ON 7

/-- Force a start that has waited 400 ms (R74); one that still waits for a domain is cancelled (R485). -/
def State.grantForced (s : State) (d : Nat) : State :=
  if domainsReady s = false then
    ((s.modDoor d (fun x => { x with startWait := none })).wr (Dr.START_WAIT_LAST d) 400).faultDoor d 6
  else ((s.setB (Dr.STATUS d) 21 true).count (Dr.STARTS_FORCED d)).grant d

/-- Whether a waiting start has waited 400 ms. -/
def waitedLong (s : State) (d : Nat) : Bool := match (s.door d).startWait with
  | some w => decide (w.since + 20000 ≤ s.now)
  | none => false

/-- DEDUCED: log entry 27. -/
def execStartForced (d : Nat) (s : State) : Host.Outcome State Fault Refusal := done s (if sequencing s && waitedLong s d then s.grantForced d else s)

/-- What a doorway counts in the sum before the grants of a tick (R74). -/
def countedCurrent (s : State) (d : Nat) : Nat := match (s.door d).lastGrant with
  | some (p, t) => if s.now < t + 50 * s.pn Gl.START_PEAK_TIME then p else s.rdn (Dr.RUN_CURRENT d)
  | none => s.rdn (Dr.RUN_CURRENT d)

/-- Order of waiting starts: lower PRIORITY, then earlier request, then lower number; or oldest first. -/
def before (s : State) (byAge : Bool) (d e : Nat) : Bool :=
  let since := fun (d : Nat) => match (s.door d).startWait with | some w => w.since | none => 0
  let pr := fun (d : Nat) => if byAge then 0 else s.pn (Dr.PRIORITY d)
  decide (pr d < pr e) || (pr d == pr e && (decide (since d < since e) || (since d == since e && decide (d < e))))

/-- Insert a doorway by that order. -/
def insertDoor (s : State) (byAge : Bool) (d : Nat) : List Nat → List Nat
  | [] => [d]
  | e :: r => if before s byAge d e then d :: e :: r else e :: insertDoor s byAge d r

/-- The predicted sum after granting a doorway's waiting start. -/
def sumWith (s : State) (sum : Nat) (d : Nat) : Nat := match (s.door d).startWait with
  | some w => sum + predictedPeak s d (startOpens w.kind) - s.rdn (Dr.RUN_CURRENT d)
  | none => sum

/-- Grants in priority order: the first that does not fit stops the loop. -/
def grantLoop (budget : Nat) : List Nat → Nat → State → State × Nat
  | [], sum, s => (s, sum)
  | d :: r, sum, s =>
    let t := sumWith s sum d
    if budget ≠ 0 ∧ budget < t then (s, sum) else grantLoop budget r t (s.grant d)

/-- The scheduler of a door tick (R74). -/
def State.schedule (s : State) : State :=
  let sum := (allDoors s).foldl (fun t d => t + countedCurrent s d) 0
  let waiting := (allDoors s).filter (fun d => (s.door d).startWait.isSome)
  let old := (waiting.filter (waitedLong s)).foldl (fun l d => insertDoor s true d l) []
  let (s, sum) := old.foldl (fun (acc : State × Nat) d => (acc.1.grantForced d, sumWith acc.1 acc.2 d)) (s, sum)
  let rest := (waiting.filter (fun d => !old.contains d)).foldl (fun l d => insertDoor s false d l) []
  let (s, sum) := if domainsReady s then grantLoop (s.pn Gl.DOOR_SUPPLY_BUDGET) rest sum s else (s, sum)
  (s.wrn Gl.PREDICTED_SUM (min sum max32)).raiseMax Gl.PREDICTED_SUM_MAX (min sum max32 : Nat)

/-- RUN_CURRENT and the peak of a start under measurement, at a door tick (R73, R74). DESIGN CHOICE: log entry 26. -/
def State.currentTick (s : State) (d : Nat) : State :=
  let x := s.door d
  let f := (9 * x.runFilt + 1000 * x.dcLast) / 10
  let s := (s.setDoor d { x with runFilt := f }).wrn (Dr.RUN_CURRENT d) (min 200000 (f / 1000))
  match x.measuring with
  | some (op, t, peak) =>
    if s.now < t then s
    else
      let l := (peak :: (if op then x.peaksOpen else x.peaksClose)).take 8
      let s := s.modDoor d (fun x => if op then { x with measuring := none, peaksOpen := l } else { x with measuring := none, peaksClose := l })
      s.wrn (if op then Dr.START_PEAK_OPEN d else Dr.START_PEAK_CLOSE d) (min 200000 (l.foldl max 0))
  | none => s

/-- The measurement of a start's peak begins with the start (R73). -/
def State.measureStart (s : State) (d : Nat) (k : StartKind) : State :=
  s.modDoor d (fun x => { x with measuring := some (startOpens k, s.now + 50 * s.pn Gl.START_PEAK_TIME, 0) })

/-! ### What a boundary brings into effect (R48, R75) -/

/-- A granted start begins. The re-run of a step move waits until the leaves are at rest. DEDUCED: log entry 199. -/
def State.beginStart (s : State) (d : Nat) (k : StartKind) : State :=
  if (k == .stepRetract || k == .stepExtend) && leavesMove s d then s else
  let s := (s.modDoor d (fun x => { x with granted := none })).measureStart d k
  match k with
  | .opening => if doorState s d = 1 then s.enterUnlock d else s.enterOpening d
  | .close => s.enterClosing d false
  | .retry => (s.addSat (Dr.RETRY_COUNT d) 1 10).enterClosing d false
  | .reduced => s.enterClosing d true
  | .stepRetract => if (s.door d).learn.isSome then s.begin_ d .seekStepIn else s.redirect d .stepRetract
  | .stepExtend => s.redirect d .stepExtend

/-- Enter OBSTRUCTED at the door-tick boundary after the detection (R48, R220): no reduced-force close runs any more (R231). -/
def State.enterObstructed (s : State) (d : Nat) : State :=
  (((s.abortLearn d).wr (Dr.STATE d) 6).setB (Dr.MANTIS_DOOR_STATUS d) 5 false).modDoor d (fun x => { x with obstructed := false, lockUntil := none, lockAt := none, startWait := none, granted := none })

/-- The transition decided in the last door tick. -/
def State.transit (s : State) (d : Nat) (t : Trans) : State :=
  match t with
  | .isolate => (s.cancelAll d).wr (Dr.STATE d) 9
  | .fault c => s.enterFault d c
  | .emergency => (s.cancelAll d).wr (Dr.STATE d) 8
  | .opening => s.enterOpening d
  | .openLeaves =>
    let s := s.modDoor d (fun x => { x with openDwellEnded := false, openDwellUntil := none, openStopped := false, lastEnd := none })
    s.begin_ d (if (s.door d).learn.isSome then .seekOpen else if groupStep s d then .openGroup else .openLeaves)
  | .relock => (s.modDoor d (fun x => { x with fullStroke := false })).lockStep d true
  | .locked => s.enterLocked d
  | .stopOpen => (s.stopMove d).enterOpen d false
  | .atOpen => s.enterOpen d true
  | .openBlocked => ((s.latch (Dr.MANTIS_DOOR_STATUS d) 8 (Dr.OPEN_BLOCKED_REPEATS d)).enterOpen d true)
  | .stepFailedOpen => s.enterOpen d false
  | .zeroLost =>
    let st := doorState s d
    let s := (s.setB (Dr.STATUS d) 20 true).raise 0x0282 d st
    if mayClose s d then s.enterClosing d false else (s.stopMove d).enterOpen d false
  | .warn o =>
    -- a WARNING_TIME of 0 has ended when it begins
    s.modDoor d (fun x => { x with warnUntil := s.after (s.pn (Dr.WARNING_TIME d)), warnOrigin := o, warnEnded := s.pn (Dr.WARNING_TIME d) == 0,
                                   autoUntil := none, autoEnded := false, closePend := none, holdSince := none, holdRaised := false,
                                   noReopen := o == .car || o == .release })
  | .closedUnlocked => s.lockStep d false
  | .reopen => s.enterOpening d
  | .hold => (s.wr (Dr.STATE d) 7).modDoor d (fun x => { x with dwellEnded := false, reduced := false, closePend := none })
  | .returnPath => s.enterReturn d
  | .learnClose => ((s.wr (Dr.STATE d) 5).creepEvent d).begin_ d .seekClose
  | .learnAgain => s.enterUnlock d

/-- The close that a warning leads to is dropped, with its warning, its hold and its waiting or granted start (R56). -/
def State.dropClose (s : State) (d : Nat) : State :=
  let keep := fun (k : StartKind) => k != .close
  let s := s.modDoor d (fun x => { x with
    warnUntil := none, warnEnded := false, closePend := x.closePend.filter keep, startWait := x.startWait.filter (fun w => keep w.kind),
    granted := x.granted.filter keep, holdSince := none, holdRaised := false })
  s.setB (Dr.MANTIS_DOOR_STATUS d) 0 false

/-- HOLD_OPEN takes effect (R56). DESIGN CHOICE: log entry 203. It acts thus: a close warning of another origin than a doorway CLOSE is cancelled, as long as CLOSE_WARNING shows
it, or does not begin. -/
def State.commitHold (s : State) (d : Nat) : State :=
  let x := s.door d
  match x.holdNext with
  | none => s
  | some b =>
    let s := if b && doorState s d == 4 && x.warnOrigin != .door && (x.warnUntil.isSome || x.closePend == some .close
        || x.startWait.map (·.kind) == some .close || x.granted == some .close) then s.dropClose d else s
    s.modDoor d (fun x => { x with holdOpen := b, holdNext := none, next := match x.next with
      | some (.warn o) => if b && o != .door then none else some (.warn o)
      | t => t })

/-- The boundary's share of a doorway: what was decided, granted or reported (R48 to R50, R220). DEDUCED: log entry 24. -/
def State.commitDoor (s : State) (d : Nat) : State :=
  if configured s d = false then
    (if doorState s d = 0 then s else ((s.cancelAll d).wr (Dr.STATE d) 0).modDoor d (fun x => { peaksOpen := x.peaksOpen, peaksClose := x.peaksClose }))
  else
    let s := s.commitHold d
    let x := s.door d
    let s := s.setDoor d { x with next := none }
    let st := doorState s d
    let urgent := match x.next with
      | some .isolate | some (.fault _) | some .emergency => true
      | _ => false
    if urgent then (match x.next with | some t => s.transit d t | none => s)
    else if x.obstructed then
      (if x.faults = [] ∧ (st = 5 ∨ (st = 2 ∧ x.opening = false)) then s.enterObstructed d
       else s.setDoor d { s.door d with obstructed := false })
    else match x.next with
    | some t => s.transit d t
    | none => match x.granted with
      | some k => s.beginStart d k
      | none => s

/-! ### Evaluation (R49, R50) -/

/-- Decide on a transition for the next boundary. -/
def State.decideOn (s : State) (d : Nat) (t : Trans) : State := s.modDoor d (fun x => { x with next := some t })

/-- Faults that the sequencer itself sees in a door tick, behind those reported to it (R50, R58, R100, R268, R292, R518). -/
def seenFaults (s : State) (d : Nat) : List Nat :=
  let x := s.door d
  let st := doorState s d
  let meets := match x.move with
    | some m => !m.ended && inService s d && handleHome s d && st != 9 && st != 8 && st != 10 && m.ids.any (safetySto s)
    | none => false
  let limit := match x.move with
    | some m => m.ended && m.limitStopped && (match m.kind with | .seekOpen | .seekClose | .seekStepOut | .seekStepIn => false | _ => true)
    | none => false
  (if s.rdn Gl.SET_STATE != 1 then [8] else []) ++ (if s.rdn Gl.SAFE_STATE_CAUSE != 0 || s.safety.debugSafe then [7] else [])
    ++ (if st == 1 && !bothLocked s d && x.next.isNone then [4] else []) ++ (if limit then [6] else []) ++ (if meets then [7] else [])

/-- Edges of release and of zero speed (R59, R60, R63). -/
def State.edgesTick (s : State) (d : Nat) : State :=
  let x := s.door d
  let st := doorState s d
  let rel := released s d
  let zs := zeroSpeed s
  let lost := x.wasReleased && !rel
  let zlost := x.wasZero && !zs
  let act := st == 3 || st == 4
  s.setDoor d { x with
    wasReleased := rel, wasZero := zs,
    releaseLost := !rel && (x.releaseLost || lost) && (act || st == 2),
    zeroLost := !zs && (x.zeroLost || zlost) && act,
    enabled := x.enabled && !lost && !zlost, ignoreRequests := x.ignoreRequests || (lost && st != 1) }

/-- Cancel a waiting start whose demand has gone (R74). -/
def State.cancelStart (s : State) (d : Nat) : State := s.modDoor d (fun x => { x with startWait := none, granted := none })

/-- An opening demand by a car command, or by a command of the doorway, that the doorway may take up (R62, R79, R102). -/
def opensOk (s : State) (d : Nat) : Bool := released s d && zeroSpeed s && !(s.door d).refNeeded && strokesKnown s d

/-- A waiting opening, or a step's extension, that release, zero speed or the doorway no longer allow (R58, R74). -/
def State.dropOpening (s : State) (d : Nat) : State := match (s.door d).startWait with
  | some w => if (w.kind == .opening && !opensOk s d) || (w.kind == .stepExtend && !(released s d && zeroSpeed s)) then s.cancelStart d else s
  | none => s

/-- The re-run of a step move that a RESET asks for (R67). -/
def State.rerunStep (s : State) (d : Nat) : State :=
  if strokesKnown s d = false then s else
  match (s.door d).interrupted with
  | some ext => (s.modDoor d (fun x => { x with stepSto := false, rerun := true })).requestStart d (if ext then .stepExtend else .stepRetract)
  | none => s

/-- The close that is pending: held by the zone or an edge, else its start is requested (R215). -/
def State.closePending (s : State) (d : Nat) : State :=
  let x := s.door d
  let bitH := Dr.MANTIS_DOOR_STATUS d
  match x.closePend with
  | none => s
  | some k =>
    if x.startWait.isSome ∨ x.granted.isSome then s
    else if closeHeld s d then
      if x.holdSince.isSome then s
      else ((s.count (Dr.DEPTH_HOLDS d)).setB bitH 0 true).modDoor d (fun x => { x with holdSince := some s.now, holdRaised := false })
    else
      let long := heldFor x.holdSince s.now 100001
      let s := (s.setB bitH 0 false).modDoor d (fun x => { x with holdSince := none, holdRaised := false })
      if long && doorState s d == 4 then (s.modDoor d (fun x => { x with closePend := none })).decideOn d (.warn x.warnOrigin)
      else if mayClose s d then (s.modDoor d (fun x => { x with closePend := none })).requestStart d k
      else s

/-- Which commands a tick brought. -/
def hasCmd (cmds : List DoorCmd) (n : Nat) (car : Bool) : Bool := cmds.any (fun c => c.cmd == n && c.car == car)

/-- A car close command that HOLD_OPEN does not shut out (R56). -/
def carCloses (x : Door) (cmds : List DoorCmd) : Bool := hasCmd cmds 2 true && !x.holdOpen

/-- OPEN_LEFT and OPEN_RIGHT only enable requests in the PASSENGER modes, until a car close command (R62), after which the doorway ignores
requests until it is CLOSED_LOCKED (R63); a doorway without stroke or reference they leave alone (R79, R102). -/
def State.enableTick (s : State) (d : Nat) (cmds : List DoorCmd) : State :=
  let x := s.door d
  let on := hasCmd cmds 1 true && s.pn (Dr.REQUEST_MODE d) != 0 && !x.refNeeded && strokesKnown s d
  let close := carCloses x cmds
  s.setDoor d { x with enabled := (x.enabled || on) && !close, ignoreRequests := x.ignoreRequests || (close && doorState s d != 1) }

/-- A request in CLOSED_LOCKED (R62, R63): TRUE when it opens the doorway; a request before the release is kept. DESIGN CHOICE:
log entry 173. -/
def State.requestLocked (s : State) (d : Nat) (edge : Bool) : State × Bool :=
  let x := s.door d
  let mode := s.pn (Dr.REQUEST_MODE d)
  let t := s.pn (Dr.PRESELECT_TIME d)
  if x.refNeeded ∨ strokesKnown s d = false ∨ x.ignoreRequests then (s.setDoor d { x with preselUntil := none }, false)
  else if released s d = false then
    (if edge ∧ t ≠ 0 then s.setDoor d { x with preselUntil := s.after t } else s, false)
  else if (edge ∨ x.preselUntil.isSome) ∧ mode ≠ 0 ∧ x.enabled ∧ zeroSpeed s then (s.setDoor d { x with preselUntil := none }, true)
  else (s, false)

/-- Learn run in CLOSED_LOCKED: unlock, step retract, the second pass, the end (R103). -/
def State.learnLocked (s : State) (d : Nat) (l : Learn) : State :=
  let put := fun (s : State) (l : Learn) => s.modDoor d (fun x => { x with learn := some l })
  if l.aborted then s.modDoor d (fun x => { x with learn := none })
  else if l.finished then s
  else if l.noEnd then put s { l with finished := true }
  else if l.step = 1 then (put s { l with step := 2 }).decideOn d .learnAgain
  else
    let stepDone := match (s.door d).lastEnd with
      | some (.seekStepIn, _) => true
      | _ => false
    if hasStep s d && l.step == 6 then (put s { l with step := 7 }).requestStart d .stepRetract
    else if hasStep s d && !stepDone then s
    else
      let s := s.modDoor d (fun x => { x with lastEnd := none })
      if l.pass = 1 then (put s { l with pass := 2, step := 2 }).decideOn d .learnAgain
      else put s { l with finished := true }

/-- CLOSED_LOCKED. Returns whether the doorway's OPEN and RESET commands were honoured. DEDUCED: log entry 25. -/
def State.evalLocked (s : State) (d : Nat) (cmds : List DoorCmd) (req : Bool) : State × List Nat :=
  let x := s.door d
  match x.learn with
  | some l => (s.learnLocked d l, [])
  | none =>
    let carOpen := hasCmd cmds 1 true
    let mode := s.pn (Dr.REQUEST_MODE d)
    let closing := carCloses x cmds
    let s := s.dropOpening d
    let (s, byReq) := s.requestLocked d req
    let want := hasCmd cmds 1 false || (carOpen && mode == 0) || byReq
    if want && opensOk s d && !closing then
      let s := if (s.door d).startWait.map (·.kind) = some .stepRetract then s.cancelStart d else s
      (s.requestStart d .opening, [1])
    else
      let s := if hasCmd cmds 5 false then s.rerunStep d else s
      let x := s.door d
      (if x.wantRetract ∧ strokesKnown s d ∧ x.startWait.isNone ∧ x.granted.isNone then
          (s.modDoor d (fun x => { x with wantRetract := false })).requestStart d .stepRetract
        else s, [5])

/-- CLOSED_UNLOCKED, opening and closing (R50, R64, R65, R255). -/
def State.evalUnlocked (s : State) (d : Nat) (cmds : List DoorCmd) : State × List Nat :=
  let x := s.door d
  if x.opening && !(released s d && zeroSpeed s) then (s.abortLearn d |>.decideOn d .relock, [])
  else
  let s := if hasCmd cmds 5 false then s.rerunStep d else s
  if x.opening then
    if (match x.learn with | some l => l.aborted | none => false) then
      ((s.modDoor d (fun x => { x with learn := none })).decideOn d .returnPath, [5])
    else if bothUnlocked s d then
      let s := match x.unlockAt with
        | some t => (s.sample 1 (8 * d + 5) ((s.now - t) / 50 : Nat)).modDoor d (fun x => { x with unlockAt := none })
        | none => s
      (if s.pn (Dr.LOCK_TYPE d) = 0 ∧ (inMotion s d ∨ x.alignFor.isSome) then s else s.decideOn d .opening, [5])
    else (s, [5])
  else if bothLocked s d then (s.decideOn d .locked, [5])
  else (s, [5])

/-- OPENING (R50, R59, R60, R65, R67, R224). -/
def State.evalOpening (s : State) (d : Nat) (_cmds : List DoorCmd) : State × List Nat :=
  let x := s.door d
  let ended := match x.lastEnd with
    | some (k, r) => if r then some k else none
    | none => none
  if x.zeroLost then ((s.abortLearn d).modDoor d (fun x => { x with zeroLost := false }) |>.decideOn d .zeroLost, [])
  else if x.releaseLost then (s.abortLearn d |>.decideOn d .stopOpen, [])
  else if (match x.learn with | some l => l.aborted | none => false) then
    ((s.modDoor d (fun x => { x with learn := none })).decideOn d .returnPath, [])
  else if (match x.learn with | some l => l.noEnd | none => false) then
    (((s.wrn (Dr.LEARN_STATE d) 7).modDoor d (fun x => { x with learn := none })).decideOn d .returnPath, [])
  else if x.stepFailed then (s.decideOn d .stepFailedOpen, [])
  else if x.openStopped ∧ x.openDwellUntil.isNone ∧ x.openDwellEnded = false ∧ x.move.isNone then
    (if (leavesOf s d).any (fun a => nearNm s a 0) then s.decideOn d (.fault 6) else s.decideOn d .openBlocked, [])
  else if x.openDwellEnded then (s.decideOn d .openLeaves, [])
  else match ended with
  | some .stepExtend => (if stepOut s d then s.decideOn d .openLeaves else s, [])
  | some .seekStepOut => (s.decideOn d .openLeaves, [])
  | some .openLeaves | some .openGroup | some .seekOpen => (s.decideOn d .atOpen, [])
  | _ => (s, [])

/-- A close warning to begin (R50, R66): a running one is not extended, and a waiting opening gives way to it (R49, R74). DEDUCED: log
entry 162. A doorway CLOSE takes a running warning over (R56). DEDUCED: log entry 200. -/
def State.beginWarning (s : State) (d : Nat) (o : WarnOrigin) : State :=
  let x := s.door d
  let wait : Option StartKind := x.startWait.map (fun w => w.kind)
  if x.warnUntil.isSome ∨ x.closePend.isSome ∨ wait = some .close ∨ x.granted = some .close ∨ mayClose s d = false then
    (if o == .door then s.setDoor d { x with warnOrigin := .door } else s)
  else (if wait = some .opening then s.cancelStart d else s).decideOn d (.warn o)

/-- CLOSE_WARNING shows no longer once the warning has ended and the close waits for its start or is held (R66, R215). -/
def State.warningOver (s : State) (d : Nat) : State :=
  let x := s.door d
  if x.closePend = some .close ∨ x.startWait.map (·.kind) = some .close ∨ x.granted = some .close then s.setDoor d { x with warnUntil := none } else s

/-- OPEN (R50, R54 to R56, R59, R60, R62, R63, R66). -/
def State.evalOpen (s : State) (d : Nat) (cmds : List DoorCmd) (req : Bool) : State × List Nat :=
  let x := s.door d
  if (match x.learn with | some l => l.aborted | none => false) then (s.modDoor d (fun x => { x with learn := none }), [])
  else if x.learn.isSome ∧ released s d ∧ zeroSpeed s ∧ energyBlock s d = false then (s.decideOn d .learnClose, [])
  else
    let s := ((s.abortLearn d).dropOpening d).warningOver d
    let mode := s.pn (Dr.REQUEST_MODE d)
    if x.zeroLost then ((s.cancelStart d).modDoor d (fun x => { x with zeroLost := false }) |>.decideOn d .zeroLost, [])
    else if x.releaseLost ∧ s.pb (Dr.CLOSE_ON_RELEASE_LOSS d) ∧ x.holdOpen = false ∧ leavesMove s d = false ∧ mayClose s d then
      ((s.modDoor d (fun x => { x with releaseLost := false })).beginWarning d .release, [])
    else
      let carClose := carCloses x cmds
      let doorClose := hasCmd cmds 2 false
      let s := if carClose then s.beginWarning d .car else s
      let s := if doorClose then s.beginWarning d .door else s
      let s := if x.autoEnded && !x.holdOpen then (s.modDoor d (fun x => { x with autoEnded := false })).beginWarning d .auto else s
      let acted := doorClose || carClose || x.autoEnded && !x.holdOpen || x.warnEnded
      let s := if x.warnEnded then s.modDoor d (fun x => { x with warnEnded := false, closePend := some .close }) else s
      let s := s.closePending d
      let carOpen := hasCmd cmds 1 true
      if acted then (s, [2])
      else if (hasCmd cmds 1 false || (carOpen && mode == 0)) && opensOk s d then
        let s := (s.cancelStart d).modDoor d (fun x => { x with warnUntil := none, warnEnded := false, closePend := none, next := none })
        ((s.setB (Dr.MANTIS_DOOR_STATUS d) 0 false).requestStart d .opening, [1])
      else
        let s := if hasCmd cmds 5 false then s.rerunStep d else s
        -- a request under PASSENGER_AUTO restarts AUTO_CLOSE_TIME (R62)
        let auto := s.pn (Dr.AUTO_CLOSE_TIME d)
        let byAuto := x.warnUntil.isSome && x.warnOrigin == .auto && x.closePend.isNone && !x.warnEnded
          && x.startWait.isNone && x.granted.isNone
        let s := if req && mode == 2 && !x.ignoreRequests && (x.warnUntil.isNone && x.autoUntil.isSome || byAuto) then
            s.modDoor d (fun x => { x with warnUntil := none, autoUntil := s.after auto, autoEnded := false })
          else s
        (s, [2, 5])

/-- CLOSING (R50, R54, R63, R66). -/
def State.evalClosing (s : State) (d : Nat) (cmds : List DoorCmd) (req : Bool) : State × List Nat :=
  let x := s.door d
  let kind := x.move.map (·.kind)
  let carClose := carCloses x cmds
  let s := if carClose then s.modDoor d (fun x => { x with noReopen := true }) else s
  if (match x.learn with | some l => l.aborted | none => false) then
    ((s.modDoor d (fun x => { x with learn := none })).decideOn d .returnPath, [])
  else if (match x.learn with | some l => l.noEnd | none => false) then
    (((s.wrn (Dr.LEARN_STATE d) 7).modDoor d (fun x => { x with learn := none })).decideOn d .returnPath, [])
  else if x.learn.isSome then
    (if (match x.lastEnd with | some (.seekClose, _) => true | _ => false) && closedSwitch s d then
        (s.modDoor d (fun x => { x with lastEnd := none })).decideOn d .closedUnlocked
      else s, [])
  else if closedSwitch s d && inWindow s d && kind != some .refClose && x.thenMove.isNone then (s.decideOn d .closedUnlocked, [])
  else
    let rw := 1000 * s.p (Dr.REOPEN_WINDOW d)
    let byReq := req && !x.noReopen && !x.ignoreRequests && rw != 0 && (leavesOf s d).all (fun a => decide (rw ≤ (s.axis a).posNm))
    let carOpen := hasCmd cmds 1 true && s.pn (Dr.REQUEST_MODE d) == 0
    if (hasCmd cmds 1 false || carOpen || byReq) && opensOk s d && !carClose then (s.decideOn d .reopen, [1])
    else (s, [])

/-- OBSTRUCTED: at the end of the dwell, the retry, the reduced-force close, or OBSTRUCTED_HOLD (R221 to R223). -/
def State.evalObstructed (s : State) (d : Nat) : State :=
  let x := s.door d
  let s := if x.dwellEnded then
      let out := decide (s.rdn (Dr.RETRY_COUNT d) ≥ s.pn (Dr.RETRIES d))
      let s := s.modDoor d (fun x => { x with dwellEnded := false })
      if x.reduced || (out && s.pn (Dr.FINAL_CLOSE_MODE d) == 0) || !mayClose s d then s.decideOn d .hold
      else s.modDoor d (fun x => { x with closePend := some (if out then .reduced else .retry) })
    else s
  s.closePending d

/-- OBSTRUCTED_HOLD (R50, R54, R55). DEDUCED: log entry 29. DESIGN CHOICE: log entry 171. -/
def State.evalHold (s : State) (d : Nat) (cmds : List DoorCmd) : State × List Nat :=
  let x := s.door d
  let doorClose := hasCmd cmds 2 false
  let forced := hasCmd cmds 6 false
  let carClose := carCloses x cmds
  let s := s.dropOpening d
  if (doorClose || forced || carClose) && mayClose s d then
    let k : StartKind := if forced then .reduced else .close
    let s := if x.startWait.map (·.kind) = some k then s else s.cancelStart d
    let s := (s.wr (Dr.RETRY_COUNT d) 0).modDoor d (fun x => { x with closePend := some k, noReopen := carClose })
    (s.closePending d, [2, 6])
  else if (hasCmd cmds 1 false || (hasCmd cmds 1 true && s.pn (Dr.REQUEST_MODE d) == 0)) && opensOk s d then
    let s := ((s.wr (Dr.RETRY_COUNT d) 0).cancelStart d).modDoor d (fun x => { x with closePend := none, holdSince := none, holdRaised := false })
    ((s.setB (Dr.MANTIS_DOOR_STATUS d) 0 false).requestStart d .opening, [1])
  else
    let s := if hasCmd cmds 5 false then s.modDoor d (fun x => { x with stepSto := false }) else s
    (s.closePending d, [5])

/-- A doorway that has had no state yet waits for its contacts: node inputs known, and every filter settled (R531 step B8, R532).
DEDUCED: log entry 33. -/
def contactsKnown (s : State) (d : Nat) : Bool :=
  let x := s.con d
  let nodes := (List.range 7).filter (fun i => decide (contactCode s d (i + 1) < 8))
  nodes == [] || (!nodeUnknown s d && nodes.all (fun i =>
    let n := contactCode s d (i + 1)
    x.rawA.testBit n == x.conA.testBit i && x.rawB.testBit n == x.conB.testBit i))

/-- HOLD_OPEN after the commands of a door tick (R54 to R56, R70, R110). -/
def holdAfter (s : State) (d : Nat) (cmds : List DoorCmd) : Option Bool :=
  let st := doorState s d
  if doorManual s d then none else
  cmds.foldl (fun h c =>
    if c.cmd = 3 ∧ (st = 3 ∨ st = 4) then some true else if c.cmd = 4 ∧ ¬ (c.car ∧ st = 9) then some false else h) none

/-- Whether a doorway command found its state when the tick took it up: those that the evaluation answers for, HOLD_OPEN and END_HOLD
by the state (R54). -/
def honoured (st : Nat) (done : List Nat) (c : DoorCmd) : Bool :=
  c.car || c.cmd == 4 || (if c.cmd = 3 then st == 3 || st == 4 else done.contains c.cmd)

/-- The evaluation of a doorway in a door tick, in the order of R49; commands not honoured are counted. DESIGN CHOICE: log entry 172. -/
def State.evaluate (s : State) (d : Nat) : State :=
  let s := s.edgesTick d
  let x := s.door d
  let cmds := x.cmds
  let st := doorState s d
  let faults := x.faults ++ seenFaults s d
  let s := s.setDoor d { x with cmds := [], request := false, faults := [], holdNext := holdAfter s d cmds }
  let (s, done) : State × List Nat :=
    if st = 0 then
      (if contactsKnown s d = false then (match faults with | c :: _ => s.decideOn d (.fault c) | [] => s)
        else if inService s d = false then s.decideOn d .isolate
        else match faults with | c :: _ => s.decideOn d (.fault c) | [] => s.decideOn d .returnPath, [])
    else if inService s d = false then
      let s := match faults with
        | c :: _ => if s.rdn (Dr.FAULT_CAUSE d) = 0 then s.recordFault d c else s
        | [] => s
      (if st = 9 then s else s.decideOn d .isolate, [])
    else if st = 9 then
      (match faults with
        | c :: _ => s.decideOn d (.fault c)
        | [] => if s.rdn (Dr.FAULT_CAUSE d) ≠ 0 then s.decideOn d (.fault (s.rdn (Dr.FAULT_CAUSE d))) else s.decideOn d .returnPath, [])
    else if st = 10 then
      let op := !handleHome s d
      let s := if op && !(s.door d).handleRaised then s.raise 0x1283 d (s.rd (Dr.FAULT_CAUSE d)) else s
      let s := s.modDoor d (fun x => { x with handleRaised := op })
      if hasCmd cmds 5 false ∧ faults = [] then
        let s := (s.clearFault d).modDoor d (fun x => { x with stepSto := false })
        (s.decideOn d (if op then .emergency else .returnPath), [5])
      else (s, [])
    else match faults with
    | c :: _ => (s.decideOn d (.fault c), [])
    | [] =>
      if handleHome s d = false then (if st = 8 then s else s.decideOn d .emergency, [])
      else if st = 8 then
        if hasCmd cmds 2 false || (carCloses x cmds && !doorManual s d) then
          ((s.modDoor d (fun x => { x with ignoreRequests := x.ignoreRequests || carCloses x cmds })).decideOn d .returnPath, [2])
        else if hasCmd cmds 5 false then ((s.modDoor d (fun x => { x with stepSto := false })).decideOn d .returnPath, [5])
        else (s, [])
      else if doorManual s d then
        (if (s.door d).zeroLost then
            ((s.setB (Dr.STATUS d) 20 true).raise 0x0282 d st).modDoor d (fun x => { x with zeroLost := false })
          else s, [])
      else
      let s := s.enableTick d cmds
      match st with
      | 1 => s.evalLocked d cmds x.request
      | 2 => s.evalUnlocked d cmds
      | 3 => s.evalOpening d cmds
      | 4 => s.evalOpen d cmds x.request
      | 5 => s.evalClosing d cmds x.request
      | 6 => (s.evalObstructed d, [])
      | _ => s.evalHold d cmds
  cmds.foldl (fun s c => if honoured st done c then s else s.countRefused d) s

/-! ### Status (R68, R77, R231, R261) -/

/-- STATUS and MANTIS_DOOR_STATUS of a doorway. -/
def State.statusTick (s : State) (d : Nat) : State :=
  let st := doorState s d
  let x := s.door d
  let conf := configured s d
  let closed := conf && closedSwitch s d && inWindow s d
  let locked := conf && bothLocked s d
  let isoLocked := st == 9 && locked && closed
  let bits := [closed, locked, st == 1, st == 9, isoLocked, st == 1 || isoLocked, conf && released s d, st == 4 && atOpenPos s d && !leavesMove s d,
    inMotion s d || (axesOf s d).any (fun a => s.bit (Ax.AXIS_STATUS a) 0), x.warnUntil.isSome, st == 6 || st == 7,
    st == 8 || (conf && !handleHome s d), st == 10, !conf || stepRetracted s d, conf && hasStep s d && contact s d 7, x.preselUntil.isSome,
    x.holdOpen, x.startWait.isSome, x.refNeeded]
  let w := s.rdn (Dr.STATUS d) / 2 ^ 19 % 16 * 2 ^ 19
  let n := (bits.zipIdx).foldl (fun m b => if b.1 then m + 2 ^ b.2 else m) w
  let s := s.wrn (Dr.STATUS d) n
  let k := Dr.MANTIS_DOOR_STATUS d
  let s := s.setB k 1 (conf && zoneOccupied s d)
  let s := s.setB k 2 (conf && doorEdge s d)
  let s := s.setB k 3 (conf && depthDegraded s d)
  s.setB k 4 (conf && energyBlock s d)

/-- The car masks. -/
def State.maskTick (s : State) : State :=
  let of := fun (p : Nat → Bool) => maskOf ((List.range s.doorways).filter p)
  let st := fun (d : Nat) (i : Nat) => s.bit (Dr.STATUS d) i
  let s := s.wrn Gl.LOOP_OK_MASK (of (fun d => st d 5))
  let s := s.wrn Gl.OPEN_MASK (of (fun d => let x := doorState s d; x != 1 && x != 9 && x != 0))
  let s := s.wrn Gl.OBSTRUCTED_MASK (of (fun d => st d 10))
  let s := s.wrn Gl.FAULT_MASK (of (fun d => st d 12))
  let s := s.wrn Gl.ISOLATED_MASK (of (fun d => st d 3))
  s.wrn Gl.EMERGENCY_MASK (of (fun d => st d 11))

/-- Time stamps of the monitors of R69 and R241. -/
def State.monitorTick (s : State) (d : Nat) : State :=
  let st := doorState s d
  let x := s.door d
  let differ := configured s d && (s.bit (Dr.STATUS d) 5 != (s.bit Gl.SAFE_LOCKED_MASK d))
  let pair := (st == 4 || st == 7 || st == 9) && (contact s d 1 != contact s d 2)
  s.setDoor d { x with viewSince := stamp differ x.viewSince s.now, viewRaised := x.viewRaised && differ,
                       lockPairSince := stamp pair x.lockPairSince s.now, lockPairRaised := x.lockPairRaised && pair }

/-- LOOP_VIEW_DISAGREEMENT (R69): for longer than 20 ms. DEDUCED: log entry 28. -/
def execLoopViewDisagreement (d : Nat) (s : State) : Host.Outcome State Fault Refusal := done s (
  let x := s.door d
  (if heldFor x.viewSince s.now 1001 ∧ x.viewRaised = false then
      ((s.modDoor d (fun x => { x with viewRaised := true })).count Gl.LOOP_VIEW_DISAGREEMENTS).raise 0x01C3 d (b2i (s.bit (Dr.STATUS d) 5))
    else s))

/-- LOCK_PAIR_DISAGREE (R241). -/
def execLockPairDisagree (d : Nat) (s : State) : Host.Outcome State Fault Refusal := done s (
  let x := s.door d
  (if heldFor x.lockPairSince s.now (50 * s.pn (Dr.LOCK_PAIR_TIME d) + 1) ∧ x.lockPairRaised = false then
      let s := s.modDoor d (fun x => { x with lockPairRaised := true, pairFault := true })
      (s.latch (Dr.CONTACT_STATUS d) 9 (Dr.LOCK_PAIR_DISAGREE_REPEATS d)).faultDoor d 5
    else s))

/-! ### Timers of the sequences -/

def execCloseWarningEnd (d : Nat) (s : State) : Host.Outcome State Fault Refusal := done s (
  let x := s.door d
  (if due x.warnUntil s.now ∧ x.warnEnded = false ∧ x.closePend.isNone ∧ doorState s d = 4 ∧ x.startWait.isNone ∧ x.granted.isNone then
      s.setDoor d { x with warnEnded := true }
    else s))

def execAutoCloseExpiry (d : Nat) (s : State) : Host.Outcome State Fault Refusal := done s (
  let x := s.door d
  (if due x.autoUntil s.now then s.setDoor d { x with autoUntil := none, autoEnded := true } else s))

/-- UNLOCK_TIMEOUT: FAULT with the lock output off (R50). -/
def execUnlockTimeout (d : Nat) (s : State) : Host.Outcome State Fault Refusal := done s (
  let x := s.door d
  (if due x.unlockUntil s.now ∧ doorState s d = 2 ∧ x.opening ∧ x.next ≠ some .opening then
      (s.setDoor d { x with unlockUntil := none, lockOn := false }).faultDoor d 2
    else s))

def execLockTimeout (d : Nat) (s : State) : Host.Outcome State Fault Refusal := done s (
  let x := s.door d
  (if due x.lockUntil s.now ∧ doorState s d = 2 ∧ x.opening = false ∧ x.next ≠ some .locked then
      (s.setDoor d { x with lockUntil := none }).faultDoor d 3
    else s))

def execStepTimeout (d : Nat) (s : State) : Host.Outcome State Fault Refusal :=
  done s (if due (s.door d).stepUntil s.now then s.stepFault d else s)

def execPreselectTimeExpiry (d : Nat) (s : State) : Host.Outcome State Fault Refusal := done s (
  let x := s.door d
  (if due x.preselUntil s.now then s.setDoor d { x with preselUntil := none } else s))

def execDwellEnd (d : Nat) (s : State) : Host.Outcome State Fault Refusal := done s (
  let x := s.door d
  (if due x.dwellUntil s.now then s.setDoor d { x with dwellUntil := none, dwellEnded := true } else s))

def execOpenDwellEnd (d : Nat) (s : State) : Host.Outcome State Fault Refusal := done s (
  let x := s.door d
  (if due x.openDwellUntil s.now then s.setDoor d { x with openDwellUntil := none, openDwellEnded := true } else s))

/-- DEPTH_HOLD_LONG (R215): the hold has lasted DEPTH_HOLD_MAX. -/
def execDepthHoldLong (d : Nat) (s : State) : Host.Outcome State Fault Refusal := done s (
  let x := s.door d
  let t := s.pn (Dr.DEPTH_HOLD_MAX d)
  (if heldFor x.holdSince s.now (50 * t) ∧ x.holdRaised = false then
      (s.setDoor d { x with holdRaised := true }).raise 0x1382 d t
    else s))

/-! ### Learn run (R103 to R105) -/

/-- LEARN_COMMAND. A write of 1 while a run is in progress is refused. DESIGN CHOICE: log entry 201. -/
def learnEffect (d : Nat) : Effect := fun n s =>
  let x := s.door d
  if n ≠ 0 ∧ configured s d = false then .error abState
  else if n = 1 then
    if doorState s d = 1 ∧ released s d ∧ zeroSpeed s ∧ doorManual s d = false ∧ x.learn.isNone then
      .ok (((s.wr (Dr.LEARN_COMMAND d) 1).wr (Dr.LEARN_STATE d) 1).modDoor d (fun x => { x with learn := some {}, lastEnd := none }))
    else .error abState
  else if n = 2 then .ok ((s.wr (Dr.LEARN_COMMAND d) 2).stopLearn d 5)
  else .ok (s.wr (Dr.LEARN_COMMAND d) n)

def execLearnRunStart (via : Via) (d : Nat) (s : State) : Host.Outcome State Fault Refusal :=
  done s (writeNum via (0x3004 + 0x40 * d) 1 (.num 1) none id (learnEffect d) s)

def execLearnRunCancel (via : Via) (d : Nat) (s : State) : Host.Outcome State Fault Refusal :=
  done s (writeNum via (0x3004 + 0x40 * d) 1 (.num 2) none id (learnEffect d) s)

/-- Outcome of a finished learn run (R104): its LEARN_STATE. DESIGN CHOICE: log entry 176. -/
def learnOutcome (s : State) (d : Nat) (l : Learn) : Nat :=
  let ax := axesOf s d
  let e := fun (st : Store Int) (a : Nat) => getD 0 st a
  let stroke := fun (a : Nat) => min (e l.e1 a) (e l.e2 a) - s.p (Ax.OPEN_BACKOFF a)
  if l.noEnd then 7
  else if ax.any (fun a => decide (Int.natAbs (e l.e1 a - e l.e2 a) > 2000)) then 3
  else if ax.any (fun a => decide (stroke a < 20000) || decide (stroke a > 1500000)) then 4
  else if l.shifts.any (fun b => b != 0) then 6 else 2

/-- LEARN_RUN_END (R103 step 8, R104): STROKE and CLOSED_SWITCH_POS are written on success. DESIGN CHOICE: log entry 202. -/
def execLearnRunEnd (d : Nat) (s : State) : Host.Outcome State Fault Refusal := done s (
  match (s.door d).learn with
  | some l =>
    if l.finished = false ∨ l.aborted then s else
    let code := learnOutcome s d l
    let s := (s.wrn (Dr.LEARN_STATE d) code).modDoor d (fun x => { x with learn := none })
    (if code = 2 then (axesOf s d).foldl (fun s a =>
        let st := min (getD 0 l.e1 a) (getD 0 l.e2 a) - s.p (Ax.OPEN_BACKOFF a)
        (s.wr (Ax.STROKE a) st).wr (Ax.CLOSED_SWITCH_POS a) (max 0 (min 100000 ((getD 0 l.c1 a + getD 0 l.c2 a) / 2)))) s
      else s)
  | none => s)

/-! ### Axis modes (R109) -/

/-- AXIS_MODE: in effect from the next door tick. -/
def axisModeEffect (a : Nat) : Effect := fun n s =>
  if modeChangeOk s a then .ok (s.wr (Ax.AXIS_MODE a) n) else .error abState

def execAxisModeChange (via : Via) (a : Nat) (mode : Int) (s : State) : Host.Outcome State Fault Refusal :=
  done s (writeNum via (0x3405 + 0x10 * a) 1 (.num mode) none id (axisModeEffect a) s)

/-- Modes that come into force: an axis entering a manual mode starts from its set-point; when the last axis of a doorway returns,
the doorway sets REFERENCE_NEEDED and takes the return path (R110). -/
def State.modesInForce (s : State) (old : State) : State :=
  let s := (allAxes s).foldl (fun s a =>
    if manual s a ∧ s.pn (Ax.AXIS_MODE a) ≠ old.pn (Ax.AXIS_MODE a) then
      let x := s.axis a
      s.setAxis a { x with demandNm := x.setNm, remaining := 0, rate := 0, manVel := 0, discarding := false, lastStep := none, jogNext := none, manStop := none,
                            manSeen := false, manHit := false }
    else s) s
  (allDoors s).foldl (fun s d =>
    if doorManual old d && !doorManual s d then
      let st := doorState s d
      let s := s.modDoor d (fun x => { x with refNeeded := true, afterManual := true })
      if st = 1 ∨ st = 2 ∨ st = 4 then s.decideOn d .returnPath else s
    else s) s

end Sys2Proof.Machine
end

