-- ==== Sys2Proof/Machine/Nsl.lean ====
section
/-!
DEFINITION. The Nezirad Safe Layer (chapter 9): frames, consumers, the cab payload (R252, R253) and the door summary (R256,
R257, R306, R307).
-/
namespace Sys2Proof.Machine

def State.conn (s : State) (n : Nat) : Conn := getD {} s.conns n
def State.setConn (s : State) (n : Nat) (x : Conn) : State := { s with conns := putD {} s.conns n x }

/-! ### The frame (R299 to R303) -/

/-- One bit of the CRC of R301, most significant first. -/
def nslBit (c : Nat) : Nat := if c.testBit 31 then ((c * 2) % 2 ^ 32) ^^^ 0x741B8CD7 else c * 2
def nslByte (c b : Nat) : Nat := (List.range 8).foldl (fun c _ => nslBit c) (c ^^^ (b % 256 * 2 ^ 24))

/-- The CRC of R301 over bytes 0 to 8 + L, seeded with the identity inverted. -/
def nslCrc (identity : Nat) (bs : List ByteN) : Nat := bs.foldl nslByte (2 ^ 32 - 1 - identity % 2 ^ 32)

/-- A frame's bytes (R299). -/
def nslFrame (identity seq ts : Nat) (payload : List ByteN) : List ByteN :=
  let head := leBytes 4 identity ++ leBytes 2 seq ++ leBytes 2 ts ++ [payload.length] ++ payload
  head ++ leBytes 4 (nslCrc identity head)

/-- Fields of a received frame. -/
structure NslParts where
  identity : Nat
  seq : Nat
  ts : Nat
  len : Nat
  payload : List ByteN
  crc : Nat
  deriving DecidableEq, Repr

def nslParts (bs : List ByteN) : NslParts :=
  let len := bs.getD 8 0
  { identity := leVal (bs.take 4), seq := leVal ((bs.drop 4).take 2), ts := leVal ((bs.drop 6).take 2), len,
    payload := (bs.drop 9).take len, crc := leVal ((bs.drop (9 + len)).take 4) }

/-- R300, R302: a frame that a consumer of an identity does not discard as a CRC-class error. DEDUCED: log entry 215. -/
def nslOk (identity : Nat) (f : NslFrame) : Bool :=
  let p := nslParts f.bytes
  !f.classic && (decide (f.port < 2) || f.bytes.length == 13 + p.len) && decide (9 ≤ f.bytes.length) && decide (1 ≤ p.len) && decide (p.len ≤ 32)
    && decide (13 + p.len ≤ f.bytes.length) && p.crc == nslCrc identity (f.bytes.take (9 + p.len)) && p.identity == identity

/-- The next CAN FD data length (R302). -/
def fdLength (n : Nat) : Nat := ([8, 12, 16, 20, 24, 32, 48, 64].find? (fun l => decide (n ≤ l))).getD 64

/-- A frame in its container on a port: padded on CAN FD, behind PROTOCOL on Ethernet. -/
def nslContainer (port : Nat) (bs : List ByteN) : List ByteN :=
  if port < 2 then bs ++ List.replicate (fdLength bs.length - bs.length) 0 else [0x4E, 0] ++ bs

/-! ### Ports -/

/-- A port is enabled, as resolved at the last device reset (R418): 0, 1 CAN0, CAN1; 2, 3 ETH0, ETH1. -/
def portEnabled (s : State) (p : Nat) : Bool := getD 2 s.net.frozen (if p < 2 then Cb.ENABLE p else Et.ENABLE (p - 2)) == 1

/-- A port takes and sends frames: enabled, and not in bus-off (R416). -/
def portOn (s : State) (p : Nat) : Bool := if p < 2 then canLive s p else portEnabled s p

/-- A frame received on a port, and one discarded. -/
def State.portRx (s : State) (p : Nat) : State := s.count (if p < 2 then Cb.RX_FRAMES p else Et.RX_FRAMES (p - 2))
def State.portDiscard (s : State) (p : Nat) : State := s.count (if p < 2 then Cb.RX_DISCARDS p else Et.RX_DISCARDS (p - 2))

/-! ### Connections (R304 to R306, R311) -/

def connKeys (n : Nat) : List Nat :=
  [Ns.CONN_ENABLE n, Ns.DIRECTION n, Ns.IDENTITY n, Ns.PORTS n, Ns.CAN_ID n, Ns.UDP_DESTINATION n, Ns.WATCHDOG_TIME n, Ns.MAX_DELAY n]

def connEnabled (s : State) (n : Nat) : Bool := s.pb (Ns.CONN_ENABLE n)
def isConsumer (s : State) (n : Nat) : Bool := connEnabled s n && s.pn (Ns.DIRECTION n) == 0
def isProducer (s : State) (n : Nat) : Bool := connEnabled s n && s.pn (Ns.DIRECTION n) == 1

def connState (s : State) (n : Nat) : Nat := s.rdn (Ns.CONN_STATE n)

/-- Enter a state in both channels: both see the same frames at the same instants. DESIGN CHOICE: log entry 84. -/
def State.toConn (s : State) (n st : Nat) : State :=
  -- CONN_STATE_B knows the states of a consumer only (R317)
  (s.wrn (Ns.CONN_STATE n) st).wrn (Ns.CONN_STATE_B n) (if st ≤ 4 then st else 0)

/-- The cab connection left RUN: its reference count is gone, and each channel acts at once (R253, R274, R311). DEDUCED: log entry 92. -/
def State.leftRun (s : State) (n : Nat) : State :=
  if n = s.pn Gl.CAB_CONNECTION then
    { s with cab := { s.cab with haveRef := false, bits := 0, seen := 0 } }.cabLost
  else s

/-- The configuration in force at a door tick: changed connections start anew (R305); the status mirrors it (R317). DEDUCED: log entry 87. -/
def State.connTick (s : State) (n : Nat) : State :=
  let cfg := (connKeys n).map s.p
  let x := s.conn n
  let producing := n == s.pn Gl.SUMMARY_CONNECTION && (s.holds || s.paired)
  let s := if x.cfg = cfg ∨ (x.cfg = [] ∧ cfg = (connKeys n).map dictDefault) then s else
    let s := (List.range 8).foldl (fun s i => s.wr (key (0x5200 + n) (i + 1)) (cfg.getD i 0)) s
    let was := connState s n
    let s := s.setConn n { cfg, refillFrom := x.refillFrom }
    let s := s.toConn n (if connEnabled s n = false then 0 else if isConsumer s n then 1 else 6)
    if was = 3 then s.leftRun n else s
  if isProducer s n then s.wrn (Ns.CONN_STATE n) (if producing then 5 else 6) else s

def State.connsTick (s : State) : State := (List.range 32).foldl State.connTick s

/-! ### Consuming (R308 to R313) -/

/-- Take a frame out of the bucket of R41: 200 frames a second, at most 2; in 1/250 of a frame. -/
def takeBucket (x : Conn) (now : Nat) : Bool × Conn :=
  let t := match x.bucket with
    | none => 500
    | some (t, at_) => min 500 (t + (now - at_))
  if t < 250 then (false, { x with bucket := some (t, now) }) else (true, { x with bucket := some (t - 250, now) })

/-- A refill of the error budget that is due (R312): 1200 s from the moment the budget left 3, and from each refill. DEDUCED: log
entry 90. -/
def State.refillBudget (s : State) (n : Nat) : State :=
  let x := s.conn n
  match x.refillFrom with
  | some t =>
    if t + 60000000 ≤ s.now then
      let left := min 3 (s.rdn (Ns.ERROR_BUDGET_LEFT n) + 1)
      let s := s.wrn (Ns.ERROR_BUDGET_LEFT n) left
      let s := s.setConn n { x with refillFrom := if left < 3 then some (t + 60000000) else none }
      if connState s n = 4 then s.toConn n 1 else s
    else s
  | none => s

/-- A CRC-class error (R300, R312); a refill in the same instant is applied first (R313). DEDUCED: log entry 89. -/
def State.crcClass (s : State) (n : Nat) : State :=
  let s := (s.refillBudget n).count (Ns.CRC_CLASS_ERRORS n)
  let left := s.rdn (Ns.ERROR_BUDGET_LEFT n)
  if left > 0 then
    let x := s.conn n
    (s.wrn (Ns.ERROR_BUDGET_LEFT n) (left - 1)).setConn n
      { x with refillFrom := match x.refillFrom with | some t => some t | none => some s.now }
  else if connState s n = 4 then s
  else
    let was := connState s n
    let s := (s.toConn n 4).count (Ns.WATCHDOG_EXPIRIES n)
    let s := s.raise 0x0242 n (s.rd (Ns.CRC_CLASS_ERRORS n))
    if was = 3 then s.leftRun n else s

/-- The cab payload (R252, R253). -/
def State.cabPayload (s : State) (bs : List ByteN) : State :=
  let rel := bs.getD 0 0
  let cmd := bs.getD 1 0
  let cnt := bs.getD 2 0
  if bs.length ≠ 4 ∨ 7 < rel ∨ 7 < cmd ∨ bs.getD 3 0 ≠ 0 then
    { s.count Gl.CAB_PAYLOAD_ERRORS with cab := { s.cab with bits := 0 } }
  else
    let x := s.cab
    let s := (s.count Gl.CAB_PAYLOADS_OK).wrn Gl.CAB_LAST_COUNT cnt
    let s := { s with cab := { x with bits := rel, haveRef := true, count := cnt } }
    if x.haveRef ∧ cnt ≠ x.count ∧ cmd ≠ 0 then ((s.count Gl.CAB_COMMANDS_ACTED).wrn Gl.CAR_COMMAND cmd).carCommand cmd else s

/-- A payload delivered to the door functions. -/
def State.deliver (s : State) (n : Nat) (bs : List ByteN) : State :=
  let s := s.setBlob (Ns.LAST_PAYLOAD n) bs
  if n = s.pn Gl.CAB_CONNECTION then s.cabPayload bs else s

/-- An accepted frame (R308 step 5, R311). -/
def State.accept (s : State) (n : Nat) (p : NslParts) (offset : Nat) (candidate : Bool) : State :=
  let x := s.conn n
  let s := (s.wrn (Ns.LAST_SEQ n) p.seq).count (Ns.FRAMES_ACCEPTED n)
  if candidate then
    (s.setConn n { x with base := offset, baseAt := s.now, accepted := some s.now }).toConn n 2
  else ((s.setConn n { x with accepted := some s.now }).toConn n 3).deliver n p.payload

/-- The watchdog of a connection had expired at the last motion-tick boundary (R311, R313). -/
def watchdogOver (s : State) (n : Nat) : Bool :=
  let st := connState s n
  (st == 2 || st == 3) && heldFor (s.conn n).accepted (s.now - s.rdn Gl.FAST_TICK_COUNT % 5) (50 * s.pn (Ns.WATCHDOG_TIME n))

/-- The expiry of a connection's watchdog (R311). -/
def State.expireConn (s : State) (n : Nat) : State :=
  let run := connState s n = 3
  let s := s.toConn n 1
  if run then ((s.count (Ns.WATCHDOG_EXPIRIES n)).raise 0x0241 n (s.rd (Ns.LAST_SEQ n))).leftRun n else s

/-- Steps 3 to 5 of R308 for a frame that passed format and CRC; at or past the boundary of an expiry it is handled in WAIT (R313). DEDUCED: log
entry 88. DEDUCED: log entry 91. -/
def State.sequence (s : State) (n : Nat) (p : NslParts) : State :=
  let s := if watchdogOver s n then s.expireConn n else s
  let st := connState s n
  let x := s.conn n
  let wd := s.pn (Ns.WATCHDOG_TIME n)
  let local_ := s.rdn Gl.FAST_TICK_COUNT / 50
  let offset := (local_ + 65536 - p.ts % 65536) % 65536
  let expired := st == 2 && (match x.accepted with | some t => decide (t + 50 * wd < s.now) | none => true)
  if st = 4 ∨ st = 0 then s
  else if st = 1 ∨ expired then (s.wr (Ns.DELAY_LAST n) 0).accept n p offset true
  else
    let k := (p.seq + 65536 - s.rdn (Ns.LAST_SEQ n)) % 65536
    if k = 0 then s.count (Ns.DUPLICATES n)
    else if 65504 ≤ k then s.count (Ns.LATE n)
    else if 33 ≤ k then s.count (Ns.OUT_OF_WINDOW n)
    else
      let delay := (offset + 65536 - x.base) % 65536
      if 32768 ≤ delay then ((s.setConn n { x with base := offset }).wr (Ns.DELAY_LAST n) 0).accept n p offset false
      else if min (s.pn (Ns.MAX_DELAY n)) wd < delay then s.count (Ns.DELAYED n)
      else (s.wrn (Ns.DELAY_LAST n) delay).accept n p offset false

/-- The enabled consumer connection that a frame belongs to: by CAN_ID on its CAN port, by the IDENTITY field on Ethernet (R302, R303). -/
def connOf (s : State) (f : NslFrame) : Option Nat :=
  (List.range 32).find? (fun n => isConsumer s n && (s.pn (Ns.PORTS n)).testBit f.port
    && (if f.port < 2 then s.pn (Ns.CAN_ID n) == f.canId else s.pn (Ns.IDENTITY n) == (nslParts f.bytes).identity))

/-- A frame at its connection (R308). -/
def State.consume (s : State) (n : Nat) (f : NslFrame) : State :=
  let (ok, x) := takeBucket (s.conn n) s.now
  let s := s.setConn n x
  if ok = false then s.count (Ns.BUCKET_DROPS n)
  else if nslOk (s.pn (Ns.IDENTITY n)) f = false then s.crcClass n
  else s.sequence n (nslParts f.bytes)

/-- A fragmented datagram, which the D16 discards (R303). -/
def fragmented (f : NslFrame) : Bool := f.fragment && decide (2 ≤ f.port)

/-- NSL_FRAME_RECEIVED (R308, R42, R303). -/
def execNslFrameReceived (f : NslFrame) (s : State) : Host.Outcome State Fault Refusal :=
  done s (if s.operating = false ∨ 4 ≤ f.port ∨ portOn s f.port = false then s
    else if fragmented f then (s.portRx f.port).portDiscard f.port else
    -- another PROTOCOL is no NSL frame (R430)
    if 2 ≤ f.port ∧ f.head.1 ≠ 0x4E then (s.portRx f.port).count Gl.DM_FORMAT_ERRORS else
    let s := (s.portRx f.port).slotPeak
    let s := match connOf s f with
      | some n => s.consume n f
      | none => if f.port < 2 then s.portDiscard f.port else s.count Gl.UNKNOWN_IDENTITY
    let s := s.raiseMax Gl.C0_LATENCY_MAX (min max16 f.latencyUs : Nat)
    if 250 < f.latencyUs then ((s.count Gl.C0_DEADLINE_MISSES).raise 0x0101 0xFF f.latencyUs).safeState 6 else s)

/-- NSL_WATCHDOG (R311, R313): at a motion-tick boundary, WATCHDOG_TIME since the last accepted frame, in STARTING or RUN. -/
def execNslWatchdog (n : Nat) (s : State) : Host.Outcome State Fault Refusal := done s
  (if n < 32 ∧ isConsumer s n ∧ s.rdn Gl.FAST_TICK_COUNT % 5 = 0 ∧ watchdogOver s n then s.expireConn n else s)

/-- ERROR_BUDGET_REFILL (R312). -/
def execErrorBudgetRefill (n : Nat) (s : State) : Host.Outcome State Fault Refusal := done s (if n < 32 then s.refillBudget n else s)

/-- BASE_ADVANCE (R310): every 10 s. -/
def execBaseAdvance (n : Nat) (s : State) : Host.Outcome State Fault Refusal := done s (
  let x := s.conn n
  let st := connState s n
  (if n < 32 ∧ (st = 2 ∨ st = 3) ∧ x.baseAt + 500000 ≤ s.now then
      s.setConn n { x with base := (x.base + 1) % 65536, baseAt := x.baseAt + 500000 }
    else s))

/-! ### The door summary (R256, R257, R306, R307) -/

/-- Bytes 0–3 of the summary: LOOPS, CAR_TERMS, SAFE_LOCKED_MASK. -/
def summaryHead (s : State) : List ByteN :=
  let rel := s.safety.relA &&& s.safety.relB
  let b := fun (c : Bool) (i : Nat) => if c then 2 ^ i else 0
  let terms := rel % 8 + b (s.rdn Gl.SET_STATE == 1) 3 + b (s.rdn Gl.SAFE_STATE_CAUSE != 0) 4 + b s.holds 5 + b (s.bit Gl.DUPLEX_STATUS 0) 6
  let loops := (List.range 6).foldl (fun m k => if energised s k then m + 2 ^ k else m) 0
  [loops, terms] ++ leBytes 2 (s.rdn Gl.SAFE_LOCKED_MASK)

/-- The 14 bytes of R256. -/
def summaryPayload (s : State) : List ByteN :=
  summaryHead s ++ leBytes 2 (s.rdn Gl.OPEN_MASK) ++ leBytes 2 (s.rdn Gl.OBSTRUCTED_MASK) ++ leBytes 2 (s.rdn Gl.FAULT_MASK)
    ++ leBytes 2 (s.rdn Gl.ISOLATED_MASK) ++ leBytes 2 (s.rdn Gl.EMERGENCY_MASK)

/-- Ports of a connection. -/
def connPorts (s : State) (n : Nat) : List Nat := (List.range 4).filter (fun p => (s.pn (Ns.PORTS n)).testBit p && portOn s p)

/-- Where a connection's frames go on a port: its CAN_ID, or its UDP_DESTINATION and UDP port 4217 (R302, R303). -/
def nslDest (s : State) (n port : Nat) : Nat × Nat := if port < 2 then (s.pn (Ns.CAN_ID n), 0) else (s.pn (Ns.UDP_DESTINATION n), 4217)

/-- A frame sent on every port of its connection with identical bytes (R306). DEDUCED: log entry 86. -/
def State.sendNsl (s : State) (n seq ts : Nat) (payload : List ByteN) : State :=
  let bs := nslFrame (s.pn (Ns.IDENTITY n)) seq ts payload
  let s := (connPorts s n).foldl (fun s p => s.send (.nsl n p (nslDest s n p) (nslContainer p bs))) s
  let s := s.setConn n { s.conn n with seq := some seq, sentAt := some s.now }
  let s := (s.wrn (Ns.LAST_SEQ n) seq).count (Ns.FRAMES_SENT n)
  if n = s.pn Gl.SUMMARY_CONNECTION then s.count Gl.SUMMARIES_SENT else s

/-- At a door tick: a change of bytes 0–3 asks for a summary (R257). -/
def State.summaryTick (s : State) : State :=
  let h := summaryHead s
  if h = s.summary.head then s else { s with summary := { head := h, due := true } }

/-- SUMMARY_SEND (R257, R306): formed by the holder; the partner sends its copy (R307). DESIGN CHOICE: log entry 85. -/
def execSummarySend (s : State) : Host.Outcome State Fault Refusal := done s (
  let n := s.pn Gl.SUMMARY_CONNECTION
  let x := s.conn n
  let ports := ((List.range 4).filter (fun p => (s.pn (Ns.PORTS n)).testBit p)).length
  let gap := match x.sentAt with
    | some t => decide (t + 500 * max ports 1 ≤ s.now)
    | none => true
  let wanted := s.summary.due || (match x.sentAt with
    | some t => decide (t + 50 * s.pn Gl.SUMMARY_PERIOD ≤ s.now)
    | none => true)
  (if s.operating = false ∨ 32 ≤ n ∨ isProducer s n = false ∨ s.holds = false ∨ gap = false ∨ wanted = false then s else
    let (r, s') := s.fresh
    let (seq, s) := match x.seq with
      | some q => ((q + 1) % 65536, s)
      | none => (r % 65536, s')
    let ts := s.rdn Gl.FAST_TICK_COUNT / 50 % 65536
    let payload := summaryPayload s
    let s := s.sendNsl n seq ts payload
    let s := { s with summary := { s.summary with due := false } }
    s.mirrorSend 1 ([n] ++ leBytes 2 seq ++ leBytes 2 ts ++ payload)))

/-! ### COUNTERS_CLEAR (R318) -/

def nslClearEffect : Effect := fun v s =>
  if 1 < v then .error abValue
  else if v = 0 then .ok s
  else
    let s := s.wr Gl.UNKNOWN_IDENTITY 0
    .ok ((List.range 32).foldl (fun s n => (List.range 7).foldl (fun s i => s.wr (key (0x5200 + n) (0x12 + i)) 0) s) s)

def execNslCountersClear (via : Via) (v : Int) (s : State) : Host.Outcome State Fault Refusal :=
  done s (writeNum via 0x5280 1 (.num v) none id nslClearEffect s)

end Sys2Proof.Machine
end

