-- ==== Sys2Proof/Machine/Duplex.lean ====
section
/-!
DEFINITION. Duplex pairs and the Stag interlock (chapter 10): the token, the partner link, shadowing, takeovers, and the mirror.
STAG_IN is known from the partner's frames and from the commands that report it; a STAG_CLAIM is a claim instant, with what the line
reads there.
-/
namespace Sys2Proof.Machine

/-! ### The token (R319, R322 to R328) -/

/-- Part of a pair, as configured at the last device reset (R319). -/
def isPair (s : State) : Bool := getD 0 s.net.frozen Gl.DUPLEX_CONFIG == 1

/-- Fit to claim (R322). -/
def fit (s : State) : Bool :=
  s.operating && s.rdn Gl.SET_STATE == 1 && s.rdn Gl.SAFE_STATE_CAUSE == 0 && !s.bit Gl.DUPLEX_STATUS 12 && !s.bit Gl.DUPLEX_STATUS 13
    && s.power.sleepFrom.isNone

/-- Bits of DUPLEX_STATUS that follow the state (R354). -/
def State.showDuplex (s : State) : State :=
  let x := s.duplex
  let k := Gl.DUPLEX_STATUS
  let other := x.stagIn || s.paired && x.pStatus.testBit 15
  let master := s.holds || (!other && s.rdn Gl.ROLE == 0)
  let s := s.setB k 0 (s.rdn Gl.PARTNER_STATE == 4)
  let s := s.setB k 2 (s.paired && x.pStatus.testBit 13 && x.pStatus.testBit 12)
  let s := s.setB k 3 x.stagIn
  let s := s.setB k 4 master
  let s := s.setB k 5 (s.paired && x.pCheck == s.rdn Gl.CHECK_VALUE)
  let s := s.setB k 6 (s.paired && x.inventoried && x.pRevision == s.rdn Gl.REVISION)
  -- the master runs on its own crystal (R25)
  let s := if master then s.wr Gl.FAST_TICK_SOURCE 0 else s
  s.wr Gl.HOLDER (b2i s.holds)

/-- Mode of a pair (R334), derived at each confirmation. -/
def State.deriveMode (s : State) : State :=
  s.wr Gl.DUPLEX_MODE (if isPair s = false then 0 else if (allDoors s).length ≤ 8 then 1 else 2)

/-- Links follow the token: an UP or READY link of a unit without it listens (R189, R347). DEDUCED: log entry 95. -/
def State.linksListen (s : State) : State :=
  (List.range s.doorways).foldl (fun s d =>
    let st := linkState s d
    if st = lUp ∨ st = lReady then (s.setLink d { (s.link d).idle with missing := (s.link d).missing }).toLink d lListen else s) s

/-- At the release of the token a link in CONFIG begins the exchange of a unit without it (R189). DEDUCED: log entry 95. -/
def State.linksLetGo (s : State) : State :=
  (List.range s.doorways).foldl (fun s d => if linkState s d = lConfig then s.enterConfig d else s) s.linksListen

/-- Release of the token with the links of this unit (R326): its synchronisation starts afresh. -/
def State.release (s : State) : State :=
  let s := s.letGo
  { s with duplex := { s.duplex with taken := [], match_ := [], adopt := false } }.linksLetGo.showDuplex

/-! ### Taking over (R339 to R342) -/

/-- Kind of a doorway's takeover at this claim instant: 1 LIVE, 2 HELD, 3 STO. The last frame of the holder was its last with HOLD = 1 while
the heartbeat is still there. DEDUCED: log entry 195. -/
def takeoverKind (s : State) (d : Nat) : Nat :=
  let x := s.link d
  let aligned := s.rdb Gl.TICK_ALIGNED
  let st := x.status / 64 % 8
  let off := (axesOf s d).any (fun a => x.status.testBit (12 + roleOf a))
  if s.rdn Gl.DUPLEX_MODE = 1 ∧ s.paired ∧ s.duplex.syncHeld.testBit d ∧ aligned then 1
  else if aligned ∧ x.missing < 8 ∧ (st = 2 ∨ st = 3) ∧ off = false then 2 else 3

/-- Kind of the move that a doorway's state shows (R344). -/
def moveKindOf (s : State) (d : Nat) : MoveKind :=
  match doorState s d with
  | 2 => if (s.door d).opening then .unlock else .driveLock
  | 3 => .openLeaves
  | 5 => .closeLeaves
  | 6 => .reverse
  | _ => .stepRetract

/-- A moving group that goes on without a target runs a stop ramp from the measured speed; one whose axes are slower than 2 mm/s stands
(R106, R341). DEDUCED: log entry 97. -/
def State.stopGroup (s : State) (d : Nat) : State :=
  let axes := (axesOf s d).filterMap (fun a => let x := s.axis a
    if manual s a ∨ Int.natAbs x.speed < 2000000 then none else some { a, start := x.posNm, target := x.posNm + x.speed : MoveAxis })
  if axes = [] then s else
  let m : Move := { kind := moveKindOf s d, closing := doorState s d == 5, axes, started := s.now, moveId := (s.door d).moveCount + 1, v := 1 }
  let lim := limitsFor s m
  (s.setDoor d { s.door d with move := some { m with lim, rampDecel := lim.d }, moveCount := m.moveId, spoiled := true }).rampStop d

/-- The axes of a MOVE message with D ≠ 0, and their limits (R349). -/
def msgAxes (s : State) (msg : MoveMsg) : List (MoveAxis × MoveLimits) :=
  (axesOf s msg.d).filterMap (fun a => match msg.starts[roleOf a]?, msg.targets[roleOf a]?, msg.limits[roleOf a]? with
    | some p, some t, some l => if p = t then none else some ({ a, start := p, target := t : MoveAxis }, l)
    | _, _, _ => none)

/-- Caps of a MOVE message as stretches of the path. -/
def msgCaps (ax : List (MoveAxis × MoveLimits)) : List Stretch :=
  ax.flatMap (fun x => x.2.caps.filterMap (fun c => capStretch x.1 (32000 * c.1 : Nat) (32000 * c.2.1 : Nat) c.2.2))

/-- A LIVE doorway continues its move from the last motion record and MOVE message, with the limits and caps of that message (R340). A move
without targets goes on as a stop ramp. -/
def State.takeLive (s : State) (d : Nat) : State :=
  match lookup d s.duplex.moves, lookup d s.duplex.motions with
  | some msg, some r =>
    if r.phase = 0 ∨ r.phase = 6 ∨ msg.moveId % 256 ≠ r.moveId % 256 then s else
    let ax := msgAxes s { msg with d }
    if ax = [] then s.stopGroup d else
    let axes := ax.map (·.1)
    let closing := axes.any (fun x => decide (x.target < x.start))
    let m : Move := { kind := moveKindOf s d, closing, axes, started := msg.start, moveId := msg.moveId, s := mkRat r.pathS (2 ^ 30),
                      v := mkRat (1000 * r.pathSpeed) (2 ^ 30) }
    let lim := pathLimits ax
    let m := { m with lim, held := some (limitsFor s m), rampDecel := lim.d, segs := planPath lim (msgCaps ax) m.s m.v }
    let s := s.setDoor d { s.door d with move := some m, moveCount := msg.moveId, spoiled := true }
    if r.phase = 4 then s.rampStop d else if r.phase = 5 then s.hardStop d else s
  | _, _ => s

/-- A HELD axis (R341): integrators that give the echoed vector, the measured q-current as demand, the measured position. -/
def State.takeHeldAxis (s : State) (a : Nat) : State :=
  let x := s.axis a
  let w := (s.link (doorOf a)).applied.getD (roleOf a) 0
  let volts : Int := (wordAmp w * vFull s a * 1000 / 4095 : Nat)
  let lead := 60000 + s.rdn (Lk.TIMING_ADVANCE (doorOf a))
  let t := 65536 * (wordAddr w : Int) - x.angle - x.omega * lead / 20000
  let (i_d, i_q) := park s a x.angle
  let kp : Int := (s.pn (Ax.L_PHASE a) * s.pn (Ax.CURRENT_BANDWIDTH a) * twoPiE : Nat)
  s.setAxis a { x with
    intD := volts * cosQ t / 2 ^ 60 + kp * i_d / 10 ^ 21, intQ := volts * sinQ t / 2 ^ 60, iqDemand := i_q, iqNext := i_q,
    setNm := x.posNm, setVel := 0, setAcc := 0, intV := 0 }

/-- A HELD doorway (R341). -/
def State.takeHeld (s : State) (d : Nat) : State := ((axesOf s d).foldl (fun s a => s.takeHeldAxis a) s).stopGroup d

/-- The link of a doorway whose unit takes the token (R189). DESIGN CHOICE: log entry 181. -/
def State.takeLink (s : State) (d kind : Nat) : State :=
  let st := linkState s d
  if st = lListen then
    if kind ≠ 3 ∨ (s.link d).status / 64 % 8 = 2 then (s.setLink d { s.link d with echoRun := 0, sent := [] }).toLink d lUp
    else (s.setLink d { (s.link d).idle with missing := (s.link d).missing }).toLink d lReady
  else if st = lConfig then s.enterConfig d
  else s

/-- Apply instants of a doorway's node without an applicable frame, in a takeover of kind `k` whose line was released in fast tick `from_`
(R343): from there to the claim, or what the uplink has reported and the two frames that are on their way; an STO takeover adds the four
frames before words with torque. DEDUCED: log entry 216. -/
def takeoverGap (s : State) (from_ d k : Nat) : Nat :=
  if k = 1 then 0 else max (s.now + 1 - from_) ((s.link d).heldRun + 2) + (if k = 3 then 4 else 0)

/-- The takeover of every configured doorway (R339, R343); the line has been released for so many µs at the claim instant, 8 µs after the
boundary. -/
def State.takeOver (s : State) (releasedUs : Nat) : State :=
  let kinds := (allDoors s).map (fun d => (d, takeoverKind s d))
  let from_ := (20 * s.now + 8 - releasedUs) / 20
  let gap := min 10000 (kinds.foldl (fun g k => max g (20 * takeoverGap s from_ k.1 k.2)) 0)
  let s := s.wrn Gl.TAKEOVER_KINDS (kinds.foldl (fun m k => m + k.2 * 4 ^ k.1) 0)
  let s := { s with duplex := { s.duplex with taken := kinds.foldl (fun m k => place k.1 { kind := k.2 } m) [], adopt := true } }
  let s := kinds.foldl (fun s k =>
    let s := (axesOf s k.1).foldl (fun s a => s.setAxis a { s.axis a with shadow := none }) s
    let s := s.takeLink k.1 k.2
    if k.2 = 1 then s.takeLive k.1 else if k.2 = 2 then s.takeHeld k.1 else s) s
  let s := (s.count Gl.TAKEOVERS).wrn Gl.LAST_TAKEOVER_GAP gap
  (s.latch Gl.DUPLEX_STATUS 9 (Gl.DUPLEX_REPEATS 1)).raise 0x1182 0xFF gap

/-- Production of the summary goes on from the sequence last received (R307): the next frame has that SEQ + 1, since one SEQ is never
sent with two contents (R306). DEDUCED: log entry 214. -/
def State.takeSummary (s : State) : State :=
  s.duplex.copies.foldl (fun s c => s.setConn c.1 { s.conn c.1 with seq := some c.2.1 }) s

/-- This unit drives STAG_OUT low: it holds the token, and takes the doors over where it was the partner. DEDUCED: log entry 96. -/
def State.claim (s : State) (releasedUs : Nat) : State :=
  -- a holder shadows nothing (R162, R193)
  let s := (List.range 16).foldl (fun s d => s.setB (Lk.LINK_STATUS d) 2 false) s
  let s := { s with duplex := { s.duplex with driving := true, heldOnce := true, stagIn := false, lapsed := false, lapseSince := none, keepFrom := none },
                    safety := { s.safety with linkSto := false } }
  let s := if s.duplex.wasPartner then (s.takeOver releasedUs).takeSummary
    else (List.range s.doorways).foldl (fun s d => s.takeLink d 3) s
  s.showDuplex

/-- Whether a unit may claim by the order after boot (R319, R328): a single unit, ROLE A, one that was the partner or has held the
token (as R489 takes it again), or ROLE B after 5 s of a line released since its boot. -/
def mayClaim (s : State) (releasedUs : Nat) : Bool :=
  !isPair s || s.duplex.wasPartner || s.duplex.heldOnce || s.rdn Gl.ROLE == 0 || (heldFor s.power.bootedAt s.now 250000 && decide (5000000 ≤ releasedUs))

/-- STAG_CLAIM (R322, R323, R328, R345): a claim instant. A unit that finds STAG_IN asserted does not claim, and is the partner; one that has
read it released for 20 µs claims where it is fit; ROLE B gives way in a simultaneous claim. DEDUCED: log entry 94. -/
def execStagClaim (line : StagLine) (s : State) : Host.Outcome State Fault Refusal := done s (
  if s.operating = false ∨ s.holds then s
  else if line.releasedUs = 0 then
    (if isPair s then { s with duplex := { s.duplex with stagIn := true, wasPartner := true } }.showDuplex else s)
  else
    let s := { s with duplex := { s.duplex with stagIn := false } }
    if fit s = false ∨ line.releasedUs < 20 ∨ mayClaim s line.releasedUs = false then s.showDuplex else
    let s := s.count Gl.STAG_CLAIMS
    if line.collision ∧ isPair s ∧ s.rdn Gl.ROLE = 1 then
      { s.count Gl.STAG_COLLISIONS with duplex := { s.duplex with stagIn := true, wasPartner := true } }.showDuplex
    else s.claim line.releasedUs)

/-- STAG_CONFLICT (R327): STAG_IN reads asserted for more than 15 µs while this unit holds the token. -/
def execStagConflict (s : State) : Host.Outcome State Fault Refusal :=
  done s (if s.holds = false then s else
    let s := s.release
    let s := { s with safety := { s.safety with linkSto := true }, duplex := { s.duplex with stagIn := true } }
    ((s.setB Gl.DUPLEX_STATUS 12 true).raise 0x0184 0xFF 0).showDuplex)

/-- STAG_FAULT (R324): the ball reads high while driven low, or low while not driven. -/
def execStagFault (stuckLow : Bool) (s : State) : Host.Outcome State Fault Refusal :=
  done s (if s.operating = false ∨ s.holds = stuckLow then s else
    let s := if s.holds then s.release else s
    ({ s with safety := { s.safety with linkSto := true } }.setB Gl.DUPLEX_STATUS 13 true).showDuplex)

/-- A condition of the keep-alive fails (R325): the unit is not fit, a loop engine or AC0 does not complete its ticks, channel A's alive
signal is late. -/
def keepAliveFails (s : State) : Bool :=
  let late := fun (t : Option Nat) (n : Nat) => match t with | some u => decide (u + n < s.now) | none => false
  !fit s || s.safety.stalls.loops || s.safety.stalls.ac0 || late s.safety.aliveAtA 5 || late s.boundary.doorAt 50

/-- The keep-alive in a fast tick: since when a condition fails. Without the token a lapse ends once every condition holds. -/
def State.keepAlive (s : State) : State :=
  let x := s.duplex
  let bad := keepAliveFails s
  { s with duplex := { x with keepFrom := if s.holds then stamp bad x.keepFrom s.now else none, lapsed := x.lapsed && (s.holds || bad) } }

/-- KEEP_ALIVE_LAPSE (R325): a condition has failed for 1.0 ms; channel B demands STO of every axis through SAFE_RUN_B, and the token goes
1.0 ms later. -/
def execKeepAliveLapse (s : State) : Host.Outcome State Fault Refusal :=
  done s (if s.holds = false ∨ s.duplex.lapsed ∨ heldFor s.duplex.keepFrom s.now 50 = false then s else
    { s with duplex := { s.duplex with lapsed := true, lapseSince := some s.now } })

/-- STAG_COMMAND (R347). Whether every participating doorway is synchronised is known to the partner; no field of its frames
tells the holder, so in dual-send it is open. DESIGN CHOICE: log entry 93. DEDUCED: log entry 103. -/
def stagEffect : Effect := fun v s =>
  if 1 < v then .error abValue
  else if v = 0 then .ok s
  else
    let p := s.duplex.pStatus
    let (r, s') := s.fresh
    let mode := s.rdn Gl.DUPLEX_MODE
    let quiet := (allDoors s).all (fun d => !([3, 5, 6].contains (doorState s d))) && (allAxes s).all (fun a => !manual s a)
    if s.holds = false ∨ s.rdn Gl.PARTNER_STATE ≠ 4 ∨ p.testBit 13 = false ∨ p.testBit 12 = false ∨ s.bit Gl.DUPLEX_STATUS 5 = false then
      .error abState
    else if mode = 2 ∧ quiet = false then .error abState
    else if mode = 1 then
      (if r % 2 = 0 then .error abState else .ok { s' with duplex := { s'.duplex with releaseNext := true } })
    else .ok { s with duplex := { s.duplex with releaseNext := true } }

def execStagCommand (via : Via) (v : Int) (s : State) : Host.Outcome State Fault Refusal :=
  done s (writeNum via 0x2600 7 (.num v) none id stagEffect s)

/-! ### The partner data frame (R329 to R331) -/

/-- A shadow record's 16 bytes (R335). DESIGN CHOICE: log entry 191. -/
def shadowBytes (r : ShadowRec) : List ByteN :=
  beBytes 4 r.word ++ [r.intD, r.intQ, r.iqDemand, r.intV, r.resState].flatMap (fun v => beBytes 2 (Config.loopFormat v)) ++ [r.flags % 256, 0]

/-- A motion record's 16 bytes (R337). -/
def motionBytes (r : MotionRec) : List ByteN :=
  [r.d % 256, r.tick % 256] ++ beBytes 4 r.pathS ++ beBytes 4 r.pathSpeed ++ [r.phase % 256, r.moveId % 256, 0, 0, 0, 0]

/-- Bytes 1 to 495 of a partner data frame (R330). -/
def partnerBytes (f : PFrame) : List ByteN :=
  let area := fun (n : Nat) (bs : List ByteN) => (bs ++ List.replicate n 0).take n
  [f.frameType % 256] ++ beBytes 2 f.pseq ++ beBytes 2 f.pstatus ++ beBytes 4 f.tickCount
    ++ (List.range 16).flatMap (fun d => beBytes 2 (f.linkSeqs.getD d 0)) ++ area 384 (f.shadows.flatMap shadowBytes)
    ++ area 32 (f.motions.flatMap motionBytes) ++ beBytes 4 f.checkValue
    ++ [f.mirrorAck % 256, f.seg.tag % 256, f.seg.type % 128 + 128 * (if f.seg.last then 1 else 0), f.seg.seg % 256, f.seg.len % 256] ++ area 29 f.seg.data

/-- A partner frame with its CRC (R155). -/
def sealPartner (f : PFrame) : PFrame := { f with crc := crc32 (partnerBytes f) }

/-- A partner data frame that meets R153 to R156, with the last SOF received before it. -/
def partnerIntact (last : Option Nat) (f : PFrame) : Bool :=
  f.codeOk && sofOk last f.sof f.cut && f.crc == crc32 (partnerBytes f) && f.frameType == 0x14

/-- PSTATUS (R331). -/
def pstatusOf (s : State) : Nat :=
  let b := fun (c : Bool) (i : Nat) => if c then 2 ^ i else 0
  b s.holds 15 + b (s.rdn Gl.ROLE == 1) 14 + b (fit s) 13 + b (s.bit Gl.DUPLEX_STATUS 1) 12 + b (s.rdn Gl.SAFE_STATE_CAUSE != 0) 11
    + b (s.rdb Gl.TICK_ALIGNED) 10 + s.rdn Gl.DUPLEX_MODE % 4 * 256

/-- LINK_SEQ: the SEQ of each port's next downlink frame, 0 for a port that sends no data frames (R330). -/
def linkSeqsOf (s : State) : List Nat :=
  (List.range s.doorways).map (fun d => if linkState s d < lConfig then 0 else ((s.link d).seq + 1) % 65536)

/-- Axis of a shadow slot: axis k of the i-th participating doorway for slot 3i + k (R334). -/
def slotAxis (s : State) (j : Nat) : Option Nat :=
  match (allDoors s)[j / 3]? with
  | some d => if (axesOf s d).contains (3 * d + j % 3) then some (3 * d + j % 3) else none
  | none => none

/-- The shadow records of a frame: what each axis's slot of the fast tick before gave, with the demand in force from the next boundary
(R335). -/
def shadowsOf (s : State) : List ShadowRec :=
  let c := (s.rdn Gl.FAST_TICK_COUNT + 4095999999) % 4096000000
  let next := (s.rdn Gl.FAST_TICK_COUNT + 1) % 4096000000
  (List.range 24).map (fun j => match slotAxis s j with
    | some a =>
      let x := s.axis a
      match x.hist.find? (fun (h : Nat × ShadowRec) => h.1 == c) with
      | some h => { h.2 with iqDemand := if next % 5 = 0 then x.iqNext else x.iqDemand }
      | none => {}
    | none => {})

/-- PATH_PHASE of a doorway (R337): of a move without a path, the ramp of its first axis that still runs; after a hard stop, for as long as
an axis of the move still moves. -/
def pathPhase (s : State) (d : Nat) : Nat :=
  if (axesOf s d).any (fun a => manual s a && axisMoving s a) then 6 else
  match (s.door d).move with
  | none => 0
  | some m =>
    if (s.door d).obs.isSome ∨ m.hard ∧ (m.axes.map (·.a) ++ m.seeks.map (·.a)).any (fun a => decide (2000000 ≤ Int.natAbs (s.axis a).speed)) then 5
    else if m.ended then 0 else if m.stopping then 4 else
    let segs := match m.seeks.find? (fun k => !k.segs.isEmpty) with | some k => k.segs | none => m.segs
    match segs.map (fun (g : PathSeg) => g.kind) with
    | .rise :: _ => 1
    | .run :: _ => 2
    | .brake :: _ | .limitFall :: _ => 3
    | .stop :: _ => 4
    | [] => 0

/-- A doorway's motion record, as of the last motion tick (R337). -/
def motionOf (s : State) (d : Nat) : MotionRec :=
  let r := { d, tick := (s.rdn Gl.FAST_TICK_COUNT + 4095999999) % 4096000000 / 5 % 256, phase := pathPhase s d : MotionRec }
  match (s.door d).move with
  | some m => { r with pathS := (m.s * 2 ^ 30).floor.toNat % 2 ^ 32, pathSpeed := (m.v * 2 ^ 30 / 1000).floor.toNat % 2 ^ 32, moveId := m.moveId % 256 }
  | none => r

/-- Frame j of a motion tick carries the doorways of shadow slots 6j to 6j + 5 (R337). -/
def motionsOf (s : State) : List MotionRec :=
  let j := s.rdn Gl.FAST_TICK_COUNT % 5
  [2 * j, 2 * j + 1].map (fun i => match (allDoors s)[i]? with | some d => motionOf s d | none => {})

/-- Segments of a mirror message, at most 29 bytes each; one that is not yet sent whole (R348). -/
def segments (m : OutMsg) : Nat := max 1 ((m.data.length + 28) / 29)
def unsent (m : OutMsg) : Bool := decide (m.next < segments m)

/-- The message whose segment the next frame carries. The manual orders the segments of one message only. DESIGN CHOICE: log entry 192. -/
def nextMessage (box : List OutMsg) : Option OutMsg :=
  match [1, 2, 3].findSome? (fun t => box.find? (fun m => m.type == t && unsent m)) with
  | some m => some m
  | none => box.find? unsent

/-- The segment of the next frame, and the queue after it: a snapshot awaits no acknowledgement (R348). -/
def nextSegment (box : List OutMsg) (now : Nat) : MirrorSeg × List OutMsg :=
  match nextMessage box with
  | none => ({}, box)
  | some m =>
    let data := (m.data.drop (29 * m.next)).take 29
    let last := decide (segments m ≤ m.next + 1)
    ({ tag := m.tag, type := m.type, last, seg := m.next, len := data.length, data },
     if last ∧ m.type = 2 then box.filter (fun x => x.tag != m.tag)
     else box.map (fun x => if x.tag = m.tag then { x with next := x.next + 1, sentAt := if last then now else x.sentAt } else x))

/-- The partner data frame of this fast tick (R329, R330): shadow and motion records from the holder in dual-send only (R334). -/
def State.sendPartner (s : State) : State :=
  let x := s.duplex
  let dual := s.holds && s.rdn Gl.DUPLEX_MODE == 1
  let (seg, box) := nextSegment x.outbox s.now
  let f : PFrame := sealPartner {
    pseq := x.seq, pstatus := pstatusOf s, tickCount := s.rdn Gl.FAST_TICK_COUNT, linkSeqs := linkSeqsOf s,
    shadows := if dual then shadowsOf s else [], motions := if dual then motionsOf s else [],
    checkValue := s.rdn Gl.CHECK_VALUE, mirrorAck := x.acks.headD 0, seg }
  { s with duplex := { x with frame := some f, outbox := box, acks := x.acks.drop 1, trainDown := none } }

/-! ### The partner link (R329 to R333) -/

/-- No axis is shadowed (R25, R335). -/
def State.dropShadows (s : State) : State :=
  let s := (List.range 48).foldl (fun s a => if (s.axis a).shadow.isSome then s.setAxis a { s.axis a with shadow := none } else s) s
  { s with duplex := { s.duplex with match_ := [] } }

/-- The link is DOWN with a cause; PARTNER_LOST where the heartbeat was there, SHADOW_LOST where a doorway was synchronised. Retraining
follows after `wait` fast ticks. DEDUCED: log entry 195. -/
def State.partnerDown (s : State) (cause wait : Nat) : State :=
  let was := s.paired
  let s := (s.wr Gl.PARTNER_STATE 1).wrn Gl.PARTNER_LOST_CAUSE cause
  let items := s.duplex.items ++ s.duplex.outbox.filterMap (·.item)
  let s : State := { s with duplex := { s.duplex with
    train := none, retrainAt := some (s.now + wait), missing := 0, got := false, inventoried := false, inventorySent := false,
    items := [], expect := [], outbox := [], rx := [], domRx := [], acks := [], match_ := [], sendsConfig := false,
    marked := s.duplex.marked ++ items.filter (fun i => !s.duplex.marked.contains i) } }
  let s := s.wr Gl.SYNC_ITEMS_PENDING 0
  let s := if s.rdn Gl.SHADOW_SYNC_MASK = 0 then s else s.latch Gl.DUPLEX_STATUS 11 (Gl.DUPLEX_REPEATS 3)
  let s := (((s.wr Gl.SHADOW_SYNC_MASK 0).wr Gl.FAST_TICK_SOURCE 0).setB Gl.DUPLEX_STATUS 1 false).dropShadows
  let s := (List.range 16).foldl (fun s d => s.setB (Lk.LINK_STATUS d) 2 false) s
  let s := if was then
      let s := { s with duplex := { s.duplex with lostAt := some s.now } }
      (s.latch Gl.DUPLEX_STATUS 8 (Gl.DUPLEX_REPEATS 0)).raise 0x1181 0xFF cause
    else s
  s.showDuplex

/-- HEARTBEAT_LOST (R332): three consecutive frames missing or invalid. -/
def execHeartbeatLost (s : State) : Host.Outcome State Fault Refusal :=
  done s (if s.paired ∧ 3 ≤ s.duplex.missing then (s.count Gl.HEARTBEAT_LOSSES).partnerDown 1 500 else s)

/-- A training run of the partner link begins. -/
def State.partnerTrain (s : State) : State :=
  if s.duplex.charLock then
    { s.wr Gl.PARTNER_STATE 2 with duplex := { s.duplex with train := some { started := s.now }, retrainAt := none, lastSof := none } }
  else { s.wr Gl.PARTNER_STATE 1 with duplex := { s.duplex with train := none, retrainAt := some (s.now + 500) } }

/-- PARTNER_RETRAIN (R332): 10 ms after the loss, and every 10 ms until training succeeds. -/
def execPartnerRetrain (s : State) : Host.Outcome State Fault Refusal :=
  done s (if s.running ∧ isPair s ∧ s.rdn Gl.PARTNER_STATE = 1 ∧ due s.duplex.retrainAt s.now then s.partnerTrain else s)

/-- TICK_ALIGNED_LOSS (R333): 200 µs after the heartbeat was lost. -/
def execTickAlignedLoss (s : State) : Host.Outcome State Fault Refusal :=
  done s (if s.paired = false ∧ heldFor s.duplex.lostAt s.now 10 then
      (s.wr Gl.TICK_ALIGNED 0).wr Gl.FAST_TICK_SOURCE 0
    else s)

/-- CHARACTER_LOCK (R189, R329): d = 0–15 a doorway link, 16 the partner link. -/
def execCharacterLock (d : Nat) (s : State) : Host.Outcome State Fault Refusal :=
  done s (if d < 16 then s.linkLock d
    else if d = 16 ∧ isPair s then
      let s := { s with duplex := { s.duplex with charLock := true } }
      if s.running ∧ s.rdn Gl.PARTNER_STATE = 1 ∧ (s.duplex.retrainAt = none ∨ due s.duplex.retrainAt s.now) then s.partnerTrain else s
    else s)

/-- CHARACTER_LOCK_LOST (R189): back to DOWN, cause NO_SIGNAL; `none` is the partner link. -/
def execCharacterLockLost (d : Option Nat) (s : State) : Host.Outcome State Fault Refusal :=
  done s (match d with
  | some d => if d < 16 then s.linkUnlock d else s
  | none =>
    let s := { s with duplex := { s.duplex with charLock := false, lastSof := none } }
    if isPair s ∧ 2 ≤ s.rdn Gl.PARTNER_STATE then s.partnerDown 2 500 else s)

/-- A training frame on the partner link (R329): ROLE A leads the run, ROLE B follows the STEP that it receives. -/
def State.partnerTrained (s : State) (f : TrainFrame) : State :=
  let ok := trainOk s.duplex.lastSof f
  let s := { s with duplex := { s.duplex with lastSof := some f.sof } }
  match s.rdn Gl.PARTNER_STATE == 2, s.duplex.train with
  | true, some t =>
    let (eye, s) := s.fresh
    let t := if s.rdn Gl.ROLE = 0 then t.frame f ok eye else (t.follow f ok)
    { s with duplex := { s.duplex with train := some t } }
  | _, _ => s

/-- TRAINING_FRAME (R179, R180, R329): at the D16 of doorway link d, or of the partner link for d = 16; at port A or B of node d. -/
def execTrainingFrame (d : Nat) (f : TrainFrame) (s : State) : Host.Outcome State Fault Refusal :=
  done s (match f.port with
    | some p => if d < 16 ∧ p < 2 then s.nodeTrain d p f else s
    | none => if d < 16 then s.linkTrain d f else if d = 16 then s.partnerTrained f else s)

/-- TRAINING_DONE (R180, R329): a doorway link enters CONFIG, the partner link SYNCING. -/
def execTrainingDone (d : Nat) (s : State) : Host.Outcome State Fault Refusal :=
  done s (if d < 16 then s.linkTrained d
    else match decide (d = 16) && s.rdn Gl.PARTNER_STATE == 2, s.duplex.train with
      | true, some t =>
        if t.step ≠ 4 then s
        else if 200 < t.delay then s.partnerDown 4 500
        else { s.wr Gl.PARTNER_STATE 3 with duplex := { s.duplex with
          train := none, lostAt := none, missing := 0, got := true, pSeq := none, delay := t.delay / 2, phased := false } }.showDuplex
      | _, _ => s)

/-- TRAIN_TIMEOUT (R180, R329): 100 ms after the start of a run. -/
def execTrainTimeout (d : Nat) (s : State) : Host.Outcome State Fault Refusal :=
  done s (if d < 16 then s.linkTrainLate d
    else match decide (d = 16) && s.rdn Gl.PARTNER_STATE == 2, s.duplex.train with
      | true, some t => if t.started + 5000 ≤ s.now then s.partnerDown 3 500 else s
      | _, _ => s)

/-! ### Shadowing (R334 to R338) -/

/-- Resistance estimator state and test-current polarity in one number (R335). -/
def resState (x : Axis) : Int := (match x.res with | some r => 2 * ((r : Int) + 1) | none => 0) + b2i x.resPos

/-- The record of an axis's slot in this fast tick (R335). -/
def shadowRec (s : State) (a : Nat) : ShadowRec :=
  let x := s.axis a
  { word := x.words.headD 0, intD := x.intD, intQ := x.intQ, iqDemand := x.iqDemand, intV := x.intV, resState := resState x,
    flags := driveMode s a + (if x.limited then 8 else 0) + (if x.slotFrozen then 16 else 0) }

/-- Results of this fast tick kept for the comparison, in dual-send (R336). -/
def State.keepSlots (s : State) : State :=
  if s.rdn Gl.DUPLEX_MODE ≠ 1 then s else
  let c := s.rdn Gl.FAST_TICK_COUNT
  (allAxes s).foldl (fun s a => let x := s.axis a; s.setAxis a { x with hist := ((c, shadowRec s a) :: x.hist).take 4 }) s

/-- The received record of an axis (R335, R336): whether it matches, with the corrections of a difference. The speed integrator is taken over as it
stands, since this unit runs current loops only. DEDUCED: log entry 193. -/
def State.takeShadow (s : State) (tick a : Nat) (r : ShadowRec) : State × Bool :=
  let x := s.axis a
  match x.hist.find? (fun h => h.1 == tick) with
  | none => (s.setAxis a { x with shadow := some (r.flags % 8), iqDemand := r.iqDemand, intV := r.intV }, false)
  | some (_, o) =>
    let same : Bool := decide (o.word = r.word ∧ o.intD = r.intD ∧ o.intQ = r.intQ ∧ o.resState = r.resState)
    let dres := (r.resState - o.resState) / 2
    let x := { x with shadow := some (r.flags % 8), iqDemand := r.iqDemand, intV := r.intV }
    if same then (s.setAxis a x, true)
    else
      let x := { x with
        intD := x.intD + (r.intD - o.intD), intQ := x.intQ + (r.intQ - o.intQ), resPos := r.resState % 2 == 1,
        res := if r.resState < 2 then none else some ((match x.res with | some v => (v : Int) | none => -1) + dres).toNat }
      ((s.setAxis a x).count Gl.SHADOW_MISMATCHES, false)

/-- A doorway is synchronised (R336). -/
def synchronised (s : State) (d : Nat) : Bool :=
  let x := s.duplex
  let cur := match lookup d x.motionAt with | some t => decide (s.now ≤ t + 10) | none => false
  let move := match lookup d x.motions with
    | some r => r.phase == 0 || (match lookup d x.moves with | some m => m.moveId % 256 == r.moveId % 256 | none => false)
    | none => false
  let st := (s.link d).status
  let off := (axesOf s d).any (fun a =>
    let m := wordMode ((s.axis a).words.headD 0)
    st.testBit (12 + roleOf a) && (m == 1 || m == 2))
  decide (50 ≤ getD 0 x.match_ d) && cur && move && linkState s d == lListen && st / 64 % 8 == 2 && !off && (s.link d).missing == 0

/-- SHADOW_SYNC_MASK, and SHADOW_LOST where a doorway leaves it (R336, R354). -/
def State.setSync (s : State) (new : Nat) : State :=
  let old := s.rdn Gl.SHADOW_SYNC_MASK
  let s := s.wrn Gl.SHADOW_SYNC_MASK new
  if (List.range 16).any (fun d => old.testBit d && !new.testBit d) then s.latch Gl.DUPLEX_STATUS 11 (Gl.DUPLEX_REPEATS 3) else s

/-- This unit shadows the holder's loops (R334, R338). -/
def shadowing (s : State) : Bool :=
  s.rdn Gl.DUPLEX_MODE == 1 && !s.holds && s.paired && s.duplex.pStatus.testBit 15 && s.rdb Gl.TICK_ALIGNED

/-- The synchronised doorways and the SHADOWING flags (R336, R338). -/
def State.syncTick (s : State) : State :=
  let new := if shadowing s then maskOf ((allDoors s).filter (synchronised s)) else 0
  let s := if shadowing s then s.setSync new else s.wr Gl.SHADOW_SYNC_MASK 0
  let ok := s.bit Gl.DUPLEX_STATUS 5 && s.bit Gl.DUPLEX_STATUS 6 && s.bit Gl.DUPLEX_STATUS 7 && s.rdb Gl.TICK_ALIGNED
  (List.range s.doorways).foldl (fun s d => s.setB (Lk.LINK_STATUS d) 2 (ok && new.testBit d && !linksStopped s)) s

/-- A record or an uplink frame that did not come in the last fast tick (R336): the doorway is unsynchronised at once. Where the holder's
frame itself is missing, the SHADOWING flags stay as they are while the heartbeat is there: it may have fallen silent (R338, R340).
DEDUCED: log entry 195. -/
def State.syncMissing (s : State) : State :=
  if shadowing s = false then s
  else if s.duplex.got = false then { s.setSync 0 with duplex := { s.duplex with match_ := [] } }
  else
    let s := { s with duplex := { s.duplex with match_ := s.duplex.match_.filter (fun (x : Nat × Nat) => (s.link x.1).missing == 0) } }.syncTick
    { s with duplex := { s.duplex with syncHeld := s.rdn Gl.SHADOW_SYNC_MASK } }

/-- Shadow and motion records of a holder's frame, in dual-send. -/
def State.takeShadows (s : State) (f : PFrame) : State :=
  let tick := (f.tickCount + 4095999999) % 4096000000
  let (s, good) := f.shadows.zipIdx.foldl (fun (acc : State × List Nat) r => match slotAxis acc.1 r.2 with
    | some a =>
      let (s, ok) := acc.1.takeShadow tick a r.1
      (s, if ok then a :: acc.2 else acc.2)
    | none => acc) (s, [])
  let m := (allDoors s).foldl (fun (m : Store Nat) d =>
    let all := (axesOf s d).all good.contains && (axesOf s d) != [] && (s.link d).missing == 0
    putD 0 m d (if all then getD 0 s.duplex.match_ d + 1 else 0)) s.duplex.match_
  let mot := f.motions.filter (fun r => decide (r.d < 16))
  { s with duplex := { s.duplex with
      match_ := m, motions := mot.foldl (fun t r => place r.d r (erase r.d t)) s.duplex.motions,
      motionAt := mot.foldl (fun t r => place r.d s.now (erase r.d t)) s.duplex.motionAt } }

/-! ### The mirror: receiving segments, acknowledgements, items (R348, R349, R352) -/

/-- Largest length of a message type (R349). -/
def mirrorMax : Nat → Nat
  | 1 => 29 | 2 => 160 | 3 => 144 | 4 => 1040 | 5 => 6160 | 6 => 64 | 7 => 40 | 8 => 4096 | 9 => 16 | _ => 0

/-- A segment (R348): reassembled by tag, discarded when out of order or too long, acknowledged when complete. -/
def State.takeSegment (s : State) (g : MirrorSeg) : State :=
  let x := s.duplex
  if g.tag = 0 then s else
  let drop := fun (s : State) => { s.count Gl.MIRROR_DISCARDS with duplex := { s.duplex with rx := erase g.tag s.duplex.rx } }
  let cur := if g.seg = 0 then some { type := g.type, next := 0, data := [] : RxMsg } else lookup g.tag x.rx
  match cur with
  | none => drop s
  | some r =>
    let data := r.data ++ g.data.take g.len
    if r.next ≠ g.seg ∨ r.type ≠ g.type ∨ mirrorMax g.type < data.length
        ∨ (g.seg = 0 ∧ (lookup g.tag x.rx).isNone ∧ 4 ≤ x.rx.length) then drop s
    else if g.last then { s with duplex := { x with rx := erase g.tag x.rx, acks := x.acks ++ [g.tag] } }
    else { s with duplex := { x with rx := place g.tag { r with next := g.seg + 1, data } (erase g.tag x.rx) } }

/-- A message is acknowledged. -/
def State.takeAck (s : State) (t : Nat) : State :=
  if t = 0 then s else { s with duplex := { s.duplex with outbox := s.duplex.outbox.filter (fun m => m.tag != t) } }

/-- Contents of a mirrored item: 0 envelope 2a + direction, 1 background n, 2 learned values d, 3 configuration. -/
def learnedValues (s : State) (d : Nat) : List Int :=
  (axesOf s d).map (fun a => s.rd (Ax.STROKE a)) ++ (axesOf s d).map (fun a => s.rd (Ax.CLOSED_SWITCH_POS a))
    ++ [s.rd (Dr.START_PEAK_OPEN d), s.rd (Dr.START_PEAK_CLOSE d), s.rd (Lk.NODE_SERIAL d)]

def itemContent (s : State) (kind inst : Nat) : List Int :=
  match kind with
  | 0 =>
    let a := inst / 2
    let closing := inst % 2 == 0
    (envOf (s.leaf a) closing).flatMap (fun p => [p.1, p.2]) ++ [(envState s a closing : Int), (s.leaf a).offset,
      s.rd (if closing then Ax.ENV_CYCLES_CLOSE a else Ax.ENV_CYCLES_OPEN a)]
  | 1 => (s.sensor inst).bg.map (fun p => match p with | some v => (v : Int) | none => -1)
  | 2 => learnedValues s inst
  | _ => (s.dict.filter (fun e => mirrored s e.1)).flatMap (fun e => [(e.1 : Int), e.2])
    ++ (s.blobs.filter (fun e => mirrored s e.1)).flatMap (fun e => (e.1 : Int) :: e.2.map (fun b => (b : Int)))

/-- Digest of an item; CONFIG_DIGEST is that of the configuration (R353). DESIGN CHOICE: log entry 98. -/
def itemDigest (s : State) (kind inst : Nat) : Nat := Config.digest (itemContent s kind inst) % 2 ^ 32
def configDigest (s : State) : Nat := itemDigest s 3 0

/-- A copy that is empty (R352). -/
def itemEmpty (s : State) (kind inst : Nat) : Bool :=
  match kind with
  | 0 => envState s (inst / 2) (inst % 2 == 0) == 0
  | 1 => s.rdn (Sn.BG_STATE inst) != 2
  | 2 => (leavesOf s inst).all (fun a => s.rdn (Ax.STROKE a) == 0)
  | _ => s.rdn Gl.CONFIG_GENERATION == 0

/-- Every mirrored item of the part. -/
def allItems (s : State) : List (Nat × Nat) :=
  (allAxes s).flatMap (fun a => if isLeaf s a then [(0, 2 * a), (0, 2 * a + 1)] else [])
    ++ ((List.range 32).filter (sensorEnabled s)).map (fun n => (1, n)) ++ (allDoors s).map (fun d => (2, d)) ++ [(3, 0)]

/-- Keys of the entries that CONFIG_WRITE mirrors. -/
def mirroredKeys (s : State) : List Nat :=
  (List.range 0x3010).flatMap (fun i =>
    let index := 0x2000 + i
    (rowsOf index).flatMap (fun r =>
      if (r.hasIndex index && (match r.doorway index r.subLo with | some d => decide (d < s.doorways) | none => true)) = true then
        ((List.range (r.subHi - r.subLo + 1)).map (fun j => key index (r.subLo + j))).filter (mirrored s)
      else []))

/-- Items of the configuration that carry an entry: one, or the pieces of a DOMAIN value that is not empty. -/
def keyItems (s : State) (k : Nat) : List (Nat × Nat) :=
  match rowOf (k / 256) (k % 256) with
  | some r => if r.ty == .domain then (if s.blob k = [] then [] else (List.range ((s.blob k).length / 32 + 1)).map (fun j => (5, 128 * k + j))) else [(4, k)]
  | none => []

/-- Send the copy of an item (R349): ENV_DATA with state, cycles and offset; a background; learned values; an entry, or a piece of one. -/
def State.sendItem (s : State) (kind inst : Nat) : State :=
  match kind with
  | 0 =>
    let a := inst / 2
    let closing := inst % 2 == 0
    s.mirrorSend 4 ([a, inst % 2, envState s a closing]
      ++ leBytes 2 (s.rdn (if closing then Ax.ENV_CYCLES_CLOSE a else Ax.ENV_CYCLES_OPEN a)) ++ leBytes 4 (twos 32 (s.rd (Ax.ENV_OFFSET a)))
      ++ (envOf (s.leaf a) closing).flatMap (fun p => leBytes 2 (twos 16 p.1) ++ leBytes 2 (twos 16 p.2))) (some (0, inst))
  | 1 => s.mirrorSend 5 ([inst] ++ (s.sensor inst).bg.flatMap (fun p => leBytes 2 (match p with | some v => v / 256 | none => 0xFFFF))) (some (1, inst))
  | 2 => s.mirrorSend 6 ([inst] ++ (learnedValues s inst).flatMap (fun v => leBytes 4 (twos 32 v))) (some (2, inst))
  | _ =>
    let k := if kind = 5 then inst / 128 else inst
    s.mirrorSend 7 (leBytes 2 (k / 256) ++ [k % 256] ++ (if kind = 5 then pieceOf (s.blob k) (inst % 128) else valueBytes k (s.rd k))
      ++ leBytes 4 (s.rdn Gl.CONFIG_GENERATION)) (some (kind, inst))

/-- Items of the inventory go out while fewer than 4 messages wait (R348). -/
def State.pumpItems : Nat → State → State
  | 0, s => s
  | n + 1, s =>
    match s.duplex.items with
    | [] => s
    | i :: r =>
      if s.paired = false ∨ 4 ≤ s.duplex.outbox.length then s
      else ({ s with duplex := { s.duplex with items := r } }.sendItem i.1 i.2).pumpItems n

/-- SYNC_ITEMS_PENDING, READY_TO_TAKE, and PARTNER_STATE between SYNCING and UP (R332, R352). A unit whose TICK_ALIGNED fell is in SYNCING
again, with a new inventory and a new alignment. DEDUCED: log entry 217. -/
def State.readyTick (s : State) : State :=
  let x := s.duplex
  let s := s.wrn Gl.SYNC_ITEMS_PENDING (min max16 x.items.length)
  let ready := s.paired && x.inventoried && x.items == [] && x.expect == [] && !(x.outbox.any (·.item.isSome)) && s.rdb Gl.TICK_ALIGNED
  let s := s.setB Gl.DUPLEX_STATUS 1 ready
  let s := if ready ∧ s.rdn Gl.PARTNER_STATE = 3 then s.wr Gl.PARTNER_STATE 4
    else if s.rdb Gl.TICK_ALIGNED = false ∧ s.rdn Gl.PARTNER_STATE = 4 then
      { s.wr Gl.PARTNER_STATE 3 with duplex := { s.duplex with inventorySent := false, phased := false } }
    else s
  s.showDuplex

/-- This unit acts as holder in the exchange of items: the holder, or ROLE A where neither unit holds the token (R352). -/
def actsHolder (s : State) : Bool := s.holds || (!s.duplex.pStatus.testBit 15 && s.rdn Gl.ROLE == 0)

/-- Generation of a mirrored item (R349): CONFIG_GENERATION, or the changes of this unit's copy. DESIGN CHOICE: log entry 99. -/
def generation (s : State) (kind inst : Nat) : Nat :=
  if kind = 3 then s.rdn Gl.CONFIG_GENERATION else getD 0 s.duplex.gens (1000 * kind + inst) % 2 ^ 32

/-- This unit's copy of an item has changed. -/
def State.newCopy (s : State) (kind inst : Nat) : State :=
  { s with duplex := { s.duplex with gens := putD 0 s.duplex.gens (1000 * kind + inst) (getD 0 s.duplex.gens (1000 * kind + inst) + 1) } }

/-- The INVENTORY of this unit (R349, R352). DESIGN CHOICE: log entry 99. -/
def State.sendInventory (s : State) : State :=
  if s.duplex.inventorySent ∨ s.paired = false then s else
  let s := { s with duplex := { s.duplex with inventorySent := true, marked := [] } }
  s.mirrorSend 8 (leBytes 4 (s.rdn Gl.PRODUCT_CODE) ++ leBytes 4 (s.rdn Gl.REVISION) ++ leBytes 4 (s.rdn Gl.SERIAL) ++ [s.rdn Gl.ROLE]
    ++ leBytes 4 (s.rdn Gl.CONFIG_GENERATION)
    ++ (allItems s).flatMap (fun i => leBytes 4 (itemDigest s i.1 i.2) ++ leBytes 4 (generation s i.1 i.2)))

/-- CONFIG_DIGEST, and PARTNER_CONFIG_DIGEST, which follows it while the digests agree and no mirrored write is lost, and once the whole
configuration has been sent and acknowledged (R338, R351). DEDUCED: log entry 218. -/
def State.showDigest (s : State) : State :=
  let x := s.duplex
  let g := configDigest s
  let s := s.wrn Gl.CONFIG_DIGEST g
  if s.paired = false ∨ x.inventoried = false then s else
  let sent := x.sendsConfig && x.items == [] && x.outbox.all (fun m => m.item.isNone)
  let lost := x.marked.any (fun i => decide (3 ≤ i.1))
  let s := if (s.bit Gl.DUPLEX_STATUS 7 || sent) && !lost then s.wrn Gl.PARTNER_CONFIG_DIGEST g else s
  { s.setB Gl.DUPLEX_STATUS 7 (s.rdn Gl.PARTNER_CONFIG_DIGEST == g) with duplex := { x with sendsConfig := x.sendsConfig && !sent } }

/-- INVENTORY (R346, R352): items that differ are sent by the holder, or by the partner where the holder's copy is empty. -/
def execInventory (m : InvMsg) (s : State) : Host.Outcome State Fault Refusal :=
  done s (if s.paired = false then s
    else if m.productCode ≠ s.rdn Gl.PRODUCT_CODE then s.partnerDown 5 50000
    else if m.role = s.rdn Gl.ROLE then s.partnerDown 6 50000
    else
      let s := ((s.wrn Gl.PARTNER_SERIAL m.serial).wrn Gl.PARTNER_REVISION m.revision).wrn Gl.PARTNER_CONFIG_DIGEST m.configDigest
      let differ := m.items.filter (fun (i : Nat × Nat × Nat × Bool) => (allItems s).contains (i.1, i.2.1) && itemDigest s i.1 i.2.1 != i.2.2.1)
      let h := actsHolder s
      let own := differ.filter (fun (i : Nat × Nat × Nat × Bool) => if h then !itemEmpty s i.1 i.2.1 else i.2.2.2)
      let theirs := differ.filter (fun (i : Nat × Nat × Nat × Bool) => !(if h then !itemEmpty s i.1 i.2.1 else i.2.2.2))
      let expand := fun (i : Nat × Nat × Nat × Bool) => if i.1 = 3 then (mirroredKeys s).flatMap (keyItems s) else [(i.1, i.2.1)]
      let s := { s with duplex := { s.duplex with
        inventoried := true, pRevision := m.revision, items := own.flatMap expand, sendsConfig := own.any (fun (i : Nat × Nat × Nat × Bool) => i.1 == 3),
        expect := theirs.map (fun (i : Nat × Nat × Nat × Bool) => (i.1, i.2.1)) } }
      let s := s.setB Gl.DUPLEX_STATUS 7 (m.configDigest == configDigest s)
      (s.sendInventory.pumpItems 4).readyTick)

/-- An expected item has arrived. -/
def State.arrived (s : State) (kind inst : Nat) : State :=
  { s with duplex := { s.duplex with expect := s.duplex.expect.filter (fun (i : Nat × Nat) => i != (kind, inst)) } }

/-- MIRROR_RETRY (R348): unacknowledged for 2 ms after its last segment, up to 3 times. -/
def execMirrorRetry (tag : Nat) (s : State) : Host.Outcome State Fault Refusal :=
  done s (match s.duplex.outbox.find? (fun m => m.tag == tag) with
  | some m =>
    if s.paired ∧ m.tries < 3 ∧ unsent m = false ∧ m.sentAt + 100 ≤ s.now then
      let s := { s with duplex := { s.duplex with outbox := s.duplex.outbox.map (fun (x : OutMsg) =>
        if x.tag = tag then { x with tries := x.tries + 1, next := 0, sentAt := s.now } else x) } }
      (s.count Gl.MIRROR_RETRIES).send (.mirror m.tag m.type m.data)
    else s
  | none => s)

/-- MIRROR_TIMEOUT (R348): the message is given up, its item waits for the next inventory. -/
def execMirrorTimeout (tag : Nat) (s : State) : Host.Outcome State Fault Refusal :=
  done s (match s.duplex.outbox.find? (fun m => m.tag == tag) with
  | some m =>
    if m.firstAt + 50 * m.timeout ≤ s.now then
      let s := { s with duplex := { s.duplex with outbox := s.duplex.outbox.filter (fun (x : OutMsg) => x.tag != tag) } }
      let s := s.count Gl.MIRROR_SUPERSEDED
      match m.item with | some i => s.markItem i.1 i.2 | none => s
    else s
  | none => s)

/-! ### The partner frame (R329 to R333, R346) -/

/-- Ticks of a unit that is not the master follow the master's (R25, R333): on entering SYNCING it adopts the count and moves its phase
once; then it trims the phase by at most 1 ns in a fast tick, to within ±50 ns. The link's delay is less than a tick. -/
def State.alignTicks (s : State) (f : PFrame) : State :=
  if s.bit Gl.DUPLEX_STATUS 4 then
    -- the master is aligned to itself: no phase error
    s.wr Gl.TICK_ALIGNED 1
  else
    let x := s.duplex
    let s := if x.phased then s else s.wrn Gl.FAST_TICK_COUNT (f.tickCount % 4096000000)
    let e := f.phaseNs - x.delay - x.phase
    let step : Int := if x.phased = false then e else if 50 < e then 1 else if e < -50 then -1 else 0
    let e := if x.phased then e else 0
    let s := { s with duplex := { x with phase := x.phase + step, phased := true } }
    let s := (s.wr Gl.TICK_PHASE_ERROR (max (-32768) (min 32767 e))).wr Gl.FAST_TICK_SOURCE 1
    let s := s.raiseMax Gl.TICK_PHASE_ERROR_MAX (min max16 (Int.natAbs e) : Nat)
    s.wr Gl.TICK_ALIGNED (b2i (decide (Int.natAbs e ≤ 100)))

/-- The holder's downlink sequence numbers, which the partner uses too (R163, R338). -/
def State.followSeqs (s : State) (f : PFrame) : State :=
  (List.range s.doorways).foldl (fun s d =>
    let q := f.linkSeqs.getD d 0
    if linkState s d < lConfig ∨ q = 0 then s else s.setLink d { s.link d with seq := (q + 65535) % 65536 }) s

/-- The check values are compared (R293): an event for each pair of values that differ. -/
def State.comparePartner (s : State) (f : PFrame) : State :=
  let new := (s.rdn Gl.CHECK_VALUE, f.checkValue)
  let was := s.duplex.checkSeen
  let s := { s.wrn Gl.PARTNER_CHECK_VALUE f.checkValue with duplex := { s.duplex with pCheck := f.checkValue, checkSeen := some new } }
  if new.1 ≠ new.2 ∧ was ≠ some new then s.raise 0x0183 0xFF f.checkValue else s

/-- PARTNER_FRAME (R329): a valid frame is a heartbeat; one with a MIRROR_LEN above 29 is invalid, discarded and counted (R11). DEDUCED: log entry 188. -/
def execPartnerFrame (f : PFrame) (s : State) : Host.Outcome State Fault Refusal := done s (
  let ok := partnerIntact s.duplex.lastSof f
  let s := if isPair s then { s with duplex := { s.duplex with lastSof := some f.sof } } else s
  (if s.paired = false then s
    else if f.crc ≠ crc32 (partnerBytes f) then s.count Gl.PL_CRC_ERRORS
    else if ok = false then s
    else if 29 < f.seg.len then s.count Gl.MIRROR_DISCARDS
    else if f.pstatus / 16384 % 2 = s.rdn Gl.ROLE then s.partnerDown 6 50000
    else
      let s := s.count Gl.PL_FRAMES_OK
      let held := f.pstatus.testBit 15
      let s := { s with duplex := { s.duplex with
        got := true, missing := 0, pStatus := f.pstatus, pSeq := some f.pseq, pTick := f.tickCount, pSeqs := f.linkSeqs, stagIn := held,
        wasPartner := s.duplex.wasPartner || (held && !s.duplex.driving) } }
      let s := (s.comparePartner f).showDuplex
      let s := s.alignTicks f
      let s := s.sendInventory
      let s := if held ∧ s.holds = false then
          let s := s.followSeqs f
          let s := if s.rdn Gl.DUPLEX_MODE = 1 ∧ s.rdb Gl.TICK_ALIGNED then s.takeShadows f else s.dropShadows
          let s := s.syncTick
          { s with duplex := { s.duplex with lastHold := some s.now, syncHeld := s.rdn Gl.SHADOW_SYNC_MASK } }
        else s.syncTick
      ((s.takeAck f.mirrorAck).takeSegment f.seg).readyTick))

/-! ### Mirror messages (R344, R349) -/

/-- NSL_COPY (R307): the partner sends a bit-identical frame. -/
def execNslCopy (n seq ts : Nat) (payload : List ByteN) (s : State) : Host.Outcome State Fault Refusal :=
  done s (if s.paired = false ∨ 32 ≤ n ∨ s.holds then s else
    let s := { s with duplex := { s.duplex with copies := place n (seq, ts, payload) (erase n s.duplex.copies) } }
    if isProducer s n ∧ n = s.pn Gl.SUMMARY_CONNECTION then s.sendNsl n (seq % 65536) (ts % 65536) payload else s)

/-- DOOR_SNAPSHOT (R344): the door states are the same in both units (R350). -/
def execDoorSnapshot (ds : List SnapDoor) (s : State) : Host.Outcome State Fault Refusal :=
  done s (if s.paired = false ∨ s.holds then s else
    let s := { s with duplex := { s.duplex with snapshot := ds, snapAt := some s.now } }
    ds.foldl (fun s x => if x.d < s.doorways then
        (((s.wrn (Dr.STATE x.d) x.state).wrn (Dr.FAULT_CAUSE x.d) x.faultCause).wrn (Dr.RETRY_COUNT x.d) x.retryCount).wrn (Dr.STATUS x.d) x.status
      else s) s)

/-- MOVE (R349). -/
def execMove (m : MoveMsg) (s : State) : Host.Outcome State Fault Refusal :=
  done s (if s.paired = false ∨ s.holds ∨ 16 ≤ m.d then s
    else { s with duplex := { s.duplex with moves := place m.d m (erase m.d s.duplex.moves) } })

/-- ENVELOPE (R207): direction 0 closing, 1 opening; installed and committed here. -/
def execEnvelope (a dir : Nat) (state cycles : Nat) (offset : Int) (bs : List ByteN) (s : State) : Host.Outcome State Fault Refusal :=
  done s (if s.paired = false ∨ isLeaf s a = false ∨ 1 < dir ∨ (bs ≠ [] ∧ bs.length ≠ 1024) ∨ 4 < state then s else
    let closing := dir == 0
    let e := if state = 0 then [] else envOfBytes 256 bs
    let x := s.leaf a
    let s := s.setLeaf a { (if closing then { x with close := e } else { x with opn := e }) with offset := 256 * offset }
    let s := (s.wrn (if closing then Ax.ENV_STATE_CLOSE a else Ax.ENV_STATE_OPEN a) state).wrn
      (if closing then Ax.ENV_CYCLES_CLOSE a else Ax.ENV_CYCLES_OPEN a) (min cycles max16)
    ((s.wr (Ax.ENV_OFFSET a) offset).envDirty a).arrived 0 (2 * a + dir))

/-- BACKGROUND (R217): pixel distances in mm, `none` where invalid. -/
def execBackground (n : Nat) (px : List (Option Nat)) (s : State) : Host.Outcome State Fault Refusal :=
  done s (if s.paired = false ∨ 32 ≤ n ∨ px.length ≠ 3072 then s else
    let s := s.setSensor n { s.sensor n with bg := px.map (fun p => p.map (· * 256)), commitBy := s.after 100, learning := none }
    ((s.wr (Sn.BG_STATE n) 2).wrn (Sn.BG_VALID_PIXELS n) (px.filter (·.isSome)).length).arrived 1 n)

/-- LEARNED (R349): strokes, closed-switch positions, start peaks and the node serial of a doorway. DEDUCED: log entry 102. -/
def execLearned (d : Nat) (strokes switchPos : List Int) (peakOpen peakClose serial : Nat) (s : State) : Host.Outcome State Fault Refusal :=
  done s (if s.paired = false ∨ s.doorways ≤ d then s else
    let s := (axesOf s d).foldl (fun s a =>
      let s := match strokes[roleOf a]? with | some v => s.wr (Ax.STROKE a) v | none => s
      match switchPos[roleOf a]? with | some v => s.wr (Ax.CLOSED_SWITCH_POS a) v | none => s) s
    let s := s.modDoor d (fun x => { x with peaksOpen := if peakOpen = 0 then [] else List.replicate 8 peakOpen,
                                            peaksClose := if peakClose = 0 then [] else List.replicate 8 peakClose })
    let s := ((s.wrn (Dr.START_PEAK_OPEN d) peakOpen).wrn (Dr.START_PEAK_CLOSE d) peakClose).wrn (Lk.NODE_SERIAL d) serial
    s.arrived 2 d)

/-- TIME (R349): the calendar time of the holder. -/
def execTime (seconds : Nat) (s : State) : Host.Outcome State Fault Refusal :=
  done s (if s.paired = false ∨ s.holds ∨ max32 < seconds then s else s.wrn Gl.RTC_TIME seconds)

/-- ENVELOPE_COMMIT (R206, R207, R217): an envelope (a < 48) or the background of sensor a − 48, within 100 ms of its change. -/
def execEnvelopeCommit (a : Nat) (s : State) : Host.Outcome State Fault Refusal :=
  done s (if a < 48 then
      if (s.leaf a).commitBy.isSome then
        let s := s.commitLeaf a
        let s := (s.newCopy 0 (2 * a)).newCopy 0 (2 * a + 1)
        if s.holds then (s.sendItem 0 (2 * a)).sendItem 0 (2 * a + 1) else s
      else s
    else if a < 80 then
      let n := a - 48
      let x := s.sensor n
      if x.commitBy.isSome then
        let s := (s.commitSensor n).newCopy 1 n
        if s.holds then s.sendItem 1 n else s
      else s
    else s)

/-! ### Adoption of the snapshot (R344) -/

/-- One doorway at the first door tick after a claim. -/
def State.adoptDoor (s : State) (x : SnapDoor) : State :=
  let d := x.d
  let kind := (s.rdn Gl.TAKEOVER_KINDS) / 4 ^ d % 4
  if configured s d = false ∨ kind = 0 then s else
  let s := s.abortLearn d
  let s := (axesOf s d).foldl (fun s a =>
    let s := if (s.axis a).align.isSome then s.setAxis a { s.axis a with align := none } else s
    if manual s a then s.manualStop a else s) s
  let left := fun (ms : Nat) => if ms = 0 then none else s.after ms
  let s := s.modDoor d (fun y => { y with
    cmds := [], request := false, spoiled := true, closeAt := none, warnUntil := left x.warnLeft, warnOrigin := .door,
    dwellUntil := left x.dwellLeft, autoUntil := left x.autoLeft, holdOpen := bitOf (x.status : Int) 16, refNeeded := bitOf (x.status : Int) 18 })
  if kind = 3 then ((s.finishMove d).modDoor d (fun y => { y with next := some .returnPath }))
  else
    let s := if kind = 2 then
        match x.state with
        | 3 => s.redirect d (openingKind s d)
        | 5 => s.redirect d (closingKind s d)
        | 6 => if inMotion s d then s else s.startDwell d
        | _ => s
      else s
    if bitOf (x.status : Int) 17 then
      s.modDoor d (fun y => { y with startWait := some { kind := (if x.state = 4 then .close else if x.state = 6 then .retry else .opening), since := s.now } })
    else s

def State.adoptTick (s : State) : State :=
  if s.duplex.adopt = false then s else
  let s := { s with duplex := { s.duplex with adopt := false } }
  match s.duplex.snapAt with
  | some _ => s.duplex.snapshot.foldl State.adoptDoor s
  | none => s

/-! ### The holder's side of each tick -/

/-- The snapshot of every doorway (R344): 10 bytes a doorway, of 4 bits STATE, 4 FAULT_CAUSE, 4 RETRY_COUNT, 23 STATUS, and 14, 14 and
17 bits for the remaining times in ms. DEDUCED: log entry 101. -/
def snapshotBytes (s : State) : List ByteN :=
  (List.range s.doorways).flatMap (fun d =>
    let x := s.door d
    let left := fun (t : Option Nat) (bits : Nat) => match t with | some u => (u - s.now) / 50 % 2 ^ bits | none => 0
    leBytes 10 (doorState s d % 16 + 2 ^ 4 * (s.rdn (Dr.FAULT_CAUSE d) % 16) + 2 ^ 8 * (s.rdn (Dr.RETRY_COUNT d) % 16)
      + 2 ^ 12 * (s.rdn (Dr.STATUS d) % 2 ^ 23) + 2 ^ 35 * left x.warnUntil 14 + 2 ^ 49 * left x.dwellUntil 14 + 2 ^ 63 * left x.autoUntil 17))

/-- Door tick of the pair: snapshot, learned values on change, time, items (R344, R349, R351). -/
def State.duplexDoor (s : State) : State :=
  let s := { s with duplex := { s.duplex with written := s.duplex.written.filter (fun (x : Nat × (Nat × Nat)) => decide (s.now < x.2.2 + 500)) } }
  if s.paired = false then s.showDuplex else
  let s := if s.holds then
      let s := s.mirrorSend 2 (snapshotBytes s)
      let s := (allDoors s).foldl (fun s d =>
        let v := learnedValues s d
        if getD [] s.duplex.learnedSent d = v then s
        else ({ s with duplex := { s.duplex with learnedSent := putD [] s.duplex.learnedSent d v } }.newCopy 2 d).sendItem 2 d) s
      if s.duplex.timeAt + 50000 ≤ s.now then
        { s with duplex := { s.duplex with timeAt := s.now } }.mirrorSend 9 (leBytes 4 (s.rdn Gl.RTC_TIME))
      else s
    else s
  (s.pumpItems 4).readyTick

/-- The frame of this fast tick on the partner link: a training frame in DOWN and TRAINING, then partner data frames (R179, R329). -/
def State.partnerSend (s : State) : State :=
  let x := s.duplex
  let st := s.rdn Gl.PARTNER_STATE
  if 3 ≤ st then s.sendPartner
  else if st = 1 ∨ st = 2 then
    let seq := (x.trainSeq + 1) % 65536
    { s with duplex := { x with frame := none, trainSeq := seq, trainDown := some (trainFrame x.train seq 1 ((x.train.map Train.level).getD 0)) } }
  else { s with duplex := { x with frame := none, trainDown := none } }

/-- Fast tick of the pair: missing frames, the keep-alive timer, a release that is due. -/
def State.duplexFast (s : State) : State :=
  let s := s.syncMissing.keepAlive
  let x := s.duplex
  let s := if s.paired then { s with duplex := { x with got := false, missing := if x.got then 0 else x.missing + 1, seq := (x.seq + 1) % 65536 } } else s
  let s := if s.holds ∧ (x.releaseNext ∨ (x.lapsed ∧ heldFor x.lapseSince s.now 50)) then s.release
    else if s.holds = false then s.linksListen else s
  s.partnerSend

/-- COUNTERS_CLEAR (R355): 0x2601:01, 02, 04–07. -/
def partnerClearEffect : Effect := fun v s =>
  if 1 < v then .error abValue
  else if v = 0 then .ok s
  else .ok ([1, 2, 4, 5, 6, 7].foldl (fun s i => s.wr (key 0x2601 i) 0) s)

def execPartnerCountersClear (via : Via) (v : Int) (s : State) : Host.Outcome State Fault Refusal :=
  done s (writeNum via 0x2601 10 (.num v) none id partnerClearEffect s)

end Sys2Proof.Machine
end

