-- ==== Sys2Proof/Machine/Outputs.lean ====
section
/-!
DEFINITION. Protected outputs, pulse generators, the field-die watchdog, the dissipation manager and Glowworm (chapter 12).
Channel q is LOq for q below 16, CO(q − 16) above. OUT_STATUS bits [0] to [12], TRIP_COUNT and the counters are entries of the
dictionary; what the field dies hold beside them is `OutChan` and `FieldDie`.
-/
namespace Sys2Proof.Machine

def State.chan (s : State) (q : Nat) : OutChan := getD {} s.chans q
def State.setChan (s : State) (q : Nat) (x : OutChan) : State := { s with chans := putD {} s.chans q x }
def State.die (s : State) (d : Nat) : FieldDie := getD {} s.dies d
def State.setDie (s : State) (d : Nat) (x : FieldDie) : State := { s with dies := putD {} s.dies d x }
def State.modChan (s : State) (q : Nat) (f : OutChan → OutChan) : State := s.setChan q (f (s.chan q))

/-- Field die of a channel (R381). -/
def dieOfChan (q : Nat) : Nat := if q < 16 then q / 8 else (q - 16) / 4

def isLamp (q : Nat) : Bool := decide (q < 16)

/-- OUT_STATUS (R412). -/
def chanOn (s : State) (q : Nat) : Bool := s.bit (Ou.OUT_STATUS q) 0
def demanded (s : State) (q : Nat) : Bool := s.bit (Ou.OUT_STATUS q) 1
def thermalLatched (s : State) (q : Nat) : Bool := s.bit (Ou.OUT_STATUS q) 4
def lampFailed (s : State) (q : Nat) : Bool := s.bit (Ou.OUT_STATUS q) 11

/-- Longest inrush window in fast ticks: 20 ms for a lamp, 10 ms for a coil (R381). -/
def inrushWindow (q : Nat) : Nat := if isLamp q then 1000 else 500

/-! ### Pulse generators (R388, R389) -/

/-- Position in the period, and lengths, in 1/256 µs. -/
def pgTime (g : PgRec) (now : Nat) : Int := ((now : Int) - g.start) * 5120
def pgPeriod (g : PgRec) : Int := 256 * (max g.period 1 : Nat)

/-- Whether a channel of a phase is on at a fast tick. -/
def pgLevel (g : PgRec) (phase now : Nat) : Bool :=
  if g.mode = 0 ∨ g.duty = 0 then false
  else if 256 ≤ g.duty then true
  else decide ((pgTime g now - (phase * max g.period 1 : Nat)) % pgPeriod g < (g.duty * max g.period 1 : Nat))

/-- Whether the on instant, or the off instant, of a channel of a phase lies within the present fast tick. DEDUCED: log entry 107. -/
def pgEdge (g : PgRec) (phase now : Nat) (on : Bool) : Bool :=
  let at_ := (phase + if on then 0 else g.duty) * max g.period 1
  g.mode != 0 && decide (0 < g.duty) && decide (g.duty < 256) && decide (((at_ : Nat) - pgTime g now) % pgPeriod g < 5120)

def pgRec (s : State) (die n : Nat) : PgRec := getD {} (s.die die).pgs n

/-- First fast tick at or after the next period start. -/
def pgNextStart (g : PgRec) (now : Nat) : Nat :=
  let p := max g.period 1
  let us := (now - g.start) * 20
  g.start + ((us / p + 1) * p + 19) / 20

/-! ### The drive (R384 to R387, R401) -/

/-- The drive in force at the field die: on, and the generator it follows. -/
def driven (s : State) (q : Nat) : Bool × Option Nat :=
  let x := s.chan q
  let f := s.die (dieOfChan q)
  if f.stabled ∨ f.hot then (false, none)
  else if f.expired then (decide (x.safeState = 1 ∨ x.safeState = 2), if x.safeState = 2 then some 7 else none)
  else (x.want, if x.steady then none else some x.pg)

/-- A protection holds the channel off (R391 to R394, R399, R404, R408). -/
def protected_ (s : State) (q : Nat) : Bool :=
  let w := Ou.OUT_STATUS q
  let x := s.chan q
  s.bit w 3 || s.bit w 4 || s.bit w 8 || s.bit w 10 || s.bit w 12 || x.heldOff || x.clearing

/-- The switch conducts. -/
def conducts (s : State) (q : Nat) : Bool :=
  let d := driven s q
  d.1 && !protected_ s q && (d.2.isNone || (s.chan q).pgOn)

/-- A learning that a demand change or a protection event interrupts (R405). -/
def State.interruptLearn (s : State) (q : Nat) : State :=
  let x := s.chan q
  if x.learnFrom.isSome then s.setChan q { x with learnFrom := none, notLearned := true } else s

/-- The switch turns on: an inrush window opens after an off-time of at least the window length (R390). -/
def State.turnOn (s : State) (q : Nat) : State :=
  let x := s.chan q
  let w := match x.offSince with | none => true | some t => decide (t + inrushWindow q ≤ s.now)
  let s := s.setChan q { x with
    onSince := some s.now, offSince := none, inrushUntil := if w then some (s.now + inrushWindow q) else none,
    inrushEnd := if w then none else some s.now, highSince := none, midSince := none, openSeen := false, decaying := false }
  (s.setB (Ou.OUT_STATUS q) 0 true).setB (Ou.OUT_STATUS q) 2 w

/-- The switch turns off; a coil's current decays (R395). -/
def State.turnOff (s : State) (q : Nat) : State :=
  let x := s.chan q
  let s := s.setChan q { x with
    onSince := none, offSince := some s.now, inrushUntil := none, inrushEnd := none, lowSince := none, openSeen := false,
    highSince := none, midSince := none, decaying := !isLamp q }
  ((s.setB (Ou.OUT_STATUS q) 0 false).setB (Ou.OUT_STATUS q) 2 false).interruptLearn q

/-- Bring the switch of a channel to what its drive and its protections give. -/
def State.refresh (s : State) (q : Nat) : State :=
  let on := conducts s q
  if on = chanOn s q then s else if on then s.turnOn q else s.turnOff q

/-! ### Terms and demands (R384, R385, R387, R409) -/

/-- Doorways whose LOCK_OUTPUT names a coil (R384). -/
def namedBy (s : State) (q : Nat) : List Nat :=
  if q < 16 then [] else (List.range s.doorways).filter (fun d => s.rdn (Dr.LOCK_OUTPUT d) == q - 16)

/-- TERM (R385). -/
def termTrue (s : State) (q : Nat) : Bool :=
  let b := s.pn (Ou.TERM_BIT q)
  let ds := (allDoors s).filter (fun d => (s.pn (Ou.TERM_MASK q)).testBit d)
  let has := fun d => s.bit (Dr.STATUS d) b
  match s.pn (Ou.TERM_OP q) with
  | 0 => ds.any has
  | 1 => ds.all has
  | _ => !ds.any has

/-- A channel's own demand (R384). -/
def ownDemand (s : State) (q : Nat) : Bool :=
  if namedBy s q ≠ [] then (s.holds || !s.duplex.wasPartner) && (namedBy s q).any (fun d => (s.door d).lockOn)
  else if s.pn (Ou.SOURCE q) = 1 then termTrue s q
  else s.pb (Ou.COMMAND q)

/-- The lamp whose spare a channel is (R409). -/
def primaryOf (s : State) (q : Nat) : Option Nat :=
  if isLamp q then (List.range 16).find? (fun j => s.pn (Ou.LAMP_SPARE j) == q) else none

def spareActive (s : State) (q : Nat) : Bool := s.bit (Ou.OUT_STATUS q) 6

/-- Assigned as a spare and carrying no duty (R564 row 1). -/
def standby (s : State) (q : Nat) : Bool := match primaryOf s q with | some j => !spareActive s j | none => false

/-- The channel whose demand, ON_STATE, PG_SELECT and PHASE a channel takes: its own, its primary's, or none. -/
def dutyOf (s : State) (q : Nat) : Option Nat := match primaryOf s q with
  | some j => if spareActive s j then some j else none
  | none => some q

/-- A joined channel of the unit that does not hold the token (R387). -/
def joinedOff (s : State) (q : Nat) : Bool := s.pb (Ou.PARALLEL q) && !s.holds

/-- Change what a field die drives on a channel. -/
def State.drive (s : State) (q : Nat) (want steady : Bool) (pg phase : Nat) : State :=
  let x := s.chan q
  let g := pgRec s (dieOfChan q) pg
  let following := x.want && !x.steady && x.pg == pg && g.mode != 0
  let ph := match x.phaseNext with | some (p, t) => if t ≤ s.now then p else x.phase | none => x.phase
  let next := match x.phaseNext with | some (p, t) => if t ≤ s.now then none else some (p, t) | none => none
  let (ph, next) := if steady then (phase, none)
    else if following then
      if phase = ph then (ph, none)
      else (ph, if next.map (·.1) = some phase then next else some (phase, pgNextStart g s.now))
    else (phase, none)
  let s := if want = x.want then s else
    match x.wantSince with
    -- an on period ends (R451)
    | some t => if want then s else s.sample 3 (2 * q) ((s.now - t) / 50 : Nat)
    | none => s
  let x := { x with
    wantSince := if want then (match x.wantSince with | some t => some t | none => some s.now) else none,
    want, steady, pg, phase := ph, phaseNext := next, dark := x.dark && want,
    pgOn := if following then x.pgOn else pgLevel g ph s.now }
  let was := (s.chan q).want
  let s := s.setChan q x
  let s := if want = was then s else s.interruptLearn q
  s.refresh q

/-- The demand of a channel in a door tick, sent to its field die (R383). -/
def State.sendDemand (s : State) (q : Nat) : State :=
  let (dem, src) := match dutyOf s q with
    | some j => (ownDemand s j, j)
    | none => (false, q)
  let want := dem && !spareActive s q && !joinedOff s q
  let steady := s.pn (Ou.ON_STATE src) == 1
  let s := s.setB (Ou.OUT_STATUS q) 1 dem
  s.drive q want steady (s.pn (Ou.PG_SELECT src)) (s.pn (Ou.PHASE src))

/-! ### Trips and latches -/

/-- A TRIP sample: time on since the last switch-on, ms (R451). -/
def State.tripSample (s : State) (q : Nat) : State :=
  s.sample 3 (2 * q + 1) (match (s.chan q).onSince with | some t => ((s.now - t) / 50 : Nat) | none => 0)

/-- The masks of R413. -/
def State.faultMasks (s : State) : State :=
  let s := (List.range 16).foldl (fun s j => s.setB Gl.LAMP_FAILED_MASK j (lampFailed s j)) s
  (List.range 8).foldl (fun s m => s.setB Gl.COIL_FAULT_MASK m ((List.range 5).any (fun b => s.bit (Ou.OUT_STATUS (16 + m)) (8 + b)))) s

/-- A cause of LAMP_FAILED is found; the next door tick judges it (R407, R410). -/
def State.lampFail (s : State) (j cause : Nat) : State := s.modChan j (fun x => { x with causes := cause :: x.causes })

/-- LAMP_FAILED at a door tick (R407, R409): of the causes found since the last one the lowest, the first in all; the duty goes to the spare. A spare that fails in its primary's place hands nothing on. -/
def State.judgeLamp (s : State) (j : Nat) : State :=
  match (s.chan j).causes with
  | [] => s
  | c :: cs =>
    let s := s.modChan j (fun x => { x with causes := [] })
    if lampFailed s j then s else
    let cause := cs.foldl min c
    let s := (s.setB (Ou.OUT_STATUS j) 11 true).wrn (Ou.FAIL_CAUSE j) cause
    let s := ((s.count (Ou.DARK_EVENTS j)).raise 0x0481 j cause).modChan j (fun x => { x with dark := false })
    if s.pn (Ou.LAMP_SPARE j) < 16 ∧ (primaryOf s j).isNone then ((s.setB (Ou.OUT_STATUS j) 6 true).sendDemand j).sendDemand (s.pn (Ou.LAMP_SPARE j)) else s

/-- The time of LAMP_FAIL_TIME starts with a trip of a lamp whose demand is on (R408). -/
def State.failTimeFrom (s : State) (q : Nat) : State :=
  if isLamp q ∧ demanded s q ∧ (s.chan q).failFrom.isNone then s.modChan q (fun x => { x with failFrom := some s.now }) else s

/-- An overcurrent trip (R391): the count, the pause or the latch. -/
def State.trip (s : State) (q : Nat) : State :=
  let c := min 32 (s.rdn (Ou.TRIP_COUNT q) + 1)
  let s := (s.tripSample q).wrn (Ou.TRIP_COUNT q) c
  let s := (s.count (Ou.OVERCURRENT_TRIPS q)).latch (Ou.OUT_STATUS q) 16 (Ou.OUT_REPEATS q 0)
  let s := s.failTimeFrom q
  if s.pn (Ou.RETRY_LIMIT q) ≤ c then
    let s := ((s.setB (Ou.OUT_STATUS q) 8 true).setB (Ou.OUT_STATUS q) 3 false).modChan q (fun x => { x with pauseUntil := none, pauseLeft := none })
    let s := s.refresh q
    if isLamp q then s.lampFail q 2 else (s.raise 0x14C1 (q - 16) c).faultMasks
  else
    let pause := 50 * min (10 * 2 ^ (c - 1)) 1280
    let frozen := thermalLatched s q
    let s := s.setB (Ou.OUT_STATUS q) 3 true
    let s := s.modChan q (fun x =>
      if frozen then { x with pauseLeft := some pause, pauseUntil := none } else { x with pauseUntil := some (s.now + pause), pauseLeft := none })
    s.refresh q

/-- INRUSH_WINDOW_END (R390): at its length, or after 1 ms below the current limit. -/
def execInrushWindowEnd (q : Nat) (above : Bool) (s : State) : Host.Outcome State Fault Refusal := done s (
  let x := s.chan q
  (match x.inrushUntil, x.onSince with
  | some t, some t0 =>
    if q < 24 ∧ chanOn s q ∧ (t ≤ s.now ∨ (above = false ∧ t0 + 50 ≤ s.now)) then
      let s := (s.setChan q { x with inrushUntil := none, inrushEnd := some s.now }).setB (Ou.OUT_STATUS q) 2 false
      if above then s.trip q else s
    else s
  | _, _ => s))

/-- OVERCURRENT_TRIP (R391): 100 µs of continuous limitation outside a window; it counts also beside a thermal trip of the same sample (R394). -/
def execOvercurrentTrip (q : Nat) (s : State) : Host.Outcome State Fault Refusal := done s (
  let x := s.chan q
  (if q < 24 ∧ (chanOn s q ∧ x.inrushUntil = none ∧ heldFor x.inrushEnd s.now 5 ∨ x.tripAt = some s.now) then
      (s.setChan q { x with tripAt := none }).trip q
    else s))

/-- RETRY_PAUSE_END (R391): the retry; a channel in PG mode retries at its next on-interval. -/
def execRetryPauseEnd (q : Nat) (s : State) : Host.Outcome State Fault Refusal := done s (
  let x := s.chan q
  (if q < 24 ∧ due x.pauseUntil s.now then
      let always := 256 ≤ (pgRec s (dieOfChan q) x.pg).duty
      ((s.setChan q { x with pauseUntil := none, pgOn := x.pgOn && (x.steady || always) }).setB (Ou.OUT_STATUS q) 3 false).refresh q
    else s))

/-- TRIP_COUNT_RESET (R391, R408): 1 s of continuous on-time without a trip. -/
def execTripCountReset (q : Nat) (s : State) : Host.Outcome State Fault Refusal := done s (
  let x := s.chan q
  (if q < 24 ∧ chanOn s q ∧ heldFor x.onSince s.now 50000 then
      (s.setChan q { x with failFrom := none }).wr (Ou.TRIP_COUNT q) 0
    else s))

/-- THERMAL_TRIP (R393, R394), deltaT in 0.1 K: a running pause is frozen. -/
def execThermalTrip (q deltaT : Nat) (s : State) : Host.Outcome State Fault Refusal :=
  done s (if q < 24 ∧ s.pn (Ou.DELTA_T_LIMIT q) ≤ deltaT ∧ thermalLatched s q = false then
      let s := (s.tripSample q).wrn (Ou.DELTA_T q) (min 1500 deltaT)
      let s := (s.setB (Ou.OUT_STATUS q) 4 true).count (Ou.THERMAL_TRIPS q)
      let s := s.latch (Ou.OUT_STATUS q) 17 (Ou.OUT_REPEATS q 1)
      let tripAt := if chanOn s q ∧ (s.chan q).inrushUntil = none ∧ heldFor (s.chan q).inrushEnd s.now 5 then some s.now else none
      let s := s.modChan q (fun x => match x.pauseUntil with
        | some t => { x with tripAt, pauseUntil := none, pauseLeft := some (t - s.now) }
        | none => { x with tripAt })
      (s.failTimeFrom q).refresh q
    else s)

/-- THERMAL_LATCH_CLEAR (R393, R394): below 15 K; a frozen pause runs on, else the channel switches on at once. -/
def execThermalLatchClear (q deltaT : Nat) (s : State) : Host.Outcome State Fault Refusal :=
  done s (if q < 24 ∧ deltaT < 150 ∧ thermalLatched s q then
      let s := (s.wrn (Ou.DELTA_T q) deltaT).setB (Ou.OUT_STATUS q) 4 false
      let s := s.modChan q (fun x => match x.pauseLeft with
        | some n => { x with pauseUntil := some (s.now + n), pauseLeft := none }
        | none => x)
      s.refresh q
    else s)

/-! ### Readback (R397 to R400) -/

/-- HIGH on an off channel is no fault while a joined partner may drive it (R387). -/
def joinedHigh (s : State) (q : Nat) : Bool := joinedOff s q && s.duplex.pStatus.testBit 15

/-- CROSS_FAULT on two channels (R399): both are held off, each names the other. -/
def State.tie (s : State) (x y : Nat) : State :=
  let one := fun (s : State) (a b : Nat) =>
    let s := if s.bit (Ou.OUT_STATUS a) 10 then s else s.tripSample a
    let w := s.rdn (Ou.OUT_STATUS a)
    let s := s.wrn (Ou.OUT_STATUS a) (w % 2 ^ 24 + 2 ^ 24 * b)
    (s.setB (Ou.OUT_STATUS a) 10 true).refresh a
  let s := one (one s x y) y x
  let s := if isLamp x then s.lampFail x 4 else s
  (if isLamp y then s.lampFail y 4 else s).faultMasks

/-- SHORT_TO_SUPPLY (R398, R399): HIGH for 5 ms; `tied` is the channel that the follow test found, one of those that were on. DEDUCED: log entry 198. -/
def execShortToSupply (q : Nat) (tied : Option Nat) (s : State) : Host.Outcome State Fault Refusal := done s (
  let x := s.chan q
  let w := Ou.OUT_STATUS q
  (if q < 24 ∧ chanOn s q = false ∧ x.band = 2 ∧ heldFor x.highSince s.now 250 ∧ joinedHigh s q = false ∧ s.bit w 9 = false
      ∧ s.bit w 10 = false then
      match tied with
      | some y => if y < 24 ∧ y ≠ q ∧ chanOn s y then s.tie y q else s
      | none => ((s.tripSample q).setB w 9 true).raise (if isLamp q then 0x1483 else 0x14C3) (if isLamp q then q else q - 16) 0 |>.faultMasks
    else s))

/-- TIED_CHANNEL_DETECT (R399): x switched on, y went HIGH within 200 µs and stayed HIGH for 1 ms. -/
def execTiedChannelDetect (x y : Nat) (s : State) : Host.Outcome State Fault Refusal :=
  done s (if x < 24 ∧ y < 24 ∧ x ≠ y ∧ chanOn s x ∧ chanOn s y = false ∧ heldFor (s.chan x).onSince s.now 50 ∧ joinedHigh s y = false
      ∧ (s.bit (Ou.OUT_STATUS x) 10 && s.bit (Ou.OUT_STATUS y) 10) = false then s.tie x y
    else s)

/-- OPEN_LOAD (R400): MID for 50 ms with the off-state test, or too little coil current for 20 ms after the inrush window. -/
def execOpenLoad (q : Nat) (noCurrent : Bool) (s : State) : Host.Outcome State Fault Refusal := done s (
  let x := s.chan q
  let mark := fun (s : State) => (s.latch (Ou.OUT_STATUS q) 18 (Ou.OUT_REPEATS q 2)).setChan q { x with openSeen := true }
  (if q ≥ 24 ∨ x.openSeen then s
    else if noCurrent then
      if isLamp q = false ∧ chanOn s q ∧ s.pn (Ou.COIL_MIN_CURRENT q) ≠ 0 ∧ heldFor x.lowSince s.now 1000 then
        (mark s).raise 0x14C4 (q - 16) (s.rd (Ou.CURRENT q))
      else s
    else if chanOn s q = false ∧ s.pb (Ou.OFF_TEST q) ∧ joinedHigh s q = false ∧ x.band = 1 ∧ heldFor x.midSince s.now 2500 then
      if isLamp q then (mark s).raise 0x1482 q 0 else (mark s).raise 0x34C2 (q - 16) 0
    else s))

/-- Band and current of a report (R383, R397): no band is judged in the 2 ms after a switch-off. -/
def State.takeChan (s : State) (r : ChanReport) : State :=
  let q := r.q
  if 24 ≤ q then s else
  let s := (s.wr (Ou.CURRENT q) (max (-1000) (min 10000 r.current))).wrn (Ou.DELTA_T q) (min 1500 r.deltaT)
  let x := s.chan q
  let off := !chanOn s q
  let judged := off && (match x.offSince with | none => true | some t => decide (t + 100 ≤ s.now))
  let band := if judged then r.band else if off then x.band else r.band
  let mid := stamp (judged && band == 1) x.midSince s.now
  let low := stamp (!off && !isLamp q && x.inrushEnd.isSome && decide (r.current < s.p (Ou.COIL_MIN_CURRENT q))) x.lowSince s.now
  let nominal := s.pn (Ou.LAMP_NOMINAL q)
  let expected := if x.steady then 256 * nominal else
    let g := pgRec s (dieOfChan q) x.pg
    if g.mode = 2 then nominal * g.duty else 256 * nominal
  let counted := !off && isLamp q && x.inrushEnd.isSome && nominal != 0
  let dark := if protected_ s q || !x.want then false
    else if counted then decide (100 * 256 * r.current < (s.pn (Ou.DARK_FRACTION q) * expected : Nat)) else x.dark
  let total := r.power :: x.shares.tail
  s.setChan q { x with
    band, midSince := mid, lowSince := low, dark, shares := total,
    highSince := stamp (judged && band == 2) x.highSince s.now,
    openSeen := x.openSeen && (mid.isSome || low.isSome) }

/-! ### Watchdog and fail-safe states (R401, R402) -/

/-- FIELD_WATCHDOG_EXPIRY (R401): no watchdog frame for FIELD_WD_TIMEOUT. -/
def execFieldWatchdogExpiry (die : Nat) (s : State) : Host.Outcome State Fault Refusal := done s (
  let f := s.die die
  (if die < 2 ∧ f.expired = false ∧ f.stabled = false ∧ heldFor f.fedAt s.now (50 * f.wd) then
      let s := s.setDie die { f with expired := true, loaded := false }
      let s := s.count (if die = 0 then Gl.FIELD_WD_EXPIRIES_A else Gl.FIELD_WD_EXPIRIES_B)
      ((List.range 24).filter (fun q => dieOfChan q == die)).foldl (fun s q =>
        let s := s.setB (Ou.OUT_STATUS q) 5 true
        let s := s.modChan q (fun x => { x with pgOn := pgLevel (pgRec s die 7) x.phase s.now })
        s.refresh q) s
    else s))

/-- FIELD_DIE_POWER_UP (R402): all channels off, all latches of the die cleared, all fail-safe states OFF. What Glowworm, LAMP_FAIL_TIME and
the dissipation manager hold stays with the logic die (R409). DEDUCED: log entry 221. -/
def execFieldDiePowerUp (die : Nat) (s : State) : Host.Outcome State Fault Refusal :=
  done s (if die < 2 then
      let s := s.setDie die {}
      (((List.range 24).filter (fun q => dieOfChan q == die)).foldl (fun s q =>
        let s := s.turnOff q
        let x := s.chan q
        let s := s.setChan q { notLearned := x.notLearned, shares := x.shares, heldOff := x.heldOff, failFrom := x.failFrom, causes := x.causes }
        let w := s.rdn (Ou.OUT_STATUS q)
        let s := s.wrn (Ou.OUT_STATUS q) (w &&& (2 ^ 6 + 2 ^ 11 + 2 ^ 12 + 255 * 2 ^ 16))
        (s.wr (Ou.TRIP_COUNT q) 0).wr (Ou.PAUSE_LEFT q) 0) s).faultMasks
    else s)

/-- PULSE_GENERATOR_EDGE (R389): the on or off instant of a channel's generator. -/
def execPulseGeneratorEdge (q : Nat) (on : Bool) (s : State) : Host.Outcome State Fault Refusal := done s (
  let die := dieOfChan q
  let x := s.chan q
  let n := match (driven s q).2 with | some n => n | none => 255
  let ph := match x.phaseNext with | some (p, t) => if t ≤ s.now then p else x.phase | none => x.phase
  (if q < 24 ∧ n < 8 ∧ pgEdge (pgRec s die n) ph s.now on then
      (s.setChan q { x with pgOn := on, phase := ph, phaseNext := if ph = x.phase then x.phaseNext else none }).refresh q
    else s))

/-- DEMAGNETISATION_END (R395), energy in mJ: at 200 mJ the rest freewheels and DEMAG_LIMITED is set. DEDUCED: log entry 112. -/
def execDemagnetisationEnd (q energy : Nat) (limited : Bool) (s : State) : Host.Outcome State Fault Refusal := done s (
  let x := s.chan q
  (if 16 ≤ q ∧ q < 24 ∧ x.decaying then
      let s := s.setChan q { x with decaying := false }
      if s.pn (Ou.DEMAG_MODE q) = 0 then
        let s := s.wrn (Ou.DEMAG_ENERGY_LAST q) (min 200 energy)
        if limited ∨ 200 ≤ energy then s.latch (Ou.OUT_STATUS q) 19 (Ou.OUT_REPEATS q 3) else s
      else s
    else s))

/-- DIE_OVERTEMP (R549): 150 °C; every switch of the die is off. -/
def execDieOvertemp (die : Nat) (temp : Int) (s : State) : Host.Outcome State Fault Refusal :=
  done s (if die < 2 ∧ 1500 ≤ temp ∧ (s.die die).hot = false then
      let s := s.setDie die { s.die die with hot := true }
      let s := ((List.range 24).filter (fun q => dieOfChan q == die)).foldl (fun s q => s.refresh q) s
      s.driveOuts.raise 0x0501 die temp
    else s)

/-- DIE_OVERTEMP_END (R549): below 140 °C. -/
def execDieOvertempEnd (die : Nat) (temp : Int) (s : State) : Host.Outcome State Fault Refusal :=
  done s (if die < 2 ∧ temp < 1400 ∧ (s.die die).hot then
      let s := s.setDie die { s.die die with hot := false }
      ((List.range 24).filter (fun q => dieOfChan q == die)).foldl (fun s q => s.refresh q) s
    else s)

/-! ### Dissipation (R403, R404) -/

/-- A sliding mean over 100 door ticks. -/
def mean100 (xs : List Nat) : Nat := (xs.take 100).foldl (· + ·) 0 / 100

/-- A channel's share of the estimate. -/
def shareOf (s : State) (q : Nat) : Nat := s.rdn (Ou.DISSIPATION q)

/-- A channel that the manager may trip (R404). DEDUCED: log entry 109. -/
def trippable (s : State) (q : Nat) : Bool := decide (1 ≤ s.pn (Ou.TRIP_CLASS q)) && !s.bit (Ou.OUT_STATUS q) 12 && decide (0 < shareOf s q)

/-- Whether channel x is tripped before channel y. -/
def tripBefore (s : State) (x y : Nat) : Bool :=
  let cx := s.pn (Ou.TRIP_CLASS x)
  let cy := s.pn (Ou.TRIP_CLASS y)
  decide (cy < cx) || (cx == cy && (decide (shareOf s y < shareOf s x) || (shareOf s x == shareOf s y && decide (x < y))))

/-- Put a channel in its place of the order. -/
def insertTrip (s : State) (q : Nat) : List Nat → List Nat
  | [] => [q]
  | x :: r => if tripBefore s q x then q :: x :: r else x :: insertTrip s q r

/-- The order of R404. -/
def tripOrder (s : State) : List Nat := (List.range 24).foldl (fun l q => if trippable s q then insertTrip s q l else l) []

/-- Trip channels until the rest of the estimate is at or below the limit. -/
def State.shed (limit : Nat) : List Nat → Nat → State → State × Nat
  | [], rest, s => (s, rest)
  | q :: r, rest, s =>
    if rest ≤ limit then (s, rest) else
    let share := shareOf s q
    let s := (s.tripSample q).setB (Ou.OUT_STATUS q) 12 true
    let s := (s.refresh q).count Gl.DISSIPATION_TRIPS
    (s.raise 0x1502 q share).shed limit r (rest - share)

/-- DISSIPATION_TRIP (R404), at a door tick: the estimate exceeded the limit at every door tick for 1 s. -/
def execDissipationTrip (s : State) : Host.Outcome State Fault Refusal :=
  done s (if s.rdn Gl.FAST_TICK_COUNT % 50 = 0 ∧ heldFor s.heat.overSince s.now 50000 then
      let est := s.rdn Gl.DISSIPATION_ESTIMATE
      let (s, rest) := s.shed s.heat.limit (tripOrder s) est
      let s := if s.heat.limit < rest then s.raise 0x1503 0xFF est else s
      { (s.wr Gl.OVER_LIMIT_TIME 0).faultMasks with heat := { s.heat with overSince := none } }
    else s)

/-- The estimate at a door tick (R403). DEDUCED: log entry 108. -/
def State.heatTick (s : State) (other : Nat) : State :=
  let sum := (List.range 24).foldl (fun n q => n + (s.chan q).shares.headD 0) other
  let sums := (sum :: s.heat.sums).take 100
  let est := min 50000 (mean100 sums)
  let limit := s.pn Gl.DISSIPATION_LIMIT
  let since := if limit ≠ s.heat.limit then stamp (decide (limit < est)) none s.now else stamp (decide (limit < est)) s.heat.overSince s.now
  let s := (s.wrn Gl.DISSIPATION_ESTIMATE est).raiseMax Gl.DISSIPATION_PEAK est
  let s := s.wrn Gl.OVER_LIMIT_TIME (match since with | some t => min 1000 ((s.now - t) / 50) | none => 0)
  let s := { s with heat := { sums, overSince := since, limit } }
  (List.range 24).foldl (fun s q =>
    let s := s.wrn (Ou.DISSIPATION q) (min 20000 (mean100 (s.chan q).shares))
    s.modChan q (fun x => if x.shares.all (· == 0) then { x with shares := [] } else { x with shares := (x.shares.headD 0 :: x.shares).take 101 })) s

/-! ### Glowworm (R405 to R409, R564) -/

/-- LAMP_LEARN (R405). -/
def lampLearnEffect (q : Nat) : Effect := fun n s =>
  if n > 1 then .error abValue
  else if n = 0 then .ok s
  else if q ≥ 16 ∨ demanded s q = false ∨ (s.chan q).steady = false ∨ s.pn (Ou.ON_STATE q) ≠ 1 ∨ protected_ s q ∨ standby s q then .error abState
  else .ok ((s.modChan q (fun x => { x with learnFrom := some s.now, notLearned := false })).wr (Ou.GLOW_STATE q) 2)

def execLampLearn (via : Via) (q : Nat) (v : Int) (s : State) : Host.Outcome State Fault Refusal :=
  done s (writeNum via (chanIndex q) 0x22 (.num v) none id (lampLearnEffect q) s)

/-- LAMP_LEARN_END (R405): the mean current of 2 s, mA. -/
def execLampLearnEnd (q : Nat) (mean : Option Nat) (s : State) : Host.Outcome State Fault Refusal := done s (
  let x := s.chan q
  (if q < 16 ∧ heldFor x.learnFrom s.now 100000 then
      match mean with
      | some m =>
        if 20 ≤ m then (s.setChan q { x with learnFrom := none }).wrn (Ou.LAMP_NOMINAL q) (min 1500 m)
        else s.setChan q { x with learnFrom := none, notLearned := true }
      | none => s.setChan q { x with learnFrom := none, notLearned := true }
    else s))

/-- A lamp that Glowworm judges (R387, R405). -/
def supervised (s : State) (q : Nat) : Bool := isLamp q && s.pn (Ou.LAMP_NOMINAL q) != 0 && !joinedOff s q && !standby s q

/-- LAMP_DARK (R406): counted windows below the threshold for 5 ms of counted time. DEDUCED: log entry 111. -/
def execLampDark (q : Nat) (s : State) : Host.Outcome State Fault Refusal :=
  done s (if supervised s q ∧ (s.chan q).want ∧ protected_ s q = false ∧ lampFailed s q = false then (s.tripSample q).lampFail q 1 else s)

/-- LAMP_FAIL_TIME_EXPIRY (R408), checked at door-tick boundaries: what is pending is cancelled, the lamp is held off. -/
def execLampFailTimeExpiry (q : Nat) (s : State) : Host.Outcome State Fault Refusal := done s (
  let x := s.chan q
  (if q < 16 ∧ s.rdn Gl.FAST_TICK_COUNT % 50 = 0 ∧ heldFor x.failFrom s.now (50 * s.pn (Ou.LAMP_FAIL_TIME q)) ∧ x.heldOff = false then
      let pend := s.bit (Ou.OUT_STATUS q) 3 || thermalLatched s q
      let s := if pend then s.count (Ou.RETRIES_SUPERSEDED q) else s
      let s := if lampFailed s q then s else s.tripSample q
      let s := (s.setChan q { x with heldOff := true, pauseUntil := none, pauseLeft := none }).setB (Ou.OUT_STATUS q) 3 false
      (((s.refresh q).lampFail q 3).judgeLamp q).faultMasks
    else s))

/-- FAULT_CLEAR (R391, R394, R399, R404, R409, R412): bits [8] to [12], TRIP_COUNT and FAIL_CAUSE; the channel may switch on
from the next door tick. DEDUCED: log entry 110. -/
def faultClearEffect (q : Nat) : Effect := fun n s =>
  if n > 1 then .error abValue
  else if n = 0 ∨ 24 ≤ q then .ok s
  else
    let off := !chanOn s q
    let w := s.rdn (Ou.OUT_STATUS q)
    let low := w % 2 ^ 24
    let s := s.wrn (Ou.OUT_STATUS q) (low - low / 256 % 32 * 256)
    let s := s.wr (Ou.TRIP_COUNT q) 0
    let s := if isLamp q then s.wr (Ou.FAIL_CAUSE q) 0 else s
    .ok (s.modChan q (fun x => { x with heldOff := false, failFrom := none, causes := x.causes.filter (· == 1), clearing := off, dark := false, highSince := none })).faultMasks

def execFaultClear (via : Via) (q : Nat) (v : Int) (s : State) : Host.Outcome State Fault Refusal :=
  done s (writeNum via (chanIndex q) 0x17 (.num v) none id (faultClearEffect q) s)

/-- A lamp channel off with MID for 50 ms (R564 row 6). -/
def midOpen (s : State) (q : Nat) : Bool :=
  let x := s.chan q
  !chanOn s q && x.band == 1 && heldFor x.midSince s.now 2500

/-- GLOW_STATE (R564). -/
def glowState (s : State) (q : Nat) : Nat :=
  let x := s.chan q
  if standby s q then 7
  else if lampFailed s q then 8
  else if x.learnFrom.isSome then 2
  else if x.notLearned then 1
  else if s.pn (Ou.LAMP_NOMINAL q) = 0 then 0
  else if midOpen s q then 6
  else if demanded s q ∧ x.dark then 5
  else if demanded s q then 3
  else 4

/-! ### The door tick -/

/-- Settings of the pulse generators, and the watchdog frame, of a door tick (R389, R401, R402). Demands follow the fail-safe
states: the first frame after an expiry, a boot or a die's power-up loads them, the next carries the complete set. DEDUCED: log entry 70. -/
def State.feedDie (s : State) (die : Nat) : State :=
  let f := s.die die
  let pgs := (List.range 8).foldl (fun (m : Store PgRec) n =>
    let old := getD {} f.pgs n
    let new : PgRec := { mode := s.pn (Pg.PG_MODE n), period := s.pn (Pg.PG_PERIOD n), duty := s.pn (Pg.PG_DUTY n), start := old.start }
    if old = new then m else place n { new with start := s.now } (erase n m)) f.pgs
  let qs := (List.range 24).filter (fun q => dieOfChan q == die)
  let s := s.setDie die { f with fedAt := some s.now, wd := s.pn Gl.FIELD_WD_TIMEOUT, pgs, expired := f.expired && !f.loaded, loaded := true,
                                 stabled := f.stabled && f.loaded }
  let s := if pgs = f.pgs then s else qs.foldl (fun s q => s.modChan q (fun x =>
    if x.steady ∨ getD {} f.pgs x.pg = getD {} pgs x.pg then x else { x with pgOn := pgLevel (getD {} pgs x.pg) x.phase s.now })) s
  let s := qs.foldl (fun s q => s.modChan q (fun x => { x with safeState := s.pn (Ou.FAILSAFE q) })) s
  if f.expired && f.loaded then qs.foldl (fun s q => s.setB (Ou.OUT_STATUS q) 5 false) s else s

/-- Lamps and coils in a door tick: the reports, the demands and Glowworm. DEDUCED: log entry 106. -/
def State.outputsTick (s : State) (rep : DoorReport) : State :=
  let s := rep.chans.foldl (fun s r => s.takeChan r) s
  let s := (List.range 24).foldl (fun s q => s.modChan q (fun x => { x with clearing := false })) s
  -- FAULT_CLEAR returns a lamp's duty (R409)
  let s := (List.range 16).foldl (fun s j => if spareActive s j ∧ lampFailed s j = false then s.setB (Ou.OUT_STATUS j) 6 false else s) s
  let s := (s.feedDie 0).feedDie 1
  let s := (List.range 16).foldl State.judgeLamp s
  let s := (List.range 24).foldl (fun s q => s.sendDemand q) s
  let s := s.heatTick rep.otherPower
  let s := (List.range 24).foldl (fun s q =>
    let x := s.chan q
    s.wrn (Ou.PAUSE_LEFT q) (match x.pauseUntil, x.pauseLeft with
      | some t, _ => min 1280 ((t - s.now + 49) / 50)
      | none, some n => min 1280 ((n + 49) / 50)
      | none, none => 0)) s
  let s := (List.range 16).foldl (fun s q => s.wrn (Ou.GLOW_STATE q) (glowState s q)) s
  s.faultMasks

end Sys2Proof.Machine
end

