-- ==== Sys2Proof/Machine/Power.lean ====
section
/-!
DEFINITION. Supplies, power states and wake (chapter 15): warnings and commits, brown-out, VID, domains, the sleep and wake
sequences, temperatures.
-/
namespace Sys2Proof.Machine

/-! ### Commits (R206, R437, R458, R479) -/

/-- Entries of the learned data, committed with their envelope or background (R206). -/
def learnedKey (k : Nat) : Bool :=
  let i := k / 256
  let j := k % 256
  (decide (0x3400 ≤ i) && decide (i < 0x3700) && i % 16 == 13 && (decide (3 ≤ j) && decide (j ≤ 6) || j == 11))
    || (decide (0x3820 ≤ i) && decide (i < 0x3840) && j == 2)

/-- A persistent entry (R437). -/
def persists (k : Nat) : Bool := match rowOf (k / 256) (k % 256) with
  | some r => r.persist
  | none => false

/-- A bulk identifier at its value by NODE_ID (R417): nothing to commit, so that it follows the straps of the next reset. -/
def followsNode (s : State) (k : Nat) (v : Int) : Bool :=
  let id := s.rdn Gl.NODE_ID % 16
  [0, 1].any (fun p => (k == Cb.BULK_RX_ID p && v == 0x7A0 + (id : Int)) || (k == Cb.BULK_TX_ID p && v == 0x7B0 + (id : Int)))

/-- The commit of every accepted configuration value to the nonvolatile die (R437). DESIGN CHOICE: log entry 18. -/
def State.commitNv (s : State) : State :=
  { s with nv := (s.dict.filter (fun x => persists x.1 && !learnedKey x.1 && !followsNode s x.1 x.2)).foldl (fun m x => place x.1 x.2 m) (s.nv.filter (fun x => learnedKey x.1)) }

/-- The commit of every learned record that is due (R206). -/
def State.commitLearned (s : State) : State :=
  let s := (List.range 48).foldl (fun s a => if (s.leaf a).commitBy.isSome then s.commitLeaf a else s) s
  (List.range 32).foldl (fun s n =>
    if (s.sensor n).commitBy.isSome then s.commitSensor n else s) s

/-- Every item of the intake FIFO, then of the sample queue, in its record. -/
def State.drainRecorder (s : State) : State :=
  let s := (List.range 64).foldl (fun s _ => s.takeEvent) s
  (List.range 128).foldl (fun s _ => s.takeSample) s

/-- The flush of R458: Scarab takes nothing new while the warning lasts. -/
def State.flushRecorder (s : State) : State :=
  let s := { s with recd := { s.recd with accepting := false } }
  (s.commit 0 0).commitCodes.drainRecorder

/-- The commits of R479, in their order. -/
def State.commitAll (s : State) : State := s.commitNv.commitLearned.flushRecorder

/-! ### Warnings (R478, R479) -/

/-- The VDD_CORE warning threshold in force, mV. -/
def coreLimit (s : State) : Nat := match s.power.coreNext with
  | some (v, t) => if t ≤ s.now then v else s.power.coreThreshold
  | none => s.power.coreThreshold

/-- Bits 0 and 1 of POWER_STATUS (R500). -/
def State.showWarnings (s : State) : State :=
  (s.setB Gl.POWER_STATUS 0 (s.power.warnIo || s.power.warnBall)).setB Gl.POWER_STATUS 1 s.power.warnCore

/-- What the start of a warning does beside its mark: the event, the flag, the commits. -/
def State.warn (s : State) (core : Bool) (mv : Nat) : State :=
  let s := s.showWarnings
  let s := s.latch Gl.POWER_STATUS (if core then 9 else 8) (Gl.POWER_REPEATS (if core then 1 else 0))
  (s.raise (if core then 0x0042 else 0x0041) 0xFF mv).commitAll

/-- POWER_WARNING (R478): VDD_IO below 3.05 V, VDD_CORE below its threshold, or the ball low while the D16 does not drive it. -/
def execPowerWarning (src : WarnSource) (mv : Nat) (s : State) : Host.Outcome State Fault Refusal := done s (
  let p := s.power
  (if s.running = false then s else match src with
  | .io => if mv < 3050 ∧ p.warnIo = false then { s with power := { p with warnIo := true } }.warn false mv else s
  | .core => if mv < coreLimit s ∧ p.warnCore = false then { s with power := { p with warnCore := true } }.warn true mv else s
  | .ball => if p.warnBall = false ∧ p.warnIo = false ∧ p.warnCore = false then { s with power := { p with warnBall := true } }.warn false mv else s))

/-- POWER_WARNING_END (R478, R479): with the last warning over, Scarab accepts again. -/
def execPowerWarningEnd (src : WarnSource) (s : State) : Host.Outcome State Fault Refusal :=
  done s (if s.running = false then s else
    let p := match src with
      | .io => { s.power with warnIo := false }
      | .core => { s.power with warnCore := false }
      | .ball => { s.power with warnBall := false }
    let s := { s with power := p }.showWarnings
    if p.warnIo || p.warnCore || p.warnBall then s else { s with recd := { s.recd with accepting := true } })

/-! ### VID (R476, R478) -/

/-- Target of a code, in mV, rounded. DEDUCED: log entry 146. -/
def vidTarget (code : Nat) : Nat := (2160 + 32 * code + 1) / 3

/-- Warning threshold of a code (R478). -/
def vidThreshold (code : Nat) : Nat := max (vidTarget code - 60) 700

/-- A code and its target in the entries. -/
def State.showVid (s : State) (code : Nat) : State := (s.wrn Gl.VID_CODE code).wrn Gl.VDD_CORE_TARGET (vidTarget code)

/-- VID_CHANGE (R476): up by any number of codes at once, down by one at most once every 10 ms. -/
def execVidChange (code : Nat) (s : State) : Host.Outcome State Fault Refusal := done s (
  let cur := s.rdn Gl.VID_CODE
  let p := s.power
  (if s.running = false ∨ 16 ≤ code then s
    else if cur < code then
      { s with power := { p with coreThreshold := coreLimit s, coreNext := some (vidThreshold code, s.now + 10) } }.showVid code
    else if code + 1 = cur ∧ (p.vidLowered = none ∨ heldFor p.vidLowered s.now 500) then
      { s with power := { p with coreThreshold := vidThreshold code, coreNext := none, vidLowered := some s.now } }.showVid code
    else s))

/-! ### Domains (R482 to R485) -/

/-- Every participating doorway CLOSED_LOCKED or ISOLATED. -/
def doorsQuiet (s : State) : Bool := (allDoors s).all (fun d => doorState s d == 1 || doorState s d == 9)

/-- A learn run or a background learning runs. -/
def learning (s : State) : Bool :=
  (allDoors s).any (fun d => (s.door d).learn.isSome) || (List.range 32).any (fun n => (s.sensor n).learning.isSome)

/-- The condition of R482 for a domain that may sleep; none is removed under a core that can be halted (R518). -/
def maySleep (s : State) (i : Nat) : Bool :=
  if s.rdn Gl.DEBUG_LEVEL = 2 then false
  else if i = 4 then (allAxes s).all (axisSto s)
  else i == 7 && doorsQuiet s && (allAxes s).all (fun a => !manual s a) && !learning s

/-- DOMAIN_SLEEP (R483): in DOZE, after 100 ms of its condition without an access. -/
def execDomainSleep (i : Nat) (s : State) : Host.Outcome State Fault Refusal := done s (
  let since := if i = 4 then s.power.motionIdle else s.power.senseIdle
  (if s.running ∧ (i = 4 ∨ i = 7) ∧ s.rdn Gl.POWER_STATE = 1 ∧ s.bit Gl.DOMAINS_ON i ∧ maySleep s i ∧ heldFor since s.now 5000 then
      (s.setB Gl.DOMAINS_ON i false).showDoze
    else s))

/-- DOMAIN_WAKE (R484): the domain is ready after a stall of the requester. -/
def execDomainWake (i stallUs : Nat) (s : State) : Host.Outcome State Fault Refusal :=
  done s (if s.running ∧ (i = 4 ∨ i = 7) ∧ s.bit Gl.DOMAINS_ON i = false ∧ stallUs ≤ 2000 then
      (s.domainOn i).raiseMax Gl.DOMAIN_STALL_MAX stallUs
    else s)

/-- DOMAIN_NOT_READY (R484): not ready within 2 ms; a dictionary access ends with its abort. -/
def execDomainNotReady (i : Nat) (via : Option Via) (s : State) : Host.Outcome State Fault Refusal :=
  done s (if s.running ∧ (i = 4 ∨ i = 7) ∧ s.bit Gl.DOMAINS_ON i = false then
      let p := s.power
      let s := { s with power := { p with waking := if p.waking.testBit i then p.waking - 2 ^ i else p.waking } }
      let s := (s.count Gl.DOMAINS_NOT_READY).latch Gl.POWER_STATUS 11 (Gl.POWER_REPEATS 3)
      let s := s.raise 0x3045 0xFF i
      match via with
      | none => s
      | some .sdo => { s with answer := some abDomain }.send (.response 0 abDomain 2)
      | some (.msg m) => { s with answer := some abDomain }.send (.response m.source abDomain 2)
      | some _ => { s with answer := some abDomain }
    else s)

/-- Domains in a door tick (R483): what may sleep, and what is woken before it is needed. -/
def State.domainTick (s : State) : State :=
  let doze := s.rdn Gl.POWER_STATE == 1
  let p := s.power
  let s := { s with power := { p with
    motionIdle := stamp (doze && maySleep s 4) p.motionIdle s.now, senseIdle := stamp (doze && maySleep s 7) p.senseIdle s.now } }
  let starts := (allDoors s).any (fun d => (s.door d).startWait.isSome)
  let want := fun (i : Nat) => !s.bit Gl.DOMAINS_ON i && (starts || !maySleep s i)
  let w := (if want 4 then 16 else 0) + (if want 7 then 128 else 0)
  { s with power := { s.power with waking := s.power.waking ||| w } }

/-! ### Power commands and the sleep sequence (R487 to R489) -/

/-- POWER_COMMAND 0 or 1: from the next door tick. -/
def powerSelect (v : Nat) : Effect := fun _ s =>
  if v ≠ 0 ∧ (s.rdn Gl.DEBUG_LEVEL = 2 ∨ s.safety.debugSafe) then .error abState
  else .ok ({ s with power := { s.power with command := some v } }.wrn Gl.POWER_COMMAND v)

/-- POWER_COMMAND 2 (R487). -/
def powerStabled : Effect := fun _ s =>
  let alarm := s.rdn Gl.RTC_ALARM
  if s.rdn Gl.DEBUG_LEVEL = 2 ∨ s.safety.debugSafe then .error abState
  else if doorsQuiet s = false ∨ learning s ∨ (allAxes s).any (fun a => (s.axis a).align.isSome || manual s a) then .error abState
  else if s.rdn Gl.WAKE_ENABLE = 0 then .error abState
  else if alarm ≠ 0 ∧ (alarm < s.rdn Gl.RTC_TIME + 2 ∨ s.bit Gl.WAKE_ENABLE 2 = false) then .error abState
  else .ok ({ s with power := { s.power with sleepAsked := true } }.wr Gl.POWER_COMMAND 2)

/-- A write of POWER_COMMAND (R487). DEDUCED: log entry 142. -/
def powerEffect : Effect := fun n s =>
  if n = 2 then powerStabled n s else if n ≤ 1 then powerSelect n.toNat n s else .error abValue

def execPowerCommandRun (via : Via) (s : State) : Host.Outcome State Fault Refusal :=
  done s (writeNum via 0x2100 2 (.num 0) none id (powerSelect 0) s)

def execPowerCommandDoze (via : Via) (s : State) : Host.Outcome State Fault Refusal :=
  done s (writeNum via 0x2100 2 (.num 1) none id (powerSelect 1) s)

def execPowerCommandStabled (via : Via) (s : State) : Host.Outcome State Fault Refusal :=
  done s (writeNum via 0x2100 2 (.num 2) none id powerStabled s)

/-- The power state in a door tick: a selected state takes effect, an accepted sleep request begins its sequence (R487, R488). -/
def State.powerTick (s : State) : State :=
  let s := match s.power.command with
    | some v =>
      let s := { s with power := { s.power with command := none } }.wrn Gl.POWER_STATE v
      if v = 0 then
        let s := if s.bit Gl.DOMAINS_ON 4 then s else s.domainOn 4
        if s.bit Gl.DOMAINS_ON 7 then s else s.domainOn 7
      else s
    | none => s
  if s.power.sleepAsked then
    ({ s with power := { s.power with sleepAsked := false, sleepFrom := some s.now } }.wr Gl.SLEEP_STATUS 1).release
  else s

/-- A field die enters its stabled mode: every channel off (R488 step 4). -/
def State.stableDie (s : State) (die : Nat) : State :=
  let s := s.setDie die { s.die die with stabled := true, loaded := false }
  ((List.range 24).filter (fun q => dieOfChan q == die)).foldl (fun s q => s.refresh q) s

/-- The sleep sequence in a fast tick. -/
def State.sleepTick (s : State) : State := match s.power.sleepFrom with
  | some t => if s.now = t + 200 then (s.stableDie 0).stableDie 1 else s
  | none => s

/-- The end of a sleep sequence that is undone (R489): ABORTED_WAKE 3 or ABORTED_STATE 4. DEDUCED: log entry 144. -/
def State.abortSleep (s : State) (status : Nat) : State :=
  if s.power.sleepFrom.isNone ∧ s.power.sleepAsked = false then s else
  let stopped := linksStopped s
  let s := { s with power := { s.power with sleepFrom := none, sleepAsked := false, command := some 0 } }
  let s := (s.wrn Gl.SLEEP_STATUS status).wr Gl.POWER_COMMAND 0
  let s := [0, 1].foldl (fun s die =>
    if (s.die die).stabled then s.setDie die { s.die die with stabled := false, loaded := true, expired := true } else s) s
  let s := if stopped then (List.range s.doorways).foldl (fun s d => if configured s d ∧ lConfig ≤ linkState s d then s.startTraining d else s) s else s
  s.raise 0x3046 0xFF status

/-! ### Wake sources and the wake sequence (R491 to R497) -/

/-- The wake sequence begins (R495): PWR_EN_MAIN high, VID at code 0x8. -/
def State.startWake (s : State) (src : Nat) : State :=
  { s with power := { s.power with
    phase := .w1, stepAt := s.now, source := src, sourceAt := s.now, retried := false, latched := none } }.showVid 8

/-- A wake source fires (R489, R491, R497). -/
def State.fire (s : State) (src : Nat) (enabled : Bool) : State :=
  let p := s.power
  match p.phase with
  | .run => if enabled then s.abortSleep 3 else s
  | .stabled =>
    if enabled = false ∨ (3 ≤ s.rdn Gl.FAILED_WAKES ∧ src ≠ 4) ∨ p.latched.isSome then s
    else if p.committedAt = none ∨ heldFor p.committedAt s.now 1000 then s.startWake src
    else { s with power := { p with latched := some src } }
  | _ => s

/-- WAKE (R492): a Cicada WAKE command; any other transfer is counted as rejected and has no effect. -/
def execWake (t : WakeTransfer) (s : State) : Host.Outcome State Fault Refusal := done s (
  if t = .ofCmd 1 then (s.count Gl.CICADA_WAKES).fire 1 (s.bit Gl.WAKE_ENABLE 0) else s.count Gl.CICADA_REJECTED)

/-- FORCE_WAKE (R491, R492, R497): it acts whatever WAKE_ENABLE holds, and clears the lockout first. -/
def execForceWake (t : WakeTransfer) (s : State) : Host.Outcome State Fault Refusal := done s (
  if t ≠ .ofCmd 2 then s.count Gl.CICADA_REJECTED else
  let s := s.count Gl.CICADA_WAKES
  ((if s.power.phase = .stabled ∧ 3 ≤ s.rdn Gl.FAILED_WAKES then s.wr Gl.FAILED_WAKES 0 else s).fire 4 true))

/-- WAKE_IN_EDGE (R493): falling, rising or both. -/
def execWakeInEdge (rising : Bool) (s : State) : Host.Outcome State Fault Refusal := done s (
  let e := s.rdn Gl.WAKE_IN_EDGE
  (if e = 2 ∨ (e = 1 ∧ rising) ∨ (e = 0 ∧ rising = false) then s.fire 2 (s.bit Gl.WAKE_ENABLE 1) else s))

/-- RTC_ALARM (R494): it fires once and returns to 0. -/
def execRtcAlarm (s : State) : Host.Outcome State Fault Refusal := done s (
  let a := s.rdn Gl.RTC_ALARM
  (if a ≠ 0 ∧ s.rdn Gl.RTC_TIME = a then (s.wr Gl.RTC_ALARM 0).fire 3 (s.bit Gl.WAKE_ENABLE 2) else s))

/-- LATCHED_WAKE (R489): AON acts on the source latched after the commit. -/
def execLatchedWake (s : State) : Host.Outcome State Fault Refusal :=
  done s (match s.power.phase, s.power.latched with
  | .stabled, some src => s.startWake src
  | _, _ => s)

/-- PG_MAIN_HIGH (R495): W1 is complete within 20 ms. -/
def execPgMainHigh (s : State) : Host.Outcome State Fault Refusal :=
  done s (if s.power.phase = .w1 ∧ s.now ≤ s.power.stepAt + 1000 then { s with power := { s.power with phase := .w2, stepAt := s.now } } else s)

/-- OSCILLATOR_READY (R495): W2 is complete within 10 ms. -/
def execOscillatorReady (s : State) : Host.Outcome State Fault Refusal :=
  done s (if s.power.phase = .w2 ∧ s.now ≤ s.power.stepAt + 500 then { s with power := { s.power with phase := .w3, stepAt := s.now } } else s)

/-- PLL_LOCK (R495, R496): W3 is complete within 200 µs; the device enters RUN and boots. `elapsedUs` runs from the source, `stabledMs`
is the time spent in STABLED. -/
def execPllLock (elapsedUs stabledMs : Nat) (s : State) : Host.Outcome State Fault Refusal := done s (
  let p := s.power
  (if p.phase = .w3 ∧ s.now ≤ p.stepAt + 10 then
      let s := { s with power := { p with phase := .reset, lockedOut := false, wakeFailed := false, committedAt := none,
                                          causes := if p.source = 0 then p.causes else p.causes ||| 512 } }
      let s := ((s.wrn Gl.LAST_WAKE_SOURCE p.source).wr Gl.FAILED_WAKES 0).setB Gl.POWER_STATUS 2 p.lockedOut
      if p.source = 0 then s
      else
        let s := (s.count Gl.WAKE_COUNT).wrn Gl.WAKE_TIME_LAST (min 200000 elapsedUs)
        (s.sample 4 6 elapsedUs).sample 4 7 stabledMs
    else s))

/-- Cause of a step's timeout, coded as WAKE_FAIL_CAUSE, where it has run out (R495, R496). -/
def wakeTimeout (s : State) : Option Nat := match s.power.phase with
  | .w1 => if s.power.stepAt + 1000 ≤ s.now then some 1 else none
  | .w2 => if s.power.stepAt + 500 ≤ s.now then some 2 else none
  | .w3 => if s.power.stepAt + 10 ≤ s.now then some 3 else none
  | _ => none

/-- WAKE_RETRY (R496): a step times out, and the sequence runs again after 100 ms, or the wake has failed; or the 100 ms are over. -/
def execWakeRetry (s : State) : Host.Outcome State Fault Refusal := done s (
  let p := s.power
  (match wakeTimeout s with
  | some c =>
    if p.retried = false then
      { s with power := { p with phase := .pause, stepAt := s.now, retried := true, held := p.held ++ [(0x3044, (c : Int))] } }
    else
      let n := min 3 (s.rdn Gl.FAILED_WAKES + 1)
      let s := (s.wrn Gl.WAKE_FAIL_CAUSE c).wrn Gl.FAILED_WAKES n
      { s with power := { p with phase := .stabled, wakeFailed := true, lockedOut := p.lockedOut || n == 3, committedAt := none,
                                 held := p.held ++ [(0x1043, (c : Int))] } }
  | none =>
    if p.phase = .pause ∧ p.stepAt + 5000 ≤ s.now then { s with power := { p with phase := .w1, stepAt := s.now } } else s))

/-! ### Temperatures and supplies (R374, R498) -/

/-- OVERTEMPERATURE (R498), in 0.1 °C: above 120.0 °C for 1 s; again only after a fall below 115.0 °C. -/
def execOvertemperature (temp : Int) (s : State) : Host.Outcome State Fault Refusal :=
  done s (if s.running ∧ 1200 < temp ∧ s.power.hotRaised = false ∧ heldFor s.power.hotSince s.now 50000 then
      { s with power := { s.power with hotRaised := true } }.raise 0x1047 0xFF temp
    else s)

/-- The largest, and the smallest, of a minute (R451). -/
def minute (f : Int → Int → Int) (old new : List Int) : List Int := if old = [] then new else List.zipWith f old new

/-- The readings of a door tick (R374, R498). -/
def State.readingsTick (s : State) (rep : DoorReport) : State :=
  let s := match rep.supplies with
    | some (aon, io, a, core) =>
      (((s.wrn Gl.VDD_AON (min 5000 aon)).wrn Gl.VDD_IO (min 5000 io)).wrn Gl.VDDA (min 3000 a)).wrn Gl.VDD_CORE (min 1500 core)
    | none => s
  let s := match rep.vfield with
    | some (a, b) => (s.wrn Gl.VFIELD_A (min 50000 a)).wrn Gl.VFIELD_B (min 50000 b)
    | none => s
  let s := match rep.temps with
    | some (l, a, b) =>
      let s := ((s.wr Gl.LOGIC_TEMP (max (-550) (min 1500 l))).wr Gl.FIELD_A_TEMP (max (-550) (min 1750 a))).wr Gl.FIELD_B_TEMP (max (-550) (min 1750 b))
      { s with power := { s.power with hotSince := stamp (decide (1200 < l)) s.power.hotSince s.now, hotRaised := s.power.hotRaised && !decide (l < 1150) } }
    | none => s
  let temps := [s.rd Gl.LOGIC_TEMP, s.rd Gl.FIELD_A_TEMP, s.rd Gl.FIELD_B_TEMP]
  let volts := [s.rd Gl.VFIELD_A, s.rd Gl.VFIELD_B, s.rd Gl.VDD_IO]
  { s with recd := { s.recd with minuteMax := minute max s.recd.minuteMax temps, minuteMin := minute min s.recd.minuteMin volts } }

/-! ### The RTC (R494) -/

/-- A fast tick of the RTC: its second is 50000 fast ticks, corrected by RTC_TRIM in 0.1 ppm. DEDUCED: log entry 145. -/
def State.rtcTick (s : State) : State :=
  let step := (10000000 + s.rd Gl.RTC_TRIM).toNat
  let n := s.power.rtcPart + step
  if 500000000000 ≤ n then
    { s with power := { s.power with rtcPart := n - 500000000000 } }.wrn Gl.RTC_TIME ((s.rdn Gl.RTC_TIME + 1) % 2 ^ 32)
  else { s with power := { s.power with rtcPart := n } }

end Sys2Proof.Machine
end

