-- ==== Sys2Proof/Machine/Security.lean ====
section
/-!
DEFINITION. Identity, sessions, firmware and debug (chapter 16). Signatures, certificates and key exchange are the opaque
functions of Config; firmware images are known by the checks of their headers.
-/
namespace Sys2Proof.Machine

/-- A context string, as bytes before a message. -/
def withContext (c : String) (m : List ByteN) : List ByteN := c.toList.map (fun x => x.toNat) ++ m

/-! ### Attestation (R503) -/

/-- ATTEST_NONCE: 32 bytes; the report follows at the next door tick. -/
def nonceEffect (bs : List ByteN) (s : State) : Except Nat State :=
  if bs.length ≠ 32 then .error abLength else .ok { s with sec := { s.sec with nonce := bs, nonceDue := true } }

def execAttestNonce (via : Via) (bs : List ByteN) (s : State) : Host.Outcome State Fault Refusal :=
  done s (writeBytes via 0x2330 1 (.bytes bs) none none nonceEffect s)

/-- The bytes written to a firmware slot. -/
def slotImage (s : State) (slot : Nat) : List ByteN := getD [] s.sec.images slot

/-- BODY_DIGEST of the image in a slot (R509): of a slot that nothing wrote, the model does not know it. -/
def bodyDigest (s : State) (slot : Nat) : List ByteN := match slotImage s slot with
  | [] => Config.imageDigest slot (s.rdn (Gl.SLOT_REVISION slot))
  | img => (img.drop 24).take 64

/-- Slot numbers of the running images: 0, 1 = A, B; 2, 3 = A0, A1. -/
def appSlot (s : State) : Nat := s.rdn Gl.APP_ACTIVE_SLOT
def safetySlot (s : State) : Nat := 2 + s.rdn Gl.SAFETY_ACTIVE_SLOT

/-- Bytes 0–215 of the report, for the nonce last written. -/
def reportBody (s : State) : List ByteN :=
  [1, s.rdn Gl.SECURITY_STATE, s.rdn Gl.APP_ACTIVE_SLOT + 2 * s.rdn Gl.SAFETY_ACTIVE_SLOT + (if s.rdn Gl.BOOT_STATE = 1 then 4 else 0), s.rdn Gl.DEBUG_LEVEL]
    ++ leBytes 4 (s.rdn Gl.SERIAL) ++ leBytes 4 (s.rdn Gl.PRODUCT_CODE) ++ s.sec.nonce
    ++ bodyDigest s (appSlot s)
    ++ bodyDigest s (safetySlot s)
    ++ leBytes 4 (s.rdn (Gl.SLOT_REVISION (appSlot s))) ++ leBytes 4 (s.rdn (Gl.SLOT_REVISION (safetySlot s)))
    ++ [s.rdn Gl.ROLLBACK_FUSES, 0, 0, 0] ++ leBytes 4 (s.rdn Gl.ROLLBACK_COUNTER) ++ leBytes 4 (s.rdn Gl.CHECK_VALUE)
    ++ [s.rdn Gl.SET_STATE, s.rdn Gl.COSIGN_POLICY, 0, 0] ++ leBytes 4 (s.rdn Gl.CONFIG_DIGEST) ++ leBytes 4 s.secs ++ leBytes 3 s.cycles ++ [0]
    ++ leBytes 4 (s.rdn Gl.AUTH_FAILURES) ++ leBytes 4 (s.rdn Gl.DEBUG_UNLOCKS)

/-- The report at a door tick. -/
def State.attestTick (s : State) : State :=
  if s.sec.nonceDue = false then s else
  let body := reportBody s
  { s with sec := { s.sec with nonceDue := false } }.setBlob Gl.ATTEST_REPORT (body ++ Config.deviceSign (withContext "D16-ATTEST" body))

/-! ### Trust anchors (R504) -/

/-- ANCHOR_INSTALL: a blob of Tamurno's vendor authority replaces a slot at the next door tick. DEDUCED: log entry 152. -/
def anchorEffect (bs : List ByteN) (s : State) : Except Nat State :=
  let slot := bs.getD 0 0
  let body := bs.take 67
  if bs.length ≠ 181 then .error abLength
  else if Config.ed448Ok Config.vendorKey (withContext "D16-ANCHOR" body) (bs.drop 67) = false then .error abValue
  else if 7 < slot ∨ 2 < bs.getD 1 0 ∨ leVal ((bs.drop 63).take 4) ≠ s.rdn Gl.SERIAL then .error abValue
  else if leVal ((bs.drop 2).take 4) ≤ s.rdn (An.ANCHOR_GENERATION slot) then .error abValue
  else .ok { s with sec := { s.sec with anchors := s.sec.anchors ++ [body] } }

def execAnchorInstall (via : Via) (bs : List ByteN) (s : State) : Host.Outcome State Fault Refusal :=
  done s (writeBytes via 0x2318 1 (.bytes bs) none none anchorEffect s)

/-- SESSIONS_OPEN follows the sessions. -/
def State.showSessions (s : State) : State := s.wrn Gl.SESSIONS_OPEN (liveSessions s).length

/-- An accepted blob replaces its slot and closes the sessions opened under it. -/
def State.setAnchor (s : State) (body : List ByteN) : State :=
  let n := body.getD 0 0
  let gen := leVal ((body.drop 2).take 4)
  let s := (s.wrn (An.ANCHOR_MAX_LEVEL n) (body.getD 1 0)).wrn (An.ANCHOR_GENERATION n) gen
  let s := s.setBlob (An.ANCHOR_KEY n) ((body.drop 6).take 57)
  ({ s with sessions := s.sessions.filter (fun x => x.anchor != n) }.showSessions).raise 0x20C9 n gen

/-! ### Sessions (R505 to R508) -/

def State.shake (s : State) (src : Nat) : Option Handshake := lookup src s.sec.handshakes
def State.setShake (s : State) (src : Nat) (h : Handshake) : State :=
  { s with sec := { s.sec with handshakes := place src h (erase src s.sec.handshakes) } }
def State.dropShake (s : State) (src : Nat) : State := { s with sec := { s.sec with handshakes := erase src s.sec.handshakes } }

/-- Step 1: the credential; a handshake of the same source is discarded. -/
def credentialEffect (src : Nat) (bs : List ByteN) (s : State) : Except Nat State :=
  if bs.length = 0 ∨ 2048 < bs.length then .error abLength else .ok (s.setShake src { credential := bs })

def execSessionCredential (source : Nat) (bs : List ByteN) (s : State) : Host.Outcome State Fault Refusal :=
  done s (writeBytes (viaOf source) 0x2320 1 (.bytes bs) none none (credentialEffect source) s)

/-- Key and greatest level of an anchor slot, 0xFF for the vendor key (R504). -/
def anchorKey (s : State) (a : Nat) : List ByteN := if a = 0xFF then Config.vendorKey else s.blob (An.ANCHOR_KEY a)
def anchorLevel (s : State) (a : Nat) : Nat := if a = 0xFF then 3 else if a < 8 then s.rdn (An.ANCHOR_MAX_LEVEL a) else 0

/-- R506: what is refused with 0x0609 0030. -/
def requestBad (s : State) (h : Handshake) (level a : Nat) : Bool :=
  anchorLevel s a == 0 || level == 0 || decide (anchorLevel s a < level) || (a == 0xFF && level != 3) || (a != 0xFF && level == 3)
    || !Config.certOk (anchorKey s a) h.credential

/-- Session numbers that no open session and no handshake has. -/
def freeNumbers (s : State) : List Nat :=
  ((List.range 255).map (fun n => n + 1)).filter (fun n =>
    !(s.sessions.any (fun x => x.num == n)) && !(s.sec.opening.any (fun x => x.num == n)) && !(s.sec.handshakes.any (fun x => x.2.num == n)))

/-- The handshake lockout of R507 is in force. -/
def handshakesLocked (s : State) : Bool := s.sec.lockUntil.isSome && !due s.sec.lockUntil s.now

/-- Step 2: the request. The session number, the ephemeral key and the nonce of the D16 are free values. DESIGN CHOICE: log entry 150. DEDUCED: log entry 151. -/
def requestEffect (src : Nat) (bs : List ByteN) (s : State) : Except Nat State :=
  if bs.length ≠ 90 then .error abLength
  else
    let level := bs.getD 0 0
    let a := bs.getD 1 0
    let h := (s.shake src).getD {}
    if requestBad s h level a then .error abValue
    else if 4 ≤ (liveSessions s).length ∨ handshakesLocked s then .error abState
    else
      let (r, s) := s.fresh
      let (scalar, s) := s.fresh
      let (nonce, s) := s.fresh
      let nums := freeNumbers s
      let sc := leBytes 56 scalar
      .ok (s.setShake src { credential := h.credential, level := level, anchor := a, toolKey := (bs.drop 2).take 56, toolNonce := bs.drop 58,
                            num := nums.getD (r % max nums.length 1) 1, deviceScalar := sc, deviceKey := Config.x448 sc (5 :: List.replicate 55 0), deviceNonce := leBytes 32 nonce,
                            asked := some s.now })

def execSessionRequest (source : Nat) (bs : List ByteN) (s : State) : Host.Outcome State Fault Refusal :=
  done s (writeBytes (viaOf source) 0x2320 2 (.bytes bs) none none (requestEffect source) s)

/-- The transcript T of R505. -/
def transcript (s : State) (h : Handshake) : List ByteN :=
  leBytes 4 (s.rdn Gl.SERIAL) ++ [h.level] ++ h.toolKey ++ h.toolNonce ++ Config.shake256 h.credential 64 ++ [h.num] ++ h.deviceKey ++ h.deviceNonce

/-- Step 3: the challenge of 203 bytes, to a source whose request was accepted. -/
def challengeTake (source : Nat) (s : State) : Except Nat (List ByteN) := match s.shake source with
  | some h =>
    if h.asked.isSome then
      .ok ([h.num] ++ h.deviceKey ++ h.deviceNonce ++ Config.deviceSign (withContext "D16-SESSION-D" (transcript s h)))
    else .error abState
  | none => .error abState

/-- SESSION_CHALLENGE (R507). -/
def execSessionChallenge (source : Nat) (s : State) : Host.Outcome State Fault Refusal :=
  done s (s.readFrom source 0x2320 3 (fun s => (challengeTake source s, s)))

/-- A handshake that a proof can complete (R507): within 10 s of step 2. -/
def openShake (s : State) (src : Nat) : Option Handshake := match s.shake src with
  | some h => match h.asked with
    | some t => if s.now < t + 500000 then some h else none
    | none => none
  | none => none

/-- Whether a proof verifies under the credential key. -/
def proofOk (s : State) (h : Handshake) (bs : List ByteN) : Bool :=
  Config.ed448Ok (Config.certKey h.credential) (withContext "D16-SESSION-T" (transcript s h)) bs

/-- Level of a session by number (R505). -/
def levelNum : Nat → Level
  | 1 => .maintainer | 2 => .commissioner | _ => .vendor

/-- Step 4: the proof; the session opens at the next door tick. -/
def proofEffectS (src : Nat) (bs : List ByteN) (s : State) : Except Nat State :=
  if bs.length ≠ 114 then .error abLength
  else match openShake s src with
  | none => .error abState
  | some h =>
    if proofOk s h bs = false then .error abValue
    else if 4 ≤ (liveSessions s).length + s.sec.opening.length then .error abState
    else
      let x : Session := { num := h.num, level := levelNum h.level, anchor := h.anchor, lastValid := s.now, source := src,
                           key := Config.kmac256 (Config.x448 h.deviceScalar h.toolKey) (withContext "D16-SESSION-KEY" (transcript s h)) 32 }
      .ok ({ s with sec := { s.sec with opening := s.sec.opening ++ [x] } }.dropShake src)

/-- A proof that does not verify (R507): counted; the eighth within 600 s locks every step 2 out for 600 s. DEDUCED: log entry 151. -/
def State.proofRefused (s : State) (anchor : Nat) : State :=
  let s := (s.count Gl.AUTH_FAILURES).latch Gl.SECURITY_STATUS 9 (Gl.SECURITY_REPEATS 1)
  let s := s.raise 0x20C2 0xFF anchor
  let l := s.now :: s.sec.refused.filter (fun t => decide (s.now < t + 30000000))
  if 8 ≤ l.length then
    { s with sec := { s.sec with refused := l, lockUntil := some (s.now + 30000000) } }.setB Gl.SECURITY_STATUS 2 true
  else { s with sec := { s.sec with refused := l } }

/-- What a refused proof does beside its answer. -/
def State.judgeProof (s' s : State) (source : Nat) (bs : List ByteN) : State := match openShake s source with
  | some h => if s.running ∧ s'.answer = some abValue ∧ bs.length = 114 ∧ proofOk s h bs = false then s'.proofRefused h.anchor else s'
  | none => s'

def execSessionProof (source : Nat) (bs : List ByteN) (s : State) : Host.Outcome State Fault Refusal :=
  done s ((writeBytes (viaOf source) 0x2320 4 (.bytes bs) none none (proofEffectS source) s).judgeProof s source bs)

/-- HANDSHAKE_TIMEOUT (R507): 10 s after step 2. -/
def execHandshakeTimeout (source : Nat) (s : State) : Host.Outcome State Fault Refusal :=
  done s (match s.shake source with
  | some h => if heldFor h.asked s.now 500000 then s.dropShake source else s
  | none => s)

/-- HANDSHAKE_LOCKOUT_END (R507). -/
def execHandshakeLockoutEnd (s : State) : Host.Outcome State Fault Refusal :=
  done s (if due s.sec.lockUntil s.now then
      { s with sec := { s.sec with lockUntil := none, refused := [] } }.setB Gl.SECURITY_STATUS 2 false
    else s)

/-- SESSION_CLOSE (R508): a session closes itself. -/
def closeEffect (via : Via) : Effect := fun n s =>
  let own := match via with | .msg m => m.session | _ => 0
  if own = 0 ∨ n ≠ own then .error abValue
  else .ok { s with sessions := s.sessions.filter (fun x => x.num != own) }.showSessions

def execSessionClose (via : Via) (v : Int) (s : State) : Host.Outcome State Fault Refusal :=
  done s (writeNum via 0x2320 5 (.num v) none id (closeEffect via) s)

/-! ### Co-signature (R510) -/

/-- Only the Commissioner. -/
def commissionerOnly : Option (Level → Bool) := some (fun l => l == .commissioner)

/-- COSIGN_KEY. DEDUCED: log entry 197. -/
def cosignKeyEffect (bs : List ByteN) (s : State) : Except Nat State :=
  if bs.length ≠ 57 then .error abLength
  else if bs.all (· == 0) ∧ s.rdn Gl.COSIGN_POLICY = 1 then .error abValue
  else .ok ((s.setBlob Gl.COSIGN_KEY bs).raise 0x20CA 0xFF (s.rd Gl.COSIGN_POLICY))

/-- COSIGN_POLICY. DEDUCED: log entry 197. -/
def cosignPolicyEffect : Effect := fun n s =>
  if n = 1 ∧ (s.blob Gl.COSIGN_KEY).all (· == 0) then .error abValue
  else .ok ((s.wr Gl.COSIGN_POLICY n).raise 0x20CA 0xFF n)

/-- COSIGN_CHANGE (R510): a write of the key, of the policy, or of one after the other. -/
def execCosignChange (via : Via) (key : Option (List ByteN)) (policy : Option Int) (s : State) : Host.Outcome State Fault Refusal := done s (
  let s := match key with
    | some bs => writeBytes via 0x2319 1 (.bytes bs) none commissionerOnly cosignKeyEffect s
    | none => s
  (match policy with
  | some v => writeNum via 0x2319 2 (.num v) commissionerOnly id cosignPolicyEffect s
  | none => s))

/-! ### Firmware (R509 to R515) -/

/-- ROLLBACK_FAULT (R516). -/
def rollbackFault (s : State) : Bool := s.bit Gl.SECURITY_STATUS 0

/-- The inactive slot of a kind of image (R511). -/
def targetSlot (s : State) (kind : Nat) : Nat := if kind = 1 then 1 - s.rdn Gl.APP_ACTIVE_SLOT else 2 + (1 - s.rdn Gl.SAFETY_ACTIVE_SLOT)

/-- The partitions of the nonvolatile die (R19). -/
inductive Partition
  | slotA | slotB | slotA0 | slotA1 | recorder | configuration | learned | identity | reserved
  deriving DecidableEq, Repr

/-- Sizes of the partitions in bytes (R19): neither firmware nor configuration changes them. -/
def partitionSize : Partition → Nat
  | .slotA | .slotB => 3145728
  | .slotA0 | .slotA1 => 524288
  | .recorder => 4194304
  | .configuration | .learned => 1048576
  | .identity => 262144
  | .reserved => 2883584

/-- Size of a slot of a kind (R19, R509). -/
def slotSize (kind : Nat) : Nat := partitionSize (if kind = 1 then .slotA else .slotA0)

/-- The header of an image (R509), with what the signatures and the digest were found to be. -/
structure FwHeader where
  magic : Nat
  headerVersion : Nat
  reservedZero : Bool
  imageType : Nat
  variants : Nat
  revision : Nat
  securityVersion : Nat
  bodyLength : Nat
  verdict : FwVerdict
  deriving DecidableEq, Repr

/-- Bytes of an image that are all 0. -/
def zeros (img : List ByteN) (at_ n : Nat) : Bool := ((img.drop at_).take n).all (· == 0)

/-- The header as the image's bytes give it. -/
def fwHeader (img : List ByteN) (v : FwVerdict) : FwHeader :=
  let u32 := fun (i : Nat) => leVal ((img.drop i).take 4)
  { magic := u32 0, headerVersion := img.getD 5 0,
    reservedZero := zeros img 6 2 && zeros img 9 3 && zeros img 88 8 && zeros img 324 60,
    imageType := img.getD 4 0, variants := img.getD 8 0, revision := u32 12, securityVersion := u32 16, bodyLength := u32 20,
    verdict := v }

/-- First failing check of R512, as FW_RESULT; 1 when none fails. -/
def imageResult (s : State) (h : FwHeader) (written : Nat) : Nat :=
  let kind := s.rdn Gl.FW_TARGET
  if h.magic ≠ 0x314F4D54 ∨ h.headerVersion ≠ 1 ∨ h.reservedZero = false ∨ 384 + h.bodyLength ≠ written then 2
  else if h.imageType ≠ kind then 3
  else if h.variants.testBit (if s.part.d8 then 1 else 0) = false then 4
  else if h.verdict.vendorSigOk = false then 5
  else if s.rdn Gl.COSIGN_POLICY = 1 ∧ h.verdict.cosigOk = false then 6
  else if h.verdict.digestOk = false then 7
  else if h.securityVersion < s.rdn Gl.ROLLBACK_COUNTER then 8
  else 1

/-- Writes to 0x2201 that the state refuses (R511, R516). -/
def fwBusy (s : State) : Bool := s.sec.activated.isSome || s.rdn Gl.BOOT_STATE == 1 || rollbackFault s

/-- The end of an image (R512): FW_RESULT, the slot and the event; TRUE when it verified. -/
def State.finishImage (s : State) (h : FwHeader) (written : Nat) : State × Bool :=
  let kind := s.rdn Gl.FW_TARGET
  let slot := targetSlot s kind
  let r := imageResult s h written
  let s := s.wrn Gl.FW_RESULT r
  if r ≠ 1 then (s, false)
  else
    let s := ((s.wr (Gl.SLOT_STATE slot) 1).wrn (Gl.SLOT_REVISION slot) h.revision).wrn (Gl.SLOT_SECURITY_VERSION slot) h.securityVersion
    (s.raise 0x20C3 kind h.revision, true)

/-- The content of a segment, for R429. -/
def fwContent (offset : Nat) (bs : List ByteN) (final : Option FwVerdict) : Nat × Nat × Val × Option Seg :=
  (0x2201, 2, .bytes bs, some { offset, final := final.isSome })

/-- The partial image of a slot is discarded. -/
def State.dropImage (s : State) (slot : Nat) : State :=
  { s with sec := { s.sec with received := 0, images := erase slot s.sec.images } }

/-- FW_IMAGE (R511, R512): a segment at `offset`; with the last one comes what the signatures and the digest of the whole image are. -/
def fwImage (via : Via) (offset : Nat) (bs : List ByteN) (final : Option FwVerdict) (s : State) : State :=
  let len := bs.length
  let content := fwContent offset bs final
  (match front via 3 content s with
  | .stop s => s
  | .go s =>
    let src := segSource via
    let drop := fun (s : State) => { s with net := { s.net with segs := erase src s.net.segs } }
    let level := levelOf via s
    let slot := targetSlot s (s.rdn Gl.FW_TARGET)
    let img := (slotImage s slot).take offset ++ bs
    let held := (lookup src s.net.segs).filter (fun w => w.index == 0x2201 && w.sub == 2)
    if levelMayWrite .rwm level = false then reply via 3 content abLevel s
    else if frozenByRma s then reply via 3 content abReadOnly s
    else if 1024 < len then reply via 3 content abLength s
    else if slotSize (s.rdn Gl.FW_TARGET) < offset + len then
      reply via 3 content abLength (if offset = 0 ∨ held.isNone then s.discardOpen src else (s.discardOpen src).dropImage slot)
    else if fwBusy s then reply via 3 content abState s
    else if s.net.segs.any (fun x => x.1 != src && x.2.index == 0x2201 && x.2.sub == 2 && !x.2.timedOut) then reply via 3 content abState s
    else
      let go := fun (s : State) (n : Nat) =>
        match final with
        | some h =>
          let (s, ok) := (drop { s with sec := { s.sec with received := 0, images := putD [] s.sec.images slot img } }).finishImage (fwHeader img h) n
          reply via 3 content (if ok then 0 else abValue) s
        | none =>
          reply via 3 content 0 { drop s with
            net := { (drop s).net with segs := place src { index := 0x2201, sub := 2, bytes := [], last := s.now } (drop s).net.segs },
            sec := { s.sec with received := n, images := putD [] s.sec.images slot img } }
      if offset = 0 then go ((s.discardOpen src).wr (Gl.SLOT_STATE slot) 2) len
      else match held with
      | none => reply via 3 content abSegment (s.discardOpen src)
      | some w =>
        if w.timedOut ∨ w.last + segPause src < s.now then reply via 3 content abTimedOut ((s.discardOpen src).dropImage slot)
        else if offset ≠ s.sec.received then reply via 3 content abSegment ((s.discardOpen src).dropImage slot)
        else go s (offset + len))

/-- FW_IMAGE (R511, R512). -/
def execFwImage (via : Via) (offset : Nat) (bs : List ByteN) (final : Option FwVerdict) (s : State) : Host.Outcome State Fault Refusal :=
  done s (fwImage via offset bs final s)

/-- In recovery (R533). -/
def inRecoveryMode (s : State) : Bool := s.rdn Gl.BOOT_MODE == 1 || s.rdn Gl.BOOT_MODE == 2

/-- When the device resets itself, with the cause: a reset that is already due stays. DEDUCED: log entry 154. -/
def planReset (s : State) (x : Nat × Nat) : Option (Nat × Nat) := match s.power.planned with
  | some p => some p
  | none => some x

/-- FW_ACTIVATE (R513): the boot choice is committed and the device resets 100 ms after the response. DEDUCED: log entry 155. -/
def fwActivateEffect : Effect := fun n s =>
  if 1 < n then .error abValue
  else if rollbackFault s then .error abState
  else if n = 0 then .ok s
  else
    let kind := s.rdn Gl.FW_TARGET
    let slot := targetSlot s kind
    if s.rdn (Gl.SLOT_STATE slot) ≠ 1 ∨ s.rdn Gl.BOOT_STATE ≠ 0 then .error abState
    else if inRecoveryMode s = false ∧ (doorsQuiet s = false ∨ zeroSpeed s = false) then .error abState
    else
      let sec := { s.sec with activated := some kind, appChoice := if kind = 1 then slot else s.sec.appChoice,
                              safetyChoice := if kind = 1 then s.sec.safetyChoice else slot - 2 }
      let s := { s with sec, power := { s.power with planned := planReset s (s.now + 5000, 64), ignoreRec := inRecoveryMode s } }
      .ok (s.raise 0x20C4 kind (s.rd (Gl.SLOT_REVISION slot)))

def execFwActivate (via : Via) (v : Int) (s : State) : Host.Outcome State Fault Refusal :=
  done s (writeNum via 0x2201 4 (.num v) none id fwActivateEffect s)

/-- A raise of ROLLBACK_COUNTER (R516): the shadow record, the next fuse, the commit marker. -/
def State.raiseRollback (s : State) (v : Nat) : State :=
  let fuses := s.rdn Gl.ROLLBACK_FUSES
  if 64 ≤ fuses then s.setB Gl.SECURITY_STATUS 1 true
  else
    let s := { s with sec := { s.sec with version := v, raises := s.sec.raises + 1, shadow := none } }
    let s := (s.wrn Gl.ROLLBACK_FUSES (fuses + 1)).wrn Gl.ROLLBACK_COUNTER v
    let s := if fuses + 1 = 64 then s.setB Gl.SECURITY_STATUS 1 true else s
    s.raise 0x20C7 0xFF v

/-- Slot of the image in trial. -/
def trialSlot (s : State) : Nat := if s.sec.trial = 2 then safetySlot s else appSlot s

/-- FW_CONFIRM (R514). -/
def fwConfirmEffect : Effect := fun n s =>
  if 1 < n then .error abValue
  else if rollbackFault s then .error abState
  else if n = 0 then .ok s
  else if s.rdn Gl.BOOT_STATE ≠ 1 then .error abState
  else
    let slot := trialSlot s
    let v := s.rdn (Gl.SLOT_SECURITY_VERSION slot)
    let kind := s.sec.trial
    let s := ((s.wr Gl.BOOT_STATE 0).setB Gl.SECURITY_STATUS 3 false).raise 0x20C5 kind (s.rd (Gl.SLOT_REVISION slot))
    let s := { s with sec := { s.sec with trial := 0 } }
    .ok (if s.rdn Gl.ROLLBACK_COUNTER < v then s.raiseRollback v else s)

def execFwConfirm (via : Via) (v : Int) (s : State) : Host.Outcome State Fault Refusal :=
  done s (writeNum via 0x2201 5 (.num v) none id fwConfirmEffect s)

/-! ### Debug (R517, R518) and RMA (R519) -/

/-- Commissioner or Vendor. -/
def unlockLevels : Option (Level → Bool) := some (fun l => l == .commissioner || l == .vendor)

/-- The door conditions of R518. -/
def doorsRefuse (s : State) : Bool := !doorsQuiet s || !zeroSpeed s

/-- DEBUG_UNLOCK (R518): from the next door tick; 0 does nothing (R563). -/
def unlockEffect : Effect := fun n s =>
  if n = 0 then .ok s
  else if n ≠ 1 ∧ n ≠ 2 then .error abValue
  else if s.rdn Gl.SECURITY_STATE ≠ 1 ∧ s.rdn Gl.SECURITY_STATE ≠ 2 then .error abState
  else if n.toNat ≤ s.rdn Gl.DEBUG_LEVEL ∨ doorsRefuse s then .error abState
  else .ok { s with sec := { s.sec with debugDue := some n.toNat } }

def execDebugUnlockObserve (via : Via) (s : State) : Host.Outcome State Fault Refusal :=
  done s (writeNum via 0x2300 3 (.num 1) unlockLevels id unlockEffect s)

def execDebugUnlockHalt (via : Via) (s : State) : Host.Outcome State Fault Refusal :=
  done s (writeNum via 0x2300 3 (.num 2) unlockLevels id unlockEffect s)

/-- The safe state of debug (R518): STO of every axis, every output open, the token released, every doorway in FAULT. -/
def State.debugSafeState (s : State) : State :=
  let s := { s with safety := { s.safety with debugSafe := true } }.stoAll
  (allDoors s).foldl (fun s d => s.faultDoor d 7) s.release.driveOuts

/-- An accepted unlock takes effect. -/
def State.debugTick (s : State) : State := match s.sec.debugDue with
  | none => s
  | some l =>
    let s := { s with sec := { s.sec with debugDue := none } }
    let s := ((s.wrn Gl.DEBUG_LEVEL l).count Gl.DEBUG_UNLOCKS).wr Gl.SECURITY_STATE 2
    let s := s.raise 0x20C8 0xFF l
    if l = 2 then s.debugSafeState.raise 0x00C1 0xFF l else s

/-- What RMA erases of the nonvolatile die: configuration and learned data, with the anchors; the recorder and the counters stay. -/
def State.eraseAll (s : State) : State :=
  let keep := fun (k : Nat) => match rowOf (k / 256) (k % 256) with
    | some r => r.acc == Acc.ro && !learnedKey k && decide (k / 256 < 0x2310 ∨ 0x2317 < k / 256)
    | none => false
  let s := (List.range 16).foldl (fun (s : State) d => (s.wr (Dr.START_PEAK_OPEN d) 0).wr (Dr.START_PEAK_CLOSE d) 0) s
  { s with nv := s.nv.filter (fun x => keep x.1), blobs := [], leafCommits := [],
           doors := (s.doors.map (fun (x : Nat × Door) => (x.1, { x.2 with peaksOpen := [], peaksClose := [] }))).filter (fun x => x.2 != ({} : Door)),
           sensors := s.sensors.map (fun (x : Nat × Sensor) => (x.1, { x.2 with committed := [], bg := [], failed := false, failedNv := false })), sessions := [],
           sec := { s.sec with deviceKey := false, handshakes := [], opening := [], anchors := [] } }.showSessions

/-- RMA_COMMAND (R519): SERIAL, the last nonce and the vendor's signature. MANUFACTURE leads to SECURED only (R517). DEDUCED: log entry 153. -/
def rmaEffect (bs : List ByteN) (s : State) : Except Nat State :=
  if bs.length ≠ 150 then .error abLength
  else if leVal (bs.take 4) ≠ s.rdn Gl.SERIAL ∨ (bs.drop 4).take 32 ≠ s.sec.nonce
      ∨ Config.ed448Ok Config.vendorKey (withContext "D16-RMA" (bs.take 36)) (bs.drop 36) = false then .error abValue
  else if doorsRefuse s ∨ s.rdn Gl.SECURITY_STATE = 0 then .error abState
  else
    let s := s.debugSafeState.eraseAll
    let s := (s.wr Gl.SECURITY_STATE 3).raise 0x20CB 0xFF (s.rd Gl.SERIAL)
    .ok { s with power := { s.power with planned := some (s.now, 256) } }

def execRmaCommand (via : Via) (bs : List ByteN) (s : State) : Host.Outcome State Fault Refusal :=
  done s (writeBytes via 0x2340 1 (.bytes bs) none (some (fun l => l == .vendor)) rmaEffect s)

/-- END_OF_TEST_FUSE (R517): from MANUFACTURE into SECURED, for good. -/
def execEndOfTestFuse (s : State) : Host.Outcome State Fault Refusal :=
  done s (if s.rdn Gl.SECURITY_STATE = 0 then s.wr Gl.SECURITY_STATE 1 else s)

/-! ### The door tick -/

/-- What takes effect at a door tick: anchors, sessions, an unlock, a report. -/
def State.securityTick (s : State) : State :=
  let blobs := s.sec.anchors
  let s := blobs.foldl (fun s b => s.setAnchor b) { s with sec := { s.sec with anchors := [] } }
  let opening := s.sec.opening.filter (fun x => !(blobs.any (fun b => b.getD 0 0 == x.anchor)))
  let s := { s with sec := { s.sec with opening := [] } }
  let s := opening.foldl (fun s x =>
    let lv : Nat := match x.level with | .maintainer => 1 | .commissioner => 2 | _ => 3
    ({ s with sessions := s.sessions ++ [x] }.showSessions).raise 0x20C1 x.num (256 * lv + x.anchor : Nat)) s
  s.debugTick.attestTick

end Sys2Proof.Machine
end

