-- ==== Sys2Proof/Machine/Reset.lean ====
section
/-!
DEFINITION. Resets, straps and the boot (chapter 17), and the supply resets and the end of the sleep sequence of chapter 15.
The boot is one command: it runs B0 to B8 as far as they do not need further frames; what follows it (training of the links,
the contacts, the first demands) follows in the ticks.
-/
namespace Sys2Proof.Machine

/-! ### What a logic-die reset leaves (R18, R402, R525, R529) -/

/-- Entries outside the P entries whose value a reset of the logic die leaves: straps and identity, AON, the nonvolatile records
of chapter 16, the learned start peaks. DEDUCED: log entry 81. -/
def keptGlobals : List Nat :=
  [Gl.STRAPS, Gl.WADDR, Gl.STRAP_SAMPLED_BY, Gl.RTC_TIME, Gl.RTC_ALARM, Gl.FAILED_WAKES, Gl.WAKE_FAIL_CAUSE, Gl.LAST_WAKE_SOURCE,
   Gl.WAKE_TIME_LAST, Gl.CICADA_WAKES, Gl.CICADA_REJECTED, Gl.PRODUCT_CODE, Gl.SERIAL, Gl.VENDOR_ID, Gl.ROLLBACK_COUNTER,
   Gl.ROLLBACK_FUSES, Gl.APP_ACTIVE_SLOT, Gl.SAFETY_ACTIVE_SLOT, Gl.BOOT_STATE, Gl.COMMIT_SEQ, Gl.INPUT_STATE, Gl.WIRE_BREAK_MASK]
    ++ (List.range 4).flatMap (fun i => [Gl.SLOT_REVISION i, Gl.SLOT_SECURITY_VERSION i, Gl.SLOT_STATE i])
    ++ (List.range 48).map (fun n => In.FILTERED n)
    ++ (List.range 16).flatMap (fun d => [Dr.START_PEAK_OPEN d, Dr.START_PEAK_CLOSE d])

/-- Entries of the field dies: channel states, trip counts and latches (R402), of which the masked part stays. -/
def keptMasked : List (Nat × Nat) :=
  (List.range 24).map (fun q => (Ou.OUT_STATUS q, 0x1F001FFF)) ++ (List.range 24).map (fun q => (Ou.TRIP_COUNT q, 0xFF))
    ++ (List.range 16).map (fun q => (Ou.FAIL_CAUSE q, 0xFF)) ++ (List.range 6).map (fun k => (Gl.SO_STATUS k, 0xFF00))
    ++ [(Gl.FIELD_STATUS, 0x3F)]

/-- The configuration as the nonvolatile die holds it, with what a restore removes (R440): writable P entries outside, or
inside, the safety set. DEDUCED: log entry 159. -/
def State.restored (s : State) : Store Int :=
  s.nv.filter (fun (x : Nat × Int) => match rowOf (x.1 / 256) (x.1 % 256) with
    | some r =>
      let writable := r.acc != Acc.ro && r.acc != Acc.const
      let own := isMember s x.1 || x.1 == Gl.CONFIRM
      !(writable && ((own && s.power.restoreSafety) || (!own && s.power.restore)))
    | none => false)

/-- DOMAIN values of P entries. -/
def State.restoredBlobs (s : State) : Store (List ByteN) :=
  s.blobs.filter (fun (x : Nat × List ByteN) => match rowOf (x.1 / 256) (x.1 % 256) with
    | some r => r.persist && !(s.power.restore && r.acc != Acc.ro)
    | none => false)

/-- The dictionary during a reset: committed values, and the entries that keep theirs. DEDUCED: log entry 148. -/
def State.resetDict (s old : State) : State :=
  let s := keptGlobals.foldl (fun (s : State) k => s.wr k (old.rd k)) { s with dict := old.restored, nv := old.restored, eff := [] }
  let s := keptMasked.foldl (fun (s : State) (x : Nat × Nat) => s.wrn x.1 (old.rdn x.1 &&& x.2)) s
  let s := s.wr Gl.SLEEP_STATUS (if old.rdn Gl.SLEEP_STATUS = 1 then 0 else old.rd Gl.SLEEP_STATUS)
  -- SECURED_DEBUG returns to SECURED (R517)
  s.wr Gl.SECURITY_STATE (if old.rdn Gl.SECURITY_STATE = 2 then 1 else old.rd Gl.SECURITY_STATE)

/-- AON's part of the power state, and what the nonvolatile die keeps. -/
def Power.afterReset (p : Power) (now : Nat) : Power :=
  { phase := .reset, stepAt := now, source := p.source, sourceAt := p.sourceAt, retried := p.retried, latched := p.latched,
    committedAt := p.committedAt, held := p.held, lockedOut := p.lockedOut, rtcPart := p.rtcPart, brown := p.brown, causes := p.causes,
    resetAt := some now, watchdogs := p.watchdogs, ignoreRec := p.ignoreRec, wakeFailed := p.wakeFailed, halted := p.halted }

/-- Security state after a reset: every session and handshake is gone (R433, R508). DEDUCED: log entry 156. -/
def Sec.afterReset (x : Sec) : Sec :=
  { appChoice := x.appChoice, safetyChoice := x.safetyChoice, activated := x.activated, trial := x.trial, version := x.version,
    raises := x.raises, recordOk := x.recordOk, shadow := x.shadow, deviceKey := x.deviceKey, images := x.images }

/-- The recorder after a reset: its records are in the nonvolatile die, its queues and contexts are gone. DEDUCED: log entry 139. -/
def Recorder.afterReset (r : Recorder) : Recorder :=
  { codes := r.codes.map (fun (x : Nat × CodeRec) => (x.1, { x.2 with bucket := none })), log := r.log, hists := r.hists,
    changeSeq := r.changeSeq }

/-- A leaf's envelopes as last committed (R206). -/
def restoreLeaf (m : Store Leaf) (x : Nat × LeafCommit) : Store Leaf := putD {} m x.1 x.2.leaf

/-- A depth sensor's background as last committed, and whether its last learning failed (R232). -/
def Sensor.afterReset (x : Sensor) : Sensor := { bg := x.committed, committed := x.committed, failed := x.failedNv, failedNv := x.failedNv }

/-- The last resistance estimate, held against the interruption of R137. DEDUCED: log entry 50. -/
def Axis.afterReset (x : Axis) (now : Nat) : Axis :=
  { res := x.res, resPos := x.resPos, stoSince := some (x.stoSince.getD now) }

/-- The learned start peaks are in the nonvolatile die (R73). -/
def keptDoor (x : Nat × Door) : Option (Nat × Door) :=
  if x.2.peaksOpen = [] ∧ x.2.peaksClose = [] then none else some (x.1, { peaksOpen := x.2.peaksOpen, peaksClose := x.2.peaksClose })

/-- Safe outputs open at the reset (R248, R529). -/
def openedOuts (s : State) : Store SafeOut := (List.range 6).map (fun k => (k, { openedAt := if energised s k then some s.now else (s.out k).openedAt }))

/-- Engines, links, networks and safety after a reset. -/
def State.resetEngines (s old : State) : State :=
  { s with
    egress := [], answer := none, doors := old.doors.filterMap keptDoor, contacts := [], pairs := {}, cab := {}, depthQueue := [], links := [], conns := [],
    summary := {}, sessions := [], net := {}, boundary := { edgeIn := old.boundary.edgeIn }, duplex := { stagIn := old.duplex.stagIn },
    axes := old.axes.filterMap (fun (x : Nat × Axis) => if x.2.res.isSome then some (x.1, x.2.afterReset old.now) else none),
    leaves := old.leafCommits.foldl restoreLeaf [],
    sensors := old.sensors.filterMap (fun (x : Nat × Sensor) => if x.2.committed = [] ∧ x.2.failedNv = false then none else some (x.1, x.2.afterReset)),
    safety := { inReset := true, dieA := true, dieB := true, outs := openedOuts old, lastCheck := old.safety.lastCheck } }

/-- A reset of every logic-die domain except AON: STAG_OUT is released, links and ports are silent, the field dies open their
safe outputs (R529). `keepSafe`: the safe state of R268 stays latched in AON (R525). -/
def State.resetLogic (s : State) (keepSafe : Bool) : State :=
  let n := (s.resetEngines s).resetDict s
  let n := { n with power := s.power.afterReset s.now, sec := s.sec.afterReset, recd := s.recd.afterReset, blobs := s.restoredBlobs }
  n.wr Gl.SAFE_STATE_CAUSE (if keepSafe then s.rd Gl.SAFE_STATE_CAUSE else 0)

/-! ### nFAULT and the outputs of R530 -/

/-- Levels of the logic outputs (R326, R416, R476, R478, R495, R530, R534). -/
def nFault (s : State) : Bool := nfaultCauses s == 0
def stagOutReleased (s : State) : Bool := !s.holds
def canStandby (s : State) (p : Nat) : Bool := !(s.running && portEnabled s p) || heldFor s.power.sleepFrom s.now 200
def pwrEnMain (s : State) : Bool := match s.power.phase with
  | .stabled | .pause => false
  | _ => true
def nPwrWarnReleased (s : State) : Bool := !s.power.warnIo && !s.power.warnCore
def vidBalls (s : State) : Nat := s.rdn Gl.VID_CODE

/-! ### The resets -/

/-- The straps as AON latches them (R523, R524). DESIGN CHOICE: log entry 12. -/
def State.sampleStraps (s : State) (straps by_ : Nat) : State :=
  ((s.wrn Gl.STRAPS (straps % 256)).wrn Gl.WADDR (straps / 2 % 8)).wrn Gl.STRAP_SAMPLED_BY by_

/-- Add causes to those of the next boot. -/
def State.addCause (s : State) (c : Nat) : State := { s with power := { s.power with causes := s.power.causes ||| c } }

/-- NRESET (R525): the pulse and its rising edge. In STABLED and in a wake sequence it only samples the straps. DEDUCED: log entry 147. -/
def execNreset (straps : Nat) (s : State) : Host.Outcome State Fault Refusal :=
  done s (match s.power.phase with
  | .reset | .run =>
    let s := (s.resetLogic false).addCause 2
    { s with power := { s.power with halted := false, watchdogs := [] } }.sampleStraps straps 1
  | _ => s.sampleStraps straps 1)

/-- POWER_ON_RESET (R481, R491, R525): AON starts from nothing, the straps are latched at the release, and the wake sequence begins. -/
def execPowerOnReset (straps : Nat) (s : State) : Host.Outcome State Fault Refusal := done s (
  let s := s.resetLogic false
  let s := { s with power := { causes := 1, resetAt := some s.now, ignoreRec := s.power.ignoreRec } }
  let s := [Gl.RTC_TIME, Gl.RTC_ALARM, Gl.FAILED_WAKES, Gl.WAKE_FAIL_CAUSE, Gl.LAST_WAKE_SOURCE, Gl.WAKE_TIME_LAST, Gl.CICADA_WAKES,
    Gl.CICADA_REJECTED, Gl.SLEEP_STATUS].foldl (fun (s : State) k => s.wr k 0) s
  let s := s.addSat Gl.POWER_CYCLES 1 0xFFFFFF
  let s := { s with nv := putD 0 s.nv Gl.POWER_CYCLES (s.rd Gl.POWER_CYCLES) }
  ((s.sampleStraps straps 0).startWake 0))

/-- Bit of RESET_CAUSE of a brown-out (R537). -/
def brownBit : BrownSource → Nat
  | .io => 4 | .core => 8 | .pg => 16

/-- BROWN_OUT (R480): the logic die is held in reset. -/
def execBrownOut (src : BrownSource) (s : State) : Host.Outcome State Fault Refusal :=
  done s (match s.power.phase with
  | .run | .reset =>
    let s := (s.resetLogic false).addCause (brownBit src)
    { s with power := { s.power with brown := true, halted := false, watchdogs := [] } }
  | _ => s)

/-- BROWN_OUT_RELEASE (R480): the supplies are good together for 10 ms. -/
def execBrownOutRelease (s : State) : Host.Outcome State Fault Refusal := done s { s with power := { s.power with brown := false } }

/-- An internal reset of a cause (R525): the safe state stays. -/
def State.internal (s : State) (cause : Nat) : State := (s.resetLogic true).addCause cause

/-- WATCHDOG (R527): a core has not serviced the watchdog for 100 ms. With the third such reset within 600 s of the first, the
boot that follows halts. -/
def execWatchdog (s : State) : Host.Outcome State Fault Refusal :=
  done s (if s.running = false ∨ inRecoveryMode s then s else
    let l := s.now :: s.power.watchdogs.filter (fun t => decide (s.now ≤ t + 30000000))
    let s := s.internal 32
    { s with power := { s.power with watchdogs := l, halted := s.power.halted || decide (3 ≤ l.length) } })

/-- DEVICE_RESET (R528). -/
def deviceResetEffect : Effect := fun n s =>
  if 1 < n then .error abValue
  else if n = 0 then .ok s
  else if doorsQuiet s = false ∨ zeroSpeed s = false then .error abState
  else .ok { s with power := { s.power with planned := planReset s (s.now + 5000, 128) } }

def execDeviceReset (via : Via) (v : Int) (s : State) : Host.Outcome State Fault Refusal :=
  done s (writeNum via 0x2204 6 (.num v) none id deviceResetEffect s)

/-- INTERNAL_RESET (R513, R519, R528): a planned reset of a cause, as RESET_CAUSE codes it, falls due. -/
def execInternalReset (cause : Nat) (s : State) : Host.Outcome State Fault Refusal :=
  done s (match s.power.planned with
  | some (t, c) => if s.running ∧ c = cause ∧ t ≤ s.now then s.internal cause else s
  | none => s)

/-! ### The end of the sleep sequence (R488, R489) -/

/-- SLEEP_COMMIT (R488 steps 6 and 7): from 4.1 ms after the accepting boundary; 11.2 ms at the latest. The doors are checked once
more (step 2). Sessions close (R508); SECURED_DEBUG ends (R517). -/
def execSleepCommit (s : State) : Host.Outcome State Fault Refusal :=
  done s (if s.running ∧ heldFor s.power.sleepFrom s.now 205 then
      if doorsQuiet s = false then s.abortSleep 4
      else
        let s := (s.commitAll.wr Gl.SLEEP_STATUS 2).resetLogic true
        { s with power := { s.power with phase := .stabled, committedAt := some s.now, retried := false, latched := none } }
    else s)

/-- SLEEP_ABORTED (R489): by an enabled wake source, or by a door that has changed its state (step 2). -/
def execSleepAborted (src : Option WakeSource) (s : State) : Host.Outcome State Fault Refusal :=
  done s (match src with
  | some w =>
    let enabled : Bool := match w with
      | .powerUp => false
      | .cicada => s.bit Gl.WAKE_ENABLE 0
      | .wakeIn => s.bit Gl.WAKE_ENABLE 1
      | .rtc => s.bit Gl.WAKE_ENABLE 2
      | .forceWake => true
    if s.running ∧ enabled then s.abortSleep 3 else s
  | none => if s.running ∧ s.power.sleepFrom.isSome ∧ doorsQuiet s = false then s.abortSleep 4 else s)

/-! ### Boot (R531 to R533) -/

/-- Events held in AON (R496). -/
def State.raiseHeld (s : State) : State :=
  s.power.held.foldl (fun (s : State) (x : Nat × Int) => s.raise x.1 0xFF x.2) { s with power := { s.power with held := [] } }

/-- The rollback record at boot (R516). -/
def State.bootRollback (s : State) : State :=
  let x := s.sec
  let f := s.rdn Gl.ROLLBACK_FUSES
  let commit : Option Nat := match x.shadow with
    | some (v, r) => if x.recordOk && r == x.raises + 1 && f == r then some v else none
    | none => none
  let s := s.setB Gl.SECURITY_STATUS 1 (f == 64)
  match commit with
  | some v => { s with sec := { x with version := v, raises := x.raises + 1, shadow := none } }.wrn Gl.ROLLBACK_COUNTER v
  | none =>
    if x.recordOk ∧ f = x.raises then { s with sec := { x with shadow := none } }.wrn Gl.ROLLBACK_COUNTER x.version
    else (s.setB Gl.SECURITY_STATUS 0 true).raise 0x00C2 0xFF f

/-- Slot number of a kind's choice: 1 application, 2 safety. -/
def chosenSlot (s : State) (kind : Nat) : Nat := if kind = 1 then s.sec.appChoice else s.sec.safetyChoice

/-- Choose the other slot of a kind. -/
def State.flip (s : State) (kind : Nat) : State :=
  if kind = 1 then { s with sec := { s.sec with appChoice := 1 - s.sec.appChoice } }
  else { s with sec := { s.sec with safetyChoice := 1 - s.sec.safetyChoice } }

/-- A revert of a kind (R514). -/
def State.revert (s : State) (kind : Nat) : State :=
  let s := s.flip kind
  let slot := chosenSlot s kind + (if kind = 1 then 0 else 2)
  let s := ((s.wr Gl.BOOT_STATE 2).setB Gl.SECURITY_STATUS 3 false).latch Gl.SECURITY_STATUS 8 (Gl.SECURITY_REPEATS 0)
  { s with sec := { s.sec with trial := 0 } }.raise 0x20C6 kind (s.rd (Gl.SLOT_REVISION slot))

/-- The trial as a boot finds it (R513, R514): an unconfirmed one ends, an activated image begins one. -/
def State.bootTrial (s : State) : State :=
  if s.sec.trial ≠ 0 then s.revert s.sec.trial
  else match s.sec.activated with
  | some k => { s with sec := { s.sec with trial := k, activated := none } }.wr Gl.BOOT_STATE 1
  | none => s

/-- The image of a kind that boots (R515): the other slot where the chosen one fails. -/
def State.bootImage (s : State) (kind : Nat) (ok : List Bool) : State :=
  let c := chosenSlot s kind
  if ok.getD c false = false ∧ ok.getD (1 - c) false then s.revert kind else s

/-- Slots as the boot ROM found them. -/
def State.showSlots (s : State) (base : Nat) (ok : List Bool) : State :=
  [0, 1].foldl (fun (s : State) i =>
    let k := Gl.SLOT_STATE (base + i)
    if ok.getD i false then s.wr k 1 else if s.rdn k = 1 then s.wr k 2 else s) s

/-- BOOT_MODE (R527, R533). -/
def bootMode (s : State) (appOk safetyOk : List Bool) : Nat :=
  if s.power.halted then 3
  else if s.bit Gl.STRAPS 4 ∧ s.power.ignoreRec = false then 1
  else if (appOk.getD 0 false || appOk.getD 1 false) && (safetyOk.getD 0 false || safetyOk.getD 1 false) then 0
  else 2

/-- B1: the images, the trial, the mode. DEDUCED: log entry 158. -/
def State.bootImages (s : State) (appOk safetyOk : List Bool) : State :=
  let usable := fun (base : Nat) (ok : List Bool) => [0, 1].map (fun i => ok.getD i false && s.rdn (Gl.SLOT_STATE (base + i)) != 2)
  let app := usable 0 appOk
  let saf := usable 2 safetyOk
  let mode := bootMode s app saf
  let s := (s.showSlots 0 app).showSlots 2 saf
  let s := if s.sec.trial ≠ 0 ∨ mode = 0 then s.bootTrial else s
  let s := if mode = 0 ∨ mode = 3 then (s.bootImage 1 app).bootImage 2 saf else s
  let s := (s.wrn Gl.APP_ACTIVE_SLOT s.sec.appChoice).wrn Gl.SAFETY_ACTIVE_SLOT s.sec.safetyChoice
  let s := (s.wr Gl.REVISION (s.rd (Gl.SLOT_REVISION s.sec.appChoice))).setB Gl.SECURITY_STATUS 3 (s.rdn Gl.BOOT_STATE == 1)
  { s with power := { s.power with ignoreRec := false } }.wrn Gl.BOOT_MODE mode

/-- NODE_ID from the straps (R418). -/
def strapNodeId (s : State) : Nat := 0x20 + 2 * s.rdn Gl.WADDR + (if s.bit Gl.STRAPS 0 then 1 else 0)

/-- Entries that follow NODE_ID (R417, R440). -/
def State.showNodeId (s : State) : State :=
  let id := if s.rdn Gl.NODE_ID_SET = 0 then strapNodeId s else s.rdn Gl.NODE_ID_SET
  let s := ((s.wrn Gl.NODE_ID id).wrn Gl.COB_ID_EMCY (0x80 + id)).wrn (Gl.SDO_COB_IDS 0) (0x600 + id)
  let s := s.wrn (Gl.SDO_COB_IDS 1) (0x580 + id)
  [0, 1].foldl (fun (s : State) p =>
    let s := if (lookup (Cb.BULK_RX_ID p) s.nv).isSome then s else s.wrn (Cb.BULK_RX_ID p) (0x7A0 + id % 16)
    if (lookup (Cb.BULK_TX_ID p) s.nv).isSome then s else s.wrn (Cb.BULK_TX_ID p) (0x7B0 + id % 16)) s

/-- ENABLE, CAN_RATE_SET of the CAN ports as resolved at a device reset or NMT reset communication (R418). -/
def State.freezeCan (s : State) : State :=
  [0, 1].foldl (fun (s : State) p =>
    let e := if inRecoveryMode s then 2 else s.rdn (Cb.ENABLE p)
    let on := if e = 2 then !s.bit Gl.STRAPS 5 else e == 1
    let r := s.rdn (Cb.CAN_RATE_SET p)
    let rate := if r = 255 then (if s.bit Gl.STRAPS 6 then 1 else 0) else r
    let f := place (Cb.ENABLE p) (b2i on) (erase (Cb.ENABLE p) s.net.frozen)
    let f := place (Cb.CAN_RATE_SET p) (rate : Int) (erase (Cb.CAN_RATE_SET p) f)
    { s with net := { s.net with frozen := f } }.wr (Cb.BUS_STATE p) (if on then 0 else 3)) s.showNodeId

/-- The Ethernet ports: ENABLE, and the address by the straps, 10.128.0.NODE_ID and 10.129.0.NODE_ID (R418). -/
def State.freezeEth (s : State) : State :=
  [0, 1].foldl (fun (s : State) p =>
    let e := if inRecoveryMode s then 2 else s.rdn (Et.ENABLE p)
    let on := if e = 2 then s.bit Gl.STRAPS 5 else e == 1
    let a := s.rdn (Et.IPV4_ADDRESS p)
    let ip := if a = 0 then (10 * 2 ^ 24 + (128 + p) * 2 ^ 16 + s.rdn Gl.NODE_ID) else a
    let f := place (Et.ENABLE p) (b2i on) (erase (Et.ENABLE p) s.net.frozen)
    { s with net := { s.net with frozen := place (Et.IPV4_ADDRESS p) (ip : Int) (erase (Et.IPV4_ADDRESS p) f) } }) s

/-- Network identity of a boot. -/
def State.bootNetwork (s : State) : State :=
  let s := s.freezeCan.freezeEth
  let f := place Gl.DUPLEX_CONFIG (s.rd Gl.DUPLEX_CONFIG) (erase Gl.DUPLEX_CONFIG s.net.frozen)
  let s := { s with net := { s.net with frozen := f, nmt := if s.rdb Gl.AUTO_OPERATIONAL ∧ inRecoveryMode s = false then 5 else 127 } }
  if inRecoveryMode s then s else s.send .bootUp

/-- What the part and its straps give (R2, R4, R418, R492, R523). -/
def State.bootPart (s : State) : State :=
  let s := if s.part.d8 then ((s.wr Gl.DOORWAYS_PRESENT 8).wr Gl.AXES_PRESENT 24).wr Gl.PRODUCT_CODE 0x0D080001
    else ((s.wr Gl.DOORWAYS_PRESENT 16).wr Gl.AXES_PRESENT 48).wr Gl.PRODUCT_CODE 0x0D160001
  let s := s.wrn Gl.DOORWAYS_CONFIGURED s.doorwaysConfigured
  let w := s.rdn Gl.WAKE_ADDRESS_SET
  let s := s.wrn Gl.WAKE_ADDRESS (if w = 0 then 0x58 + s.rdn Gl.WADDR else w)
  s.wr Gl.ROLE (b2i (s.bit Gl.STRAPS 0))

/-- ANGLE_STATE at power-up (R141): a stepper with an incremental encoder starts without an angle; its first frame tells whether it has
commutation sensors. DEDUCED: log entry 41. -/
def powerUpAngle (s : State) (a : Nat) : Int :=
  if s.rdn (Ax.ENCODER_TYPE a) = 2 then (if s.rdn (Ax.COMMUTATION_OFFSET a) ≠ 0 then 2 else 0)
  else if s.rdn (Ax.MOTOR_TYPE a) = 1 then 0 else 1

/-- B4: learned data, and what each axis starts with (R137, R141, R206). -/
def State.bootAxes (s : State) : State :=
  let s := s.leafCommits.foldl (fun (s : State) (x : Nat × LeafCommit) =>
    let a := x.1
    let s := (s.wr (Ax.ENV_STATE_CLOSE a) x.2.stateClose).wr (Ax.ENV_STATE_OPEN a) x.2.stateOpen
    let s := (s.wr (Ax.ENV_CYCLES_CLOSE a) x.2.cyclesClose).wr (Ax.ENV_CYCLES_OPEN a) x.2.cyclesOpen
    s.wr (Ax.ENV_OFFSET a) (divRound x.2.leaf.offset 256)) s
  let s := s.sensors.foldl (fun (s : State) (x : Nat × Sensor) =>
    (s.wr (Sn.BG_STATE x.1) (if x.2.failed then 3 else 2)).wrn (Sn.BG_VALID_PIXELS x.1) (x.2.bg.filter (fun p => p.isSome)).length) s
  -- KI_I is formed from the values that the boot gives (R133)
  (List.range (3 * s.doorways)).foldl (fun (s : State) a =>
    (s.setAxis a { s.axis a with gainRes := 0 }).wr (Ax.ANGLE_STATE a) (powerUpAngle s a)) s

/-- B6: the fail-safe states go to a field die at once (R402). -/
def State.loadDie (s : State) (die : Nat) : State :=
  let s := s.setDie die { s.die die with fedAt := some s.now, wd := s.rdn Gl.FIELD_WD_TIMEOUT, loaded := true }
  ((List.range 24).filter (fun q => dieOfChan q == die)).foldl (fun (s : State) q =>
    s.modChan q (fun x => { x with safeState := s.rdn (Ou.FAILSAFE q) })) s

/-- Envelopes that were committed under other motor or encoder data than the boot finds are reset (R204). -/
def State.bootEnvelopes (s : State) : State :=
  s.leafCommits.foldl (fun (s : State) (x : Nat × LeafCommit) =>
    if x.2.motor = motorData s x.1 then s else s.resetEnvelopes x.1 1 true true) s

/-- Counts and events of a boot (R455, R496, R500, R533, R536). -/
def State.bootEvents (s : State) (causes : Nat) : State :=
  let s := if causes.testBit 2 || causes.testBit 3 || causes.testBit 4 then s.latch Gl.POWER_STATUS 10 (Gl.POWER_REPEATS 2) else s
  let s := s.raiseHeld.raise 0x3081 0xFF causes
  let s := if causes.testBit 5 then s.raise 0x1082 0xFF causes else s
  match s.rdn Gl.BOOT_MODE with
  | 0 => s.bootEnvelopes
  | 3 => s.raise 0x0083 0xFF 3
  | m => s.raise 0x1084 0xFF m

/-- BOOT_TIME_DICT and BOOT_TIME_DOORS: free within the worst case of R531. DESIGN CHOICE: log entry 157. -/
def State.bootTimes (s : State) : State :=
  let (a, s) := s.fresh
  let (b, s) := s.fresh
  let t := a % 250001
  let s := s.wrn Gl.BOOT_TIME_DICT t
  if s.rdn Gl.BOOT_MODE = 0 then s.wrn Gl.BOOT_TIME_DOORS (t + b % (400001 - t)) else s.wr Gl.BOOT_TIME_DOORS 0

/-- B0 to B3: causes, images, identity, the safety channels. -/
def State.bootEarly (s : State) (appOk safetyOk : List Bool) : State :=
  let causes := s.power.causes
  let s := { s with power := { s.power with causes := 0, bootedAt := some s.now, resetAt := none }, answer := none }
  let s := s.wrn Gl.RESET_CAUSE causes
  let s := if causes = 512 then s else s.count Gl.RESETS
  let s := if causes.testBit 5 then s.count Gl.WATCHDOG_RESETS else s
  let s := (s.bootImages appOk safetyOk).bootPart
  let s := { s with eff := s.dict }
  let s := (List.range 48).foldl (fun (s : State) a => s.enforce (Ax.AXIS_MODE a) 0) s
  let s := s.judgeSet
  -- the field dies follow again once their frames have come for 20 ms (R265)
  { s with safety := { s.safety with inReset := false, aliveAtA := some s.now, aliveAtB := some s.now } }

/-- BOOT (R531): once every reset has ended (R526). `bad` lists the records of the recorder that fail their check (R457). -/
def execBoot (images : BootImages) (bad : List Nat) (s : State) : Host.Outcome State Fault Refusal :=
  done s (if s.power.phase ≠ .reset ∨ s.power.brown then s else
    let causes := s.power.causes
    let s := (s.bootEarly images.app images.safety).bootRollback.bootNetwork.deriveMode
    let s := s.wr Gl.PARTNER_STATE (if isPair s then 1 else 0)
    let s := s.bootAxes
    let s := if s.rdn Gl.BOOT_MODE = 0 then (s.loadDie 0).loadDie 1 else s
    let s := { s with power := { s.power with phase := .run } }.bootTimes
    let s := s.setB Gl.RECORDER_STATUS 0 (decide (16384 ≤ s.rdn Gl.FIRST_LOG_COUNT))
    let s := ((((bad.foldl State.repairRecord s).bootEvents causes).wrn Gl.CONFIG_DIGEST (configDigest s)).commitNv).showDuplex
    -- a single unit claims the token as its boot completes (R319)
    if isPair s = false ∧ fit s then (s.count Gl.STAG_CLAIMS).claim 0 else s)

end Sys2Proof.Machine
end

