-- ==== Sys2Proof/Machine/Dict.lean ====
section
/-!
DEFINITION. Every writable entry of the dictionary with what its own rule checks (R439, steps 6 and 7) and does, and the
commands that are plain writes of entries. Checks look at the values as they read back (R437), not at those in force.
-/
namespace Sys2Proof.Machine

/-- The abort code of the first condition that holds, in the order of R439. -/
def firstOf : List (Bool × Nat) → Option Nat
  | [] => none
  | (c, ab) :: r => if c then some ab else firstOf r

/-- An effect behind checks of its own. -/
def checked (l : Int → State → List (Bool × Nat)) (e : Effect) : Effect := fun n s =>
  match firstOf (l n s) with
  | some ab => .error ab
  | none => e n s

/-! ### Status words: latched bits, and the bits that are not reserved (R9, R10) -/

/-- Clear the bits of `latched` that the value names; a value with a bit outside `allowed` is refused. -/
def statusEffect (index sub : Nat) (latched : List Nat) (allowed : Nat) : Effect := fun n s =>
  if n.toNat &&& allowed ≠ n.toNat then .error abValue
  else .ok (latched.foldl (fun (s : State) i => if bitOf n i then s.clearFlag (key index sub) i else s) s)

/-! ### Single assignments of field inputs (R371, R373) -/

/-- Codes of every single assignment: request, limit, edge and STEP/DIR entries. -/
def singleCodes (s : State) : List Nat :=
  (List.range s.doorways).flatMap (fun d => [s.rdn (Dr.REQUEST_INPUT_INSIDE d), s.rdn (Dr.REQUEST_INPUT_OUTSIDE d)])
    ++ (List.range (3 * s.doorways)).flatMap (fun a => [s.rdn (Ax.LIMIT_INPUT_OPEN a), s.rdn (Ax.LIMIT_INPUT_CLOSE a), s.rdn (Gl.EDGE_INPUT a)])
    ++ (List.range 8).map (fun i => s.rdn (Gl.STEP_DIR_INPUTS i))

/-- Input n is assigned singly. -/
def assignedSingly (s : State) (n : Nat) : Bool := (singleCodes s).contains (0x40 + n)

/-- Input n belongs to an enabled pair or is a line reference. -/
def taken (s : State) (n : Nat) : Bool :=
  s.rdn (Gl.PAIR_MODE (pairOf n)) != 0 || s.rdn Gl.LINE_REF_A == 0x40 + n || s.rdn Gl.LINE_REF_B == 0x40 + n

/-- A code that would assign a taken input singly. DEDUCED: log entry 104. -/
def badSingle (n : Int) (s : State) : Bool := decide (0x40 ≤ n) && decide (n < 0x70) && taken s (n.toNat - 0x40)

/-- Line classes in use beside input `skipIn` and pair `skipPair` (R366). -/
def lineClasses (s : State) (skipIn skipPair : Nat) : List Nat :=
  (((List.range 48).filter (fun n => n != skipIn)).map (fun n => s.rdn (In.INPUT_CLASS n))
    ++ ((List.range 24).filter (fun p => p != skipPair)).map (fun p => s.rdn (Gl.PAIR_CLASS p))).filter (fun c => decide (2 ≤ c))

/-- A line class that would mix with another. DEDUCED: log entry 105. -/
def mixes (s : State) (skipIn skipPair : Nat) (c : Int) : Bool := decide (2 ≤ c) && (lineClasses s skipIn skipPair).any (fun x => (x : Int) != c)

/-- The line reference of a die is not named. -/
def noRef (s : State) (die : Nat) : Bool := s.rdn (if die = 0 then Gl.LINE_REF_A else Gl.LINE_REF_B) == 0xFF

/-! ### Doorway entries (R61, R62, R64, R77, R117, R223, R230, R401) -/

/-- Coil m is named by a LOCK_OUTPUT, as the entries read. -/
def lockNames (s : State) (m : Nat) : Bool := (List.range s.doorways).any (fun d => s.rdn (Dr.LOCK_OUTPUT d) == m)

/-- The smallest FORCE_LIMIT of a doorway's leaves is not above a value. -/
def forceAbove (s : State) (d : Nat) (n : Int) : Bool := (leavesOf s d).any (fun a => decide (s.rd (Gl.FORCE_LIMIT a) ≤ n))

/-- DEDUCED: log entry 131. -/
def doorMoves (s : State) (d : Nat) : Bool := [3, 5, 6].contains (doorState s d)

/-- B+0x00: the doorway's configuration. -/
def doorConfig (d sub : Nat) (n : Int) (s : State) : List (Bool × Nat) :=
  let lock := s.rdn (Dr.LOCK_OUTPUT d)
  match sub with
  | 3 | 4 => [(doorMoves s d, abState)]
  | 5 => [(n == 2 && s.rdn (Dr.AUTO_CLOSE_TIME d) == 0, abValue)]
  | 6 => [(n != 0 && lock == 0xFF, abValue), (doorMoves s d, abState)]
  | 7 => [(n == 0xFF && s.rdn (Dr.LOCK_TYPE d) != 0, abValue),
      (decide (n ≤ 7) && s.rdn (Ou.FAILSAFE (16 + n.toNat)) != 0, abValue), (doorMoves s d, abState)]
  | 8 | 9 => [(badSingle n s, abValue)]
  | _ => []

/-- An entry of doorway d, at offset `off` of its block. -/
def doorEffect (d off sub : Nat) (plain : Effect) : Effect :=
  match off, sub with
  | 0, _ => checked (doorConfig d sub) plain
  | 1, 1 => commandEffect d
  | 1, 3 => statusEffect (0x3001 + 0x40 * d) 3 [19, 20, 21, 22] 0x7FFFFF
  | 2, 5 => checked (fun n s => [(n == 0 && s.rdn (Dr.REQUEST_MODE d) == 2, abValue)]) plain
  | 4, 1 => learnEffect d
  | 4, 4 => checked (fun n s => [(forceAbove s d n, abHigh)]) plain
  | 6, 1 => tableFormEffect d
  | 7, 9 => checked (fun n s => [(forceAbove s d n, abHigh), ([5, 6].contains (doorState s d), abState)]) plain
  | 7, _ => checked (fun _ s => [([5, 6].contains (doorState s d), abState)]) plain
  | 8, 9 => statusEffect (0x3008 + 0x40 * d) 9 [8] 0x13F
  | 9, 3 => statusEffect (0x3009 + 0x40 * d) 3 [8, 9] 0x31F
  | _, _ => plain

/-! ### Axis entries (R86, R98, R107, R115, R134, R144, R149, R229, R288) -/

/-- Cap n of direction table `off`, with sub-index `sub` replaced: active with LO not below HI. DEDUCED: log entry 133. -/
def capBad (a off sub : Nat) (n : Int) (s : State) : Bool :=
  let c := (sub - 1) / 3 * 3
  let g := fun (i : Nat) => if sub = c + i then n else s.rd (key (0x3400 + 0x10 * a + off) (c + i))
  g 3 != 0 && decide (g 2 ≤ g 1)

/-- Half an electrical revolution is more than 2000 µm (R141), with one of its entries replaced. -/
def halfTurnLong (travel pairs : Int) : Bool := decide (4000000 * max pairs 1 < travel)

/-- A stepper with an incremental encoder and no commutation sensors that cannot align itself (R141). DEDUCED: log entry 41. -/
def alignBad (a off sub : Nat) (n : Int) (s : State) : Bool :=
  let g := fun (o i k : Nat) => if off = o ∧ sub = i then n else s.rd k
  (s.axis a).comm == 0 && g 7 1 (Ax.MOTOR_TYPE a) == 1 && g 10 1 (Ax.ENCODER_TYPE a) == 1 && halfTurnLong (g 7 3 (Ax.TRAVEL_PER_REV a)) (g 7 2 (Ax.POLE_PAIRS a))

/-- The own checks of an axis entry. -/
def axisChecks (a off sub : Nat) (n : Int) (s : State) : List (Bool × Nat) :=
  match off, sub with
  | 0, 1 => [(decide (s.rd (Gl.SAFE_SPEED_LIMIT a) < n), abHigh)]
  | 0, 6 => [(decide (s.rd (Gl.SAFE_SPEED_LIMIT a) < n) || decide (s.rd (Ax.MAX_SPEED a) < n), abHigh)]
  | 1, 10 | 1, 11 => [(badSingle n s, abValue)]
  | 2, _ | 3, _ => [(capBad a off sub n s || (sub % 3 == 0 && decide (s.rd (Ax.MAX_SPEED a) < n)), abValue), (axisInMove s a, abState)]
  | 4, 3 => [(n == 1 && roleOf a == 2, abValue)]
  | 4, 4 => [(iFull s a != 0 && decide (95 * (iFull s a : Int) < 100 * n), abHigh)]
  | 8, 10 => [(iFull s a != 0 && decide ((iFull s a : Int) < n), abHigh)]
  | 7, 1 | 7, 2 | 7, 3 | 10, 1 => [(alignBad a off sub n s, abValue)]
  | 12, _ => [(roleOf a == 2, abState)]
  | _, _ => []

/-- The entries of R144: their change takes effect at the next door tick (`State.motorsTick`). DEDUCED: log entry 53. -/
def motorEntry (off sub : Nat) : Bool := (off == 7 && decide (1 ≤ sub) && decide (sub ≤ 3)) || (off == 10 && decide (1 ≤ sub) && decide (sub ≤ 3))

/-- An axis entry: its checks, R144's and the safety set's state, and what its change does. -/
def axisEffect (index sub a off : Nat) (plain : Effect) : Effect := fun n s =>
  let k := key index sub
  let change := s.rd k != n
  let motor := motorEntry off sub && change
  match firstOf (axisChecks a off sub n s ++ [(motor && !allSto s (doorOf a), abState), (isMember s k && !s.rdb Gl.WRITE_ENABLE, abState)]) with
  | some ab => .error ab
  | none => match plain n s with
    | .error ab => .error ab
    | .ok s' =>
      let s' := if motor then s'.setAxis a { s'.axis a with motorNew := true }
        else if change && ((off == 7 && sub == 4) || (off == 9 && sub == 5)) && isLeaf s' a then s'.resetEnvelopes a 1 true true else s'
      .ok (if isMember s k then s'.invalidate.refreshCheck else s')

/-- An entry of axis a, at offset `off` of its block. -/
def axisEntry (a off index sub : Nat) (plain : Effect) : Effect :=
  match off, sub with
  | 5, 1 => axisModeEffect a
  | 5, 4 => jogEffect a
  | 6, 1 => statusEffect index sub [8, 9, 10, 11] 0xFFF
  | 10, 8 => angleEffect a
  | 11, 1 => statusEffect index sub [5, 6, 7, 8] 0x1FF
  | _, _ => axisEffect index sub a off plain

/-! ### The safety set (R223, R233, R235, R277, R290, R305, R366, R371) -/

def contactCodeOk (n : Int) : Bool := decide (n ≤ 7) || (decide (0x80 ≤ n) && decide (n ≤ 0x97)) || n == 0xFF

/-- A connection entry, with sub-index `sub` replaced by n. -/
def connWith (s : State) (c sub : Nat) (n : Int) (i : Nat) : Int := if sub = i then n else s.rd (key (0x5060 + c) i)

/-- Other enabled connections. -/
def otherConns (s : State) (c : Nat) : List Nat := (List.range 32).filter (fun i => i != c && s.rdb (Ns.CONN_ENABLE i))

/-- R305: the writes of a connection that are refused. DEDUCED: log entry 132. -/
def connChecks (c sub : Nat) (n : Int) (s : State) : List (Bool × Nat) :=
  let g := connWith s c sub n
  let on := g 1 == 1
  let enabling := sub == 1 && n == 1
  let named := s.rdn Gl.CAB_CONNECTION == c || s.rdn Gl.SUMMARY_CONNECTION == c
  let sameId := (otherConns s c).any (fun i => s.rdn (Ns.DIRECTION i) == 0 && s.rd (Ns.IDENTITY i) == g 3)
  let sameCan := (otherConns s c).any (fun i => s.rd (Ns.CAN_ID i) == g 5 && (s.rdn (Ns.PORTS i) &&& (g 4).toNat) % 4 != 0)
  [(on && g 3 == 0 && (sub == 3 || enabling), abValue),
   (sameId && g 3 != 0 && (sub == 3 || enabling), abValue),
   (sameCan && (sub == 5 || sub == 4 || enabling), abValue),
   (enabling && g 4 == 0, abValue),
   (sub == 5 && (decide (n < 1) || decide (0x7F < n)), abValue),
   (named && ((sub == 1 && n == 0 && s.rdb (Ns.CONN_ENABLE c)) || (sub == 2 && n != s.rd (Ns.DIRECTION c))), abState)]

/-- A connection is an enabled consumer (0) or producer (1), as the entries read. -/
def connIs (s : State) (c : Int) (dir : Int) : Bool :=
  c == 0xFF || (s.rdb (Ns.CONN_ENABLE c.toNat) && s.rd (Ns.DIRECTION c.toNat) == dir)

/-- A field-input pair entry (R366, R371, R380). -/
def pairChecks (index p : Nat) (n : Int) (s : State) : List (Bool × Nat) :=
  match index with
  | 0x5014 => [(n != 0 && (assignedSingly s p || assignedSingly s (p + 24)), abValue)]
  | 0x5017 => [(mixes s 48 p n || (decide (2 ≤ n) && (noRef s 0 || noRef s 1 || s.rdb (Gl.PAIR_WIRE_BREAK p))), abValue)]
  | 0x5019 => [(n == 1 && decide (2 ≤ s.rdn (Gl.PAIR_CLASS p)), abValue)]
  | _ => []

/-- A depth sensor's box (R233): a write that would leave a HI value below its LO value. -/
def boxBad (index sub : Nat) (n : Int) (s : State) : Bool :=
  let g := fun (i : Nat) => if sub = i then n else s.rd (key index i)
  decide (g 3 < g 2) || decide (g 5 < g 4)

/-- The own checks of a member of 0x5003 to 0x50FF. -/
def setChecks (index sub : Nat) (n : Int) (s : State) : List (Bool × Nat) :=
  if index = 0x5011 then
    (if sub = 4 then [(!connIs s n 0, abValue)] else if sub = 5 then [(!connIs s n 1, abValue)] else [])
  else if index = 0x5018 then [(n != 0xFF && assignedSingly s (n.toNat - 0x40), abValue)]
  else if 0x5014 ≤ index ∧ index ≤ 0x5019 then pairChecks index (sub - 1) n s
  else if index = 0x5020 then [(roleOf (sub - 1) != 2 && decide (n ≤ s.rd (Dr.FINAL_FORCE (doorOf (sub - 1)))), abLow)]
  else if index = 0x5022 then [(badSingle n s, abValue)]
  else if index = 0x5024 then [(decide (n < s.rd (Ax.MAX_SPEED (sub - 1))) || decide (n < s.rd (Ax.CREEP_SPEED (sub - 1))), abLow)]
  else if 0x5030 ≤ index ∧ index < 0x5050 then (if 2 ≤ sub ∧ sub ≤ 5 then [(boxBad index sub n s, abValue)] else [])
  else if 0x5050 ≤ index ∧ index < 0x5060 then
    (if 1 ≤ sub ∧ sub ≤ 7 then
      [(!contactCodeOk n || (n != 0xFF && (List.range 7).any (fun i => i + 1 != sub && s.rd (key index (i + 1)) == n)), abValue)]
    else [])
  else if 0x5060 ≤ index ∧ index < 0x5080 then connChecks (index - 0x5060) sub n s
  else []

/-- A member of the set: its own checks, WRITE_ENABLE, and the invalidation (R13, R290, R292). -/
def memberEffect (index sub : Nat) : Effect := fun n s =>
  let ls := setChecks index sub n s
  match firstOf (ls.filter (fun x => x.2 != abState) ++ (!s.rdb Gl.WRITE_ENABLE, abState) :: ls.filter (fun x => x.2 == abState)) with
  | some ab => .error ab
  | none => .ok (s.wr (key index sub) n).invalidate.refreshCheck

/-! ### Inputs and outputs (R360, R363, R366, R371, R373, R384 to R388, R392, R401, R405, R408, R409) -/

/-- Input m is named in a STEP/DIR assignment (R361). -/
def stepDirNames (s : State) (m : Nat) : Bool := (List.range 8).any (fun i => s.rdn (Gl.STEP_DIR_INPUTS i) == 0x40 + m)

/-- N:01 to N:04 of input m. -/
def inputChecks (m sub : Nat) (n : Int) (s : State) : List (Bool × Nat) :=
  [(sub == 1 && (mixes s m 24 n || (decide (2 ≤ n) && noRef s (dieOf m))), abValue),
   (sub == 4 && n == 1 && decide (2 ≤ s.rdn (In.INPUT_CLASS m)), abValue),
   (taken s m || (sub == 3 && n != 1 && stepDirNames s m), abState)]

/-- A STEP/DIR assignment. -/
def stepDirBad (n : Int) (s : State) : Bool :=
  n != 0xFF && (badSingle n s || s.rdn (In.FILTER (n.toNat - 0x40)) != 1 || decide (2 ≤ s.rdn (In.INPUT_CLASS (n.toNat - 0x40))))

/-- The retry budget of a lamp, in ms (R392). -/
def lampBudget (limit : Nat) : Nat := (List.range (limit - 1)).foldl (fun t c => t + min (10 * 2 ^ c) 1280) (20 * limit)

/-- A LAMP_SPARE that is refused (R409). -/
def spareBad (q : Nat) (n : Int) (s : State) : Bool :=
  let j := n.toNat
  n != 0xFF && (j == q || s.rdn (Ou.LAMP_SPARE j) != 0xFF || (List.range 16).any (fun p => p != q && s.rdn (Ou.LAMP_SPARE p) == j)
    || s.rdb (Ou.PARALLEL j) != s.rdb (Ou.PARALLEL q))

/-- The checks of a channel entry. -/
def outChecks (q sub : Nat) (n : Int) (s : State) : List (Bool × Nat) :=
  let named := decide (16 ≤ q) && lockNames s (q - 16)
  match sub with
  | 1 => [(named, abState)]
  | 2 => [(named || s.rdn (Ou.SOURCE q) == 1, abState)]
  | 3 => [(n == 2 && s.rdn (Ou.PG_SELECT q) == 0xFF, abValue)]
  | 4 => [(n == 0xFF && s.rdn (Ou.ON_STATE q) == 2, abValue)]
  | 9 => [(n != 0 && (named || s.rdb (Ou.PARALLEL q)), abValue)]
  | 11 => [(isLamp q && decide (s.rdn (Ou.LAMP_FAIL_TIME q) ≤ lampBudget n.toNat), abHigh)]
  | 0x23 => [(spareBad q n s, abValue)]
  | 0x24 => [(decide (n ≤ (lampBudget (s.rdn (Ou.RETRY_LIMIT q)) : Int)), abLow)]
  | _ => []

/-- An entry of channel q. -/
def outEffect (q index sub : Nat) (plain : Effect) : Effect :=
  if sub = 15 then statusEffect index sub [16, 17, 18, 19] 0x1F0F1F7F
  else if sub = 0x17 then faultClearEffect q
  else if isLamp q ∧ sub = 0x22 then lampLearnEffect q
  else checked (outChecks q sub) (fun n s => match plain n s with
    | .error ab => .error ab
    | .ok s' => .ok (if isLamp q ∧ sub = 0x20 then s'.modChan q (fun x => { x with notLearned := false }) else s'))

/-- Bounds of PERIOD in a MODE (R388). -/
def pgBounds (mode : Int) : Int × Int := if mode = 1 then (100000, 2000000) else if mode = 2 then (500, 5000) else (0, 2 ^ 32 - 1)

/-- A pulse-generator entry. -/
def pgChecks (g sub : Nat) (n : Int) (s : State) : List (Bool × Nat) :=
  let b := pgBounds (if sub = 1 then n else s.rd (Pg.PG_MODE g))
  let p := if sub = 2 then n else s.rd (Pg.PG_PERIOD g)
  if sub = 1 ∨ sub = 2 then [(decide (b.2 < p), abHigh), (decide (p < b.1), abLow)] else []

/-! ### Network entries (R36, R414, R417 to R419, R421, R440, R441) -/

/-- Whether a port is on, with the ENABLE of port `x` replaced (0, 1 Ethernet; 2, 3 CAN). -/
def portWould (s : State) (x : Nat) (n : Int) (p : Nat) : Bool :=
  let e := if x = p then n else s.rd (if p < 2 then Et.ENABLE p else Cb.ENABLE (p - 2))
  if e = 2 then (if p < 2 then s.bit Gl.STRAPS 5 else !s.bit Gl.STRAPS 5) else e == 1

def allOff (s : State) (x : Nat) (n : Int) : Bool := (List.range 4).all (fun p => !portWould s x n p)

/-- A contiguous mask of /8 to /30. -/
def maskOk (n : Int) : Bool := (List.range 23).any (fun i => n == 2 ^ 32 - 2 ^ (24 - i))

def topOctet (n : Int) : Nat := n.toNat / 2 ^ 24

/-- An entry of Ethernet port p. DEDUCED: log entry 123. -/
def ethChecks (p sub : Nat) (n : Int) (s : State) : List (Bool × Nat) :=
  match sub with
  | 1 => [(allOff s p n, abValue)]
  | 2 => [(n != 0 && (topOctet n == 0 || decide (224 ≤ topOctet n)), abValue)]
  | 3 => [(!maskOk n, abValue)]
  | 7 => [(n != 0 && (topOctet n == 0 || decide (240 ≤ topOctet n)), abValue)]
  | _ => [(decide (8 ≤ sub) && decide (sub ≤ 15) && n != 0
      && (List.range 8).any (fun i => 8 + i != sub && s.rd (key (0x2410 + p) (8 + i)) == n), abValue)]

/-- Identifiers that other services of the device use (R417). -/
def usedIds (s : State) : List Nat :=
  let id := s.rdn Gl.NODE_ID
  [s.rdn Gl.COB_ID_SYNC % 2048, 0x80 + id, 0x580 + id, 0x600 + id, 0x700 + id]
    ++ (List.range 4).filterMap (fun i => let e := s.rdn (Gl.CONSUMER_HEARTBEAT i); if e = 0 then none else some (0x700 + e / 65536 % 128))
    ++ (List.range 16).flatMap (fun n => [0x1400, 0x1800].filterMap (fun b =>
      let c := s.rdn (key (b + n) 1); if c.testBit 31 then none else some (c % 2048)))

/-- An entry of CAN port p. DEDUCED: log entry 124. -/
def canChecks (p sub : Nat) (n : Int) (s : State) : List (Bool × Nat) :=
  match sub with
  | 1 => [(allOff s (2 + p) n, abValue)]
  | 3 | 4 => [(decide (n < 0x100) || decide (0x7FF < n) || (usedIds s).contains n.toNat
      || s.rd (if sub = 3 then Cb.BULK_TX_ID p else Cb.BULK_RX_ID p) == n, abValue)]
  | _ => []

/-- Entries that an RPDO may write (R421). -/
def rpdoMappable (index sub : Nat) : Bool :=
  (index == 0x2010 && sub == 1) || (decide (0x3000 ≤ index) && decide (index < 0x3400) && index % 0x40 == 1 && sub == 1)
    || ((decide (0x4110 ≤ index) && decide (index < 0x4120) || decide (0x4210 ≤ index) && decide (index < 0x4218)) && sub == 2)
    || (decide (0x3400 ≤ index) && decide (index < 0x3700) && index % 0x10 == 5 && sub == 4)

/-- Entries that a TPDO may carry (R421): ro or rw, of 32 bits or fewer. -/
def tpdoMappable (r : Row) : Bool := (r.acc == .ro || r.acc == .rw) && decide (1 ≤ r.ty.size) && decide (r.ty.size ≤ 4)

/-- A mapping value: index in [31:16], sub-index in [15:8], bits in [7:0]. DEDUCED: log entry 114. -/
def mapOk (rx : Bool) (n : Nat) (s : State) : Bool := match exists_ (n / 65536) (n / 256 % 256) s with
  | .ok r => decide (n % 256 = 8 * r.ty.size) && (if rx then rpdoMappable (n / 65536) (n / 256 % 256) else tpdoMappable r)
  | .error _ => false

/-- Mapped bits of the first `count` entries of a mapping. -/
def mapBits (index count : Nat) (s : State) : Nat := (List.range count).foldl (fun t i => t + s.rdn (key index (i + 1)) % 256) 0

/-- A PDO record entry: communication at 0x1400 and 0x1800, mapping at 0x1600 and 0x1A00. PRESUMED: log entry 113. -/
def pdoChecks (index sub : Nat) (n : Int) (s : State) : List (Bool × Nat) :=
  let rx := decide (index < 0x1800)
  let mapping := decide (0x200 ≤ index % 0x400)
  let comm := key (if mapping then index - 0x200 else index) 1
  let valid := !s.bit comm 31
  let stays := !bitOf n 31
  if mapping then
    if sub = 0 then
      [((List.range (min n.toNat 8)).any (fun i => !mapOk rx (s.rdn (key index (i + 1))) s), abMap),
       (decide (8 < n) || decide (64 < mapBits index n.toNat s), abMapLong), (valid, abState)]
    else [(!mapOk rx n.toNat s, abMap), (valid || s.rdn (key index 0) != 0, abState)]
  else if sub = 1 then
    [(n.toNat / 2048 % 2 ^ 19 != 0 || (stays && (decide (n % 2048 < 0x180) || decide (0x57F < n % 2048))), abValue),
     (valid && stays && n % 2 ^ 30 != s.rd comm % 2 ^ 30, abState)]
  else if sub = 3 then [(valid && n != s.rd (key index 3), abState)]
  else []

/-- COUNTERS_CLEAR of the network (R441). -/
def networkClearEffect : Effect := fun n s =>
  .ok (if n = 0 then s else
    let s := [0, 1].foldl (fun (s : State) p =>
      [Et.RX_FRAMES p, Et.RX_DISCARDS p, Et.TX_FRAMES p, Cb.RX_FRAMES p, Cb.RX_DISCARDS p, Cb.BULK_DISCARDS p].foldl (fun (s : State) k => s.wr k 0) s) s
    ((s.wr Gl.DM_FORMAT_ERRORS 0).wr Gl.DM_RETRIES_ANSWERED 0).wr Gl.SEGMENTED_WRITES_DISCARDED 0)

/-- An entry of 0x1000 to 0x1FFF. DEDUCED: log entry 115. -/
def commEffect (index sub : Nat) (plain : Effect) : Effect :=
  if index = 0x1005 then checked (fun n _ => [(n.toNat / 2048 != 0, abValue)]) plain
  else if index = 0x1011 then
    (if sub = 1 then checked (fun n _ => [(n != 0x64616F6C, abValue)]) (fun _ s => .ok { s with power := { s.power with restore := true } })
    else checked (fun n s => [(n != 0x64616F6C, abValue), (!s.rdb Gl.WRITE_ENABLE, abState)])
      (fun _ s => .ok { s with power := { s.power with restoreSafety := true } }.invalidate))
  else if 0x1400 ≤ index then checked (pdoChecks index sub) plain
  else plain

/-- An entry of 0x2400 to 0x24FF. -/
def netEffect (index sub : Nat) (plain : Effect) : Effect :=
  if index = 0x2400 ∧ sub = 4 then checked (fun n s => [(decide (104 < n + s.rd Gl.C3_CAP), abHigh)]) plain
  else if index = 0x2400 ∧ sub = 5 then checked (fun n s => [(decide (104 < n + s.rd Gl.C1_RESERVED), abHigh)]) plain
  else if index = 0x2410 ∨ index = 0x2411 then checked (ethChecks (index - 0x2410) sub) plain
  else if index = 0x2420 ∨ index = 0x2421 then checked (canChecks (index - 0x2420) sub) plain
  else if index = 0x2430 ∧ sub = 7 then networkClearEffect
  else plain

/-! ### Power, firmware, security, duplex, recorder -/

/-- RTC_TIME: the second starts anew, and the holder tells its partner (R349). -/
def rtcEffect : Effect := fun n s =>
  let s := { s.wr Gl.RTC_TIME n with power := { s.power with rtcPart := 0 } }
  .ok (if s.holds then s.mirrorSend 9 (leBytes 4 n.toNat) else s)

/-- An entry of 0x2000 to 0x23FF. -/
def carEntry (via : Via) (index sub : Nat) (plain : Effect) : Effect :=
  match index, sub with
  | 0x2010, 1 => carEffect
  | 0x2100, 2 => powerEffect
  | 0x2100, 10 => statusEffect index sub [8, 9, 10, 11] 0xF0F
  | 0x2103, 1 => rtcEffect
  | 0x2103, 2 => checked (fun n s => [(n != 0 && decide (n ≤ s.rd Gl.RTC_TIME), abLow)]) plain
  | 0x2201, 1 => checked (fun _ s => [(fwBusy s, abState)]) plain
  | 0x2201, 4 => fwActivateEffect
  | 0x2201, 5 => fwConfirmEffect
  | 0x2204, 6 => deviceResetEffect
  | 0x2300, 3 => unlockEffect
  | 0x2300, 5 => statusEffect index sub [8, 9] 0x30F
  | 0x2319, 2 => cosignPolicyEffect
  | 0x2320, 5 => closeEffect via
  | _, _ => plain

/-- An entry of 0x2500 to 0x2FFF. -/
def ecEntry (index sub : Nat) (plain : Effect) : Effect :=
  if index < 0x2520 then
    (if 1 ≤ sub ∧ sub ≤ 4 then ecEffect (index - 0x2500) sub else if sub = 7 then ecResetEffect (index - 0x2500) else plain)
  else if index = 0x2600 ∧ sub = 7 then stagEffect
  else if index = 0x2600 ∧ sub = 8 then statusEffect index sub [8, 9, 10, 11] 0x3FFF
  else if index = 0x2601 ∧ sub = 10 then partnerClearEffect
  else plain

/-- An entry of 0x3800 to 0x3FFF. -/
def mantisEntry (index sub : Nat) (plain : Effect) : Effect :=
  if 0x3820 ≤ index ∧ index < 0x3840 ∧ sub = 1 then bgEffect (index - 0x3820)
  else if index = 0x3900 ∧ sub = 1 then envSelectEffect
  else if index = 0x3900 ∧ sub = 3 then envCommandEffect
  else if 0x3A00 ≤ index ∧ index % 0x10 = 4 ∧ sub = 1 then statusEffect index sub [8, 9] 0x307
  else if 0x3A00 ≤ index ∧ index % 0x10 = 5 ∧ sub = 1 then linkClearEffect ((index - 0x3A00) / 0x10)
  else plain

/-- An entry of 0x4000 to 0x4FFF. -/
def ioEntry (index sub : Nat) (plain : Effect) : Effect :=
  if index = 0x4000 ∧ sub = 3 then statusEffect index sub (List.range 48) (2 ^ 48 - 1)
  else if index = 0x4001 ∧ sub = 3 then statusEffect index sub [8, 9, 10, 11] 0xF3F
  else if 0x4010 ≤ index ∧ index < 0x4040 then checked (inputChecks (index - 0x4010) sub) plain
  else if index = 0x4040 then checked (fun n s => [(stepDirBad n s, abValue)]) plain
  else if 0x4110 ≤ index ∧ index < 0x4120 then outEffect (index - 0x4110) index sub plain
  else if 0x4210 ≤ index ∧ index < 0x4218 then outEffect (16 + (index - 0x4210)) index sub plain
  else if 0x4300 ≤ index ∧ index < 0x4308 then checked (pgChecks (index - 0x4300) sub) plain
  else plain

/-- An entry of 0x5000 to 0x5FFF. -/
def safeEntry (index sub : Nat) (plain : Effect) : Effect :=
  match index, sub with
  | 0x5001, 1 => confirmEffect
  | 0x5002, 1 => writeEnableEffect
  | 0x5102, 4 => soClearEffect
  | 0x5104, 2 => proofEffect
  | 0x5280, 1 => nslClearEffect
  | _, _ => if 0x5003 ≤ index ∧ index < 0x5100 then memberEffect index sub else plain

/-- An entry of 0x6000 to 0x60FF, accessed by a source. -/
def recEntry (src index sub : Nat) (plain : Effect) : Effect :=
  match index, sub with
  | 0x6000, 1 => cursorEffect src
  | 0x6000, 4 => areaEffect src
  | 0x6000, 5 => bulkCountEffect src
  | 0x6002, 1 => clearEffect
  | 0x6003, 6 => statusEffect index sub [8, 9, 10, 11] 0xF03
  | _, _ => if isHistLimit index then histLimitEffect index sub else plain

/-! ### One write of any entry -/

/-- The number of a path's source, for the window contexts (R459): the SDO server counts as one source. -/
def sourceOf (via : Via) : Nat := match via with | .msg m => m.source | _ => 0

/-- Maxima of which only 0 may be written (R26, R43, R77, R412): another value in range is not permitted. DEDUCED: log entry 130. -/
def zeroOnly (index sub : Nat) : Bool :=
  [key 0x2110 4, key 0x2120 5, key 0x2400 2, key 0x4310 3].contains (key index sub)

/-- What an accepted value of a numeric entry does. -/
def effectFor (via : Via) (index sub : Nat) : Effect :=
  let plain : Effect := if zeroOnly index sub then fun n s => if n = 0 then store index sub n s else .error abValue else store index sub
  if index < 0x2000 then commEffect index sub plain
  else if index < 0x2400 then carEntry via index sub plain
  else if index < 0x2500 then netEffect index sub plain
  else if index < 0x3000 then ecEntry index sub plain
  else if index < 0x3400 then doorEffect ((index - 0x3000) / 0x40) ((index - 0x3000) % 0x40) sub plain
  else if index < 0x3700 then axisEntry ((index - 0x3400) / 0x10) ((index - 0x3400) % 0x10) index sub plain
  else if index < 0x4000 then mantisEntry index sub plain
  else if index < 0x5000 then ioEntry index sub plain
  else if index < 0x6000 then safeEntry index sub plain
  else recEntry (sourceOf via) index sub plain

/-- Levels that an entry's own rule names (R510, R518, R519). -/
def levelsFor (index sub : Nat) : Option (Level → Bool) :=
  if index = 0x2319 then commissionerOnly
  else if index = 0x2300 ∧ sub = 3 then unlockLevels
  else if index = 0x2340 then some (fun l => l == .vendor)
  else none

/-- What a refusal by PDO does beside (R54). -/
def refusedFor (index sub : Nat) : State → State :=
  if 0x3000 ≤ index ∧ index < 0x3400 ∧ index % 0x40 = 1 ∧ sub = 1 then fun s => s.countRefused ((index - 0x3000) / 0x40) else id

/-- What an accepted DOMAIN value does. -/
def bytesEffect (index : Nat) (bs : List ByteN) (s : State) : Except Nat State :=
  if 0x3000 ≤ index ∧ index < 0x3400 then tableCustomEffect ((index - 0x3000) / 0x40) bs s
  else match index with
  | 0x3900 => envDataEffect bs s
  | 0x2318 => anchorEffect bs s
  | 0x2319 => cosignKeyEffect bs s
  | 0x2330 => nonceEffect bs s
  | 0x2340 => rmaEffect bs s
  | _ => .ok s

/-- A handshake message (R507), by the sub-index of 0x2320. -/
def handshakeEffect (src sub : Nat) (bs : List ByteN) (s : State) : Except Nat State :=
  if sub = 1 then credentialEffect src bs s else if sub = 2 then requestEffect src bs s else proofEffectS src bs s

/-- Verdicts that nothing constrains: a plain message does not say what the device found (R512). DESIGN CHOICE: log entry 134. -/
def State.freeVerdict (s : State) : FwVerdict × State :=
  let (v, s) := s.fresh
  ({ vendorSigOk := v.testBit 0, cosigOk := v.testBit 1, digestOk := v.testBit 2 }, s)

/-- A DOMAIN write. -/
def writeDomain (via : Via) (index sub : Nat) (v : Val) (seg : Option Seg) (s : State) : State :=
  if index = 0x2320 then
    let src := sourceOf via
    let bs := match v with | .bytes bs => bs | .num _ => []
    let s' := writeBytes via index sub v seg none (handshakeEffect src sub) s
    if sub = 4 then s'.judgeProof s src bs else s'
  else writeBytes via index sub v seg (levelsFor index sub) (bytesEffect index) s

/-- A write of any entry (R437): each by its own rule. -/
def writeEntry (via : Via) (index sub : Nat) (v : Val) (seg : Option Seg) (s : State) : State :=
  match rowOf index sub with
  | some r =>
    if r.ty = .domain then writeDomain via index sub v seg s
    else writeSeg via index sub v seg (levelsFor index sub) (refusedFor index sub) (effectFor via index sub) s
  | none => writeSeg via index sub v seg none id (store index sub) s

/-- A segment of a firmware image that came as plain bytes. -/
def writeImage (via : Via) (bs : List ByteN) (seg : Seg) (s : State) : State :=
  if seg.final then
    let (v, s) := s.freeVerdict
    fwImage via seg.offset bs (some v) s
  else fwImage via seg.offset bs none s

/-- A dictionary message of more than 1024 bytes of data (R427). -/
def tooLong (via : Via) (bs : List ByteN) : Bool := match via with
  | .msg _ => decide (1024 < bs.length)
  | _ => false

/-- What a dictionary write does (R437). -/
def dictionaryWrite (via : Via) (index sub : Nat) (v : Val) (seg : Option Seg) (s : State) : State :=
  match v with
  | .bytes bs =>
    if s.running ∧ tooLong via bs then { (s.countRx via).count Gl.DM_FORMAT_ERRORS with answer := none }
    else if index = 0x2201 ∧ sub = 2 then writeImage via bs (seg.getD { offset := 0, final := true }) s
    else (writeEntry via index sub v seg s)
  | .num _ => (writeEntry via index sub v seg s)

/-- DICTIONARY_WRITE (R437). -/
def execDictionaryWrite (via : Via) (index sub : Nat) (v : Val) (seg : Option Seg) (s : State) : Host.Outcome State Fault Refusal :=
  done s (dictionaryWrite via index sub v seg s)

/-! ### Writes with a command of their own -/

/-- SAFETY_SET_WRITE (R290, R292): a write to a member of the set. -/
def execSafetySetWrite (via : Via) (index sub : Nat) (v : Int) (s : State) : Host.Outcome State Fault Refusal :=
  done s (writeSeg via index sub (.num v) none none id (effectFor via index sub) s)

/-- RESTORE_DEFAULTS (R440). -/
def execRestoreDefaults (via : Via) (v : Int) (s : State) : Host.Outcome State Fault Refusal :=
  done s (writeNum via 0x1011 1 (.num v) none id (effectFor via 0x1011 1) s)

/-- RESTORE_SAFETY_DEFAULTS (R440). -/
def execRestoreSafetyDefaults (via : Via) (v : Int) (s : State) : Host.Outcome State Fault Refusal :=
  done s (writeNum via 0x1011 2 (.num v) none id (effectFor via 0x1011 2) s)

/-- Offset and sub-index of the entries of MOTOR_DATA_CHANGE: those of R144, then MOTOR_KT and MOVING_MASS (R204). -/
def motorDataOf (i : Nat) : Option (Nat × Nat) := [(7, 1), (7, 2), (7, 3), (10, 1), (10, 2), (10, 3), (7, 4), (9, 5)][i]?

/-- MOTOR_DATA_CHANGE (R144, R204). -/
def execMotorDataChange (via : Via) (a sub9 : Nat) (v : Int) (s : State) : Host.Outcome State Fault Refusal :=
  done s (match motorDataOf sub9 with
  | some (off, sub) =>
    let index := 0x3400 + 0x10 * a + off
    if a < 48 then writeNum via index sub (.num v) none id (effectFor via index sub) s else s
  | none => s)

/-- NETWORK_COUNTERS_CLEAR (R441). -/
def execNetworkCountersClear (via : Via) (v : Int) (s : State) : Host.Outcome State Fault Refusal :=
  done s (writeNum via 0x2430 7 (.num v) none id networkClearEffect s)

/-- A piece of a mirrored DOMAIN value (R351), and the whole value once its pieces are there up to the short one. DESIGN CHOICE: log entry 100. -/
def State.takePiece (s : State) (k : Nat) (bs : List ByteN) : State × Option (List ByteN) :=
  let got := putD [] (getD [] s.duplex.domRx k) (bs.headD 0) bs
  match got.find? (fun (x : Nat × List ByteN) => decide (x.2.length < 33)) with
  | some e =>
    if (List.range e.1).all (fun j => got.any (fun (x : Nat × List ByteN) => x.1 == j)) then
      ({ s with duplex := { s.duplex with domRx := erase k s.duplex.domRx } },
        some ((List.range (e.1 + 1)).flatMap (fun j => (getD [] got j).drop 1)))
    else ({ s with duplex := { s.duplex with domRx := putD [] s.duplex.domRx k got } }, none)
  | none => ({ s with duplex := { s.duplex with domRx := putD [] s.duplex.domRx k got } }, none)

/-- The holder keeps its own value where the partner wrote the entry without having seen that write (R351). DEDUCED: log entry 219. -/
def keepsOwn (s : State) (k generation : Nat) : Bool :=
  actsHolder s && (match lookup k s.duplex.written with | some w => decide (generation ≤ w.1) | none => false)

/-- MIRROR_CONFIG_WRITE (R351): applied as if written here; a refusal latches CONFIG_UNSYNCED. The holder keeps its own write of
the same door tick. -/
def execMirrorConfigWrite (index sub : Nat) (v : Val) (generation : Nat) (s : State) : Host.Outcome State Fault Refusal :=
  done s (if s.paired = false then s
    else if keepsOwn s (key index sub) generation then s
    else
      let (t, whole) := match v with
        | .bytes bs => if mirrored s (key index sub) then s.takePiece (key index sub) bs else (s, some bs)
        | .num _ => (s, some [])
      let v := match v, whole with | .bytes _, some bs => .bytes bs | v, _ => v
      let t := if whole = none then { t with answer := some 0 }
        else if mirrored s (key index sub) then writeEntry .mirror index sub v none t else { t with answer := some abNoObject }
      let t := t.arrived 3 0
      if t.answer = some 0 then { t.wrn Gl.CONFIG_GENERATION (generation % 2 ^ 32) with answer := s.answer }
      else (({ t with answer := s.answer }.setB Gl.DUPLEX_STATUS 7 false).latch Gl.DUPLEX_STATUS 10 (Gl.DUPLEX_REPEATS 2)).raise 0x3185 0xFF (65536 * index + sub : Nat))

end Sys2Proof.Machine
end

