-- ==== Sys2Proof/Machine/Network.lean ====
section
/-!
DEFINITION. The networks (chapter 13): reading entries, bulk transfer, the CANopen services, Ethernet, and the timers of the
dictionary server and of sessions.
-/
namespace Sys2Proof.Machine

/-! ### Reading an entry (R13, R426, R428, R437) -/

/-- Highest sub-index of an index (R437), or how many instances are present where it lists one per doorway or axis (R3). -/
def highestSub (index : Nat) (s : State) : Nat :=
  ((rowsOf index).filter (fun r => r.hasIndex index)).foldl (fun m r => max m (match r.inst with
    | .doorSub => min r.subHi s.doorways
    | .axisSub => min r.subHi (3 * s.doorways)
    | _ => r.subHi)) 0

/-- The bytes of a text. -/
def textBytes (t : String) : List ByteN := t.toList.map (fun c => c.toNat)

/-- The envelope of a read of the window (R205): as it was at the last door-tick boundary; a read behind offset 0 goes on in the copy
that the read at offset 0 has taken of the same envelope. -/
def envCopy (offset : Nat) (s : State) : EnvView :=
  let (a, closing) := envSelected s
  let new : EnvView := { a, closing, env := envOf (getD {} s.boundary.leavesAt a) closing }
  match s.boundary.envView with
  | some v => if offset ≠ 0 ∧ v.a = a ∧ v.closing = closing then v else new
  | none => new

/-- The envelope window (R205): 256 bins; those of an EMPTY envelope are free. DESIGN CHOICE: log entry 72. -/
def windowBytes (offset : Nat) (s : State) : List ByteN :=
  let e := (envCopy offset s).env
  if e = [] then leBytes 1024 (Config.freeNat s.free)
  else e.flatMap (fun p => leBytes 2 (twos 16 p.1) ++ leBytes 2 (twos 16 p.2))

/-- The target slot's image from an offset (R509); a slot that nothing wrote holds an image that the model does not know: its bytes are
free. DESIGN CHOICE: log entry 135. -/
def imageBytes (offset : Nat) (s : State) : List ByteN :=
  let kind := s.rdn Gl.FW_TARGET
  match slotImage s (targetSlot s kind) with
  | [] => leBytes (min 1024 (slotSize kind - offset)) (Config.freeNat s.free)
  | img => img.drop offset

/-- The bytes of a DOMAIN entry from an offset. -/
def domainBytes (index sub offset : Nat) (s : State) : List ByteN :=
  if index = 0x3900 then (windowBytes offset s).drop offset
  else if index = 0x2201 then imageBytes offset s
  else if index = 0x2301 then (if sub = 1 then Config.deviceCertificate else Config.devicePublicKey).drop offset
  else (s.blob (key index sub)).drop offset

/-- SOURCE of a coil that a LOCK_OUTPUT names reads 2 (R384); a doorway's area shows its type and its side of the safety set (R46);
a step axis has no envelope entries (R229); C1_LATENCY_MAX has a home of its own (R43). -/
def shownValue (index sub : Nat) (s : State) : Int :=
  if 0x4210 ≤ index ∧ index < 0x4218 ∧ sub = 1 ∧ lockNames s (index - 0x4210) then 2
  else if 0x3000 ≤ index ∧ index < 0x3400 ∧ index % 0x40 = 0 ∧ sub = 1 then s.rd (Gl.SET_DOORWAY_TYPE ((index - 0x3000) / 0x40))
  else if 0x3000 ≤ index ∧ index < 0x3400 ∧ index % 0x40 = 0 ∧ sub = 2 then s.rd (Gl.SET_DOORWAY_SIDE ((index - 0x3000) / 0x40))
  else if 0x3400 ≤ index ∧ index < 0x3700 ∧ (index % 16 = 12 ∨ index % 16 = 13) ∧ ((index - 0x3400) / 16) % 3 = 2 then 0
  else if key index sub = Gl.C1_LATENCY_MAX then s.net.c1Latency
  else s.rd (key index sub)

/-- A read: its bytes, or an abort code. -/
def entryBytes (index sub offset : Nat) (s : State) : Except Nat (List ByteN) :=
  match exists_ index sub s with
  | .error ab => .error ab
  | .ok r =>
    if r.acc = .wo then .error abWriteOnly
    -- no report before a nonce (R503)
    else if index = 0x2330 ∧ sub = 2 ∧ s.blob Gl.ATTEST_REPORT = [] then .error abState
    else if r.ty = .domain then .ok ((domainBytes index sub offset s).take 1024)
    else if offset ≠ 0 then .error abLength
    else if r.ty = .str then .ok (textBytes (if s.part.d8 then "Olibudal D8" else "Olibudal D16"))
    else if (rowOf index sub).isNone then .ok [highestSub index s]
    else .ok (leBytes r.ty.size (twos (8 * r.ty.size) (shownValue index sub s)))

/-- Answer a read of a dictionary message, and keep the response (R429). DEDUCED: log entry 129. -/
def State.answerKept (s : State) (m : Msg) (content : Nat × Nat × Val × Option Seg) (r : Except Nat (List ByteN)) (cls : Nat) : State :=
  let (ab, data) : Nat × List ByteN := match r with | .ok bs => (0, bs) | .error ab => (ab, [])
  let s := { s with answer := some ab, free := s.free + 1 }.showTxn.send (if ab = 0 then .bulkResponse m.source data else .response m.source ab cls)
  let k : Kept := { source := m.source, reqId := m.reqId, counter := m.counter, content, abort := ab, data, at_ := s.now }
  { s with net := { s.net with kept := keepLast m.source 16 (k :: s.net.kept) } }

/-- A READ (R426, R428, R459, R463, R507). -/
def readEntry (m : Msg) (index sub offset : Nat) (s : State) : State :=
  let cls := readClass index
  let content : Nat × Nat × Val × Option Seg := (index, sub, .num (-1), some { offset, final := false })
  match front (.msg m) cls content s with
  | .stop s => s
  | .go s =>
    let (r, s) : Except Nat (List ByteN) × State :=
      if index = 0x6000 ∧ sub = 2 then windowTake m.source s
      else if index = 0x6000 ∧ sub = 7 then bulkDataTake m.source s
      else if index = 0x6000 ∧ ctxSub sub then
        let (r, s) := ctxRead m.source sub s
        (if offset = 0 then r else .error abLength, s)
      else if index = 0x2320 ∧ sub = 3 then (challengeTake m.source s, s)
      else if index = 0x3900 ∧ sub = 2 then
        (entryBytes index sub offset s, { s with boundary := { s.boundary with envView := some (envCopy offset s) } })
      else (entryBytes index sub offset s, s)
    s.answerKept m content r cls

/-! ### Bulk transfer (R426, R427, R432) -/

/-- Field of a message: `n` bytes at an offset, least significant first. -/
def field (bs : List ByteN) (at_ n : Nat) : Nat := leVal ((bs.drop at_).take n)

/-- The tag of a message passes under its session's key. -/
def tagPasses (s : State) (session : Nat) (bs : List ByteN) (need : Nat) : Bool :=
  match s.sessions.find? (fun (x : Session) => x.num == session) with
  | some x => Config.kmac256 x.key (bs.take (need - 16)) 16 == (bs.drop (need - 16)).take 16
  | none => false

/-- A reassembled message, with the padding of its last frame: R427's format, then the request. DEDUCED: log entry 126. DEDUCED: log entry 128. -/
def takeMessage (port : Nat) (bs : List ByteN) (s : State) : State :=
  let session := field bs 5 1
  let len := field bs 14 2
  let need := 16 + len + (if session = 0 then 0 else 20)
  let rest := bs.drop need
  if field bs 0 1 ≠ 0x44 ∨ field bs 1 1 ≠ 1 ∨ 1024 < len ∨ 1 < field bs 9 1 ∨ bs.length < need ∨ 16 ≤ rest.length ∨ rest.any (fun b => b != 0) then
    { s.count Gl.DM_FORMAT_ERRORS with answer := none }
  else
    let m : Msg := { source := port, session, reqId := field bs 2 2, counter := if session = 0 then 0 else field bs (16 + len) 4,
                     tagOk := session == 0 || tagPasses s session bs need }
    let index := field bs 6 2
    let sub := field bs 8 1
    let offset := field bs 10 4
    let final := field bs 9 1 == 1
    match field bs 4 1 with
    | 1 => readEntry m index sub offset s
    | 2 => dictionaryWrite (.msg m) index sub (.bytes ((bs.drop 16).take len)) (if offset = 0 ∧ final then none else some { offset, final }) s
    | _ => match front (.msg m) 2 (index, sub, .num (-2), some { offset, final }) s with
      | .stop s => s
      | .go s => (s.turnAway (.msg m) abOp 2).showTxn

/-- Discard a partial message. DEDUCED: log entry 125. -/
def State.dropBulk (s : State) (port : Nat) : State :=
  ({ s with net := { s.net with bulk := erase port s.net.bulk } }.count (Cb.BULK_DISCARDS port)).showTxn

/-- A response of the port's bulk channel has not left yet. -/
def bulkPending (s : State) (port : Nat) : Bool := s.egress.any (fun e => match e with
  | .response src _ _ => src == port
  | .bulkResponse src _ => src == port
  | _ => false)

/-- Class of the request whose message begins with these bytes (R434), and whether it is a further segment of the port's open write. -/
def bulkClass (port : Nat) (bs : List ByteN) (s : State) : Nat × Bool :=
  let index := field bs 6 2
  let further := field bs 4 1 == 2 && field bs 10 4 != 0 && (match lookup (port + 1) s.net.segs with
    | some w => !w.timedOut
    | none => false)
  (if field bs 4 1 = 2 then requestClass index (field bs 8 1) (field bs 10 4 != 0 || field bs 9 1 == 0)
   else if field bs 4 1 = 1 then readClass index else 2, further)

/-- One more frame of a bulk message that is not discarded. -/
def State.bulkMore (s : State) (port header : Nat) (x : BulkRx) : State :=
  let s := { s with net := { s.net with bulk := place port x (erase port s.net.bulk) } }
  if header < 128 then s.showTxn
  else
    let s := takeMessage port x.bytes s
    { s with net := { s.net with bulk := erase port s.net.bulk } }.showTxn

/-- BULK_FRAME (R432): byte 0 `header` and the bytes after it. The first frame takes the message's slot, or is discarded (R37). -/
def execBulkFrame (port header : Nat) (bs : List ByteN) (s : State) : Host.Outcome State Fault Refusal := done s (
  if s.running = false ∨ 2 ≤ port ∨ portOn s port = false then s
  else
    let s := s.portRx port
    let x := getD {} s.net.bulk port
    let seg := header % 128
    if seg ≠ x.next ∨ 17 ≤ seg ∨ (seg = 0 ∧ bulkPending s port) then (s.dropBulk port)
    else if seg ≠ 0 ∧ x.last + 5000 ≤ s.now then (s.dropBulk port)
    else if seg ≠ 0 then s.bulkMore port header { x with next := seg + 1, bytes := x.bytes ++ bs, last := s.now }
    else
      let (cls, further) := bulkClass port bs s
      if further = false ∧ slotFree cls s = false then s.refuseSlot cls
      else
        (if further then s else s.slotPeak).bulkMore port header { next := 1, bytes := bs, last := s.now, cls, slot := !further })

/-- BULK_TIMEOUT (R432): 100 ms pass between frames. -/
def execBulkTimeout (port : Nat) (s : State) : Host.Outcome State Fault Refusal :=
  done s (match lookup port s.net.bulk with
  | some x => if x.last + 5000 ≤ s.now then s.dropBulk port else s
  | none => s)

/-! ### Segmented writes, responses and sessions (R420, R428, R429, R433) -/

/-- DM_SEGMENT_TIMEOUT (R428): the partial value is discarded; the next segment will be refused. -/
def execDmSegmentTimeout (source : Nat) (s : State) : Host.Outcome State Fault Refusal :=
  done s (match lookup (source + 1) s.net.segs with
  | some w => if w.timedOut = false ∧ w.last + 50000 < s.now then
      let s := { s with net := { s.net with segs := place (source + 1) { w with timedOut := true, bytes := [] } (erase (source + 1) s.net.segs) } }
      (s.count Gl.SEGMENTED_WRITES_DISCARDED).showTxn
    else s
  | none => s)

/-- End the SDO transfer that is open, with an abort. -/
def State.abortSdo (s : State) (ab : Nat) : State := match lookup 0 s.net.segs with
  | some _ =>
    let s := { s with net := { s.net with segs := erase 0 s.net.segs } }
    (s.count Gl.SEGMENTED_WRITES_DISCARDED).showTxn.send (.response 0 ab 3)
  | none => s

/-- SDO_SEGMENT_TIMEOUT (R420). -/
def execSdoSegmentTimeout (s : State) : Host.Outcome State Fault Refusal :=
  done s (match lookup 0 s.net.segs with
  | some w => if w.last + 25000 ≤ s.now then s.abortSdo abTimedOut else s
  | none => s)

/-- DM_RESPONSE_EXPIRY (R429): a kept response is dropped after 2 s. -/
def execDmResponseExpiry (source id : Nat) (s : State) : Host.Outcome State Fault Refusal :=
  done s { s with net := { s.net with kept := s.net.kept.filter (fun (k : Kept) =>
    !(k.source == source && k.reqId == id && decide (k.at_ + 100000 ≤ s.now))) } }

/-- SESSION_TIMEOUT (R433): 600 s without a valid request. -/
def execSessionTimeout (n : Nat) (s : State) : Host.Outcome State Fault Refusal :=
  done s { s with sessions := s.sessions.filter (fun (x : Session) => !(x.num == n && decide (x.lastValid + 30000000 ≤ s.now))) }.showSessions

/-! ### PDOs (R419, R421, R422) -/

def pdoComm (rx : Bool) (n : Nat) : Nat := (if rx then 0x1400 else 0x1800) + n
def pdoMap (rx : Bool) (n : Nat) : Nat := (if rx then 0x1600 else 0x1A00) + n

/-- The PDO exists (COB-ID bit 31 is 0) and the NMT state allows it. -/
def pdoOn (s : State) (rx : Bool) (n : Nat) : Bool :=
  canopen s && s.net.nmt == 5 && decide (n < 16) && !s.bit (key (pdoComm rx n) 1) 31

def pdoType (s : State) (rx : Bool) (n : Nat) : Nat := s.rdn (key (pdoComm rx n) 2)
def pdoTimer (s : State) (rx : Bool) (n : Nat) : Nat := s.rdn (key (pdoComm rx n) 5)
def pdoCount (s : State) (rx : Bool) (n : Nat) : Nat := min 8 (s.rdn (key (pdoMap rx n) 0))

/-- Mapped entries: index, sub-index, bytes. -/
def pdoEntries (s : State) (rx : Bool) (n : Nat) : List (Nat × Nat × Nat) :=
  (List.range (pdoCount s rx n)).map (fun i =>
    let v := s.rdn (key (pdoMap rx n) (i + 1))
    (v / 65536, v / 256 % 256, v % 256 / 8))

/-- Mapped length in bytes. -/
def pdoLen (s : State) (rx : Bool) (n : Nat) : Nat := (pdoEntries s rx n).foldl (fun t e => t + e.2.2) 0

/-- Write the mapped entries, one after another. -/
def writeMapped : List (Nat × Nat × Nat) → List ByteN → State → State
  | [], _, s => s
  | e :: r, bs, s => writeMapped r (bs.drop e.2.2) (writeEntry .pdo e.1 e.2.1 (.bytes (bs.take e.2.2)) none s)

/-- RPDO (R37, R422): n with its data; a frame that finds no slot is discarded, a synchronous type waits for the SYNC. -/
def execRpdo (n : Nat) (bs : List ByteN) (s : State) : Host.Outcome State Fault Refusal :=
  done s (if pdoOn s true n = false then s
    else
      let s := s.count (Cb.RX_FRAMES 0)
      let len := pdoLen s true n
      if slotFree 1 s = false then s.refuseSlot 1
      else if bs.length < len then s.sendEmcy false (.emcyCia 0x8210)
      else if len < bs.length then s.sendEmcy false (.emcyCia 0x8220)
      else
        let s := s.c1Frame
        let s := if pdoTimer s true n ≠ 0 then { s with net := { s.net with rpdoSeen := place n s.now (erase n s.net.rpdoSeen) } } else s
        if pdoType s true n ≤ 240 then { s with net := { s.net with rpdoHeld := place n bs (erase n s.net.rpdoHeld) } }.showTxn
        else writeMapped (pdoEntries s true n) bs s)

/-- RPDO_EVENT_TIMER (R422). -/
def execRpdoEventTimer (n : Nat) (s : State) : Host.Outcome State Fault Refusal :=
  done s (match lookup n s.net.rpdoSeen with
  | some t => if pdoOn s true n ∧ pdoTimer s true n ≠ 0 ∧ t + 50 * pdoTimer s true n ≤ s.now then
      { s with net := { s.net with rpdoSeen := erase n s.net.rpdoSeen } }.sendEmcy false (.emcyCia 0x8250)
    else s
  | none => s)

/-- The data of a TPDO. -/
def tpdoBytes (s : State) (n : Nat) : List ByteN :=
  (pdoEntries s false n).flatMap (fun e => match entryBytes e.1 e.2.1 0 s with | .ok bs => bs.take e.2.2 | .error _ => List.replicate e.2.2 0)

/-- A TPDO falls due (CiA 301): by SYNC in types 0 to 240, by its event timer or a change in types 254 and 255, and never within the
inhibit time. -/
def tpdoDue (s : State) (n : Nat) : Bool :=
  let last := lookup n s.net.tpdoSent
  let changed := lookup n s.net.tpdoData != some (tpdoBytes s n)
  let syncs := s.net.syncCount - (match last with | some x => x.2 | none => 0)
  let since := match last with | some x => s.now - x.1 | none => s.now
  let type := pdoType s false n
  if type = 0 then decide (0 < syncs) && changed
  else if type ≤ 240 then decide (type ≤ syncs)
  else (last.isNone || decide (5 * s.rdn (key (pdoComm false n) 3) ≤ since))
    && (changed || (pdoTimer s false n != 0 && decide (50 * pdoTimer s false n ≤ since)))

/-- TPDO_TRANSMIT (R419). -/
def execTpdoTransmit (n : Nat) (s : State) : Host.Outcome State Fault Refusal :=
  done s (if pdoOn s false n ∧ pdoCount s false n ≠ 0 ∧ tpdoDue s n then
      let bs := tpdoBytes s n
      let s := { s with net := { s.net with tpdoSent := place n (s.now, s.net.syncCount) (erase n s.net.tpdoSent),
                                            tpdoData := place n bs (erase n s.net.tpdoData) } }
      s.send (.tpdo n bs)
    else s)

/-! ### NMT, SYNC, heartbeat (R419, R423, R424, R440) -/

/-- SYNC (R419): the synchronous RPDOs act, and the supervision starts again. DEDUCED: log entry 118. -/
def execSync (s : State) : Host.Outcome State Fault Refusal :=
  done s (if canopen s = false then s
    else
      let s := (s.count (Cb.RX_FRAMES 0)).c1Frame
      if s.net.nmt = 4 then s
      else
        let held := s.net.rpdoHeld
        let s := { s with net := { s.net with syncSeen := some s.now, syncCount := s.net.syncCount + 1, rpdoHeld := [] } }
        held.foldl (fun (s : State) (x : Nat × List ByteN) =>
          if pdoOn s true x.1 then writeMapped (pdoEntries s true x.1) x.2 s else s) s.showTxn)

/-- SYNC_MISSING (R424): SYNC_PERIOD passes without a SYNC. -/
def execSyncMissing (s : State) : Host.Outcome State Fault Refusal :=
  done s (match s.net.syncSeen with
  | some t => if canopen s ∧ s.rdn Gl.SYNC_PERIOD ≠ 0 ∧ 20 * t + s.rdn Gl.SYNC_PERIOD < 20 * s.now then
      ({ s with net := { s.net with syncSeen := none } }.sendEmcy false (.emcyCia 0x8100)).raise 0x3144 0xFF (s.rd Gl.SYNC_PERIOD)
    else s
  | none => s)

/-- HEARTBEAT_MISSING (R424): of the node of sub-index i + 1 of 0x1016. DEDUCED: log entry 119. -/
def execHeartbeatMissing (i : Nat) (s : State) : Host.Outcome State Fault Refusal := done s (
  let e := s.rdn (Gl.CONSUMER_HEARTBEAT i)
  let node := e / 65536 % 128
  (if canopen s ∧ i < 4 ∧ node ≠ 0 ∧ e % 65536 ≠ 0 then (s.sendEmcy false (.emcyCia 0x8130)).raise 0x3143 i node else s))

/-- HEARTBEAT_PRODUCE (R440). -/
def execHeartbeatProduce (s : State) : Host.Outcome State Fault Refusal := done s (
  let ms := s.rdn Gl.PRODUCER_HEARTBEAT
  (if canopen s ∧ ms ≠ 0 ∧ s.net.hbSent + 50 * ms ≤ s.now then
      { s with net := { s.net with hbSent := s.now } }.send (.heartbeat s.net.nmt)
    else s))

/-- NMT reset communication (R418, R423): the CAN entries take effect, the services start anew, boot-up is sent. -/
def State.resetComm (s : State) : State :=
  let s := s.freezeCan
  let s := { s with net := { s.net with
    segs := erase 0 s.net.segs, syncSeen := none, syncCount := 0, rpdoSeen := [], rpdoHeld := [], tpdoSent := [], tpdoData := [],
    hbSent := s.now, emcySent := none, emcyWait := [], bulk := [], nmt := if s.rdb Gl.AUTO_OPERATIONAL then 5 else 127 } }
  s.showTxn.send .bootUp

/-- NMT_COMMAND (R423): 1 start, 2 stop, 128 enter pre-operational, 129 reset node, 130 reset communication. -/
def execNmtCommand (code : Nat) (s : State) : Host.Outcome State Fault Refusal :=
  done s (if canopen s = false then s
    else
      let s := (s.count (Cb.RX_FRAMES 0)).c1Frame
      match code with
      | 1 => { s with net := { s.net with nmt := 5 } }
      | 2 => { (s.abortSdo abNmt) with net := { (s.abortSdo abNmt).net with nmt := 4 } }
      | 128 => { s with net := { s.net with nmt := 127 } }
      | 129 => (s.raise 0x3145 0xFF 0).resetComm
      | 130 => s.resetComm
      | _ => s)

/-- CAN_BUS_OFF (R416): counted and reported; the port is cut off until `State.busRecover` takes it back. -/
def execCanBusOff (port : Nat) (s : State) : Host.Outcome State Fault Refusal :=
  done s (if s.running ∧ port < 2 ∧ portOn s port then
      let s := (s.count (Cb.BUS_OFF_COUNT port)).wr (Cb.BUS_STATE port) 2
      { s with net := { s.net with busOff := place port s.now (erase port s.net.busOff) } }.raise 0x1142 port (s.rd (Cb.BUS_OFF_COUNT port))
    else s)

/-- The recovery sequence of ISO 11898-1, 128 times 11 recessive bits at the nominal rate (R416), in fast ticks. PRESUMED: log entry 196. -/
def recoveryTicks (s : State) (p : Nat) : Nat :=
  match getD 2 s.net.frozen (Cb.CAN_RATE_SET p) with
  | 0 => 141 | 1 => 71 | 2 => 282 | _ => 564

/-- At a door tick: a port whose recovery sequence has passed leaves bus-off (R416). -/
def State.busRecover (s : State) : State :=
  [0, 1].foldl (fun s p =>
    if s.rdn (Cb.BUS_STATE p) = 2 ∧ getD 0 s.net.busOff p + recoveryTicks s p ≤ s.now then
      { s with net := { s.net with busOff := erase p s.net.busOff } }.wr (Cb.BUS_STATE p) 0
    else s) s

/-! ### Ethernet (R414, R415) -/

def ethOn (s : State) (p : Nat) : Bool := s.running && decide (p < 2) && portOn s (2 + p)

/-- ICMP_ECHO_REQUEST (R415): at most 10 replies a second on a port. DEDUCED: log entry 120. -/
def execIcmpEchoRequest (port : Nat) (s : State) : Host.Outcome State Fault Refusal :=
  done s (if ethOn s port = false then s
    else
      let s := (s.portRx (2 + port)).slotPeak
      let sent := (getD [] s.net.icmp port).filter (fun t => decide (s.now < t + 50000))
      if 10 ≤ sent.length then s
      else { s with net := { s.net with icmp := putD [] s.net.icmp port (s.now :: sent) } }.send (.icmpReply port))

/-- ARP_REQUEST (R414): the sender enters the port's 32-entry cache and is answered. -/
def execArpRequest (port ip mac : Nat) (s : State) : Host.Outcome State Fault Refusal :=
  done s (if ethOn s port = false then s
    else
      let s := (s.portRx (2 + port)).slotPeak
      let own := s.net.arp.filter (fun (x : Nat × Nat × Nat) => x.1 == port && x.2.1 != ip)
      let other := s.net.arp.filter (fun (x : Nat × Nat × Nat) => x.1 != port)
      let cache := ((port, ip, mac) :: own).take 32 ++ other
      { s with net := { s.net with arp := cache } }.send (.arpReply port ip mac))

/-- PHY_LINK_POLL (R414): what the poll of every 100 ms finds; 10 Mbit/s is not supported. DEDUCED: log entry 122. -/
def execPhyLinkPoll (port : Nat) (up : Bool) (speed : Nat) (s : State) : Host.Outcome State Fault Refusal :=
  done s (if ethOn s port = false then s
    else
      let ok := up && (speed == 100 || speed == 1000)
      let was := s.rdb (Et.LINK_UP port)
      let s := (s.wr (Et.LINK_UP port) (b2i ok)).wrn (Et.SPEED port) (if ok then speed else 0)
      if was && !ok then s.raise 0x3141 port 0 else s)

end Sys2Proof.Machine
end

