-- ==== Sys2Proof/Machine/Ticks.lean ====
section
/-!
DEFINITION. The three ticks (R22 to R28): what every engine does at the boundary of a fast tick, of a motion tick and of a
door tick, and how written parameters come into force there (R24).
-/
namespace Sys2Proof.Machine

/-! ### Values in force (R24) -/

/-- Entries of an axis that take effect at fast ticks: those that only the current loops use. -/
def fastKeys (a : Nat) : List Nat := [Ax.DECOUPLING a, Ax.RES_20C a, Ax.RES_TEST_CURRENT a, Ax.OVERCURRENT_LIMIT a, Ax.SATURATION_TIME a]

/-- Put the fast-tick parameters of an axis in force. DEDUCED: log entry 19. -/
def State.enforceFast (s : State) (a : Nat) : State := (fastKeys a).foldl (fun (s : State) k => s.enforce k (s.rd k)) s

/-- A stored manual mode waits for its link (R109). -/
def modeWaits (s : State) (k : Nat) : Bool :=
  let i := k / 256
  decide (0x3400 ≤ i) && decide (i < 0x3700) && k == Ax.AXIS_MODE ((i - 0x3400) / 16) && s.rd k != 0
    && !linkUp s (doorOf ((i - 0x3400) / 16))

/-- An entry whose written value does not come into force at a door tick: the safety set (R288, R291) and the entries of the other
two ticks. -/
def heldEntry (s : State) (k : Nat) : Bool :=
  let i := k / 256
  (decide (0x5003 ≤ i) && decide (i ≤ 0x50FF))
    || (decide (0x3400 ≤ i) && decide (i < 0x3700)
        && ((motionKeys ((i - 0x3400) / 16)).contains k || (fastKeys ((i - 0x3400) / 16)).contains k))
    || (List.range 16).any (fun d => k == Dr.LEARN_STOP_FORCE d)
    || modeWaits s k

/-- Every other entry at its written value. -/
def State.inForce (s : State) : State :=
  let kept := s.eff.filter (fun (x : Nat × Int) => heldEntry s x.1)
  let new := s.dict.filter (fun (x : Nat × Int) => !heldEntry s x.1)
  { s with eff := kept.foldl (fun (m : Store Int) x => place x.1 x.2 m) new }

/-- A class's buckets are full after a change of its rate or burst (R446). -/
def State.refillBuckets (s old : State) : State :=
  let changed := fun (c : Nat) => s.p (Gl.BUCKET_RATE c) != old.p (Gl.BUCKET_RATE c) || s.p (Gl.BUCKET_BURST c) != old.p (Gl.BUCKET_BURST c)
  { s with recd := { s.recd with codes := s.recd.codes.map (fun (x : Nat × CodeRec) =>
      if changed (codeClass x.1) then (x.1, { x.2 with bucket := none }) else x) } }

/-- What a door tick puts in force. -/
def State.enforceDoor (s : State) : State := (s.inForce.modesInForce s).refillBuckets s

/-! ### The fast tick -/

/-- Frames that leave on an Ethernet port, by port (R441). -/
def etherPort : Egress → Option Nat
  | .event p _ _ _ _ _ _ => some p
  | .response src _ _ | .bulkResponse src _ => if src < 2 then none else some (src % 2)
  | .nsl _ p _ _ => if 2 ≤ p then some (p - 2) else none
  | .icmpReply p | .arpReply p _ _ => some p
  | .emcy _ _ _ _ | .emcyCia _ | .bootUp | .heartbeat _ | .tpdo _ _ | .mirror _ _ _ => none

/-- The egress queues' frames are on the wire: TX_FRAMES counts those of the Ethernet ports. -/
def State.sendOff (s : State) : State :=
  let s' := s.egress.foldl (fun (s : State) e => match etherPort e with | some p => s.count (Et.TX_FRAMES p) | none => s) s
  { s' with egress := [] }

/-- What the current loops and the encoders gave is latched for the motion tick that begins at this boundary (R23), and the q-current
demand of the last motion tick is released to the slots of this fast tick (R138). -/
def latchMotion (s : State) (a : Nat) : State :=
  let x := s.axis a
  s.setAxis a { x with posNm := x.nowNm, latD := x.iD, latQ := x.iQ, iqDemand := if x.shadow.isSome then x.iqDemand else x.iqNext }

/-- The doors' share of a fast tick (R28, R30): downlink frames with the words of the last fast tick, the filters, the current loops. -/
def State.fastDoors (s : State) : State :=
  let s := if s.rdn Gl.FAST_TICK_COUNT % 5 = 0 then (List.range (3 * s.doorways)).foldl latchMotion s else s
  let s := (List.range (3 * s.doorways)).foldl gainITick ((allAxes s).foldl State.enforceFast s)
  let doors := List.range s.doorways
  let s := doors.foldl State.sendDown s
  let s := doors.foldl State.countMissing s
  let s := doors.foldl State.nodeFilter s
  let s := if s.bit Gl.DOMAINS_ON 4 then loopEngines s else s
  s.keepSlots.duplexFast

/-- The motion tick that a clearing write coincides with is over (R10). DEDUCED: log entry 189. -/
def State.forgetCleared (s : State) : State :=
  if s.rdn Gl.FAST_TICK_COUNT % 5 = 1 then { s with boundary := { s.boundary with cleared := [] } } else s

/-- A fast tick. -/
def State.fastTick (s : State) : State :=
  let s := { s with now := s.now + 1 }.rtcTick
  if s.running = false then s else
  let s := (s.wrn Gl.FAST_TICK_COUNT ((s.rdn Gl.FAST_TICK_COUNT + 1) % 4096000000)).forgetCleared
  let s := s.sendOff.emcyTick.sleepTick
  if s.operating then s.fastDoors else s

/-- FAST_TICK (R22, R26): the time base of the model; the counter runs from 0 to 0xF423FFFF and wraps. DEDUCED: log entry 4. -/
def execFastTick (s : State) : Host.Outcome State Fault Refusal := done s s.fastTick

/-! ### The motion tick -/

/-- The motion tick of the doors: what was measured, supervision, the set-points sampled at this boundary (R85), and the loops
on them (R138). -/
def State.motionTick (s : State) : State :=
  let (s, lowered) := s.enforceAxes
  let axes := allAxes s
  let s := axes.foldl measureAxis s
  let s := s.safetyMotion
  let s := axes.foldl (fun (s : State) a => (s.forceTick a).criteriaTick a) s
  let s := axes.foldl State.detectManual s
  let s := (allDoors s).foldl (fun (s : State) d => s.doorMotion lowered d) s
  let s := axes.foldl (fun (s : State) a => if manual s a then s.manualTick a else s) s
  let s := axes.foldl positionLoop s
  let s := axes.foldl (fun (s : State) a => motionChecks (motionFlags (s.standstill a) a) a) s
  s.ecMotionTick

/-- A door tick begins at this count, and has not begun yet (R22). It reads the motion values latched at this boundary (R23): those from before
the motion tick that begins here. DEDUCED: log entry 4. -/
def doorDue (s : State) : Bool :=
  s.rdn Gl.FAST_TICK_COUNT % 50 == 0 && s.boundary.doorAt != some s.now && s.boundary.motionAt != some s.now

/-- MOTION_TICK (R22, R23): position and speed loops, force and criteria, path generation, supervision; once at each count divisible
by 5. DEDUCED: log entry 4. DEDUCED: log entry 21. DEDUCED: log entry 143. -/
def execMotionTick (s : State) : Host.Outcome State Fault Refusal :=
  done s (if motionDue s = false then s else
    let s := { s with boundary := { s.boundary with motionAt := some s.now } }
    let s := if s.operating then s.channelSignals else s
    if s.operating && s.bit Gl.DOMAINS_ON 4 then s.motionTick else s)

/-! ### The door tick -/

/-- Currents of inputs and safe outputs as the dies reported them. -/
def State.takeLoads (s : State) (rep : DoorReport) : State :=
  let s := rep.inputCurrents.foldl (fun (s : State) (x : Nat × Nat) => if x.1 < 48 then s.wrn (In.INPUT_CURRENT x.1) (min 255 x.2) else s) s
  let s := match rep.lineRefs with
    | some (a, b) =>
      let s := if lineRef s 0 = 0xFF then s else s.showRef 0 a
      if lineRef s 1 = 0xFF then s else s.showRef 1 b
    | none => s
  rep.soLoads.foldl (fun (s : State) (x : Nat × Nat) => if x.1 < 6 then s.setOut x.1 { s.out x.1 with loadMa := x.2 } else s) s

/-- The sequencer's boundary: what was decided, granted or reported takes effect (R48). -/
def State.commitDoors (s : State) : State :=
  if sequencing s then (List.range s.doorways).foldl State.commitDoor s
  else (List.range s.doorways).foldl (fun (s : State) d => s.modDoor d (fun x => { x with cmds := [], request := false, faults := [] })) s

/-- The sequencer's evaluation of a door tick (R49), and the start scheduler (R74). -/
def State.evaluateDoors (s : State) : State :=
  if sequencing s then ((allDoors s).foldl State.evaluate s).schedule else s

/-- A confirmation that takes effect (R291), and the pair's mode after it. -/
def State.confirmDoor (s : State) : State :=
  let t := s.confirmTick
  if t.rd Gl.SET_STATE = s.rd Gl.SET_STATE then t else t.deriveMode

/-- Inputs, contacts, train-line pairs, the cab's terms, outputs and the safety channels. -/
def State.doorInputs (s : State) (rep : DoorReport) : State :=
  let s := (s.takeStalls rep.stalls).confirmDoor
  let s := (List.range s.doorways).foldl State.contactsTick s.pairsTick
  let s := s.commitDoors.carTerms.connsTick
  (s.outputsTick rep).safetyTick rep.exchange

/-- Sequencer, status and masks. -/
def State.doorSequence (s : State) : State :=
  let doors := List.range s.doorways
  let s := (allDoors s).foldl (fun (s : State) d => ((s.alignTick d).stepTick d).currentTick d) s
  let s := s.evaluateDoors.domainTick
  let s := doors.foldl State.statusTick s
  let s := s.maskTick
  doors.foldl State.monitorTick s

/-- Mantis, the links, the summary and the pair. -/
def State.doorEngines (s : State) : State :=
  let s := (allAxes s).foldl (fun (s : State) a => if isLeaf s a then s.leafTick a else s) s
  let s := s.applyFreeze.mantisMask
  let s := { s with boundary := { s.boundary with leavesAt := s.leaves } }
  let s := (List.range 16).foldl State.linkTick s
  s.summaryTick.duplexDoor.showDigest

/-- What a change of motor or encoder data does (R144, R204): the count starts without a re-base. -/
def State.motorChanged (s : State) (a : Nat) : State :=
  let comm := s.rdn (Ax.ENCODER_TYPE a) = 1 ∧ (s.rdn (Ax.MOTOR_TYPE a) = 0 ∨ (s.axis a).comm ≠ 0)
  let s := s.wr (Ax.ANGLE_STATE a) (if comm then 1 else 0)
  let s := s.setAxis a { s.axis a with referenced := false, motorNew := false, rebase := 0, seen := false }
  let s := s.modDoor (doorOf a) (fun x => { x with refNeeded := true })
  if isLeaf s a then s.resetEnvelopes a 1 true true else s

/-- The changes of R144 take effect at the door-tick boundary after their writes. DEDUCED: log entry 52. -/
def State.motorsTick (s : State) : State :=
  (List.range (3 * s.doorways)).foldl (fun (s : State) a => if (s.axis a).motorNew then s.motorChanged a else s) s

/-- What a booted module does in a door tick in every boot mode. -/
def State.doorCommon (s : State) : State := s.commitCodes.ecDoorTick.busRecover.powerTick.securityTick.commitNv

/-- A door tick. DEDUCED: log entry 16. DEDUCED: log entry 160. -/
def State.doorTick (s : State) (rep : DoorReport) : State :=
  if s.running = false then s
  else if s.operating = false then
    let s := (s.inForce.refillBuckets s).applyHistLimits.applyEcResets
    (s.readingsTick rep).doorCommon
  else
    let s := s.adoptTick.enforceDoor.motorsTick.applyHistLimits.applyEcResets
    let s := (List.range (3 * s.doorways)).foldl gainPTick s
    let s := (s.readingsTick rep).takeLoads rep
    (s.doorInputs rep).doorSequence.doorEngines.doorCommon

/-- DOOR_TICK (R22 to R24, R48): with what the field dies and the supplies' monitors measured since the last one; once at each count
divisible by 50. DEDUCED: log entry 4. -/
def execDoorTick (rep : DoorReport) (s : State) : Host.Outcome State Fault Refusal :=
  done s (if doorDue s = false then s else { s with boundary := { s.boundary with doorAt := some s.now } }.doorTick rep)

end Sys2Proof.Machine
end

