-- ==== Sys2Proof/Machine/Dispatch.lean ====
section
/-!
DEFINITION. One arm per command: a direct call of its meaning, or a refusal by name where it has none yet.
-/
namespace Sys2Proof.Machine

def exec (i : Instr) (s : State) : Host.Outcome State Fault Refusal :=
  match i with
  | .fastTick => Sys2Proof.Machine.execFastTick s
  | .motionTick => Sys2Proof.Machine.execMotionTick s
  | .sf7StopWindowExpiry a => Sys2Proof.Machine.execSf7StopWindowExpiry a s
  | .moveEnd d => Sys2Proof.Machine.execMoveEnd d s
  | .standstillDelayExpiry a => Sys2Proof.Machine.execStandstillDelayExpiry a s
  | .holdRampEnd a => Sys2Proof.Machine.execHoldRampEnd a s
  | .doorTick rep => Sys2Proof.Machine.execDoorTick rep s
  | .startForced d => Sys2Proof.Machine.execStartForced d s
  | .closeWarningEnd d => Sys2Proof.Machine.execCloseWarningEnd d s
  | .autoCloseExpiry d => Sys2Proof.Machine.execAutoCloseExpiry d s
  | .unlockTimeout d => Sys2Proof.Machine.execUnlockTimeout d s
  | .lockTimeout d => Sys2Proof.Machine.execLockTimeout d s
  | .stepTimeout d => Sys2Proof.Machine.execStepTimeout d s
  | .preselectTimeExpiry d => Sys2Proof.Machine.execPreselectTimeExpiry d s
  | .dwellEnd d => Sys2Proof.Machine.execDwellEnd d s
  | .openDwellEnd d => Sys2Proof.Machine.execOpenDwellEnd d s
  | .depthHoldLong d => Sys2Proof.Machine.execDepthHoldLong d s
  | .loopViewDisagreement d => Sys2Proof.Machine.execLoopViewDisagreement d s
  | .lockPairDisagree d => Sys2Proof.Machine.execLockPairDisagree d s
  | .contactDiscrepancy d c => Sys2Proof.Machine.execContactDiscrepancy d c s
  | .contactFilteredChange d c ch v => Sys2Proof.Machine.execContactFilteredChange d c ch v s
  | .aliveLost by_ => Sys2Proof.Machine.execAliveLost by_ s
  | .safetyPortWatchdog die => Sys2Proof.Machine.execSafetyPortWatchdog die s
  | .safetyPortResumed die => Sys2Proof.Machine.execSafetyPortResumed die s
  | .stoUnconfirmed a => Sys2Proof.Machine.execStoUnconfirmed a s
  | .testPulse k side => Sys2Proof.Machine.execTestPulse k side s
  | .testPulseEnd k side terminalOk supplyHigh loadMa follows => Sys2Proof.Machine.execTestPulseEnd k side terminalOk supplyHigh loadMa follows s
  | .switchStaticFault k side open_ follows => Sys2Proof.Machine.execSwitchStaticFault k side open_ follows s
  | .soOvercurrent k side => Sys2Proof.Machine.execSoOvercurrent k side s
  | .soUntested k side => Sys2Proof.Machine.execSoUntested k side s
  | .soFaultClear via v => Sys2Proof.Machine.execSoFaultClear via v s
  | .writeEnable via v => Sys2Proof.Machine.execWriteEnable via v s
  | .confirm via v => Sys2Proof.Machine.execConfirm via v s
  | .safetySetWrite via index sub v => Sys2Proof.Machine.execSafetySetWrite via index sub v s
  | .restoreSafetyDefaults via v => Sys2Proof.Machine.execRestoreSafetyDefaults via v s
  | .restoreDefaults via v => Sys2Proof.Machine.execRestoreDefaults via v s
  | .proofTestDone via v => Sys2Proof.Machine.execProofTestDone via v s
  | .proofTestDue => Sys2Proof.Machine.execProofTestDue s
  | .openLeft via => Sys2Proof.Machine.execOpenLeft via s
  | .openRight via => Sys2Proof.Machine.execOpenRight via s
  | .closeLeft via => Sys2Proof.Machine.execCloseLeft via s
  | .closeRight via => Sys2Proof.Machine.execCloseRight via s
  | .closeAll via => Sys2Proof.Machine.execCloseAll via s
  | .holdAll via => Sys2Proof.Machine.execHoldAll via s
  | .endHoldAll via => Sys2Proof.Machine.execEndHoldAll via s
  | .open_ via d => Sys2Proof.Machine.execOpen via d s
  | .close via d => Sys2Proof.Machine.execClose via d s
  | .holdOpen via d => Sys2Proof.Machine.execHoldOpen via d s
  | .endHold via d => Sys2Proof.Machine.execEndHold via d s
  | .reset via d => Sys2Proof.Machine.execReset via d s
  | .forcedClose via d => Sys2Proof.Machine.execForcedClose via d s
  | .passengerRequest d => Sys2Proof.Machine.execPassengerRequest d s
  | .learnRunStart via d => Sys2Proof.Machine.execLearnRunStart via d s
  | .learnRunCancel via d => Sys2Proof.Machine.execLearnRunCancel via d s
  | .learnRunEnd d => Sys2Proof.Machine.execLearnRunEnd d s
  | .axisModeChange via a mode => Sys2Proof.Machine.execAxisModeChange via a mode s
  | .coarseStep jog n => Sys2Proof.Machine.execCoarseStep jog n s
  | .jogStart via a n => Sys2Proof.Machine.execJogStart via a n s
  | .jogStop via a => Sys2Proof.Machine.execJogStop via a s
  | .jogStep a => Sys2Proof.Machine.execJogStep a s
  | .alignmentRunStart via a => Sys2Proof.Machine.execAlignmentRunStart via a s
  | .alignmentRunCancel via a => Sys2Proof.Machine.execAlignmentRunCancel via a s
  | .alignmentRunEnd a state cause => Sys2Proof.Machine.execAlignmentRunEnd a state cause s
  | .stepperSelfAlignmentEnd a cause => Sys2Proof.Machine.execStepperSelfAlignmentEnd a cause s
  | .motorDataChange via a sub9 v => Sys2Proof.Machine.execMotorDataChange via a sub9 v s
  | .phaseLoss a => Sys2Proof.Machine.execPhaseLoss a s
  | .commutation a => Sys2Proof.Machine.execCommutation a s
  | .stall a => Sys2Proof.Machine.execStall a s
  | .saturation a => Sys2Proof.Machine.execSaturation a s
  | .brakeShortEnd a => Sys2Proof.Machine.execBrakeShortEnd a s
  | .tableReload via d form custom => Sys2Proof.Machine.execTableReload via d form custom s
  | .uplinkFrame d f => Sys2Proof.Machine.execUplinkFrame d f s
  | .linkLost d cause => Sys2Proof.Machine.execLinkLost d cause s
  | .characterLock d => Sys2Proof.Machine.execCharacterLock d s
  | .trainingFrame d f => Sys2Proof.Machine.execTrainingFrame d f s
  | .trainingDone d => Sys2Proof.Machine.execTrainingDone d s
  | .trainTimeout d => Sys2Proof.Machine.execTrainTimeout d s
  | .retrainDelayExpiry d => Sys2Proof.Machine.execRetrainDelayExpiry d s
  | .mgmtRetry d => Sys2Proof.Machine.execMgmtRetry d s
  | .nodeConfigTimeout d => Sys2Proof.Machine.execNodeConfigTimeout d s
  | .resumeFailed d => Sys2Proof.Machine.execResumeFailed d s
  | .identify d m => Sys2Proof.Machine.execIdentify d m s
  | .readCaps d m => Sys2Proof.Machine.execReadCaps d m s
  | .tableWrite d m => Sys2Proof.Machine.execTableWrite d m s
  | .tableCommit d m => Sys2Proof.Machine.execTableCommit d m s
  | .tableCheck d m => Sys2Proof.Machine.execTableCheck d m s
  | .configWrite d m => Sys2Proof.Machine.execConfigWrite d m s
  | .configRead d m => Sys2Proof.Machine.execConfigRead d m s
  | .sensorWrite d m => Sys2Proof.Machine.execSensorWrite d m s
  | .sensorRead d m => Sys2Proof.Machine.execSensorRead d m s
  | .setTiming d m => Sys2Proof.Machine.execSetTiming d m s
  | .echo d m => Sys2Proof.Machine.execEcho d m s
  | .nodeApplyInstant d f m => Sys2Proof.Machine.execNodeApplyInstant d f m s
  | .nodeResume d fa fb => Sys2Proof.Machine.execNodeResume d fa fb s
  | .depthFrameProcessed => Sys2Proof.Machine.execDepthFrameProcessed s
  | .depthSensorFailed n cond => Sys2Proof.Machine.execDepthSensorFailed n cond s
  | .bgLearnStart via n => Sys2Proof.Machine.execBgLearnStart via n s
  | .bgLearnEnd n => Sys2Proof.Machine.execBgLearnEnd n s
  | .envelopeCommit a => Sys2Proof.Machine.execEnvelopeCommit a s
  | .envDataWrite via bs => Sys2Proof.Machine.execEnvDataWrite via bs s
  | .envResetOne via => Sys2Proof.Machine.execEnvResetOne via s
  | .envResetBoth via => Sys2Proof.Machine.execEnvResetBoth via s
  | .inputFilteredChange n v => Sys2Proof.Machine.execInputFilteredChange n v s
  | .wireBreak n => Sys2Proof.Machine.execWireBreak n s
  | .wireBreakEnd n => Sys2Proof.Machine.execWireBreakEnd n s
  | .pairDiscrepancy p => Sys2Proof.Machine.execPairDiscrepancy p s
  | .pairDiscrepancyClear p => Sys2Proof.Machine.execPairDiscrepancyClear p s
  | .lineRefLow die iref => Sys2Proof.Machine.execLineRefLow die iref s
  | .vfieldLow die enter mv => Sys2Proof.Machine.execVfieldLow die enter mv s
  | .vfieldMissing die enter mv => Sys2Proof.Machine.execVfieldMissing die enter mv s
  | .fieldDieReportTimeout die => Sys2Proof.Machine.execFieldDieReportTimeout die s
  | .inrushWindowEnd q above => Sys2Proof.Machine.execInrushWindowEnd q above s
  | .overcurrentTrip q => Sys2Proof.Machine.execOvercurrentTrip q s
  | .retryPauseEnd q => Sys2Proof.Machine.execRetryPauseEnd q s
  | .tripCountReset q => Sys2Proof.Machine.execTripCountReset q s
  | .thermalTrip q deltaT => Sys2Proof.Machine.execThermalTrip q deltaT s
  | .thermalLatchClear q deltaT => Sys2Proof.Machine.execThermalLatchClear q deltaT s
  | .shortToSupply q tied => Sys2Proof.Machine.execShortToSupply q tied s
  | .tiedChannelDetect x y => Sys2Proof.Machine.execTiedChannelDetect x y s
  | .openLoad q noCurrent => Sys2Proof.Machine.execOpenLoad q noCurrent s
  | .fieldWatchdogExpiry die => Sys2Proof.Machine.execFieldWatchdogExpiry die s
  | .dissipationTrip => Sys2Proof.Machine.execDissipationTrip s
  | .faultClear via q v => Sys2Proof.Machine.execFaultClear via q v s
  | .lampLearn via q v => Sys2Proof.Machine.execLampLearn via q v s
  | .lampLearnEnd q mean => Sys2Proof.Machine.execLampLearnEnd q mean s
  | .lampDark q => Sys2Proof.Machine.execLampDark q s
  | .lampFailTimeExpiry q => Sys2Proof.Machine.execLampFailTimeExpiry q s
  | .nslFrameReceived f => Sys2Proof.Machine.execNslFrameReceived f s
  | .nslWatchdog n => Sys2Proof.Machine.execNslWatchdog n s
  | .errorBudgetRefill n => Sys2Proof.Machine.execErrorBudgetRefill n s
  | .baseAdvance n => Sys2Proof.Machine.execBaseAdvance n s
  | .summarySend => Sys2Proof.Machine.execSummarySend s
  | .stagClaim line => Sys2Proof.Machine.execStagClaim line s
  | .stagConflict => Sys2Proof.Machine.execStagConflict s
  | .stagFault stuckLow => Sys2Proof.Machine.execStagFault stuckLow s
  | .keepAliveLapse => Sys2Proof.Machine.execKeepAliveLapse s
  | .stagCommand via v => Sys2Proof.Machine.execStagCommand via v s
  | .partnerFrame f => Sys2Proof.Machine.execPartnerFrame f s
  | .heartbeatLost => Sys2Proof.Machine.execHeartbeatLost s
  | .partnerRetrain => Sys2Proof.Machine.execPartnerRetrain s
  | .tickAlignedLoss => Sys2Proof.Machine.execTickAlignedLoss s
  | .nslCopy n seq ts payload => Sys2Proof.Machine.execNslCopy n seq ts payload s
  | .doorSnapshot ds => Sys2Proof.Machine.execDoorSnapshot ds s
  | .move m => Sys2Proof.Machine.execMove m s
  | .envelope a dir state cycles offset bs => Sys2Proof.Machine.execEnvelope a dir state cycles offset bs s
  | .background n px => Sys2Proof.Machine.execBackground n px s
  | .learned d strokes switchPos peakOpen peakClose serial => Sys2Proof.Machine.execLearned d strokes switchPos peakOpen peakClose serial s
  | .mirrorConfigWrite index sub v generation => Sys2Proof.Machine.execMirrorConfigWrite index sub v generation s
  | .inventory m => Sys2Proof.Machine.execInventory m s
  | .time seconds => Sys2Proof.Machine.execTime seconds s
  | .mirrorRetry tag => Sys2Proof.Machine.execMirrorRetry tag s
  | .mirrorTimeout tag => Sys2Proof.Machine.execMirrorTimeout tag s
  | .dictionaryWrite via index sub v seg => Sys2Proof.Machine.execDictionaryWrite via index sub v seg s
  | .dmSegmentTimeout source => Sys2Proof.Machine.execDmSegmentTimeout source s
  | .sdoSegmentTimeout => Sys2Proof.Machine.execSdoSegmentTimeout s
  | .bulkFrame port header bs => Sys2Proof.Machine.execBulkFrame port header bs s
  | .bulkTimeout port => Sys2Proof.Machine.execBulkTimeout port s
  | .rpdo n bs => Sys2Proof.Machine.execRpdo n bs s
  | .rpdoEventTimer n => Sys2Proof.Machine.execRpdoEventTimer n s
  | .tpdoTransmit n => Sys2Proof.Machine.execTpdoTransmit n s
  | .nmtCommand code => Sys2Proof.Machine.execNmtCommand code s
  | .sync => Sys2Proof.Machine.execSync s
  | .heartbeatMissing n => Sys2Proof.Machine.execHeartbeatMissing n s
  | .syncMissing => Sys2Proof.Machine.execSyncMissing s
  | .heartbeatProduce => Sys2Proof.Machine.execHeartbeatProduce s
  | .icmpEchoRequest port => Sys2Proof.Machine.execIcmpEchoRequest port s
  | .arpRequest port ip mac => Sys2Proof.Machine.execArpRequest port ip mac s
  | .phyLinkPoll port up speed => Sys2Proof.Machine.execPhyLinkPoll port up speed s
  | .canBusOff port => Sys2Proof.Machine.execCanBusOff port s
  | .sessionTimeout n => Sys2Proof.Machine.execSessionTimeout n s
  | .dmResponseExpiry source id => Sys2Proof.Machine.execDmResponseExpiry source id s
  | .eventIntake => Sys2Proof.Machine.execEventIntake s
  | .sampleIntake => Sys2Proof.Machine.execSampleIntake s
  | .operatingSecond => Sys2Proof.Machine.execOperatingSecond s
  | .windowRead source => Sys2Proof.Machine.execWindowRead source s
  | .areaWrite source v => Sys2Proof.Machine.execAreaWrite source v s
  | .bulkCountWrite source v => Sys2Proof.Machine.execBulkCountWrite source v s
  | .bulkDataRead source => Sys2Proof.Machine.execBulkDataRead source s
  | .contextRelease source => Sys2Proof.Machine.execContextRelease source s
  | .clear via mask => Sys2Proof.Machine.execClear via mask s
  | .histLimitsChanged via index sub v => Sys2Proof.Machine.execHistLimitsChanged via index sub v s
  | .ecConfigWrite via n sub v => Sys2Proof.Machine.execEcConfigWrite via n sub v s
  | .ecReset via n v => Sys2Proof.Machine.execEcReset via n v s
  | .linkCountersClear via d v => Sys2Proof.Machine.execLinkCountersClear via d v s
  | .nslCountersClear via v => Sys2Proof.Machine.execNslCountersClear via v s
  | .partnerCountersClear via v => Sys2Proof.Machine.execPartnerCountersClear via v s
  | .networkCountersClear via v => Sys2Proof.Machine.execNetworkCountersClear via v s
  | .powerCommandRun via => Sys2Proof.Machine.execPowerCommandRun via s
  | .powerCommandDoze via => Sys2Proof.Machine.execPowerCommandDoze via s
  | .powerCommandStabled via => Sys2Proof.Machine.execPowerCommandStabled via s
  | .sleepCommit => Sys2Proof.Machine.execSleepCommit s
  | .sleepAborted src => Sys2Proof.Machine.execSleepAborted src s
  | .wake t => Sys2Proof.Machine.execWake t s
  | .forceWake t => Sys2Proof.Machine.execForceWake t s
  | .wakeInEdge rising => Sys2Proof.Machine.execWakeInEdge rising s
  | .rtcAlarm => Sys2Proof.Machine.execRtcAlarm s
  | .pllLock elapsedUs stabledMs => Sys2Proof.Machine.execPllLock elapsedUs stabledMs s
  | .wakeRetry => Sys2Proof.Machine.execWakeRetry s
  | .powerWarning src mv => Sys2Proof.Machine.execPowerWarning src mv s
  | .powerWarningEnd src => Sys2Proof.Machine.execPowerWarningEnd src s
  | .brownOut src => Sys2Proof.Machine.execBrownOut src s
  | .brownOutRelease => Sys2Proof.Machine.execBrownOutRelease s
  | .powerOnReset straps => Sys2Proof.Machine.execPowerOnReset straps s
  | .vidChange code => Sys2Proof.Machine.execVidChange code s
  | .domainSleep n => Sys2Proof.Machine.execDomainSleep n s
  | .domainWake n stallUs => Sys2Proof.Machine.execDomainWake n stallUs s
  | .domainNotReady n via => Sys2Proof.Machine.execDomainNotReady n via s
  | .overtemperature temp => Sys2Proof.Machine.execOvertemperature temp s
  | .dieOvertemp die temp => Sys2Proof.Machine.execDieOvertemp die temp s
  | .attestNonce via bs => Sys2Proof.Machine.execAttestNonce via bs s
  | .anchorInstall via bs => Sys2Proof.Machine.execAnchorInstall via bs s
  | .sessionCredential source bs => Sys2Proof.Machine.execSessionCredential source bs s
  | .sessionRequest source bs => Sys2Proof.Machine.execSessionRequest source bs s
  | .sessionChallenge source => Sys2Proof.Machine.execSessionChallenge source s
  | .sessionProof source bs => Sys2Proof.Machine.execSessionProof source bs s
  | .handshakeTimeout source => Sys2Proof.Machine.execHandshakeTimeout source s
  | .handshakeLockoutEnd => Sys2Proof.Machine.execHandshakeLockoutEnd s
  | .sessionClose via v => Sys2Proof.Machine.execSessionClose via v s
  | .cosignChange via key policy => Sys2Proof.Machine.execCosignChange via key policy s
  | .fwImage via offset bs final => Sys2Proof.Machine.execFwImage via offset bs final s
  | .fwActivate via v => Sys2Proof.Machine.execFwActivate via v s
  | .fwConfirm via v => Sys2Proof.Machine.execFwConfirm via v s
  | .debugUnlockObserve via => Sys2Proof.Machine.execDebugUnlockObserve via s
  | .debugUnlockHalt via => Sys2Proof.Machine.execDebugUnlockHalt via s
  | .rmaCommand via bs => Sys2Proof.Machine.execRmaCommand via bs s
  | .nreset straps => Sys2Proof.Machine.execNreset straps s
  | .watchdog => Sys2Proof.Machine.execWatchdog s
  | .deviceReset via v => Sys2Proof.Machine.execDeviceReset via v s
  | .internalReset cause => Sys2Proof.Machine.execInternalReset cause s
  | .boot images bad => Sys2Proof.Machine.execBoot images bad s
  | .characterLockLost d => Sys2Proof.Machine.execCharacterLockLost d s
  | .nodePowerUp d => Sys2Proof.Machine.execNodePowerUp d s
  | .fieldDiePowerUp die => Sys2Proof.Machine.execFieldDiePowerUp die s
  | .pulseGeneratorEdge q on => Sys2Proof.Machine.execPulseGeneratorEdge q on s
  | .demagnetisationEnd q energy limited => Sys2Proof.Machine.execDemagnetisationEnd q energy limited s
  | .pgMainHigh => Sys2Proof.Machine.execPgMainHigh s
  | .oscillatorReady => Sys2Proof.Machine.execOscillatorReady s
  | .latchedWake => Sys2Proof.Machine.execLatchedWake s
  | .dieOvertempEnd die temp => Sys2Proof.Machine.execDieOvertempEnd die temp s
  | .lineRefRestored die iref => Sys2Proof.Machine.execLineRefRestored die iref s
  | .endOfTestFuse => Sys2Proof.Machine.execEndOfTestFuse s

end Sys2Proof.Machine
end

