-- ==== Sys2Proof/Safety.lean ====
section
/-!
DEFINITION. The words in which claims about the block are stated: what a command leaves unchanged, the registers that the event
router and a dictionary access touch beside an engine's own, and the invariant of the drive token. A run is safe while that
invariant holds.
-/
namespace Sys2Proof.Machine

/-! ### Frames -/

/-- Registers that follow from the rest of the state at once after every command (R325, R326, R534). -/
def wiredRegs : List Nat := [Gl.HOLDER, Gl.NFAULT_CAUSES]

/-- Registers that an event beside its own flag may write: ERROR_REGISTER (R422), the recorder's loss counters and flags (R447) and the
event counters (R466). -/
def eventRegs : List Nat :=
  [Gl.ERROR_REGISTER, Gl.INTAKE_LOST, Gl.RECORDER_STATUS, Gl.RECORDER_REPEATS 0] ++ (List.range 32).map Ec.EC_VALUE

/-- Registers that a sample for a histogram may write, when the sample queue is full (R449). -/
def sampleRegs : List Nat := [Gl.SAMPLES_LOST, Gl.RECORDER_STATUS, Gl.RECORDER_REPEATS 1]

/-- Registers that the loss of a doorway link writes: its state, its counters, the table's state, and the full scales of the doorway's axes
(R149, R189, R190). -/
def lossRegs (d : Nat) : List Nat :=
  [Lk.LINK_STATE d, Lk.LINK_STATUS d, Lk.LINK_CAUSE d, Lk.LINK_LOSSES d, Lk.TRAIN_FAILURES d, Dr.TABLE_STATE d]
    ++ [3 * d, 3 * d + 1, 3 * d + 2].flatMap (fun a => [Ax.V_FULLSCALE a, Ax.I_FULLSCALE a])

/-- Registers that the partner link's state shows in (R332, R336, R352, R354). -/
def pairRegs : List Nat :=
  [Gl.PARTNER_STATE, Gl.PARTNER_LOST_CAUSE, Gl.FAST_TICK_SOURCE, Gl.DUPLEX_STATUS, Gl.DUPLEX_REPEATS 0, Gl.DUPLEX_REPEATS 3, Gl.SYNC_ITEMS_PENDING, Gl.SHADOW_SYNC_MASK]
    ++ (List.range 16).map Lk.LINK_STATUS

/-- Every register outside `ks` reads after what it read before; the wired registers follow the state. -/
def KeepsRegs (ks : List Nat) (s t : State) : Prop := ∀ k, k ∉ ks → k ∉ wiredRegs → t.rd k = s.rd k

/-- The state without its queue, its registers and the token's line, which the interlock may let go (R326). -/
def State.sansRegs (s : State) : State :=
  { s with pending := [], dict := [], duplex := { s.duplex with driving := false, releaseNext := false } }

/-- The same also without what events and samples leave with the recorder and the ports. -/
def State.sansEvents (s : State) : State := { s.sansRegs with recd := {}, net := {}, egress := [], free := 0 }

/-- The same also without what a dictionary access leaves: its answer, a session's counter and time, the idle times of the domains, the
queue of the mirror, the flags cleared in this tick. -/
def State.sansAccess (s : State) : State :=
  { s.sansEvents with
    answer := none
    boundary := { s.boundary with cleared := [] }
    sessions := s.sessions.map (fun (x : Session) => { x with counter := 0, lastValid := 0 })
    power := { s.power with motionIdle := none, senseIdle := none, waking := 0 }
    duplex := { s.sansRegs.duplex with tag := 0, outbox := [], marked := [], written := [] } }

/-- `t` differs from `s` in registers only. -/
def OnlyRegs (s t : State) : Prop := t.sansRegs = s.sansRegs

/-- `t` differs from `s` in registers, and in what events and samples leave with the recorder and the ports. -/
def OnlyEvents (s t : State) : Prop := t.sansEvents = s.sansEvents

/-- `t` differs from `s` in registers, and in what events, samples and a dictionary access leave. -/
def OnlyAccess (s t : State) : Prop := t.sansAccess = s.sansAccess

/-- An event code was counted once more in the code table (R445). -/
def Counted (code : Nat) (s t : State) : Prop := (t.code code).occ = min ((s.code code).occ + 1) max32

/-- A doorway link has gone from `s` to LOST in `t` with a cause (R178, R189 to R192): the cause is shown, the loss or the failed training is counted,
the exchange is over, RETRAIN_DELAY runs, and the holder reports it to the doorway and as an event. -/
abbrev LinkLost (s t : State) (d cause : Nat) : Prop :=
  linkState t d = lLost ∧ t.bit (Lk.LINK_STATUS d) 0 = false ∧ t.rdn (Lk.LINK_CAUSE d) = cause
    ∧ (linkState s d = lUp ∨ linkState s d = lListen → t.rdn (Lk.LINK_LOSSES d) = min (s.rdn (Lk.LINK_LOSSES d) + 1) max32)
    ∧ (linkState s d = lConfig ∨ linkState s d = lReady → t.rdn (Lk.TRAIN_FAILURES d) = min (s.rdn (Lk.TRAIN_FAILURES d) + 1) max32)
    ∧ t.link d = { (s.link d).idle with retrainAt := s.after (s.rdn (Lk.RETRAIN_DELAY d)) }
    ∧ (s.holds = true → (if 7 ≤ cause ∧ cause ≤ 10 then 9 else 1) ∈ (t.door d).faults ∧ Counted 0x13C1 s t)
    ∧ KeepsRegs (Lk.MGMT_SUPERSEDED d :: lossRegs d ++ eventRegs) s t
    ∧ OnlyEvents { s with links := putD {} s.links d (t.link d), doors := putD {} s.doors d (t.door d) } t

/-- What frames put in force at a node: the node without its tables, configuration, timing, responses and frames on the ports, which its
management channel and its ports write. -/
def Node.drive (n : Node) : Node :=
  { n with shadowTable := [], table := [], tableValid := false, config := [], taA := 0, taB := 0, respA := {}, respB := {}, portA := {}, portB := {} }

/-! ### Dictionary writes -/

/-- Registers that a dictionary access touches beside the entry it writes: receive counters (R415, R432), the transaction slots
(R35, R43), the wake of a sleeping domain (R484) and the generation of mirrored entries (R351). -/
def accessRegs : List Nat :=
  [Gl.TXN_IN_FLIGHT, Gl.TXN_PEAK, Gl.TXN_REFUSED_C0, Gl.TXN_REFUSED_C1, Gl.TXN_REFUSED_C2, Gl.TXN_REFUSED_C3, Gl.AUTH_FAILURES,
   Gl.DM_RETRIES_ANSWERED, Gl.DOMAINS_ON, Gl.DOMAIN_WAKES, Gl.POWER_STATUS, Gl.CONFIG_GENERATION,
   Et.RX_FRAMES 0, Et.RX_FRAMES 1, Cb.RX_FRAMES 0]

/-- A write of `v` to an entry passes its arrival (R36, R37, R429, R433) and the checks of R439 up to the range, and reaches the
entry's own effect as the number `n` in state `u`. -/
def Reaches (via : Via) (index sub : Nat) (v : Int) (lv : Option (Level → Bool)) (s u : State) (n : Int) : Prop :=
  front via (requestClass index sub false) (index, sub, .num v, none) s = .go u
    ∧ checkNum via index sub (.num v) none lv u = .ok n
    ∧ configuredOut index sub u = false

/-- The same for a DOMAIN value written in one piece (R428): the write passes its arrival and the checks of R439, and reaches the entry's
own effect in state `u`. -/
def ReachesBytes (via : Via) (index sub : Nat) (bs : List ByteN) (s u : State) : Prop :=
  front via (requestClass index sub false) (index, sub, .bytes bs, none) s = .go u
    ∧ (match exists_ index sub u with
      | .ok r => (via = .mirror ∨ levelMayWrite r.acc (levelOf via u) = true) ∧ r.acc ≠ .ro ∧ r.acc ≠ .const
      | .error _ => False)
    ∧ frozenByRma u = false ∧ configuredOut index sub u = false

/-- A read that has a command of its own passes its arrival (R37, R433, R533). -/
def readArrives (source index sub : Nat) (s : State) : Bool := match front (viaOf source) 3 (index, sub, .num (-1), none) s with
  | .go _ => true
  | .stop _ => false

/-! ### The invariant -/

/-- The token and the fault line agree with the state (R325, R326, R534): HOLDER shows whether this unit drives STAG_OUT, it does so only
while the interlock's conditions hold, and NFAULT_CAUSES lists exactly the causes present. -/
def Wired (s : State) : Prop :=
  s.rd Gl.HOLDER = b2i s.holds ∧ (s.holds = true → mayHold s = true) ∧ s.rd Gl.NFAULT_CAUSES = (nfaultCauses s : Int)

end Sys2Proof.Machine
end

