-- ==== Sys2Proof/Certificates/Slice0/Obligations.lean ====
section
/-!
DEFINITION. What is claimed of the block, for the provers: one `Prop` per obligation. Hypotheses speak of the state and the operands of a
command; conclusions say that the command answers a next state, what it wrote there, and what it left alone.
-/
open Sys2Proof Sys2Proof.Machine

/-! ### The block as a whole -/

/-- A step takes the command at the front of the queue and is its `exec` on the state with the queue's rest. On an empty queue nothing happens, which is the model's
own choice (log entry 1). -/
def Obligations.StepRunsTheFrontCommand : Prop :=
  (∀ (c : Instr) (rest : List Instr) (s : State), step { s with pending := c :: rest } = exec c { s with pending := rest })
    ∧ (∀ s : State, s.pending = [] → step s = .next s)

/-- Every command, in every state and with every operand, answers a next state, and leaves the commands that wait as they are. -/
def Obligations.EveryCommandCompletes : Prop :=
  ∀ (c : Instr) (s : State), ∃ t, exec c s = .next t ∧ t.pending = s.pending

/-- The machine right after reset: every entry at its default (R440, R469 and the tables of the other chapters), written and in force. The NFAULT_CAUSES of that state is the
model's choice (log entry 31). -/
def Obligations.ResetDefaults : Prop :=
  State.reset.pending = [] ∧ State.reset.running = false ∧ State.reset.holds = false
    ∧ State.reset.doors = [] ∧ State.reset.axes = [] ∧ State.reset.sessions = [] ∧ State.reset.egress = []
    ∧ (∀ x, x ∈ [(Gl.C0_RESERVED, 16), (Gl.C1_RESERVED, 32), (Gl.C3_CAP, 48), (Gl.START_PEAK_TIME, 150), (Gl.START_MARGIN, 10), (Gl.ENV_MIN_CYCLES, 16),
        (Gl.LEARN_FLOOR, 100), (Gl.SUMMARY_PERIOD, 50), (Gl.PROOF_TEST_INTERVAL, 6570), (Gl.ERROR_BUDGET_SIZE, 3), (Gl.MIRROR_TIMEOUT, 50),
        (Gl.DISSIPATION_LIMIT, 14000), (Gl.FIELD_WD_TIMEOUT, 50), (Gl.EVENT_CLASS_MAX, 1), (Gl.WAKE_ENABLE, 7), (Gl.VID_CODE, 8), (Gl.DOMAINS_ON, 0x3FF),
        (Gl.FW_TARGET, 1), (Gl.SECURITY_STATE, 1), (Gl.FAST_TICK_COUNT, 0), (Gl.HOLDER, 0), (Gl.WRITE_ENABLE, 0), (Gl.DEBUG_LEVEL, 0)] →
      State.reset.rd x.1 = x.2 ∧ State.reset.p x.1 = x.2)
    ∧ (∀ a, a ∈ [0, 1, 23, 47] → ∀ x, x ∈ [(Ax.MAX_SPEED a, 300), (Ax.ACCEL a, 500), (Ax.STOP_DECEL a, 1000), (Ax.STANDSTILL_DELAY a, 500), (Ax.POLE_PAIRS a, 4),
        (Ax.CURRENT_BANDWIDTH a, 1000), (Ax.ENCODER_CPR a, 4096), (Ax.STALL_TIME a, 200), (Ax.ENV_K_CLOSE a, 40), (Gl.FORCE_LIMIT a, 1500),
        (Gl.SAFE_SPEED_LIMIT a, 400)] → State.reset.p x.1 = x.2)
    ∧ (∀ d, d ∈ [0, 1, 15] → ∀ x, x ∈ [(Dr.PRIORITY d, 8), (Dr.WARNING_TIME d, 2000), (Dr.UNLOCK_TIMEOUT d, 300), (Dr.REOPEN_DISTANCE d, 150000),
        (Dr.RETRIES d, 3), (Dr.LOCK_PAIR_TIME d, 200), (Lk.MGMT_RETRIES d, 3), (Dr.STATE d, 0), (Lk.LINK_STATE d, 0)] → State.reset.rd x.1 = x.2)

/-- The token and the fault line agree with the reset state (R325, R326, R534). -/
def Obligations.ResetIsWired : Prop := Wired State.reset

/-- Every step keeps the token honest and the fault causes true (R325, R326, R534): whatever command stands in front, the state that follows drives STAG_OUT only while the
interlock's conditions hold there, HOLDER shows whether it does, and NFAULT_CAUSES lists exactly the causes that are then present. -/
def Obligations.EveryStepKeepsTheWiring : Prop :=
  ∀ (s t : State), Wired s → step s = .next t → Wired t

/-- nFAULT and its causes (R534): after every command, from every state, nFAULT is high exactly when the module runs, no wake has failed, neither safe state is in force, the set is CONFIRMED,
there is no rollback fault, BOOT_MODE is NORMAL and SECURITY_STATE is neither MANUFACTURE nor RMA; and each bit of NFAULT_CAUSES shows its own cause. -/
def Obligations.FaultLineShowsItsCauses : Prop :=
  ∀ (c : Instr) (s : State), ∃ t, exec c s = .next t
    ∧ (nFault t = true ↔ t.running = true ∧ t.power.wakeFailed = false ∧ t.rd Gl.SAFE_STATE_CAUSE = 0 ∧ t.safety.debugSafe = false ∧ t.rd Gl.SET_STATE = 1
        ∧ t.bit Gl.SECURITY_STATUS 0 = false ∧ t.rd Gl.BOOT_MODE = 0 ∧ t.rd Gl.SECURITY_STATE ≠ 0 ∧ t.rd Gl.SECURITY_STATE ≠ 3)
    ∧ (nFault t = true ↔ t.rd Gl.NFAULT_CAUSES = 0)
    ∧ (t.bit Gl.NFAULT_CAUSES 0 = !t.running) ∧ (t.bit Gl.NFAULT_CAUSES 1 = t.power.wakeFailed)
    ∧ (t.bit Gl.NFAULT_CAUSES 2 = true ↔ t.rd Gl.SAFE_STATE_CAUSE ≠ 0 ∨ t.safety.debugSafe = true)
    ∧ (t.bit Gl.NFAULT_CAUSES 3 = true ↔ t.rd Gl.SET_STATE ≠ 1) ∧ (t.bit Gl.NFAULT_CAUSES 4 = t.bit Gl.SECURITY_STATUS 0)
    ∧ (t.bit Gl.NFAULT_CAUSES 5 = true ↔ t.rd Gl.BOOT_MODE ≠ 0)
    ∧ (t.bit Gl.NFAULT_CAUSES 6 = true ↔ t.rd Gl.SECURITY_STATE = 0 ∨ t.rd Gl.SECURITY_STATE = 3)
    ∧ t.bit Gl.NFAULT_CAUSES 7 = false

/-! ### Field inputs, pairs, contacts and supplies (chapters 7 and 11) -/

/-- A field input follows its filtered value and its wire (R360, R363, R364, R375). A filtered change is shown as it is, but as inactive
while the supply of the input's die is missing; a STEP input that reads inactive frees its pairs for their next coarse step. The 0.1 ms
filter of a sensitive edge gives the edge's own reading, and changes no register. A break that the checks of R363 admit sets the input's bits in WIRE_BREAK_MASK and
WIRE_BREAK_SEEN, makes the input read inactive and is counted once more in the code table, as a class-0 event for an edge or a pair's
member and as a class-3 event else. Its end clears the bit of WIRE_BREAK_MASK and keeps WIRE_BREAK_SEEN. No other register changes but
those of the event, and beside registers only the times since when the channels' readings differ. -/
def Obligations.FieldInputAndWireBreak : Prop :=
  ∀ (s : State) (n : Nat), n < 48 →
    (∀ v : Bool, ∃ t, exec (.inputFilteredChange n (.own v)) s = .next t
      ∧ t.bit Gl.INPUT_STATE n = (v && !s.bit Gl.FIELD_STATUS (1 + 2 * dieOf n))
      ∧ t.rd (In.FILTERED n) = b2i (v && !s.bit Gl.FIELD_STATUS (1 + 2 * dieOf n))
      ∧ (∀ m, m ≠ n → t.bit Gl.INPUT_STATE m = s.bit Gl.INPUT_STATE m)
      ∧ (∀ p, p < 4 → t.boundary.stepSeen.testBit p
          = (s.boundary.stepSeen.testBit p && (v && !s.bit Gl.FIELD_STATUS (1 + 2 * dieOf n) || s.pn (Gl.STEP_DIR_INPUTS (2 * p)) != 0x40 + n)))
      ∧ t.bit Gl.WIRE_BREAK_MASK n = (s.bit Gl.WIRE_BREAK_MASK n && !(v && !s.bit Gl.FIELD_STATUS (1 + 2 * dieOf n)))
      ∧ (∀ m, m ≠ n → t.bit Gl.WIRE_BREAK_MASK m = s.bit Gl.WIRE_BREAK_MASK m)
      ∧ KeepsRegs [Gl.INPUT_STATE, In.FILTERED n, Gl.WIRE_BREAK_MASK] s t
      ∧ OnlyRegs { s with pairs := t.pairs, contacts := t.contacts, boundary := { s.boundary with stepSeen := t.boundary.stepSeen } } t)
    ∧ (∀ v : Bool, ∃ t, exec (.inputFilteredChange n (.edge v)) s = .next t
      ∧ t.boundary.edgeIn.testBit n = (v && !s.bit Gl.FIELD_STATUS (1 + 2 * dieOf n))
      ∧ (∀ m, m ≠ n → t.boundary.edgeIn.testBit m = s.boundary.edgeIn.testBit m)
      ∧ KeepsRegs [] s t ∧ OnlyRegs { s with boundary := { s.boundary with edgeIn := t.boundary.edgeIn } } t)
    ∧ (breakChecked s n = true → s.bit Gl.INPUT_STATE n = false → s.bit Gl.FIELD_STATUS (1 + 2 * dieOf n) = false
        → s.bit Gl.WIRE_BREAK_MASK n = false →
      ∃ t, exec (.wireBreak n) s = .next t
        ∧ t.bit Gl.WIRE_BREAK_MASK n = true ∧ t.bit Gl.WIRE_BREAK_SEEN n = true ∧ inputReads t n = false
        ∧ Counted (if isEdgeInput s n || pairOn s (pairOf n) then 0x0402 else 0x3401) s t
        ∧ (∀ m, m ≠ n → t.bit Gl.WIRE_BREAK_MASK m = s.bit Gl.WIRE_BREAK_MASK m)
        ∧ KeepsRegs ([Gl.WIRE_BREAK_MASK, Gl.WIRE_BREAK_SEEN, In.WIRE_BREAK_REPEATS n] ++ eventRegs) s t
        ∧ OnlyEvents { s with pairs := t.pairs, contacts := t.contacts } t)
    ∧ (s.bit Gl.WIRE_BREAK_MASK n = true → s.bit Gl.FIELD_STATUS (1 + 2 * dieOf n) = false →
      ∃ t, exec (.wireBreakEnd n) s = .next t
        ∧ t.bit Gl.WIRE_BREAK_MASK n = false
        ∧ (∀ m, m ≠ n → t.bit Gl.WIRE_BREAK_MASK m = s.bit Gl.WIRE_BREAK_MASK m)
        ∧ KeepsRegs [Gl.WIRE_BREAK_MASK] s t
        ∧ OnlyRegs { s with pairs := t.pairs, contacts := t.contacts } t)

/-- A pair whose readings differed for longer than PAIR_DISCREPANCY_TIME is latched (R370): its bit in PAIR_DISCREPANCY_MASK is set, it reads inactive,
PAIR_DISCREPANCIES counts one more and a class-0 event is counted. The latch clears after 100 door ticks with both own readings
inactive; the pair then reads what its own readings give, that is inactive. -/
def Obligations.PairDiscrepancyLatches : Prop :=
  ∀ (s : State) (p : Nat), p < 24 →
    (pairOn s p = true → pairIsContact s p = false → pairLatched s p = false → supplyMissing s = false
        → heldFor (lookup p s.pairs.diffSince) s.now (50 * s.pn (Gl.PAIR_DISCREPANCY_TIME p) + 1) = true →
      ∃ t, exec (.pairDiscrepancy p) s = .next t
        ∧ pairLatched t p = true ∧ pairActive t p = false ∧ t.bit Gl.PAIR_STATE p = false
        ∧ t.rdn Gl.PAIR_DISCREPANCIES = min (s.rdn Gl.PAIR_DISCREPANCIES + 1) max32
        ∧ Counted 0x0403 s t
        ∧ KeepsRegs ([Gl.PAIR_DISCREPANCY_MASK, Gl.PAIR_STATE, Gl.PAIR_DISCREPANCIES] ++ eventRegs) s t
        ∧ OnlyEvents { s with pairs := t.pairs } t)
    ∧ (pairLatched s p = true → 100 ≤ getD 0 s.pairs.quiet p →
      ∃ t, exec (.pairDiscrepancyClear p) s = .next t
        ∧ pairLatched t p = false
        ∧ (∀ q, q ≠ p → pairLatched t q = pairLatched s q)
        ∧ KeepsRegs [Gl.PAIR_DISCREPANCY_MASK] s t
        ∧ OnlyRegs { s with pairs := t.pairs } t)

/-- Line references, supplies and silent field dies (R367, R374 to R376). A reference below 0.55 of I_nom sets its flag in FIELD_STATUS,
with which every line-class input of its die reads inactive, and is counted as a class-0 event; restored it clears the flag. A supply
below 16.8 V sets LOW with its latched flag, and is counted as a class-1 event; above 17.3 V it clears LOW and keeps the latched flag. A
die that sends no report has every input taken as inactive, and no other. -/
def Obligations.FieldDieSupplies : Prop :=
  ∀ (s : State) (die : Nat), die < 2 →
    (∀ iref nom : Nat, lineNominal s = some nom → lineRef s die ≠ 0xFF → 100 * iref < 55 * nom
        → s.bit Gl.FIELD_STATUS (4 + die) = false →
      ∃ t, exec (.lineRefLow die iref) s = .next t
        ∧ t.bit Gl.FIELD_STATUS (4 + die) = true
        ∧ (∀ n, dieOf n = die → 2 ≤ classOf s n → inputReads t n = false)
        ∧ Counted 0x0404 s t
        ∧ KeepsRegs ([Gl.FIELD_STATUS, if die = 0 then Gl.LINE_REF_CURRENT_A else Gl.LINE_REF_CURRENT_B] ++ eventRegs) s t
        ∧ OnlyEvents { s with pairs := t.pairs, contacts := t.contacts } t)
    ∧ (∀ iref nom : Nat, lineNominal s = some nom → 55 * nom ≤ 100 * iref → s.bit Gl.FIELD_STATUS (4 + die) = true →
      ∃ t, exec (.lineRefRestored die iref) s = .next t
        ∧ t.bit Gl.FIELD_STATUS (4 + die) = false
        ∧ (∀ i, i ≠ 4 + die → t.bit Gl.FIELD_STATUS i = s.bit Gl.FIELD_STATUS i)
        ∧ KeepsRegs [Gl.FIELD_STATUS, if die = 0 then Gl.LINE_REF_CURRENT_A else Gl.LINE_REF_CURRENT_B] s t
        ∧ OnlyRegs { s with pairs := t.pairs, contacts := t.contacts } t)
    ∧ (∀ mv : Nat, mv < 16800 → s.bit Gl.FIELD_STATUS (2 * die) = false →
      ∃ t, exec (.vfieldLow die true mv) s = .next t
        ∧ t.bit Gl.FIELD_STATUS (2 * die) = true ∧ t.bit Gl.FIELD_STATUS (8 + 2 * die) = true
        ∧ t.rdn (if die = 0 then Gl.VFIELD_A else Gl.VFIELD_B) = mv
        ∧ Counted 0x1441 s t
        ∧ KeepsRegs ([Gl.FIELD_STATUS, if die = 0 then Gl.VFIELD_A else Gl.VFIELD_B, Gl.FIELD_REPEATS (2 * die)] ++ eventRegs) s t
        ∧ OnlyEvents s t)
    ∧ (∀ mv : Nat, 17300 < mv → s.bit Gl.FIELD_STATUS (2 * die) = true →
      ∃ t, exec (.vfieldLow die false mv) s = .next t
        ∧ t.bit Gl.FIELD_STATUS (2 * die) = false
        ∧ (∀ i, i ≠ 2 * die → t.bit Gl.FIELD_STATUS i = s.bit Gl.FIELD_STATUS i)
        ∧ t.rdn (if die = 0 then Gl.VFIELD_A else Gl.VFIELD_B) = min 50000 mv
        ∧ KeepsRegs [Gl.FIELD_STATUS, if die = 0 then Gl.VFIELD_A else Gl.VFIELD_B] s t
        ∧ OnlyRegs s t)
    ∧ (∃ t, exec (.fieldDieReportTimeout die) s = .next t
        ∧ (∀ n, n < 48 → t.bit Gl.INPUT_STATE n = (s.bit Gl.INPUT_STATE n && dieOf n != die))
        ∧ (∀ n, n < 48 → dieOf n = die → t.rd (In.FILTERED n) = 0)
        ∧ KeepsRegs (Gl.INPUT_STATE :: (List.range 24).map (fun i => In.FILTERED (24 * die + i))) s t
        ∧ (∀ n, n < 48 → t.boundary.edgeIn.testBit n = (s.boundary.edgeIn.testBit n && dieOf n != die))
        ∧ OnlyRegs { s with pairs := t.pairs, contacts := t.contacts, boundary := { s.boundary with edgeIn := t.boundary.edgeIn, stepSeen := t.boundary.stepSeen } } t)

/-- A doorway's contacts (R236, R239). A raw value that held for CONTACT_FILTER becomes the filtered reading of its channel, and of no
other contact or channel; the channel's display word shows the readings. Readings that differed for CONTACT_DISCREPANCY_TIME latch the
contact as inactive, set DISCREPANCY_ACTIVE and DISCREPANCY_SEEN, count in DISCREPANCIES, report fault cause 5 to the sequencer and count a
class-0 event. -/
def Obligations.ContactReadings : Prop :=
  ∀ (s : State) (d c : Nat), 1 ≤ c → c ≤ 7 →
    (∀ v : Bool, contactCode s d c < 8 → (s.con d).rawA.testBit (contactCode s d c) = v
        → rawSince (s.con d) (contactCode s d c) + 5 * s.pn (Ct.CONTACT_FILTER d) ≤ s.now →
      ∃ t, exec (.contactFilteredChange d c .A v) s = .next t
        ∧ (t.con d).conA.testBit (c - 1) = v ∧ (t.con d).conB = (s.con d).conB
        ∧ (∀ i, i ≠ c - 1 → (t.con d).conA.testBit i = (s.con d).conA.testBit i)
        ∧ KeepsRegs [Dr.CONTACTS_A d] s t
        ∧ OnlyRegs { s with contacts := t.contacts } t)
    ∧ (∀ v : Bool, contactCode s d c < 8 → (s.con d).rawB.testBit (contactCode s d c) = v
        → rawSince (s.con d) (8 + contactCode s d c) + 5 * s.pn (Ct.CONTACT_FILTER d) ≤ s.now →
      ∃ t, exec (.contactFilteredChange d c .B v) s = .next t
        ∧ (t.con d).conB.testBit (c - 1) = v ∧ (t.con d).conA = (s.con d).conA
        ∧ (∀ i, i ≠ c - 1 → (t.con d).conB.testBit i = (s.con d).conB.testBit i)
        ∧ KeepsRegs [Dr.CONTACTS_B d] s t
        ∧ OnlyRegs { s with contacts := t.contacts } t)
    ∧ (configured s d = true → contactLatched s d c = false
        → heldFor (lookup c (s.con d).diffSince) s.now (50 * s.pn (Ct.CONTACT_DISCREPANCY_TIME d) + 1) = true →
      ∃ t, exec (.contactDiscrepancy d c) s = .next t
        ∧ contactLatched t d c = true ∧ contact t d c = false
        ∧ t.bit (Dr.CONTACT_STATUS d) 1 = true ∧ t.bit (Dr.CONTACT_STATUS d) 8 = true
        ∧ t.rdn (Dr.DISCREPANCIES d) = min (s.rdn (Dr.DISCREPANCIES d) + 1) max32
        ∧ 5 ∈ (t.door d).faults
        ∧ Counted 0x05C1 s t
        ∧ KeepsRegs ([Dr.CONTACT_STATUS d, Dr.DISCREPANCY_SEEN_REPEATS d, Dr.DISCREPANCIES d] ++ eventRegs) s t
        ∧ OnlyEvents { s with contacts := t.contacts, doors := t.doors } t)

/-! ### Protected outputs (chapter 12) -/

/-- The overcurrent protection of a channel (R390, R391). A window that ends below the limit closes and leaves the switch on. A trip with
fewer than RETRY_LIMIT consecutive trips switches the channel off, adds 1 to TRIP_COUNT and starts a pause of min(10 ms · 2^(c − 1),
1280 ms); the pause over, the channel switches on again if its demand is on. At RETRY_LIMIT a coil latches OVERCURRENT_LATCHED without a
pause and counts a class-1 event, and a lamp leaves its report to Glowworm. An overcurrent trip in the sample of a thermal trip counts,
and its pause is frozen at once (R394). After 1 s of on-time without a trip the count is 0 again. Nothing else moves but the trip's counter,
flag and sample. -/
def Obligations.OvercurrentTripAndRetry : Prop :=
  ∀ (s : State) (q : Nat), q < 24 →
    (∀ u t0, (s.chan q).inrushUntil = some u → (s.chan q).onSince = some t0 → chanOn s q = true → t0 + 50 ≤ s.now →
      ∃ t, exec (.inrushWindowEnd q false) s = .next t
        ∧ t.chan q = { s.chan q with inrushUntil := none, inrushEnd := some s.now }
        ∧ t.bit (Ou.OUT_STATUS q) 2 = false ∧ chanOn t q = true
        ∧ KeepsRegs [Ou.OUT_STATUS q] s t ∧ OnlyRegs { s with chans := t.chans } t)
    ∧ (chanOn s q = true → thermalLatched s q = false → (s.chan q).inrushUntil = none → heldFor (s.chan q).inrushEnd s.now 5 = true
        → s.rdn (Ou.TRIP_COUNT q) + 1 < s.pn (Ou.RETRY_LIMIT q) → s.rdn (Ou.TRIP_COUNT q) < 32 →
      ∃ t, exec (.overcurrentTrip q) s = .next t
        ∧ chanOn t q = false ∧ t.bit (Ou.OUT_STATUS q) 3 = true ∧ t.bit (Ou.OUT_STATUS q) 16 = true
        ∧ t.rdn (Ou.TRIP_COUNT q) = s.rdn (Ou.TRIP_COUNT q) + 1
        ∧ t.rdn (Ou.OVERCURRENT_TRIPS q) = min (s.rdn (Ou.OVERCURRENT_TRIPS q) + 1) max32
        ∧ (t.chan q).pauseUntil = some (s.now + 50 * min (10 * 2 ^ s.rdn (Ou.TRIP_COUNT q)) 1280)
        ∧ (∀ r, r ≠ q → t.chan r = s.chan r)
        ∧ KeepsRegs ([Ou.OUT_STATUS q, Ou.TRIP_COUNT q, Ou.OVERCURRENT_TRIPS q, Ou.OUT_REPEATS q 0] ++ sampleRegs) s t
        ∧ OnlyEvents { s with chans := t.chans } t)
    ∧ (chanOn s q = false → thermalLatched s q = true → (s.chan q).tripAt = some s.now
        → s.rdn (Ou.TRIP_COUNT q) + 1 < s.pn (Ou.RETRY_LIMIT q) → s.rdn (Ou.TRIP_COUNT q) < 32 →
      ∃ t, exec (.overcurrentTrip q) s = .next t
        ∧ t.rdn (Ou.TRIP_COUNT q) = s.rdn (Ou.TRIP_COUNT q) + 1
        ∧ (t.chan q).pauseUntil = none ∧ (t.chan q).pauseLeft = some (50 * min (10 * 2 ^ s.rdn (Ou.TRIP_COUNT q)) 1280)
        ∧ (t.chan q).tripAt = none)
    ∧ (q < 16 → chanOn s q = true → (s.chan q).inrushUntil = none → heldFor (s.chan q).inrushEnd s.now 5 = true
        → s.pn (Ou.RETRY_LIMIT q) ≤ s.rdn (Ou.TRIP_COUNT q) + 1 → s.rdn (Ou.TRIP_COUNT q) < 32 →
      ∃ t, exec (.overcurrentTrip q) s = .next t
        ∧ chanOn t q = false ∧ t.bit (Ou.OUT_STATUS q) 8 = true ∧ (t.chan q).causes = 2 :: (s.chan q).causes
        ∧ KeepsRegs ([Ou.OUT_STATUS q, Ou.TRIP_COUNT q, Ou.OVERCURRENT_TRIPS q, Ou.OUT_REPEATS q 0] ++ sampleRegs) s t
        ∧ OnlyEvents { s with chans := t.chans } t)
    ∧ (16 ≤ q → chanOn s q = true → (s.chan q).inrushUntil = none → heldFor (s.chan q).inrushEnd s.now 5 = true
        → s.pn (Ou.RETRY_LIMIT q) ≤ s.rdn (Ou.TRIP_COUNT q) + 1 → s.rdn (Ou.TRIP_COUNT q) < 32 →
      ∃ t, exec (.overcurrentTrip q) s = .next t
        ∧ chanOn t q = false ∧ t.bit (Ou.OUT_STATUS q) 8 = true ∧ t.bit (Ou.OUT_STATUS q) 3 = false
        ∧ (t.chan q).pauseUntil = none ∧ t.bit Gl.COIL_FAULT_MASK (q - 16) = true
        ∧ t.rdn (Ou.TRIP_COUNT q) = s.rdn (Ou.TRIP_COUNT q) + 1
        ∧ Counted 0x14C1 s t
        ∧ KeepsRegs ([Ou.OUT_STATUS q, Ou.TRIP_COUNT q, Ou.OVERCURRENT_TRIPS q, Ou.OUT_REPEATS q 0, Gl.LAMP_FAILED_MASK, Gl.COIL_FAULT_MASK]
            ++ sampleRegs ++ eventRegs) s t
        ∧ OnlyEvents { s with chans := t.chans } t)
    ∧ (due (s.chan q).pauseUntil s.now = true →
      ∃ t, exec (.retryPauseEnd q) s = .next t
        ∧ (t.chan q).pauseUntil = none ∧ t.bit (Ou.OUT_STATUS q) 3 = false
        ∧ (∀ r, r ≠ q → t.chan r = s.chan r)
        ∧ KeepsRegs [Ou.OUT_STATUS q] s t ∧ OnlyRegs { s with chans := t.chans } t)
    ∧ (due (s.chan q).pauseUntil s.now = true → (s.chan q).want = true → (s.chan q).steady = true → chanOn s q = false
        → (s.die (dieOfChan q)).expired = false → (s.die (dieOfChan q)).stabled = false → (s.die (dieOfChan q)).hot = false
        → s.bit (Ou.OUT_STATUS q) 4 = false → s.bit (Ou.OUT_STATUS q) 8 = false
        → s.bit (Ou.OUT_STATUS q) 10 = false → s.bit (Ou.OUT_STATUS q) 12 = false → (s.chan q).heldOff = false → (s.chan q).clearing = false →
      ∃ t, exec (.retryPauseEnd q) s = .next t ∧ chanOn t q = true ∧ (t.chan q).onSince = some s.now)
    ∧ (chanOn s q = true → heldFor (s.chan q).onSince s.now 50000 = true →
      ∃ t, exec (.tripCountReset q) s = .next t
        ∧ t.rd (Ou.TRIP_COUNT q) = 0 ∧ t.chan q = { s.chan q with failFrom := none }
        ∧ KeepsRegs [Ou.TRIP_COUNT q] s t ∧ OnlyRegs { s with chans := t.chans } t)

/-- The thermal latch (R393, R394). A junction difference at the limit latches THERMAL_LATCHED, switches the channel off, counts in
THERMAL_TRIPS and not in TRIP_COUNT, and freezes a running pause where it stands. Below 15 K the latch clears and a frozen pause runs on
for its remainder. A field die at 150 °C switches its channels off and counts a class-0 event; below 140 °C they may switch on again. -/
def Obligations.ThermalLatch : Prop :=
  ∀ (s : State) (q : Nat), q < 24 →
    (∀ dT : Nat, s.pn (Ou.DELTA_T_LIMIT q) ≤ dT → dT ≤ 1500 → thermalLatched s q = false →
      ∃ t, exec (.thermalTrip q dT) s = .next t
        ∧ thermalLatched t q = true ∧ chanOn t q = false ∧ t.bit (Ou.OUT_STATUS q) 17 = true
        ∧ t.rdn (Ou.THERMAL_TRIPS q) = min (s.rdn (Ou.THERMAL_TRIPS q) + 1) max32
        ∧ t.rdn (Ou.DELTA_T q) = dT
        ∧ (∀ u, (s.chan q).pauseUntil = some u → (t.chan q).pauseUntil = none ∧ (t.chan q).pauseLeft = some (u - s.now))
        ∧ (chanOn s q = true → (s.chan q).inrushUntil = none → heldFor (s.chan q).inrushEnd s.now 5 = true → (t.chan q).tripAt = some s.now)
        ∧ (∀ r, r ≠ q → t.chan r = s.chan r)
        ∧ KeepsRegs ([Ou.OUT_STATUS q, Ou.DELTA_T q, Ou.THERMAL_TRIPS q, Ou.OUT_REPEATS q 1] ++ sampleRegs) s t
        ∧ OnlyEvents { s with chans := t.chans } t)
    ∧ (∀ dT : Nat, dT < 150 → thermalLatched s q = true →
      ∃ t, exec (.thermalLatchClear q dT) s = .next t
        ∧ thermalLatched t q = false ∧ t.rdn (Ou.DELTA_T q) = dT
        ∧ (∀ n, (s.chan q).pauseLeft = some n → (t.chan q).pauseLeft = none ∧ (t.chan q).pauseUntil = some (s.now + n))
        ∧ (∀ r, r ≠ q → t.chan r = s.chan r)
        ∧ KeepsRegs [Ou.OUT_STATUS q, Ou.DELTA_T q] s t ∧ OnlyRegs { s with chans := t.chans } t)
    ∧ (∀ temp : Int, 1500 ≤ temp → (s.die (dieOfChan q)).hot = false →
      ∃ t, exec (.dieOvertemp (dieOfChan q) temp) s = .next t
        ∧ (t.die (dieOfChan q)).hot = true ∧ chanOn t q = false ∧ Counted 0x0501 s t)
    ∧ (∀ temp : Int, temp < 1400 → (s.die (dieOfChan q)).hot = true →
      ∃ t, exec (.dieOvertempEnd (dieOfChan q) temp) s = .next t
        ∧ t.dies = (s.setDie (dieOfChan q) { s.die (dieOfChan q) with hot := false }).dies
        ∧ KeepsRegs ((List.range 24).map Ou.OUT_STATUS) s t ∧ OnlyRegs { s with dies := t.dies, chans := t.chans } t)

/-- Readback faults (R398 to R400). HIGH on an off channel for 5 ms without a partner latches SHORT_TO_SUPPLY with a class-1 event and
leaves the channel's drive as it is; with a partner, or by the test at switch-on, both channels latch CROSS_FAULT, name each other and
are off. MID for 50 ms with the off-state test, or too little coil current for 20 ms, marks OPEN_LOAD once, with the event of its kind. -/
def Obligations.ReadbackFaults : Prop :=
  ∀ (s : State) (q : Nat), q < 24 →
    (chanOn s q = false → (s.chan q).band = 2 → heldFor (s.chan q).highSince s.now 250 = true → joinedHigh s q = false
        → s.bit (Ou.OUT_STATUS q) 9 = false → s.bit (Ou.OUT_STATUS q) 10 = false →
      (∃ t, exec (.shortToSupply q none) s = .next t
        ∧ t.bit (Ou.OUT_STATUS q) 9 = true ∧ t.chans = s.chans
        ∧ Counted (if isLamp q then 0x1483 else 0x14C3) s t
        ∧ KeepsRegs ([Ou.OUT_STATUS q, Gl.LAMP_FAILED_MASK, Gl.COIL_FAULT_MASK] ++ sampleRegs ++ eventRegs) s t
        ∧ OnlyEvents s t)
      ∧ (∀ y, y < 24 → y ≠ q → chanOn s y = true →
        ∃ t, exec (.shortToSupply q (some y)) s = .next t
          ∧ t.bit (Ou.OUT_STATUS q) 10 = true ∧ t.bit (Ou.OUT_STATUS y) 10 = true
          ∧ t.rdn (Ou.OUT_STATUS q) / 2 ^ 24 = y ∧ t.rdn (Ou.OUT_STATUS y) / 2 ^ 24 = q
          ∧ chanOn t q = false ∧ chanOn t y = false))
    ∧ (∀ y, y < 24 → q ≠ y → chanOn s q = true → chanOn s y = false → heldFor (s.chan q).onSince s.now 50 = true
        → joinedHigh s y = false → s.bit (Ou.OUT_STATUS y) 10 = false →
      ∃ t, exec (.tiedChannelDetect q y) s = .next t
        ∧ t.bit (Ou.OUT_STATUS q) 10 = true ∧ t.bit (Ou.OUT_STATUS y) 10 = true
        ∧ t.rdn (Ou.OUT_STATUS q) / 2 ^ 24 = y ∧ t.rdn (Ou.OUT_STATUS y) / 2 ^ 24 = q
        ∧ chanOn t q = false ∧ chanOn t y = false)
    ∧ ((s.chan q).openSeen = false → chanOn s q = false → s.pb (Ou.OFF_TEST q) = true → joinedHigh s q = false → (s.chan q).band = 1
        → heldFor (s.chan q).midSince s.now 2500 = true →
      ∃ t, exec (.openLoad q false) s = .next t
        ∧ t.bit (Ou.OUT_STATUS q) 18 = true ∧ t.chan q = { s.chan q with openSeen := true }
        ∧ Counted (if isLamp q then 0x1482 else 0x34C2) s t
        ∧ KeepsRegs ([Ou.OUT_STATUS q, Ou.OUT_REPEATS q 2] ++ eventRegs) s t
        ∧ OnlyEvents { s with chans := t.chans } t)
    ∧ (16 ≤ q → (s.chan q).openSeen = false → chanOn s q = true → s.pn (Ou.COIL_MIN_CURRENT q) ≠ 0
        → heldFor (s.chan q).lowSince s.now 1000 = true →
      ∃ t, exec (.openLoad q true) s = .next t
        ∧ t.bit (Ou.OUT_STATUS q) 18 = true ∧ t.chan q = { s.chan q with openSeen := true }
        ∧ Counted 0x14C4 s t
        ∧ KeepsRegs ([Ou.OUT_STATUS q, Ou.OUT_REPEATS q 2] ++ eventRegs) s t
        ∧ OnlyEvents { s with chans := t.chans } t)

/-- Field dies, generators and coil switch-off (R389, R395, R401, R402). Without a watchdog frame for FIELD_WD_TIMEOUT every channel of the
die is in its fail-safe state and FAILSAFE_ACTIVE is set, and a channel with fail-safe state OFF is off. A die that powers up has its
channels off with every latch of the die cleared (LAMP_FAILED, SPARE_ACTIVE and DISSIPATION_TRIP stay, as log entry 221 chooses). A generator's edge gives the channel its level; a demagnetisation records its energy, and at
200 mJ sets DEMAG_LIMITED. -/
def Obligations.FieldDieChannels : Prop :=
  ∀ (s : State) (die q : Nat), die < 2 → q < 24 → dieOfChan q = die →
    ((s.die die).expired = false → (s.die die).stabled = false → heldFor (s.die die).fedAt s.now (50 * (s.die die).wd) = true →
      ∃ t, exec (.fieldWatchdogExpiry die) s = .next t
        ∧ (t.die die).expired = true ∧ (t.die die).loaded = false ∧ t.bit (Ou.OUT_STATUS q) 5 = true
        ∧ ((s.chan q).safeState = 0 → chanOn t q = false)
        ∧ t.rdn (if die = 0 then Gl.FIELD_WD_EXPIRIES_A else Gl.FIELD_WD_EXPIRIES_B)
            = min (s.rdn (if die = 0 then Gl.FIELD_WD_EXPIRIES_A else Gl.FIELD_WD_EXPIRIES_B) + 1) max32
        ∧ KeepsRegs ([Gl.FIELD_WD_EXPIRIES_A, Gl.FIELD_WD_EXPIRIES_B] ++ (List.range 24).map Ou.OUT_STATUS) s t
        ∧ OnlyRegs { s with dies := t.dies, chans := t.chans } t)
    ∧ (∃ t, exec (.fieldDiePowerUp die) s = .next t
        ∧ t.die die = {} ∧ chanOn t q = false ∧ t.rd (Ou.TRIP_COUNT q) = 0 ∧ t.rd (Ou.PAUSE_LEFT q) = 0
        ∧ (∀ b, b < 16 → b ≠ 6 → b ≠ 11 → b ≠ 12 → t.bit (Ou.OUT_STATUS q) b = false)
        ∧ (∀ b, b = 6 ∨ b = 11 ∨ b = 12 → t.bit (Ou.OUT_STATUS q) b = s.bit (Ou.OUT_STATUS q) b)
        ∧ (t.chan q).safeState = 0 ∧ (t.chan q).want = false
        ∧ (∀ r, r < 24 → dieOfChan r ≠ die → t.chan r = s.chan r))
    ∧ (∀ (on : Bool) (n : Nat), (driven s q).2 = some n → n < 8 → (s.chan q).phaseNext = none
        → pgEdge (pgRec s die n) (s.chan q).phase s.now on = true →
      ∃ t, exec (.pulseGeneratorEdge q on) s = .next t
        ∧ (t.chan q).pgOn = on
        ∧ (on = false → chanOn t q = false)
        ∧ (∀ r, r ≠ q → t.chan r = s.chan r)
        ∧ KeepsRegs [Ou.OUT_STATUS q] s t ∧ OnlyRegs { s with chans := t.chans } t)
    ∧ (∀ (energy : Nat) (limited : Bool), 16 ≤ q → (s.chan q).decaying = true → s.pn (Ou.DEMAG_MODE q) = 0 →
      ∃ t, exec (.demagnetisationEnd q energy limited) s = .next t
        ∧ t.rdn (Ou.DEMAG_ENERGY_LAST q) = min 200 energy
        ∧ t.bit (Ou.OUT_STATUS q) 19 = (s.bit (Ou.OUT_STATUS q) 19 || limited || decide (200 ≤ energy))
        ∧ t.chan q = { s.chan q with decaying := false }
        ∧ KeepsRegs [Ou.DEMAG_ENERGY_LAST q, Ou.OUT_STATUS q, Ou.OUT_REPEATS q 3] s t
        ∧ OnlyRegs { s with chans := t.chans } t)

/-- Lamps under Glowworm (R405 to R408) and FAULT_CLEAR (R412). A completed learning of at least 20 mA becomes LAMP_NOMINAL, a smaller mean
leaves it and NOT_LEARNED. A dark lamp notes cause 1; a door tick that finds causes noted latches LAMP_FAILED with the lowest, adds 1 to
DARK_EVENTS and counts one class-0 event (judgeLamp), and leaves a lamp without a spare driven; one that ran out of
LAMP_FAIL_TIME at a door-tick boundary is held off, its pause cancelled, and latches cause 3. An accepted FAULT_CLEAR clears the channel's latches, TRIP_COUNT and
FAIL_CAUSE; an accepted LAMP_LEARN begins a learning. -/
def Obligations.LampSupervision : Prop :=
  ∀ (s : State) (q : Nat), q < 16 →
    (heldFor (s.chan q).learnFrom s.now 100000 = true →
      (∀ m, 20 ≤ m → ∃ t, exec (.lampLearnEnd q (some m)) s = .next t
        ∧ t.rdn (Ou.LAMP_NOMINAL q) = min 1500 m ∧ t.chan q = { s.chan q with learnFrom := none }
        ∧ KeepsRegs [Ou.LAMP_NOMINAL q] s t ∧ OnlyRegs { s with chans := t.chans } t)
      ∧ (∀ m, m < 20 → ∃ t, exec (.lampLearnEnd q (some m)) s = .next t
        ∧ t.chan q = { s.chan q with learnFrom := none, notLearned := true }
        ∧ KeepsRegs [] s t ∧ OnlyRegs { s with chans := t.chans } t))
    ∧ (supervised s q = true → (s.chan q).want = true → protected_ s q = false → lampFailed s q = false → 16 ≤ s.pn (Ou.LAMP_SPARE q) →
      ∃ t, exec (.lampDark q) s = .next t
        ∧ (t.chan q).causes = 1 :: (s.chan q).causes
        ∧ (t.chan q).want = true ∧ chanOn t q = chanOn s q
        ∧ KeepsRegs sampleRegs s t
        ∧ OnlyEvents { s with chans := t.chans } t)
    ∧ ((s.chan q).causes ≠ [] → (∀ c ∈ (s.chan q).causes, c ≤ 4) → lampFailed s q = false → 16 ≤ s.pn (Ou.LAMP_SPARE q) →
      lampFailed (s.judgeLamp q) q = true ∧ (s.judgeLamp q).rdn (Ou.FAIL_CAUSE q) = (s.chan q).causes.foldl min 4
        ∧ (s.judgeLamp q).rdn (Ou.DARK_EVENTS q) = min (s.rdn (Ou.DARK_EVENTS q) + 1) max32
        ∧ ((s.judgeLamp q).chan q).causes = [] ∧ chanOn (s.judgeLamp q) q = chanOn s q
        ∧ Counted 0x0481 s (s.judgeLamp q)
        ∧ KeepsRegs ([Ou.OUT_STATUS q, Ou.FAIL_CAUSE q, Ou.DARK_EVENTS q] ++ eventRegs) s (s.judgeLamp q)
        ∧ OnlyEvents { s with chans := (s.judgeLamp q).chans } (s.judgeLamp q))
    ∧ (s.rdn Gl.FAST_TICK_COUNT % 50 = 0 → (∀ c ∈ (s.chan q).causes, 3 ≤ c) → heldFor (s.chan q).failFrom s.now (50 * s.pn (Ou.LAMP_FAIL_TIME q)) = true → (s.chan q).heldOff = false → lampFailed s q = false →
      ∃ t, exec (.lampFailTimeExpiry q) s = .next t
        ∧ lampFailed t q = true ∧ t.rd (Ou.FAIL_CAUSE q) = 3 ∧ chanOn t q = false
        ∧ (t.chan q).heldOff = true ∧ (t.chan q).pauseUntil = none ∧ (t.chan q).pauseLeft = none
        ∧ Counted 0x0481 s t)
    ∧ (∀ (via : Via) (u : State), Reaches via (chanIndex q) 0x17 1 none s u 1 →
      ∃ t, exec (.faultClear via q 1) s = .next t
        ∧ t.answer = some 0
        ∧ (∀ b, 8 ≤ b → b < 13 → t.bit (Ou.OUT_STATUS q) b = false)
        ∧ t.rd (Ou.TRIP_COUNT q) = 0 ∧ t.rd (Ou.FAIL_CAUSE q) = 0 ∧ (t.chan q).heldOff = false
        ∧ KeepsRegs ([Ou.OUT_STATUS q, Ou.TRIP_COUNT q, Ou.FAIL_CAUSE q, Gl.LAMP_FAILED_MASK, Gl.COIL_FAULT_MASK] ++ accessRegs) s t)
    ∧ (∀ (via : Via) (u : State), Reaches via (chanIndex q) 0x22 1 none s u 1 → demanded u q = true → (u.chan q).steady = true
        → u.pn (Ou.ON_STATE q) = 1 → protected_ u q = false → standby u q = false →
      ∃ t, exec (.lampLearn via q 1) s = .next t
        ∧ t.answer = some 0
        ∧ t.rd (Ou.GLOW_STATE q) = 2 ∧ (t.chan q).learnFrom = some s.now
        ∧ KeepsRegs (Ou.GLOW_STATE q :: accessRegs) s t)

/-- The dissipation manager (R404): at a door tick after 1 s above the limit it trips channels of TRIP_CLASS 1 to 3 only, each off and latched, and either
the rest of the estimate is at or below the limit, or every channel it may trip is latched. -/
def Obligations.DissipationTripSheds : Prop :=
  ∀ s : State, s.rdn Gl.FAST_TICK_COUNT % 50 = 0 → heldFor s.heat.overSince s.now 50000 = true →
    ∃ t, exec .dissipationTrip s = .next t
      ∧ t.rd Gl.OVER_LIMIT_TIME = 0 ∧ t.heat.overSince = none
      ∧ (∀ q, q < 24 → t.bit (Ou.OUT_STATUS q) 12 = true → s.bit (Ou.OUT_STATUS q) 12 = true ∨ (1 ≤ s.pn (Ou.TRIP_CLASS q) ∧ chanOn t q = false))
      ∧ ((s.shed s.heat.limit (tripOrder s) (s.rdn Gl.DISSIPATION_ESTIMATE)).2 ≤ s.heat.limit
          ∨ (∀ q, q < 24 → trippable s q = true → t.bit (Ou.OUT_STATUS q) 12 = true))

/-! ### Safety channels and safe outputs (chapter 8) -/

/-- The safe state (R267, R268, R326). With both channels out of reset, an alive signal that has not toggled for 1 ms (cause 4)
or a safety port without a frame for 500 µs (cause 5) is a channel discrepancy: SAFE_STATE_CAUSE keeps the first cause, every safe output is open, both channels demand STO of every axis, the
token is let go, and a class-0 event is counted. A later cause changes neither the cause nor the count. -/
def Obligations.SafeStateOpensEverything : Prop :=
  ∀ (s : State), s.safety.inReset = false →
    (∀ ch : Chan, s.rd Gl.SAFE_STATE_CAUSE = 0 → heldFor (match ch with | .A => s.safety.aliveAtB | .B => s.safety.aliveAtA) s.now 50 = true →
      ∃ t, exec (.aliveLost ch) s = .next t
        ∧ t.rd Gl.SAFE_STATE_CAUSE = 4 ∧ t.rdn Gl.CHANNEL_DISCREPANCIES = min (s.rdn Gl.CHANNEL_DISCREPANCIES + 1) max32
        ∧ (∀ k, k < 6 → energised t k = false)
        ∧ (∀ a, a < 3 * s.doorways → t.safety.stoA.testBit a = true ∧ t.safety.stoB.testBit a = true)
        ∧ t.holds = false ∧ t.rd Gl.HOLDER = 0 ∧ t.bit Gl.NFAULT_CAUSES 2 = true
        ∧ Counted 0x01C1 s t
        ∧ KeepsRegs ([Gl.SAFE_STATE_CAUSE, Gl.CHANNEL_DISCREPANCIES, Gl.SO_STATE] ++ (List.range 6).map Gl.SO_STATUS ++ sampleRegs ++ eventRegs) s t
        ∧ OnlyEvents { s with safety := t.safety } t)
    ∧ (∀ ch : Chan, s.rdn Gl.SAFE_STATE_CAUSE ≠ 0 →
      ∃ t, exec (.aliveLost ch) s = .next t ∧ KeepsRegs [] s t ∧ OnlyRegs s t)
    ∧ (∀ die, die < 2 → s.rd Gl.SAFE_STATE_CAUSE = 0 → portQuiet s die = true → portExpired s die = false →
      ∃ t, exec (.safetyPortWatchdog die) s = .next t
        ∧ t.rd Gl.SAFE_STATE_CAUSE = 5 ∧ (if die = 0 then t.safety.dieA else t.safety.dieB) = true
        ∧ (∀ k, k < 6 → energised t k = false)
        ∧ t.holds = false ∧ Counted 0x01C1 s t
        ∧ OnlyEvents { s with safety := t.safety } t)
    ∧ (∀ die, die < 2 → portSteady s die = true →
      ∃ t, exec (.safetyPortResumed die) s = .next t
        ∧ t.safety = (if die = 0 then { s.safety with dieA := false } else { s.safety with dieB := false })
        ∧ KeepsRegs [] s t ∧ OnlyRegs { s with safety := t.safety } t)

/-- A field supply below 9 V opens every safe output and makes every input of its die read inactive (R18, R374, R375); it sets MISSING
with its latched flag and is counted as a class-0 event. Above 10 V MISSING is clear, and nothing closes by that alone. -/
def Obligations.MissingSupplyOpensOutputs : Prop :=
  ∀ (s : State) (die : Nat), die < 2 →
    (∀ mv, mv < 9000 → s.bit Gl.FIELD_STATUS (2 * die + 1) = false →
      ∃ t, exec (.vfieldMissing die true mv) s = .next t
        ∧ t.bit Gl.FIELD_STATUS (2 * die + 1) = true ∧ t.bit Gl.FIELD_STATUS (9 + 2 * die) = true
        ∧ (∀ k, k < 6 → energised t k = false)
        ∧ (∀ n, n < 48 → t.bit Gl.INPUT_STATE n = (s.bit Gl.INPUT_STATE n && dieOf n != die))
        ∧ Counted 0x0442 s t
        ∧ OnlyEvents { s with pairs := t.pairs, contacts := t.contacts, safety := t.safety,
                              boundary := { s.boundary with edgeIn := t.boundary.edgeIn, stepSeen := t.boundary.stepSeen } } t)
    ∧ (∀ mv, 10000 < mv → s.bit Gl.FIELD_STATUS (2 * die + 1) = true →
      ∃ t, exec (.vfieldMissing die false mv) s = .next t
        ∧ t.bit Gl.FIELD_STATUS (2 * die + 1) = false
        ∧ KeepsRegs [Gl.FIELD_STATUS, if die = 0 then Gl.VFIELD_A else Gl.VFIELD_B] s t
        ∧ OnlyRegs s t)

/-- Tests and faults of a safe output (R281 to R286). A pulse in its slot opens the tested switch and leaves the output energised; one that
passes closes it again and restarts its 24 h; one that fails latches the fault with its code and side and opens both switches. So do an
overcurrent (code 4), a switch that does not conduct (code 5) and a terminal that follows a switch that is off (codes 1 and 2). 24 h
without a passing pulse sets UNTESTED with a class-3 event. -/
def Obligations.SafeOutputTestsAndFaults : Prop :=
  ∀ (s : State) (k : Nat) (side : Side), k < 6 →
    (energised s k = true → (s.out k).pulse = none → s.rdn Gl.FAST_TICK_COUNT / 50 % 500 = pulseSlot s k side
        → s.rdn Gl.FAST_TICK_COUNT % 50 = 35 → ((s.out k).changedAt = none ∨ heldFor (s.out k).changedAt s.now 500 = true) →
      ∃ t, exec (.testPulse k side) s = .next t
        ∧ (t.out k).pulse = some (side == .ls, s.now) ∧ energised t k = true
        ∧ t.bit (Gl.SO_STATUS k) 0 = (side == .ls) ∧ t.bit (Gl.SO_STATUS k) 1 = (side == .hs)
        ∧ KeepsRegs [Gl.SO_STATUS k] s t ∧ OnlyRegs { s with safety := t.safety } t)
    ∧ (∀ load start, energised s k = true → (s.out k).pulse = some (side == .ls, start) → start + 10 ≤ s.now → 5 ≤ load →
      (∃ t, exec (.testPulseEnd k side true true load none) s = .next t
        ∧ (t.out k).pulse = none ∧ t.bit (Gl.SO_STATUS k) 0 = true ∧ t.bit (Gl.SO_STATUS k) 1 = true
        ∧ (match side with | .hs => (t.out k).hsUntested | .ls => (t.out k).lsUntested) = 0
        ∧ KeepsRegs [Gl.SO_STATUS k] s t ∧ OnlyRegs { s with safety := t.safety } t)
      ∧ (soFaulted s k = false →
        ∃ t, exec (.testPulseEnd k side false true load none) s = .next t
          ∧ soFaulted t k = true ∧ energised t k = false
          ∧ t.rdn (Gl.SO_STATUS k) / 512 % 8 = (match side with | .hs => 1 | .ls => 2)
          ∧ Counted 0x0201 s t))
    ∧ (soFaulted s k = false → s.bit (Gl.SO_STATUS k) (match side with | .hs => 0 | .ls => 1) = true →
      ∃ t, exec (.soOvercurrent k side) s = .next t
        ∧ soFaulted t k = true ∧ energised t k = false
        ∧ t.rdn (Gl.SO_STATUS k) / 512 % 8 = 4 ∧ t.bit (Gl.SO_STATUS k) 12 = (side == .ls)
        ∧ Counted 0x0201 s t
        ∧ KeepsRegs ([Gl.SO_STATUS k, Gl.SO_STATE] ++ sampleRegs ++ eventRegs) s t
        ∧ OnlyEvents { s with safety := t.safety } t)
    ∧ (soFaulted s k = false → s.bit (Gl.SO_STATUS k) (match side with | .hs => 0 | .ls => 1) = true
        → heldFor (s.out k).changedAt s.now 500 = true →
      ∃ t, exec (.switchStaticFault k side true none) s = .next t
        ∧ soFaulted t k = true ∧ energised t k = false ∧ t.rdn (Gl.SO_STATUS k) / 512 % 8 = 5
        ∧ Counted 0x0201 s t)
    ∧ (soFaulted s k = false → s.bit (Gl.SO_STATUS k) 0 = false → (s.out k).pulse = none →
      ∃ t, exec (.switchStaticFault k .hs false none) s = .next t
        ∧ soFaulted t k = true ∧ energised t k = false ∧ t.rdn (Gl.SO_STATUS k) / 512 % 8 = 1)
    ∧ ((match side with | .hs => (s.out k).hsUntested | .ls => (s.out k).lsUntested) ≥ 86400000 → s.bit (Gl.SO_STATUS k) 4 = false →
      ∃ t, exec (.soUntested k side) s = .next t
        ∧ t.bit (Gl.SO_STATUS k) 4 = true ∧ energised t k = energised s k
        ∧ Counted 0x3203 s t
        ∧ KeepsRegs (Gl.SO_STATUS k :: eventRegs) s t ∧ OnlyEvents s t)

/-- Safe motion beside the ticks (R278, R279, R566). An axis still at or above 5 mm/s when its SF7 window ends puts every axis of its
doorway in STO, in both channels, and reports fault cause 7; a BRIDGE_OFF that stays out does the latter and sets the doorway's bit in
STO_UNCONFIRMED_MASK with a class-0 event. -/
def Obligations.UnsafeMotionDemandsSto : Prop :=
  ∀ (s : State) (a : Nat),
    (due (s.axis a).sf7Until s.now = true → 2000 ≤ safeMove (s.axis a) →
      ∃ t, exec (.sf7StopWindowExpiry a) s = .next t
        ∧ (∀ b ∈ axesOf s (doorOf a), t.safety.stoA.testBit b = true ∧ t.safety.stoB.testBit b = true)
        ∧ t.safety.sf7.testBit (doorOf a) = true ∧ (t.axis a).sf7Until = none
        ∧ 7 ∈ (t.door (doorOf a)).faults
        ∧ KeepsRegs [] s t ∧ OnlyRegs { s with safety := t.safety, axes := t.axes, doors := t.doors } t)
    ∧ ((axesOf s (doorOf a)).contains a = true → linkUp s (doorOf a) = true → heldFor (lookup a s.safety.stoSent) s.now 5 = true →
      ∃ t, exec (.stoUnconfirmed a) s = .next t
        ∧ t.bit Gl.STO_UNCONFIRMED_MASK (doorOf a) = true ∧ lookup a t.safety.stoSent = none
        ∧ 7 ∈ (t.door (doorOf a)).faults
        ∧ Counted 0x01C2 s t
        ∧ KeepsRegs (Gl.STO_UNCONFIRMED_MASK :: eventRegs) s t
        ∧ OnlyEvents { s with safety := t.safety, doors := t.doors } t)

/-- The safety set's own commands (R287, R290, R291, R294). An accepted WRITE_ENABLE of 1 leaves the set writable and not confirmed, so the
token is let go; an accepted CONFIRM clears WRITE_ENABLE and names the value that the next door tick confirms, while SET_STATE stays; a
wrong value is refused with 0x0900 0101 and changes nothing of the set. SO_FAULT_CLEAR marks its outputs for the next door tick. A proof
test restarts the interval, and one that is due is counted as a class-3 event. -/
def Obligations.SafetySetCommands : Prop :=
  ∀ (s : State) (via : Via),
    (∀ u, Reaches via 0x5002 1 1 none s u 1 → u.safety.relA.testBit 2 = true → u.safety.relB.testBit 2 = true
        → (∀ d, d < 16 → doorState u d ≠ 3 ∧ doorState u d ≠ 5 ∧ doorState u d ≠ 6) →
      ∃ t, exec (.writeEnable via 1) s = .next t
        ∧ t.answer = some 0 ∧ t.rd Gl.WRITE_ENABLE = 1 ∧ t.rd Gl.SET_STATE = 0 ∧ t.rd Gl.CONFIRM = 0
        ∧ t.holds = false ∧ t.safety.confirming = none
        ∧ KeepsRegs ([Gl.WRITE_ENABLE, Gl.SET_STATE, Gl.CONFIRM] ++ accessRegs) s t)
    ∧ (∀ (v : Int) (u : State), Reaches via 0x5001 1 v none s u v → 0 ≤ v → v = u.rd Gl.CHECK_VALUE → v = u.rd Gl.CHECK_VALUE_B
        → (∀ a ∈ storedAxes u, roleOf a ≠ 2 → 1000 ≤ u.rdn (Ax.CURRENT_BANDWIDTH a)) → u.rdn Gl.SET_STATE ≠ 1 →
      ∃ t, exec (.confirm via v) s = .next t
        ∧ t.answer = some 0 ∧ t.rd Gl.WRITE_ENABLE = 0 ∧ t.safety.confirming = some v.toNat ∧ t.rd Gl.SET_STATE = s.rd Gl.SET_STATE
        ∧ KeepsRegs (Gl.WRITE_ENABLE :: accessRegs) s t)
    ∧ (∀ (v : Int) (u : State), Reaches via 0x5001 1 v none s u v → (v ≠ u.rd Gl.CHECK_VALUE ∨ v ≠ u.rd Gl.CHECK_VALUE_B) →
      ∃ t, exec (.confirm via v) s = .next t
        ∧ t.answer = some 0x09000101 ∧ t.safety = s.safety ∧ KeepsRegs accessRegs s t)
    ∧ (∀ (v : Nat) (u : State), Reaches via 0x5102 4 v none s u v → v < 64 →
      ∃ t, exec (.soFaultClear via v) s = .next t
        ∧ t.answer = some 0 ∧ t.safety = { s.safety with clearing := s.safety.clearing ||| v } ∧ KeepsRegs accessRegs s t)
    ∧ (∀ u, Reaches via 0x5104 2 1 none s u 1 →
      ∃ t, exec (.proofTestDone via 1) s = .next t
        ∧ t.answer = some 0 ∧ t.rdn Gl.LAST_PROOF_TEST = s.secs ∧ t.rd Gl.PROOF_TEST_DUE = s.rd Gl.PROOF_TEST_INTERVAL
        ∧ KeepsRegs ([Gl.LAST_PROOF_TEST, Gl.PROOF_TEST_DUE] ++ accessRegs) s t)
    ∧ (s.rd Gl.PROOF_TEST_DUE = 0 → s.safety.proofRaised = none →
      ∃ t, exec .proofTestDue s = .next t
        ∧ Counted 0x31C4 s t ∧ t.safety = { s.safety with proofRaised := some s.secs }
        ∧ KeepsRegs eventRegs s t ∧ OnlyEvents { s with safety := t.safety } t)

/-! ### Doorways (chapters 2, 3 and 6) -/

/-- A doorway's commands (R54, R56). A command that the doorway accepts in its present state is answered without error, shows in COMMAND and
waits, behind earlier ones, for the next door tick; nothing moves before it. One that is not accepted, by a path other than a PDO, is
answered with 0x0800 0022 and leaves the doorway as it was. -/
def Obligations.DoorwayCommandsWaitForTheDoorTick : Prop :=
  ∀ (s : State) (via : Via) (d : Nat), d < 16 →
    (∀ (c : Via → Nat → Instr) (n : Nat), (c, n) ∈ [(Instr.open_, 1), (Instr.close, 2), (Instr.holdOpen, 3), (Instr.endHold, 4), (Instr.reset, 5),
        (Instr.forcedClose, 6)] →
      ∀ u, Reaches via (0x3001 + 0x40 * d) 1 n none s u n → commandOk u d n = true →
        ∃ t, exec (c via d) s = .next t
          ∧ t.answer = some 0 ∧ t.rd (Dr.COMMAND d) = n
          ∧ t.door d = { s.door d with cmds := (s.door d).cmds ++ [{ cmd := n, car := false }] }
          ∧ (∀ e, e ≠ d → t.door e = s.door e)
          ∧ KeepsRegs (Dr.COMMAND d :: accessRegs) s t)
    ∧ (∀ (c : Via → Nat → Instr) (n : Nat), (c, n) ∈ [(Instr.open_, 1), (Instr.close, 2), (Instr.holdOpen, 3), (Instr.endHold, 4), (Instr.reset, 5),
        (Instr.forcedClose, 6)] →
      ∀ u, Reaches via (0x3001 + 0x40 * d) 1 n none s u n → commandOk u d n = false → via ≠ .pdo →
        ∃ t, exec (c via d) s = .next t
          ∧ t.answer = some 0x08000022 ∧ t.doors = s.doors ∧ KeepsRegs accessRegs s t)

/-- A car command reaches every configured doorway of its side, whatever state each is in, and no other (R55): OPEN and CLOSE of the left and
the right side, CLOSE, HOLD_OPEN and END_HOLD of all. Each waits there, marked as the car's, for the next door tick. -/
def Obligations.CarCommandsReachTheirSide : Prop :=
  ∀ (s : State) (via : Via) (c : Via → Instr) (n cmd : Nat) (side : Option Nat),
    (c, n, cmd, side) ∈ [(Instr.openLeft, 1, 1, some 0), (Instr.openRight, 2, 1, some 1), (Instr.closeLeft, 3, 2, some 0),
        (Instr.closeRight, 4, 2, some 1), (Instr.closeAll, 5, 2, none), (Instr.holdAll, 6, 3, none), (Instr.endHoldAll, 7, 4, none)] →
    ∀ u, Reaches via 0x2010 1 n none s u n →
      ∃ t, exec (c via) s = .next t
        ∧ t.answer = some 0 ∧ t.rd Gl.CAR_COMMAND = n
        ∧ (∀ d, d < 16 → t.door d = if configured s d = true ∧ (side = none ∨ side = some (doorSide s d)) then
            { s.door d with cmds := (s.door d).cmds ++ [{ cmd, car := true }] } else s.door d)
        ∧ KeepsRegs (Gl.CAR_COMMAND :: accessRegs) s t

/-- Timers of the door sequences (R50, R56, R61, R64, R221, R224). A timer that has run out marks its end for the sequencer, and no other
part of the doorway: the close warning, the auto-close time, the dwells, the kept request. An unlock or lock that misses its time
reports fault cause 2 or 3, an unlock with the lock output off. -/
def Obligations.SequenceTimersEnd : Prop :=
  ∀ (s : State) (d : Nat),
    (due (s.door d).warnUntil s.now = true → (s.door d).warnEnded = false → (s.door d).closePend = none → doorState s d = 4
        → (s.door d).startWait = none → (s.door d).granted = none →
      ∃ t, exec (.closeWarningEnd d) s = .next t
        ∧ t.door d = { s.door d with warnEnded := true } ∧ (∀ e, e ≠ d → t.door e = s.door e)
        ∧ KeepsRegs [] s t ∧ OnlyRegs { s with doors := t.doors } t)
    ∧ (due (s.door d).autoUntil s.now = true →
      ∃ t, exec (.autoCloseExpiry d) s = .next t
        ∧ t.door d = { s.door d with autoUntil := none, autoEnded := true } ∧ (∀ e, e ≠ d → t.door e = s.door e)
        ∧ KeepsRegs [] s t ∧ OnlyRegs { s with doors := t.doors } t)
    ∧ (due (s.door d).preselUntil s.now = true →
      ∃ t, exec (.preselectTimeExpiry d) s = .next t
        ∧ t.door d = { s.door d with preselUntil := none } ∧ (∀ e, e ≠ d → t.door e = s.door e)
        ∧ KeepsRegs [] s t ∧ OnlyRegs { s with doors := t.doors } t)
    ∧ (due (s.door d).dwellUntil s.now = true →
      ∃ t, exec (.dwellEnd d) s = .next t
        ∧ t.door d = { s.door d with dwellUntil := none, dwellEnded := true } ∧ (∀ e, e ≠ d → t.door e = s.door e)
        ∧ KeepsRegs [] s t ∧ OnlyRegs { s with doors := t.doors } t)
    ∧ (due (s.door d).openDwellUntil s.now = true →
      ∃ t, exec (.openDwellEnd d) s = .next t
        ∧ t.door d = { s.door d with openDwellUntil := none, openDwellEnded := true } ∧ (∀ e, e ≠ d → t.door e = s.door e)
        ∧ KeepsRegs [] s t ∧ OnlyRegs { s with doors := t.doors } t)
    ∧ (due (s.door d).unlockUntil s.now = true → doorState s d = 2 → (s.door d).opening = true → (s.door d).next ≠ some .opening →
      ∃ t, exec (.unlockTimeout d) s = .next t
        ∧ 2 ∈ (t.door d).faults ∧ (t.door d).lockOn = false ∧ (t.door d).unlockUntil = none ∧ (∀ e, e ≠ d → t.door e = s.door e)
        ∧ KeepsRegs [] s t ∧ OnlyRegs { s with doors := t.doors } t)
    ∧ (due (s.door d).lockUntil s.now = true → doorState s d = 2 → (s.door d).opening = false → (s.door d).next ≠ some .locked →
      ∃ t, exec (.lockTimeout d) s = .next t
        ∧ 3 ∈ (t.door d).faults ∧ (t.door d).lockUntil = none ∧ (∀ e, e ≠ d → t.door e = s.door e)
        ∧ KeepsRegs [] s t ∧ OnlyRegs { s with doors := t.doors } t)

/-- Monitors of a doorway (R61, R67, R69, R74, R215, R241). A request edge is kept for the door tick. A start that waited 400 ms is granted, counted and
flagged; with a domain asleep it is cancelled with fault cause 6. A step that misses its time sets STEP_FAULT and goes to STO. The sequencer's
view that differs from the channels' for more than 20 ms, two locks that disagree, and a long depth hold are each reported once. -/
def Obligations.DoorwayMonitors : Prop :=
  ∀ (s : State) (d : Nat), d < 16 →
    (configured s d = true → inputActive s d (s.pn (Dr.REQUEST_INPUT_INSIDE d)) = true ∨ inputActive s d (s.pn (Dr.REQUEST_INPUT_OUTSIDE d)) = true →
      ∃ t, exec (.passengerRequest d) s = .next t
        ∧ t.door d = { s.door d with request := true } ∧ (∀ e, e ≠ d → t.door e = s.door e)
        ∧ KeepsRegs [] s t ∧ OnlyRegs { s with doors := t.doors } t)
    ∧ (∀ w, (s.door d).startWait = some w → w.since + 20000 ≤ s.now → sequencing s = true →
      (domainsReady s = true →
        ∃ t, exec (.startForced d) s = .next t
          ∧ (t.door d).startWait = none ∧ (t.door d).granted = some w.kind
          ∧ t.bit (Dr.STATUS d) 21 = true ∧ t.rdn (Dr.STARTS_FORCED d) = min (s.rdn (Dr.STARTS_FORCED d) + 1) max32
          ∧ t.rd (Dr.START_WAIT_LAST d) = 400
          ∧ KeepsRegs ([Dr.STATUS d, Dr.STARTS_FORCED d, Dr.START_WAIT_LAST d] ++ sampleRegs) s t
          ∧ OnlyEvents { s with doors := t.doors } t)
      ∧ (domainsReady s = false →
        ∃ t, exec (.startForced d) s = .next t
          ∧ (t.door d).startWait = none ∧ (t.door d).granted = (s.door d).granted ∧ 6 ∈ (t.door d).faults
          ∧ t.rd (Dr.START_WAIT_LAST d) = 400
          ∧ KeepsRegs [Dr.START_WAIT_LAST d] s t ∧ OnlyRegs { s with doors := t.doors } t))
    ∧ (due (s.door d).stepUntil s.now = true →
      ∃ t, exec (.stepTimeout d) s = .next t
        ∧ t.bit (Dr.STATUS d) 19 = true ∧ (t.door d).stepSto = true ∧ (t.door d).stepUntil = none
        ∧ (t.door d).interrupted = some (s.door d).stepExtending
        ∧ (∀ e, e ≠ d → t.door e = s.door e))
    ∧ (heldFor (s.door d).viewSince s.now 1001 = true → (s.door d).viewRaised = false →
      ∃ t, exec (.loopViewDisagreement d) s = .next t
        ∧ t.door d = { s.door d with viewRaised := true }
        ∧ t.rdn Gl.LOOP_VIEW_DISAGREEMENTS = min (s.rdn Gl.LOOP_VIEW_DISAGREEMENTS + 1) max32
        ∧ Counted 0x01C3 s t
        ∧ KeepsRegs (Gl.LOOP_VIEW_DISAGREEMENTS :: eventRegs) s t ∧ OnlyEvents { s with doors := t.doors } t)
    ∧ (heldFor (s.door d).lockPairSince s.now (50 * s.pn (Dr.LOCK_PAIR_TIME d) + 1) = true → (s.door d).lockPairRaised = false →
      ∃ t, exec (.lockPairDisagree d) s = .next t
        ∧ t.door d = { s.door d with lockPairRaised := true, pairFault := true, faults := (t.door d).faults } ∧ t.bit (Dr.CONTACT_STATUS d) 9 = true ∧ 5 ∈ (t.door d).faults
        ∧ KeepsRegs [Dr.CONTACT_STATUS d, Dr.LOCK_PAIR_DISAGREE_REPEATS d] s t ∧ OnlyRegs { s with doors := t.doors } t)
    ∧ (heldFor (s.door d).holdSince s.now (50 * s.pn (Dr.DEPTH_HOLD_MAX d)) = true → (s.door d).holdRaised = false →
      ∃ t, exec (.depthHoldLong d) s = .next t
        ∧ t.door d = { s.door d with holdRaised := true } ∧ Counted 0x1382 s t
        ∧ KeepsRegs eventRegs s t ∧ OnlyEvents { s with doors := t.doors } t)

/-- The end of a move (R89, R99, R103, R221): a move of any kind that has ended, with no reaction to an obstruction under way, is over and how it ended is
kept; the move that waited behind it begins. A limit stop outside the learn run reports fault cause 6, behind a reversal or a relief the dwell
runs. The leaves' force peaks and the samples for the recorder are all that is written beside. Before its end the command changes nothing. -/
def Obligations.MoveEndFreesTheDoorway : Prop :=
  ∀ (s : State) (d : Nat), d < 16 →
    (∀ m, (s.door d).move = some m → m.ended = true → (s.door d).obs = none →
      ∃ t, exec (.moveEnd d) s = .next t
        ∧ ((s.door d).thenMove = none → (t.door d).move = none ∧ (t.door d).lastEnd = some (m.kind, m.reached))
        ∧ ((s.door d).thenMove ≠ none → (t.door d).thenMove = none)
        ∧ (m.limitStopped = true → m.kind ≠ .seekOpen → m.kind ≠ .seekClose → m.kind ≠ .seekStepOut → m.kind ≠ .seekStepIn → 6 ∈ (t.door d).faults)
        ∧ (m.kind = .reverse ∨ m.kind = .relief → (t.door d).dwellUntil = s.after (s.pn (Dr.DWELL_TIME d)))
        ∧ (∀ e, e ≠ d → t.door e = s.door e))
    ∧ ((∀ m, (s.door d).move = some m → m.ended = false ∨ (s.door d).obs ≠ none) →
      ∃ t, exec (.moveEnd d) s = .next t ∧ KeepsRegs [] s t ∧ OnlyRegs s t)
    ∧ (∀ m, (s.door d).move = some m → m.ended = true → (s.door d).obs = none → (s.door d).thenMove = none
      → m.limitStopped = false → m.seeks = [] → m.kind ≠ .refClose → m.kind ≠ .seekOpen → m.kind ≠ .seekClose → m.kind ≠ .seekStepOut
      → m.kind ≠ .seekStepIn →
      ∃ t, exec (.moveEnd d) s = .next t
        ∧ (t.door d).move = none ∧ (t.door d).lastEnd = some (m.kind, m.reached)
        ∧ (t.door d).dwellUntil = (if m.kind = .reverse ∨ m.kind = .relief then s.after (s.pn (Dr.DWELL_TIME d)) else (s.door d).dwellUntil)
        ∧ (t.door d).faults = (s.door d).faults
        ∧ (∀ e, e ≠ d → t.door e = s.door e)
        ∧ KeepsRegs ((List.range 48).map Ax.FORCE_PEAK_LAST ++ sampleRegs) s t
        ∧ OnlyEvents { s with doors := t.doors } t)

/-- The stroke learn run (R103, R104). An accepted start in CLOSED_LOCKED, released at zero speed, shows RUNNING; a cancelled run shows ABORTED and
goes to its end. A finished run shows its outcome, and on success, and only then, writes STROKE and CLOSED_SWITCH_POS of every axis of
the doorway from the ends and the switch positions of both passes. -/
def Obligations.StrokeLearnRun : Prop :=
  ∀ (s : State) (via : Via) (d : Nat), d < 16 →
    (∀ u, Reaches via (0x3004 + 0x40 * d) 1 1 none s u 1 → configured u d = true → doorState u d = 1 → released u d = true → zeroSpeed u = true → doorManual u d = false
        → (u.door d).learn = none →
      ∃ t, exec (.learnRunStart via d) s = .next t
        ∧ t.answer = some 0 ∧ t.rd (Dr.LEARN_COMMAND d) = 1 ∧ t.rd (Dr.LEARN_STATE d) = 1
        ∧ t.door d = { s.door d with learn := some {}, lastEnd := none }
        ∧ KeepsRegs ([Dr.LEARN_COMMAND d, Dr.LEARN_STATE d] ++ accessRegs) s t)
    ∧ (∀ u, Reaches via (0x3004 + 0x40 * d) 1 2 none s u 2 → configured u d = true → ∀ l, (u.door d).learn = some l →
      ∃ t, exec (.learnRunCancel via d) s = .next t
        ∧ t.answer = some 0 ∧ t.rd (Dr.LEARN_STATE d) = 5 ∧ (t.door d).learn = some { l with aborted := true }
        ∧ KeepsRegs ([Dr.LEARN_COMMAND d, Dr.LEARN_STATE d, Dr.STOP_RAMPS_SHORTENED d] ++ accessRegs) s t)
    ∧ (∀ l, (s.door d).learn = some l → l.finished = true → l.aborted = false →
      ∃ t, exec (.learnRunEnd d) s = .next t
        ∧ t.rd (Dr.LEARN_STATE d) = learnOutcome s d l ∧ t.door d = { s.door d with learn := none }
        ∧ (learnOutcome s d l = 2 → ∀ a ∈ axesOf s d,
            t.rd (Ax.STROKE a) = min (getD 0 l.e1 a) (getD 0 l.e2 a) - s.p (Ax.OPEN_BACKOFF a)
              ∧ t.rd (Ax.CLOSED_SWITCH_POS a) = max 0 (min 100000 ((getD 0 l.c1 a + getD 0 l.c2 a) / 2)))
        ∧ (learnOutcome s d l ≠ 2 → KeepsRegs [Dr.LEARN_STATE d] s t)
        ∧ OnlyRegs { s with doors := t.doors } t)

/-! ### Axes: standstill, manual modes, loop faults, alignment (chapters 3 and 4) -/

/-- Standstill and manual modes (R106 to R114). The hold ramp begins after STANDSTILL_DELAY and ends after 50 ms with HOLD_REDUCED. An accepted
AXIS_MODE is stored and not in force before the next door tick. An active STEP input gives one coarse step to every axis that follows its pair,
in the direction that DIR reads: it moves the demand by STEP_SCALE addresses and shows its interval; into an operated limit switch it is
counted as discarded and moves nothing; other axes stay as they are. A jog starts with its first step due at
once, each step, by either of its rows, takes one from JOG_STEPS toward 0, and a stop clears what remains. -/
def Obligations.StandstillAndManualModes : Prop :=
  ∀ (s : State) (a : Nat), a < 48 →
    ((s.axis a).holdStart = none → heldFor (s.axis a).stillSince s.now (50 * s.pn (Ax.STANDSTILL_DELAY a)) = true →
      ∃ t, exec (.standstillDelayExpiry a) s = .next t
        ∧ t.axis a = { s.axis a with holdStart := some s.now, holdDone := false, frozen := true } ∧ (∀ b, b ≠ a → t.axis b = s.axis b)
        ∧ KeepsRegs [] s t ∧ OnlyRegs { s with axes := t.axes } t)
    ∧ (heldFor (s.axis a).holdStart s.now 2500 = true → (s.axis a).holdDone = false →
      ∃ t, exec (.holdRampEnd a) s = .next t
        ∧ t.axis a = { s.axis a with holdDone := true } ∧ t.bit (Ax.AXIS_STATUS a) 3 = true ∧ (∀ b, b ≠ a → t.axis b = s.axis b)
        ∧ KeepsRegs [Ax.AXIS_STATUS a] s t ∧ OnlyRegs { s with axes := t.axes } t)
    ∧ (∀ (via : Via) (mode : Nat) (u : State), Reaches via (0x3405 + 0x10 * a) 1 mode none s u mode → modeChangeOk u a = true →
      ∃ t, exec (.axisModeChange via a mode) s = .next t
        ∧ t.answer = some 0 ∧ t.rd (Ax.AXIS_MODE a) = mode ∧ t.p (Ax.AXIS_MODE a) = s.p (Ax.AXIS_MODE a)
        ∧ KeepsRegs (Ax.AXIS_MODE a :: accessRegs) s t)
    ∧ (∀ p : Nat, p < 4 → inputActive s 0 (s.pn (Gl.STEP_DIR_INPUTS (2 * p))) = true → s.boundary.stepSeen.testBit p = false →
      ∀ opening : Bool, opening = inputActive s 0 (s.pn (Gl.STEP_DIR_INPUTS (2 * p + 1))) →
      ∃ t, exec (.coarseStep false p) s = .next t
        ∧ t.boundary.stepSeen.testBit p = true
        ∧ ((followers s p).contains a = true → intoSwitch s a opening = false → (s.axis a).discarding = false → backlog s a ≤ 64 * coarseNm s a →
          (t.axis a).remaining = (if opening then coarseNm s a else -coarseNm s a)
          ∧ (t.axis a).demandNm = (s.axis a).demandNm + (s.axis a).remaining ∧ (t.axis a).lastStep = some s.now
          ∧ t.rdn (Ax.STEP_INTERVAL_LAST a) = min 50000 (20 * stepInterval s a))
        ∧ ((followers s p).contains a = true → intoSwitch s a opening = true →
          t.rdn (Ax.STEPS_DISCARDED a) = min (s.rdn (Ax.STEPS_DISCARDED a) + 1) max32 ∧ t.bit (Ax.AXIS_STATUS a) 9 = true)
        ∧ ((followers s p).contains a = false → t.axis a = s.axis a)
        ∧ KeepsRegs ((followers s p).flatMap (fun b => [Ax.STEPS_DISCARDED b, Ax.STEP_INTERVAL_LAST b, Ax.AXIS_STATUS b, Ax.LIMIT_STOP_REPEATS b,
            Ax.STEP_OVERRUN_REPEATS b])) s t
        ∧ OnlyRegs { s with axes := t.axes, boundary := { s.boundary with stepSeen := t.boundary.stepSeen } } t)
    ∧ (∀ (via : Via) (n : Int) (u : State), Reaches via (0x3405 + 0x10 * a) 4 n none s u n → n ≠ 0 → n ≠ -32768 → configured u (doorOf a) = true → u.pn (Ax.AXIS_MODE a) = 2
        → (u.axis a).jogNext = none →
      ∃ t, exec (.jogStart via a n) s = .next t
        ∧ t.answer = some 0 ∧ t.rd (Ax.JOG_STEPS a) = n ∧ t.axis a = { s.axis a with jogNext := some (s.now : Rat), manStop := none }
        ∧ KeepsRegs (Ax.JOG_STEPS a :: accessRegs) s t)
    ∧ (∀ (via : Via) (u : State), Reaches via (0x3405 + 0x10 * a) 4 0 none s u 0 → configured u (doorOf a) = true → u.pn (Ax.AXIS_MODE a) = 2 →
      ∃ t, exec (.jogStop via a) s = .next t
        ∧ t.answer = some 0 ∧ t.rd (Ax.JOG_STEPS a) = 0 ∧ (t.axis a).jogNext = none ∧ (t.axis a).remaining = 0
        ∧ ((s.axis a).manVel = 0 → t.rd (Dr.STOP_RAMPS_SHORTENED (doorOf a)) = s.rd (Dr.STOP_RAMPS_SHORTENED (doorOf a)))
        ∧ KeepsRegs ([Ax.JOG_STEPS a, Dr.STOP_RAMPS_SHORTENED (doorOf a)] ++ accessRegs) s t)
    ∧ (s.pn (Ax.AXIS_MODE a) = 2 → 0 < s.rd (Ax.JOG_STEPS a) → jogDue s a = true → intoSwitch s a true = false
        → (s.axis a).discarding = false → backlog s a ≤ 64 * coarseNm s a →
      ∀ i : Instr, i ∈ [Instr.jogStep a, Instr.coarseStep true a] →
      ∃ t, exec i s = .next t
        ∧ t.rd (Ax.JOG_STEPS a) = s.rd (Ax.JOG_STEPS a) - 1 ∧ (t.axis a).remaining = coarseNm s a
        ∧ (t.axis a).jogNext = (if s.rd (Ax.JOG_STEPS a) = 1 then none else some ((s.axis a).jogNext.getD 0 + mkRat 50000 (max (s.pn (Ax.JOG_RATE a)) 1)))
        ∧ KeepsRegs [Ax.JOG_STEPS a, Ax.STEP_INTERVAL_LAST a, Ax.AXIS_STATUS a] s t ∧ OnlyRegs { s with axes := t.axes } t)

/-- Loop faults (R126, R145 to R147). The first fault of an axis latches its cause, sets its flag, reports fault cause 6 to the doorway, and leaves
the axis in STO or, for the causes of FAULT_REACTION 1, in BRAKE_SHORT; nothing else changes. A stall in a manual mode stops the axis where it
stands instead, without a fault. The 500 ms of BRAKE_SHORT over, the axis is in STO. -/
def Obligations.LoopFaultsStopTheAxis : Prop :=
  ∀ (s : State) (a : Nat), a < 48 →
    (∀ (c : Nat → Instr) (cause : Nat) (met : Bool), (c, cause, met) ∈ [
        (Instr.phaseLoss, 3, heldFor (s.axis a).phaseLossSince s.now 1000 || (s.axis a).phase.lost),
        (Instr.commutation, 5, heldFor (s.axis a).commFaultSince s.now 2500),
        (Instr.stall, 7, s.pn (Ax.STALL_TIME a) != 0 && heldFor (s.axis a).stallSince s.now (50 * s.pn (Ax.STALL_TIME a)) && !manual s a),
        (Instr.saturation, 8, s.pn (Ax.SATURATION_TIME a) != 0 && axisMoving s a
          && decide (50 * s.pn (Ax.SATURATION_TIME a) ≤ (s.axis a).limitedRun))] →
      met = true → s.rd (Ax.LOOP_FAULT_CAUSE a) = 0 →
      ∃ t, exec (c a) s = .next t
        ∧ t.rd (Ax.LOOP_FAULT_CAUSE a) = cause ∧ t.bit (Ax.LOOP_STATUS a) 4 = true ∧ 6 ∈ (t.door (doorOf a)).faults
        ∧ t.axis a = { s.axis a with faultAt := some s.now, align := none, faultBrake := brakeCause s a cause }
        ∧ ((s.axis a).shadow = none → driveMode t a = mSto ∨ driveMode t a = mBrake)
        ∧ (∀ b, b ≠ a → t.axis b = s.axis b)
        ∧ KeepsRegs [Ax.LOOP_FAULT_CAUSE a, Ax.LOOP_STATUS a] s t ∧ OnlyRegs { s with axes := t.axes, doors := t.doors } t)
    ∧ (s.pn (Ax.STALL_TIME a) ≠ 0 → heldFor (s.axis a).stallSince s.now (50 * s.pn (Ax.STALL_TIME a)) = true → manual s a = true →
      ∃ t, exec (.stall a) s = .next t
        ∧ (t.axis a).setNm = (s.axis a).posNm ∧ (t.axis a).demandNm = (s.axis a).posNm ∧ (t.axis a).setVel = 0 ∧ t.rd (Ax.JOG_STEPS a) = 0
        ∧ KeepsRegs [Ax.JOG_STEPS a] s t ∧ OnlyRegs { s with axes := t.axes } t)
    ∧ (s.rd (Ax.LOOP_FAULT_CAUSE a) ≠ 0 → 0 ≤ s.rd (Ax.LOOP_FAULT_CAUSE a) → (s.axis a).faultBrake = true → heldFor (s.axis a).faultAt s.now 25000 = true →
      ∃ t, exec (.brakeShortEnd a) s = .next t
        ∧ t.axis a = { s.axis a with faultBrake := false } ∧ axisSto t a = true
        ∧ KeepsRegs [] s t ∧ OnlyRegs { s with axes := t.axes } t)

/-- Alignment, motor data and table (R122, R142 to R144). An accepted alignment run keeps the angle's state for its cancel, which restores it. A run
whose angles lie 384 ± 85 addresses apart ends ALIGNED with the angle of its second stage reading 384; any other ends FAILED with loop fault 9, or
10 when the field and the rotor turned against each other. A stepper's own alignment ends likewise. An accepted change of motor data
is stored and marked for the next door tick; a changed table form asks for a reload of the node's table. -/
def Obligations.AlignmentAndMotorData : Prop :=
  ∀ (s : State) (a : Nat), a < 48 →
    (∀ (via : Via) (u : State), Reaches via (0x340A + 0x10 * a) 8 1 none s u 1 → configured u (doorOf a) = true → doorState u (doorOf a) = 4 → released u (doorOf a) = true
        → zeroSpeed u = true → (leavesOf u (doorOf a)).all (awayFromEnds u) = true → (axesOf u (doorOf a)).contains a = true →
      ∃ t, exec (.alignmentRunStart via a) s = .next t
        ∧ t.answer = some 0
        ∧ t.axis a = { s.axis a with align := some { self := false, started := s.now, prevState := s.rdn (Ax.ANGLE_STATE a) } }
        ∧ t.rd (Ax.ANGLE_COMMAND a) = 1 ∧ KeepsRegs (Ax.ANGLE_COMMAND a :: accessRegs) s t)
    ∧ (∀ (via : Via) (u : State), Reaches via (0x340A + 0x10 * a) 8 2 none s u 2 → configured u (doorOf a) = true → ∀ r, (u.axis a).align = some r →
      ∃ t, exec (.alignmentRunCancel via a) s = .next t
        ∧ t.answer = some 0 ∧ t.axis a = { s.axis a with align := none } ∧ t.rdn (Ax.ANGLE_STATE a) = r.prevState
        ∧ KeepsRegs ([Ax.ANGLE_COMMAND a, Ax.ANGLE_STATE a] ++ accessRegs) s t)
    ∧ (∀ (r : Align), (s.axis a).align = some r → r.self = false → ∀ c0, r.c0 = some c0 → ∀ c1, r.c1 = some c1 →
      ∀ diff : Int, diff = (countAngle s a c1 - countAngle s a c0) % fullTurn →
      (299 * 65536 ≤ diff ∧ diff ≤ 469 * 65536 →
        ∃ t, exec (.alignmentRunEnd a 2 0) s = .next t
          ∧ t.rd (Ax.ANGLE_STATE a) = 2
          ∧ (t.rd (Ax.COMMUTATION_OFFSET a) + divRound (countAngle s a c1) 65536 - s.p (Ax.COMMUTATION_OFFSET a)) % 1536 = 384
          ∧ t.p (Ax.COMMUTATION_OFFSET a) = t.rd (Ax.COMMUTATION_OFFSET a) ∧ t.axis a = { s.axis a with align := none }
          ∧ KeepsRegs [Ax.ANGLE_STATE a, Ax.COMMUTATION_OFFSET a] s t ∧ OnlyRegs { s with axes := t.axes, eff := t.eff } t)
      ∧ (diff < 299 * 65536 ∨ 469 * 65536 < diff → s.rd (Ax.LOOP_FAULT_CAUSE a) = 0 →
        ∀ cause : Nat, cause = (if 1067 * 65536 ≤ diff ∧ diff ≤ 1237 * 65536 then 10 else 9) →
        ∃ t, exec (.alignmentRunEnd a 3 cause) s = .next t
          ∧ t.rd (Ax.ANGLE_STATE a) = 3 ∧ t.rd (Ax.LOOP_FAULT_CAUSE a) = cause
          ∧ (t.axis a).align = none
          ∧ KeepsRegs [Ax.ANGLE_STATE a, Ax.LOOP_FAULT_CAUSE a, Ax.LOOP_STATUS a] s t))
    ∧ (∀ (r : Align), (s.axis a).align = some r → r.self = true → ∀ c0, r.c0 = some c0 → ∀ c1, r.c1 = some c1 →
      ∀ moved : Int, moved = (c1 - c0) * (1536 * s.pn (Ax.POLE_PAIRS a) : Nat) →
      (768 * s.pn (Ax.ENCODER_CPR a) ≤ moved ∧ moved ≤ 2304 * s.pn (Ax.ENCODER_CPR a) →
        ∃ t, exec (.stepperSelfAlignmentEnd a 0) s = .next t
          ∧ t.rd (Ax.ANGLE_STATE a) = 2 ∧ t.axis a = { s.axis a with align := none }
          ∧ (t.rd (Ax.COMMUTATION_OFFSET a) + divRound (countAngle s a c1) 65536 - s.p (Ax.COMMUTATION_OFFSET a)) % 1536 = 0
          ∧ KeepsRegs [Ax.ANGLE_STATE a, Ax.COMMUTATION_OFFSET a] s t ∧ OnlyRegs { s with axes := t.axes, eff := t.eff } t)
      ∧ (moved < 768 * s.pn (Ax.ENCODER_CPR a) ∨ 2304 * s.pn (Ax.ENCODER_CPR a) < moved → s.rd (Ax.LOOP_FAULT_CAUSE a) = 0 →
        ∀ cause : Nat, cause = (if moved < 0 then 10 else 9) →
        ∃ t, exec (.stepperSelfAlignmentEnd a cause) s = .next t
          ∧ t.rd (Ax.ANGLE_STATE a) = 3 ∧ t.rd (Ax.LOOP_FAULT_CAUSE a) = cause ∧ (t.axis a).align = none
          ∧ KeepsRegs [Ax.ANGLE_STATE a, Ax.LOOP_FAULT_CAUSE a, Ax.LOOP_STATUS a] s t))
    ∧ (∀ (via : Via) (v : Nat) (u : State), Reaches via (0x3407 + 0x10 * a) 3 v none s u v → (v : Int) ≠ u.rd (Ax.TRAVEL_PER_REV a)
        → firstOf (axisChecks a 7 3 v u) = none → allSto u (doorOf a) = true → u.rdb Gl.WRITE_ENABLE = true →
      ∃ t, exec (.motorDataChange via a 2 v) s = .next t
        ∧ t.answer = some 0 ∧ t.rd (Ax.TRAVEL_PER_REV a) = v
        ∧ t.axis a = { s.axis a with motorNew := true } ∧ t.rd (Ax.ANGLE_STATE a) = s.rd (Ax.ANGLE_STATE a)
        ∧ (∀ b, b ≠ a → t.axis b = s.axis b) ∧ t.doors = s.doors)
    ∧ (∀ (via : Via) (d n : Nat), d < 16 → ∀ u, Reaches via (0x3006 + 0x40 * d) 1 n none s u n → n ≤ 1
        → (n = 1 → (axesOf u d).any (fun b => u.pn (Ax.MOTOR_TYPE b) == 1) = false) → allSto u d = true →
      ∃ t, exec (.tableReload via d (some n) none) s = .next t
        ∧ t.answer = some 0 ∧ t.rd (Dr.TABLE_FORM d) = n ∧ t.door d = { s.door d with tableReload := true }
        ∧ KeepsRegs (Dr.TABLE_FORM d :: accessRegs) s t)

/-! ### Envelopes and depth sensors (chapter 6) -/

/-- Envelopes and backgrounds (R205, R206, R213, R216, R218). A window write of 1024 bytes and a window command are accepted for the selected leaf in
the states of R205, and wait behind one another for the next door tick. A commit makes the leaf's envelopes, with their states and cycle counts, or a sensor's
background the committed record. A processed frame leaves the queue, is counted, and shows its occupied pixels and whether they reach
MIN_PIXELS. A sensor whose condition of R218 holds has failed. A learning starts LEARNING with no readings; after 64 frames it ends VALID with the
medians, or, with more than a tenth of the box without a background, FAILED with the previous background in use, which survives a reset once committed. A failure
that limits a close that runs raises 0x0383. -/
def Obligations.EnvelopesAndBackgrounds : Prop :=
  ∀ (s : State),
    (∀ (via : Via) (bs : List ByteN) (u : State), ReachesBytes via 0x3900 2 bs s u → bs.length = 1024 → isLeaf u (envSelected u).1 = true
        → windowOpen u (doorOf (envSelected u).1) = true →
      ∃ t, exec (.envDataWrite via bs) s = .next t
        ∧ t.answer = some 0 ∧ t.leaf (envSelected s).1 = { s.leaf (envSelected s).1 with acts := (s.leaf (envSelected s).1).acts ++ [.write (!(envSelected s).2) (envOfBytes 256 bs)] }
        ∧ (∀ b, b ≠ (envSelected s).1 → t.leaf b = s.leaf b)
        ∧ KeepsRegs accessRegs s t ∧ OnlyAccess { s with leaves := t.leaves } t)
    ∧ (∀ (via : Via) (u : State), Reaches via 0x3900 3 1 none s u 1 → isLeaf u (envSelected u).1 = true
        → windowOpen u (doorOf (envSelected u).1) = true →
      ∃ t, exec (.envResetOne via) s = .next t
        ∧ t.answer = some 0
        ∧ t.leaf (envSelected s).1 = { s.leaf (envSelected s).1 with acts := (s.leaf (envSelected s).1).acts ++ [.reset (envSelected s).2 (!(envSelected s).2)] }
        ∧ KeepsRegs accessRegs s t ∧ OnlyAccess { s with leaves := t.leaves } t)
    ∧ (∀ (via : Via) (u : State), Reaches via 0x3900 3 2 none s u 2 → isLeaf u (envSelected u).1 = true
        → windowOpen u (doorOf (envSelected u).1) = true →
      ∃ t, exec (.envResetBoth via) s = .next t
        ∧ t.answer = some 0 ∧ t.leaf (envSelected s).1 = { s.leaf (envSelected s).1 with acts := (s.leaf (envSelected s).1).acts ++ [.reset true true] }
        ∧ KeepsRegs accessRegs s t ∧ OnlyAccess { s with leaves := t.leaves } t)
    ∧ (∀ a : Nat, a < 48 → (s.leaf a).commitBy.isSome = true →
      ∃ t, exec (.envelopeCommit a) s = .next t
        ∧ (t.leaf a).commitBy = none ∧ (t.leaf a).close = (s.leaf a).close ∧ (t.leaf a).opn = (s.leaf a).opn
        ∧ (getD {} t.leafCommits a).leaf.close = (s.leaf a).close ∧ (getD {} t.leafCommits a).leaf.opn = (s.leaf a).opn
        ∧ (getD {} t.leafCommits a).leaf.offset = (s.leaf a).offset
        ∧ (getD {} t.leafCommits a).stateClose = s.rd (Ax.ENV_STATE_CLOSE a) ∧ (getD {} t.leafCommits a).stateOpen = s.rd (Ax.ENV_STATE_OPEN a)
        ∧ (getD {} t.leafCommits a).cyclesClose = s.rd (Ax.ENV_CYCLES_CLOSE a) ∧ (getD {} t.leafCommits a).cyclesOpen = s.rd (Ax.ENV_CYCLES_OPEN a)
        ∧ (∀ b, b ≠ a → getD {} t.leafCommits b = getD {} s.leafCommits b)
        ∧ getD 0 t.duplex.gens (2 * a) = getD 0 s.duplex.gens (2 * a) + 1 ∧ getD 0 t.duplex.gens (2 * a + 1) = getD 0 s.duplex.gens (2 * a + 1) + 1
        ∧ KeepsRegs [] s t ∧ OnlyAccess { s with leaves := t.leaves, leafCommits := t.leafCommits, duplex := { s.duplex with gens := t.duplex.gens } } t)
    ∧ (∀ n : Nat, n < 32 → (s.sensor n).commitBy.isSome = true →
      ∃ t, exec (.envelopeCommit (48 + n)) s = .next t
        ∧ t.sensor n = { s.sensor n with commitBy := none, committed := (s.sensor n).bg, failedNv := (s.sensor n).failed }
        ∧ getD 0 t.duplex.gens (1000 + n) = getD 0 s.duplex.gens (1000 + n) + 1
        ∧ KeepsRegs [] s t ∧ OnlyAccess { s with sensors := t.sensors, duplex := { s.duplex with gens := t.duplex.gens } } t)
    ∧ (∀ f, nextFrame s = some f →
      ∃ t, exec .depthFrameProcessed s = .next t
        ∧ t.depthQueue = s.depthQueue.filter (fun g => g.n != f.n)
        ∧ t.rdn (Sn.OCCUPIED_PIXELS f.n) = (boxCounts s f.n 0 f.pixels (s.sensor f.n).bg).1
        ∧ t.bit (Sn.SENSOR_STATUS f.n) 0 = decide (s.pn (Sn.MIN_PIXELS f.n) ≤ (boxCounts s f.n 0 f.pixels (s.sensor f.n).bg).1)
        ∧ t.rdn (Sn.FRAMES_PROCESSED f.n) = min (s.rdn (Sn.FRAMES_PROCESSED f.n) + 1) max32
        ∧ (t.sensor f.n).lastFrame = some s.now ∧ (∀ m, m ≠ f.n → t.sensor m = s.sensor m)
        ∧ (sensorFailed s f.n = false → sensorFailed t f.n = false)
        ∧ KeepsRegs [Gl.DEPTH_WAIT_MAX, Sn.OCCUPIED_PIXELS f.n, Sn.INVALID_PIXELS f.n, Sn.FRAMES_PROCESSED f.n, Sn.SENSOR_STATUS f.n] s t
        ∧ OnlyRegs { s with depthQueue := t.depthQueue, sensors := t.sensors } t)
    ∧ (∀ n cond : Nat, n < 32 → sensorEnabled s n = true → sensorFailed s n = false → depthCondition s n cond = true →
      ∃ t, exec (.depthSensorFailed n cond) s = .next t
        ∧ sensorFailed t n = true ∧ t.sensor n = { s.sensor n with goodRun := 0 } ∧ Counted 0x1381 s t
        ∧ (closingRuns s (sensorDoor n) = true → depthDegraded s (sensorDoor n) = false → depthDegraded t (sensorDoor n) = true → Counted 0x0383 s t)
        ∧ KeepsRegs (Sn.SENSOR_STATUS n :: eventRegs) s t ∧ OnlyEvents { s with sensors := t.sensors } t)
    ∧ (∀ (via : Via) (n : Nat), n < 32 → ∀ u : State, Reaches via (0x3820 + n) 1 1 none s u 1
        → [1, 4, 9, 10].contains (doorState u (sensorDoor n)) = true →
      ∃ t, exec (.bgLearnStart via n) s = .next t
        ∧ t.answer = some 0 ∧ t.rd (Sn.BG_STATE n) = 1 ∧ t.sensor n = { s.sensor n with learning := some [] }
        ∧ KeepsRegs (Sn.BG_STATE n :: accessRegs) s t ∧ OnlyAccess { s with sensors := t.sensors } t)
    ∧ (∀ (n : Nat), n < 32 → ∀ fs, (s.sensor n).learning = some fs → 64 ≤ fs.length → ∀ bg, bg = learntBg (s.pn (Sn.MIN_CONFIDENCE n)) fs →
      ((missingBg s n bg).2.1 * 10 ≤ (missingBg s n bg).2.2 →
        ∃ t, exec (.bgLearnEnd n) s = .next t
          ∧ t.rd (Sn.BG_STATE n) = 2 ∧ t.rdn (Sn.BG_VALID_PIXELS n) = (missingBg s n bg).1
          ∧ t.sensor n = { s.sensor n with learning := none, bg, failed := false, commitBy := s.after 100, tracked := some s.now }
          ∧ KeepsRegs [Sn.BG_STATE n, Sn.BG_VALID_PIXELS n] s t ∧ OnlyRegs { s with sensors := t.sensors } t)
      ∧ ((missingBg s n bg).2.2 < (missingBg s n bg).2.1 * 10 →
        ∃ t, exec (.bgLearnEnd n) s = .next t
          ∧ t.rd (Sn.BG_STATE n) = 3 ∧ t.sensor n = { s.sensor n with learning := none, failed := true, commitBy := s.after 100 }
          ∧ KeepsRegs [Sn.BG_STATE n] s t ∧ OnlyRegs { s with sensors := t.sensors } t))

/-! ### The power node (chapter 5) -/

/-- The node applies frames (R172, R173, R175, R280). In RUNNING or HOLDING, at an apply instant: valid frames with HOLD on both ports latch STO with
BOTH_HOLD; else a newer frame of the holder is applied and clears SUBSTITUTE; else a newer shadow frame is applied and sets SUBSTITUTE; else
the words in force are held, and the 8th miss in a row latches STO, which reports the words as 0 and keeps sequence, table and
configuration; HELD and SUBSTITUTE stay. A frame without HOLD and SHADOW is never applied. At the same instant the node takes what it measured, and
a path that failed its check keeps its byte, and a path found failed latches STO (R280); a port that is not in training, or that received a valid frame, forms its next uplink frame: sealed with its CRC, numbered on, with the
status, the applied sequence, words and outputs, the inputs and the response of that port. Power-up leaves INIT with no table and no configuration. Other nodes and all
registers stay. -/
def Obligations.NodeAppliesFrames : Prop :=
  ∀ (s : State) (d : Nat) (fa fb : Option DownFrame) (m : NodeMeas),
    ((s.node d).stopped = false → ((s.node d).valid 0 fa).any (·.hold) = true → ((s.node d).valid 1 fb).any (·.hold) = true →
      ∃ t, exec (.nodeApplyInstant d { a := fa, b := fb } m) s = .next t
        ∧ (t.node d).drive = (({ (s.node d).measured m with state := nSto, words := [0, 0, 0], outputs := 0, bothHold := true, run := 0, missed := 0 } : Node).paths (s.node d) m).drive
        ∧ KeepsRegs [] s t ∧ OnlyEvents { s with nodes := putD {} s.nodes d (t.node d) } t)
    ∧ (∀ port : Nat, port ≤ 1 → ∀ x, (s.node d).valid port (if port = 0 then fa else fb) = some x → x.hold = true → newer (s.node d) x.seq = true
        → (s.node d).stopped = false → ((s.node d).valid (1 - port) (if port = 0 then fb else fa)).any (·.hold) = false →
      ∃ t, exec (.nodeApplyInstant d { a := fa, b := fb } m) s = .next t
        ∧ (t.node d).drive = (({ ((s.node d).measured m).apply x port with substitute := false } : Node).paths (s.node d) m).drive
        ∧ (m.pathBad = 0 → m.pathFail = 0 →
          (t.node d).words = x.words ∧ (t.node d).stoA = x.safeStoA % 8 ∧ (t.node d).runB = x.safeRunB % 8 ∧ (t.node d).outputs = x.outputs % 16
          ∧ (t.node d).lastSeq = x.seq ∧ (t.node d).missed = 0 ∧ (t.node d).held = false ∧ (t.node d).state = nRunning)
        ∧ (m.pathFail ≠ 0 → (t.node d).state = nSto ∧ (t.node d).words = [0, 0, 0] ∧ (t.node d).outputs = 0)
        ∧ KeepsRegs [] s t ∧ OnlyEvents { s with nodes := putD {} s.nodes d (t.node d) } t)
    ∧ (∀ port : Nat, port ≤ 1 → ∀ x, (s.node d).valid port (if port = 0 then fa else fb) = some x → x.hold = false → x.shadow = true
        → newer (s.node d) x.seq = true → (s.node d).stopped = false
        → ((s.node d).valid (1 - port) (if port = 0 then fb else fa)).any (fun y => (y.hold || y.shadow) && newer (s.node d) y.seq) = false →
      ∃ t, exec (.nodeApplyInstant d { a := fa, b := fb } m) s = .next t
        ∧ (t.node d).drive = (({ ((s.node d).measured m).apply x port with substitute := true } : Node).paths (s.node d) m).drive
        ∧ KeepsRegs [] s t ∧ OnlyEvents { s with nodes := putD {} s.nodes d (t.node d) } t)
    ∧ ((s.node d).stopped = false → ((s.node d).valid 0 fa).any (fun y => (y.hold || y.shadow) && newer (s.node d) y.seq) = false
        → ((s.node d).valid 1 fb).any (fun y => (y.hold || y.shadow) && newer (s.node d) y.seq) = false
        → (((s.node d).valid 0 fa).any (·.hold) && ((s.node d).valid 1 fb).any (·.hold)) = false →
      ∃ t, exec (.nodeApplyInstant d { a := fa, b := fb } m) s = .next t
        ∧ (t.node d).drive = ((if (s.node d).missed = 7 then ((s.node d).measured m).latch false
            else { (s.node d).measured m with missed := (s.node d).missed + 1, held := true, state := nHolding }).paths (s.node d) m).drive
        ∧ KeepsRegs [] s t ∧ OnlyEvents { s with nodes := putD {} s.nodes d (t.node d) } t)
    ∧ (∀ port : Nat, port ≤ 1 → ((s.node d).port port).train = none ∨ ((s.node d).valid port (if port = 0 then fa else fb)).isSome = true →
      ∃ t, exec (.nodeApplyInstant d { a := fa, b := fb } m) s = .next t
        ∧ (∃ f, ((t.node d).port port).up = some f ∧ f.crc = crc32 (upBytes f) ∧ f.seq = (((s.node d).port port).upSeq + 1) % 65536
          ∧ f.status = nodeStatus (t.node d) port ∧ f.appliedSeq = (t.node d).lastSeq ∧ f.outputsRb = (t.node d).outputs
          ∧ f.inputsA = m.inputsA % 256 ∧ f.inputsBInv = 255 - m.inputsB % 256
          ∧ f.axes.map (·.appliedSp) = [0, 1, 2].map (fun k => (t.node d).words.getD k 0)
          ∧ f.respTag = ((t.node d).resp port).tag ∧ f.respResult = ((t.node d).resp port).result)
        ∧ KeepsRegs [] s t ∧ OnlyEvents { s with nodes := putD {} s.nodes d (t.node d) } t)
    ∧ (∃ t, exec (.nodePowerUp d) s = .next t
        ∧ t.node d = {} ∧ (t.node d).state = nInit ∧ bridgesOff (t.node d) = true ∧ (t.node d).tableValid = false ∧ (t.node d).config = []
        ∧ KeepsRegs [] s t ∧ OnlyRegs { s with nodes := putD {} s.nodes d {} } t)

/-- A node leaves INIT or STO_LATCHED only by a resume (R174, R280). A valid frame with HOLD on exactly one port counts the run, from 1 unless its SEQ
follows the previous one's; with RESUME and a run of at least 5, a valid table, a written configuration and no path found failed it is applied and clears
BOTH_HOLD. Any other instant sets the run to 0. NODE_APPLY_INSTANT decides so in these states too; what the management messages of the same frames
do (R182) stands apart. In any other state NODE_RESUME has no effect. -/
def Obligations.NodeResumes : Prop :=
  ∀ (s : State) (d : Nat) (fa fb : Option DownFrame),
    (∀ port : Nat, port ≤ 1 → ∀ x, (s.node d).valid port (if port = 0 then fa else fb) = some x → (s.node d).stopped = true → x.hold = true
        → ((s.node d).valid (1 - port) (if port = 0 then fb else fa)).any (·.hold) = false →
      ∀ run : Nat, run = (if 0 < (s.node d).run ∧ x.seq = ((s.node d).prevSeq + 1) % 65536 then (s.node d).run + 1 else 1) →
      (x.resume = true → 5 ≤ run → (s.node d).tableValid = true → (s.node d).config ≠ [] → (s.node d).pathFail = 0 →
        ∃ t, exec (.nodeResume d fa fb) s = .next t
          ∧ t.node d = (({ ({ s.node d with run, prevSeq := x.seq } : Node).apply x port with bothHold := false }).tookSof 0 fa).tookSof 1 fb
          ∧ (t.node d).state = nRunning ∧ (t.node d).words = x.words ∧ (t.node d).lastSeq = x.seq
          ∧ KeepsRegs [] s t ∧ OnlyRegs { s with nodes := putD {} s.nodes d (t.node d) } t)
      ∧ (¬ (x.resume = true ∧ 5 ≤ run ∧ (s.node d).tableValid = true ∧ (s.node d).config ≠ [] ∧ (s.node d).pathFail = 0) →
        ∃ t, exec (.nodeResume d fa fb) s = .next t
          ∧ t.node d = (({ s.node d with run, prevSeq := x.seq } : Node).tookSof 0 fa).tookSof 1 fb
          ∧ KeepsRegs [] s t ∧ OnlyRegs { s with nodes := putD {} s.nodes d (t.node d) } t))
    ∧ ((s.node d).stopped = true → ((s.node d).valid 0 fa).any (·.hold) = ((s.node d).valid 1 fb).any (·.hold) →
      ∃ t, exec (.nodeResume d fa fb) s = .next t
        ∧ t.node d = (({ s.node d with run := 0 } : Node).tookSof 0 fa).tookSof 1 fb
        ∧ KeepsRegs [] s t ∧ OnlyRegs { s with nodes := putD {} s.nodes d (t.node d) } t)
    ∧ (∀ m : NodeMeas, (s.node d).stopped = true →
      ∃ u, exec (.nodeResume d fa fb) (s.setNode d ((s.node d).measured m)) = .next u ∧
      ∃ t, exec (.nodeApplyInstant d { a := fa, b := fb } m) s = .next t
        ∧ (t.node d).drive = ((u.node d).paths (s.node d) m).drive
        ∧ KeepsRegs [] s t ∧ OnlyEvents { s with nodes := putD {} s.nodes d (t.node d) } t)
    ∧ ((s.node d).stopped = false →
      ∃ t, exec (.nodeResume d fa fb) s = .next t ∧ KeepsRegs [] s t ∧ OnlyRegs s t)

/-- The management channel (R182, R184 to R187). A message with a new tag is executed once: the node answers on the port it came by, with 12 bytes of
data, and only the operation's own effect follows. The holder's operations write the shadow table, the active table if its CRC is the one
given, and the configuration, with the bridges off; SET_TIMING sets the advance of the port; the others leave the node as it is. A frame without
HOLD, or bridges that are on, get NOT_ALLOWED; a tag already answered has no effect. -/
def Obligations.NodeExecutesMessages : Prop :=
  ∀ (s : State) (d : Nat) (m : Mgmt), 0 < m.tag → m.tag ≤ 255 →
    (((s.node d).resp m.port).tag ≠ m.tag → m.addr = 0 → m.data = [] →
      ∃ t, exec (.identify d m) s = .next t
        ∧ t.node d = (s.node d).setResp m.port { tag := m.tag, result := rOk, data := pad12 (nodeBytes d 0x01 0 12) }
        ∧ KeepsRegs [] s t ∧ OnlyRegs { s with nodes := putD {} s.nodes d (t.node d) } t)
    ∧ (((s.node d).resp m.port).tag ≠ m.tag → m.addr ≤ 3 → m.data = [] →
      ∃ t, exec (.readCaps d m) s = .next t
        ∧ t.node d = (s.node d).setResp m.port { tag := m.tag, result := rOk, data := pad12 (nodeBytes d 0x02 m.addr (if m.addr = 3 then 4 else 10)) }
        ∧ KeepsRegs [] s t ∧ OnlyRegs { s with nodes := putD {} s.nodes d (t.node d) } t)
    ∧ (((s.node d).resp m.port).tag ≠ m.tag → m.hold = true → bridgesOff (s.node d) = true → 1 ≤ m.data.length → m.data.length ≤ 384
        → m.addr + m.data.length ≤ 3072 →
      ∃ t, exec (.tableWrite d m) s = .next t
        ∧ t.node d = ({ s.node d with shadowTable := overlay ((s.node d).shadow d) m.addr (m.data.map (· % 256)) } : Node).setResp m.port
            { tag := m.tag, result := rOk, data := pad12 [] }
        ∧ KeepsRegs [] s t ∧ OnlyRegs { s with nodes := putD {} s.nodes d (t.node d) } t)
    ∧ (((s.node d).resp m.port).tag ≠ m.tag → m.hold = true → bridgesOff (s.node d) = true → m.data.length = 4 →
      ∃ t, exec (.tableCommit d m) s = .next t
        ∧ t.node d = (if crc32 ((s.node d).shadow d) = beVal m.data then
            ({ s.node d with table := (s.node d).shadow d, tableValid := true } : Node).setResp m.port
              { tag := m.tag, result := rOk, data := pad12 (beBytes 4 (crc32 ((s.node d).shadow d))) }
          else (s.node d).setResp m.port { tag := m.tag, result := rMismatch, data := pad12 (beBytes 4 (crc32 ((s.node d).shadow d))) })
        ∧ KeepsRegs [] s t ∧ OnlyRegs { s with nodes := putD {} s.nodes d (t.node d) } t)
    ∧ (((s.node d).resp m.port).tag ≠ m.tag → m.addr = 0 → m.data = [] → (s.node d).tableValid = true → (s.node d).config ≠ [] →
      (∃ t, exec (.tableCheck d m) s = .next t
        ∧ t.node d = (s.node d).setResp m.port { tag := m.tag, result := rOk, data := pad12 (beBytes 4 (crc32 (s.node d).table) ++ [1]) }
        ∧ KeepsRegs [] s t ∧ OnlyRegs { s with nodes := putD {} s.nodes d (t.node d) } t)
      ∧ (∃ t, exec (.configRead d m) s = .next t
        ∧ t.node d = (s.node d).setResp m.port { tag := m.tag, result := rOk, data := pad12 (s.node d).config }
        ∧ KeepsRegs [] s t ∧ OnlyRegs { s with nodes := putD {} s.nodes d (t.node d) } t))
    ∧ (((s.node d).resp m.port).tag ≠ m.tag → m.hold = true → bridgesOff (s.node d) = true → m.addr = 0 → m.data.length = 8
        → (∀ k : Nat, k < 3 → (m.data.getD 0 0).testBit k = true → nodeHasAxis d k = true)
        → (∀ i : Nat, i < 2 → (m.data.getD 2 0).testBit i = true → i < nodeSensors d) →
      ∃ t, exec (.configWrite d m) s = .next t
        ∧ t.node d = ({ s.node d with config := m.data.map (· % 256) } : Node).setResp m.port { tag := m.tag, result := rOk, data := pad12 [] }
        ∧ KeepsRegs [] s t ∧ OnlyRegs { s with nodes := putD {} s.nodes d (t.node d) } t)
    ∧ (((s.node d).resp m.port).tag ≠ m.tag → m.addr < 2 →
      (m.data = [] → ∃ t, exec (.sensorRead d m) s = .next t
        ∧ (∃ r, t.node d = (s.node d).setResp m.port r ∧ r.tag = m.tag ∧ r.data.length = 12
          ∧ (if m.addr < nodeSensors d then r.result = rOk ∨ r.result = rSensorFault else r.result = rBadRange))
        ∧ KeepsRegs [] s t ∧ OnlyEvents { s with nodes := putD {} s.nodes d (t.node d) } t)
      ∧ (m.hold = true → 1 ≤ m.data.length → m.data.length ≤ 384 → ∃ t, exec (.sensorWrite d m) s = .next t
        ∧ (∃ r, t.node d = (s.node d).setResp m.port r ∧ r.tag = m.tag ∧ r.data.length = 12
          ∧ (if m.addr < nodeSensors d then r.result = rOk ∨ r.result = rSensorFault else r.result = rBadRange))
        ∧ KeepsRegs [] s t ∧ OnlyEvents { s with nodes := putD {} s.nodes d (t.node d) } t))
    ∧ (((s.node d).resp m.port).tag ≠ m.tag → m.data.length = 2 → beVal m.data ≤ 400 →
      ∃ t, exec (.setTiming d m) s = .next t
        ∧ t.node d = (if (s.node d).stopped = false ∧ (s.node d).appliedPort = m.port then
            (s.node d).setResp m.port { tag := m.tag, result := rNotAllowed, data := pad12 [] }
          else (if m.port = 0 then ({ s.node d with taA := beVal m.data } : Node) else { s.node d with taB := beVal m.data }).setResp m.port
            { tag := m.tag, result := rOk, data := pad12 [] })
        ∧ KeepsRegs [] s t ∧ OnlyRegs { s with nodes := putD {} s.nodes d (t.node d) } t)
    ∧ (((s.node d).resp m.port).tag ≠ m.tag → m.data.length ≤ 384 →
      ∃ t, exec (.echo d m) s = .next t
        ∧ t.node d = (s.node d).setResp m.port { tag := m.tag, result := rOk, data := pad12 (m.data.take 12) }
        ∧ KeepsRegs [] s t ∧ OnlyRegs { s with nodes := putD {} s.nodes d (t.node d) } t)
    ∧ (∀ (c : Nat → Mgmt → Instr) (lo hi : Nat), (c, lo, hi) ∈ [(Instr.tableWrite, 1, 384), (Instr.tableCommit, 4, 4)] →
        ((s.node d).resp m.port).tag ≠ m.tag → lo ≤ m.data.length → m.data.length ≤ hi → m.addr + m.data.length ≤ 3072
        → (m.hold = false ∨ bridgesOff (s.node d) = false) →
      ∃ t, exec (c d m) s = .next t
        ∧ t.node d = (s.node d).setResp m.port { tag := m.tag, result := rNotAllowed, data := pad12 [] }
        ∧ KeepsRegs [] s t ∧ OnlyRegs { s with nodes := putD {} s.nodes d (t.node d) } t)
    ∧ (∀ (c : Nat → Mgmt → Instr), c ∈ [Instr.identify, Instr.readCaps, Instr.tableWrite, Instr.tableCommit, Instr.tableCheck, Instr.configWrite,
          Instr.configRead, Instr.sensorWrite, Instr.sensorRead, Instr.setTiming, Instr.echo] → ((s.node d).resp m.port).tag = m.tag →
      ∃ t, exec (c d m) s = .next t ∧ t.node d = s.node d ∧ KeepsRegs [] s t ∧ OnlyEvents s t)

/-! ### Doorway links and the partner link (chapter 5, R329 to R333) -/

/-- Training (R179, R180, R189 to R191). Character lock takes a link from DOWN to TRAINING; its loss makes it LOST, cause NO_SIGNAL, and it goes
DOWN after RETRAIN_DELAY; a link that is LOST keeps its cause. Frames advance the run through LOCK (64 valid frames in a row that report no error at
the far end), SWEEP (1024 frames, then a request of a level free of errors, or of 3) and DELAY (64 valid frames). A run that is done enters CONFIG with TIMING_ADVANCE 2c and SET_TIMING as its first message, or is LOST, cause DELAY_RANGE, with 2c over 400 ns;
one not done 100 ms after its start is LOST, cause TRAIN_TIMEOUT. After RETRAIN_DELAY a new run starts. -/
def Obligations.DoorwayLinkTraining : Prop :=
  ∀ (s : State) (d : Nat), d < 16 →
    (linkState s d = lDown →
      ∃ t, exec (.characterLock d) s = .next t
        ∧ linkState t d = lTraining
        ∧ t.link d = { s.link d with charLock := true, train := some { started := s.now }, retrainAt := none }
        ∧ KeepsRegs [Lk.LINK_STATE d, Lk.LINK_STATUS d] s t ∧ OnlyRegs { s with links := putD {} s.links d (t.link d) } t)
    ∧ (linkState s d = lLost →
      ∃ t, exec (.characterLockLost (some d)) s = .next t
        ∧ t.link d = { s.link d with charLock := false, lastSof := none }
        ∧ KeepsRegs [] s t ∧ OnlyRegs { s with links := putD {} s.links d (t.link d) } t)
    ∧ (linkState s d = lLost → due (s.link d).retrainAt s.now = true →
      ∃ t, exec (.retrainDelayExpiry d) s = .next t
        ∧ linkState t d = (if (s.link d).charLock then lTraining else lDown)
        ∧ t.link d = { s.link d with train := if (s.link d).charLock then some { started := s.now } else none, retrainAt := none }
        ∧ KeepsRegs [Lk.LINK_STATE d, Lk.LINK_STATUS d] s t ∧ OnlyRegs { s with links := putD {} s.links d (t.link d) } t)
    ∧ (2 ≤ linkState s d → linkState s d ≠ lLost →
      ∃ t, exec (.characterLockLost (some d)) s = .next t
        ∧ linkState t d = lLost ∧ t.rd (Lk.LINK_CAUSE d) = 1
        ∧ t.link d = { (s.link d).idle with charLock := false, lastSof := none, retrainAt := s.after (s.rdn (Lk.RETRAIN_DELAY d)) }
        ∧ KeepsRegs (lossRegs d ++ eventRegs) s t
        ∧ OnlyEvents { s with links := putD {} s.links d (t.link d), doors := putD {} s.doors d (t.door d) } t)
    ∧ (linkState s d = lTraining → ∀ r, (s.link d).train = some r → ∀ f : TrainFrame, f.port = none →
      ∀ ok, trainOk (s.link d).lastSof f = ok →
      (r.step ≠ 2 ∨ r.count < 1023 →
        ∃ t, exec (.trainingFrame d f) s = .next t
          ∧ (t.link d).train = some (r.frame f ok 0) ∧ (t.link d).lastSof = some f.sof
          ∧ (r.step = 1 → ok = true → f.rxErrors = 0 → r.count = 63 → (r.frame f ok 0).step = 2)
          ∧ (r.step = 1 → ok = false → (r.frame f ok 0).step = 1 ∧ (r.frame f ok 0).count = 0)
          ∧ (r.step = 1 → f.rxErrors ≠ 0 → (r.frame f ok 0).step = 1)
          ∧ (r.step = 3 → ok = true → r.count = 63 → (r.frame f ok 0).step = 4)
          ∧ KeepsRegs [Lk.TX_PREEMPH d, Lk.NODE_TX_PREEMPH d, Lk.FRAMING_ERRORS d] s t ∧ OnlyEvents { s with links := putD {} s.links d (t.link d) } t)
      ∧ (r.step = 2 → r.count = 1023 →
        ∃ t, exec (.trainingFrame d f) s = .next t
          ∧ (t.link d).train.any (fun q => q.step == 3 && q.count == 0 && (!q.bad.contains q.request || q.request == 3)) = true
          ∧ KeepsRegs [Lk.FRAMING_ERRORS d] s t ∧ OnlyEvents { s with links := putD {} s.links d (t.link d) } t))
    ∧ (linkState s d = lTraining → ∀ r, (s.link d).train = some r → r.step = 4 →
      (r.delay ≤ 400 →
        ∃ t, exec (.trainingDone d) s = .next t
          ∧ linkState t d = lConfig ∧ t.rdn (Lk.TIMING_ADVANCE d) = r.delay ∧ (t.link d).train = none
          ∧ (t.link d).out.map (·.msg) = some { op := 0x40, data := beBytes 2 r.delay }
          ∧ (t.link d).exUntil = s.after (s.rdn (Lk.NODE_CONFIG_TIMEOUT d))
          ∧ KeepsRegs [Lk.LINK_STATE d, Lk.LINK_STATUS d, Lk.TIMING_ADVANCE d, Dr.TABLE_CRC d, Dr.TABLE_STATE d] s t
          ∧ OnlyEvents { s with links := putD {} s.links d (t.link d) } t)
      ∧ (400 < r.delay →
        ∃ t, exec (.trainingDone d) s = .next t
          ∧ linkState t d = lLost ∧ t.rd (Lk.LINK_CAUSE d) = 3
          ∧ t.rdn (Lk.TRAIN_FAILURES d) = min (s.rdn (Lk.TRAIN_FAILURES d) + 1) max32
          ∧ KeepsRegs (lossRegs d ++ eventRegs) s t
          ∧ OnlyEvents { s with links := putD {} s.links d (t.link d), doors := putD {} s.doors d (t.door d) } t))
    ∧ (linkState s d = lTraining → ∀ r, (s.link d).train = some r → r.started + 5000 ≤ s.now →
      ∃ t, exec (.trainTimeout d) s = .next t
        ∧ linkState t d = lLost ∧ t.rd (Lk.LINK_CAUSE d) = 2
        ∧ t.rdn (Lk.TRAIN_FAILURES d) = min (s.rdn (Lk.TRAIN_FAILURES d) + 1) max32
        ∧ (t.link d).retrainAt = s.after (s.rdn (Lk.RETRAIN_DELAY d))
        ∧ KeepsRegs (lossRegs d ++ eventRegs) s t
        ∧ OnlyEvents { s with links := putD {} s.links d (t.link d), doors := putD {} s.doors d (t.door d) } t)

/-- Losses and exchanges (R178, R183, R188 to R190, R192). A link whose cause of R178 holds is LOST: the cause is shown, the loss counted, its exchange
over, RETRAIN_DELAY begun, and the holder reports LINK_LOST to the doorway. A message unanswered for 1 ms is sent again while MGMT_RETRIES
lasts, and ends the exchange with MGMT_FAILED after that. NODE_CONFIG_TIMEOUT cancels the message outstanding, counts it, and reports CONFIG_TIMEOUT.
16 frames after the first RESUME without RUNNING the cause is RESUME_FAILED. COUNTERS_CLEAR sets the link's counters to 0. -/
def Obligations.DoorwayLinkLosses : Prop :=
  ∀ (s : State) (d : Nat), d < 16 →
    (8 ≤ (s.link d).missing → linkState s d = lUp ∨ linkState s d = lListen →
      ∃ t, exec (.linkLost d 4) s = .next t ∧ LinkLost s t d 4)
    ∧ (2 ≤ (s.link d).echoRun → linkState s d = lUp →
      ∃ t, exec (.linkLost d 5) s = .next t ∧ LinkLost s t d 5)
    ∧ ((s.link d).status / 64 % 8 = 1 → (s.link d).missing = 0 → linkState s d = lUp →
      ∃ t, exec (.linkLost d 6) s = .next t ∧ LinkLost s t d 6)
    ∧ (due (s.link d).exUntil s.now = true →
      ∃ t, exec (.nodeConfigTimeout d) s = .next t ∧ LinkLost s t d 8
        ∧ ((s.link d).out ≠ none → t.rdn (Lk.MGMT_SUPERSEDED d) = min (s.rdn (Lk.MGMT_SUPERSEDED d) + 1) max32))
    ∧ (∀ o, (s.link d).out = some o → o.busy = false → o.due = false → o.sentAt + 50 ≤ s.now → (s.link d).exRetries ≤ o.tries →
      ∃ t, exec (.mgmtRetry d) s = .next t ∧ LinkLost s t d 7)
    ∧ (∀ n, (s.link d).resumed = some n → linkState s d = lReady → 16 ≤ n →
      ∃ t, exec (.resumeFailed d) s = .next t ∧ LinkLost s t d 11)
    ∧ (∀ o, (s.link d).out = some o → o.busy = false → o.due = false → o.sentAt + 50 ≤ s.now → o.tries < (s.link d).exRetries →
      ∃ t, exec (.mgmtRetry d) s = .next t
        ∧ t.link d = { s.link d with out := some { o with tries := o.tries + 1, due := true } }
        ∧ t.rdn (Lk.MGMT_RETRIES_USED d) = min (s.rdn (Lk.MGMT_RETRIES_USED d) + 1) max32
        ∧ KeepsRegs [Lk.MGMT_RETRIES_USED d] s t ∧ OnlyRegs { s with links := putD {} s.links d (t.link d) } t)
    ∧ (∀ (via : Via) (u : State), Reaches via (0x3A05 + 0x10 * d) 1 1 none s u 1 →
      ∃ t, exec (.linkCountersClear via d 1) s = .next t
        ∧ t.answer = some 0 ∧ (∀ i : Nat, i < 16 → t.rd (key (0x3A02 + 0x10 * d) (i + 1)) = 0)
        ∧ KeepsRegs ((List.range 16).map (fun i => key (0x3A02 + 0x10 * d) (i + 1)) ++ accessRegs) s t ∧ OnlyAccess s t)

/-- Uplink frames (R153 to R155, R165, R168, R176 to R178). On a link in CONFIG or beyond, a frame that fails CRC, code or framing is counted and changes
nothing else but the place of its SOF; one of another port's ROLE counts a mismatch and sets the flag. A valid one is counted and gives NODE_STATE and
NODE_STATUS, ends the run of missing frames, gives its inputs to the contacts, its bitstreams to the filters; with the node RUNNING a READY link of the holder is UP. -/
def Obligations.UplinkFrames : Prop :=
  ∀ (s : State) (d : Nat) (f : UpFrame), d < 16 → s.operating = true → lConfig ≤ linkState s d →
    (upIntact (s.link d).lastSof f = false →
      ∃ t, exec (.uplinkFrame d f) s = .next t
        ∧ (∀ (reg : Nat) (bad : Bool), (reg, bad) ∈ [(Lk.CRC_ERRORS d, f.crc != crc32 (upBytes f)), (Lk.CODE_ERRORS d, !f.codeOk),
            (Lk.FRAMING_ERRORS d, sofMisplaced (s.link d).lastSof f.sof)] → t.rdn reg = if bad then min (s.rdn reg + 1) max32 else s.rdn reg)
        ∧ t.link d = { s.link d with lastSof := some f.sof }
        ∧ KeepsRegs [Lk.CRC_ERRORS d, Lk.CODE_ERRORS d, Lk.FRAMING_ERRORS d, Lk.TIMING_ERRORS d] s t
        ∧ OnlyRegs { s with links := putD {} s.links d (t.link d) } t)
    ∧ (upIntact (s.link d).lastSof f = true → f.status / 32768 % 2 ≠ s.rdn Gl.ROLE →
      ∃ t, exec (.uplinkFrame d f) s = .next t
        ∧ t.rdn (Lk.PORT_MISMATCHES d) = min (s.rdn (Lk.PORT_MISMATCHES d) + 1) max32 ∧ t.bit (Lk.LINK_STATUS d) 9 = true
        ∧ KeepsRegs [Lk.PORT_MISMATCHES d, Lk.LINK_STATUS d, Lk.PORT_MISMATCH_REPEATS d, Lk.TIMING_ERRORS d] s t
        ∧ OnlyRegs { s with links := putD {} s.links d { s.link d with lastSof := some f.sof } } t)
    ∧ (upIntact (s.link d).lastSof f = true → f.status / 32768 % 2 = s.rdn Gl.ROLE → f.chunk = none
        → (s.link d).out = none →
      ∃ t, exec (.uplinkFrame d f) s = .next t
        ∧ t.rdn (Lk.FRAMES_OK d) = min (s.rdn (Lk.FRAMES_OK d) + 1) max32
        ∧ t.rdn (Lk.NODE_STATE d) = (if f.status / 64 % 8 < 4 then f.status / 64 % 8 else s.rdn (Lk.NODE_STATE d))
        ∧ (t.link d).outputsRb = f.outputsRb % 16 ∧ (t.link d).nodeTemp = f.nodeTemp ∧ (t.link d).dcVoltage = f.dcVoltage
        ∧ (t.link d).got = true ∧ (t.link d).missing = 0 ∧ (t.link d).status = f.status ∧ (t.link d).upSeq = some f.seq
        ∧ linkState t d = (if linkState s d = lReady ∧ s.holds = true ∧ f.status / 64 % 8 = 2 then lUp else linkState s d)
        ∧ (t.con d).rawA = f.inputsA % 256 ∧ (t.con d).rawB = (255 - f.inputsBInv % 256) % 256 ∧ (t.door d).dcLast = 10 * f.dcCurrent.toNat
        ∧ (∀ a, a ∈ axesOf s d → (f.axes.getD (roleOf a) {}).encErr = false →
            (t.axis a).encStreak = 0 ∧ (∀ x, (s.axis a).takeStreams s.now (s.pn (Ax.MOTOR_TYPE a) == 1) (f.axes.getD (roleOf a) {}).s0
              (f.axes.getD (roleOf a) {}).s1 = x → (t.axis a).y0 = x.y0 ∧ (t.axis a).y1 = x.y1))
        ∧ (∀ a, doorOf a ≠ d → t.axis a = s.axis a) ∧ (∀ e, e ≠ d → t.link e = s.link e ∧ t.door e = s.door e ∧ t.con e = s.con e)
        ∧ KeepsRegs ((List.range 16).flatMap (fun i => (List.range 32).map (fun j => key (0x3A00 + 0x10 * d + i) j))
            ++ [3 * d, 3 * d + 1, 3 * d + 2].flatMap (fun a => [Ax.ENCODER_ERRORS a, Ax.ANGLE_STATE a])) s t
        ∧ OnlyEvents { s with links := t.links, axes := t.axes, doors := t.doors, contacts := t.contacts, safety := t.safety } t)

/-- The partner link trains as a doorway link does; ROLE A leads the run and ROLE B follows its STEP (R329, R332, R333). Character lock in DOWN starts a run; a run done with at most 200 ns enters SYNCING; a run
that lasts 100 ms, a delay out of range, or a loss of character lock takes it DOWN with the cause. Three frames missing in a row lose the heartbeat:
the loss is counted, PARTNER_LOST is set, and retraining follows after 10 ms. 200 µs after the loss the ticks are no longer aligned. -/
def Obligations.PartnerLinkTraining : Prop :=
  ∀ (s : State),
    (isPair s = true → s.running = true → s.rd Gl.PARTNER_STATE = 1 → s.duplex.retrainAt = none →
      ∃ t, exec (.characterLock 16) s = .next t
        ∧ t.rd Gl.PARTNER_STATE = 2 ∧ t.duplex.charLock = true ∧ t.duplex.train = some { started := s.now }
        ∧ KeepsRegs [Gl.PARTNER_STATE] s t ∧ OnlyRegs { s with duplex := t.duplex } t)
    ∧ (s.running = true → isPair s = true → s.rd Gl.PARTNER_STATE = 1 → due s.duplex.retrainAt s.now = true → s.duplex.charLock = true →
      ∃ t, exec .partnerRetrain s = .next t
        ∧ t.rd Gl.PARTNER_STATE = 2 ∧ t.duplex.train = some { started := s.now } ∧ t.duplex.retrainAt = none
        ∧ KeepsRegs [Gl.PARTNER_STATE] s t ∧ OnlyRegs { s with duplex := t.duplex } t)
    ∧ (s.rd Gl.PARTNER_STATE = 2 → ∀ r, s.duplex.train = some r →
      (∀ (f : TrainFrame) (ok : Bool), f.port = none → trainOk s.duplex.lastSof f = ok → s.rdn Gl.ROLE = 1 ∨ r.step ≠ 2 →
        ∃ t, exec (.trainingFrame 16 f) s = .next t
          ∧ t.duplex.train = some (if s.rdn Gl.ROLE = 0 then r.frame f ok 0 else r.follow f ok) ∧ t.duplex.lastSof = some f.sof
          ∧ KeepsRegs [] s t ∧ OnlyEvents { s with duplex := t.duplex } t)
      ∧ (r.step = 4 → r.delay ≤ 200 →
        ∃ t, exec (.trainingDone 16) s = .next t
          ∧ t.rd Gl.PARTNER_STATE = 3 ∧ t.paired = true ∧ t.duplex.train = none ∧ t.duplex.missing = 0
          ∧ KeepsRegs [Gl.PARTNER_STATE, Gl.DUPLEX_STATUS, Gl.FAST_TICK_SOURCE] s t ∧ OnlyRegs { s with duplex := t.duplex } t)
      ∧ (r.step = 4 → 200 < r.delay →
        ∃ t, exec (.trainingDone 16) s = .next t
          ∧ t.rd Gl.PARTNER_STATE = 1 ∧ t.rd Gl.PARTNER_LOST_CAUSE = 4 ∧ t.duplex.retrainAt = some (s.now + 500)
          ∧ KeepsRegs pairRegs s t ∧ OnlyRegs { s with duplex := t.duplex, axes := t.axes } t)
      ∧ (r.started + 5000 ≤ s.now →
        ∃ t, exec (.trainTimeout 16) s = .next t
          ∧ t.rd Gl.PARTNER_STATE = 1 ∧ t.rd Gl.PARTNER_LOST_CAUSE = 3 ∧ t.duplex.retrainAt = some (s.now + 500)
          ∧ KeepsRegs pairRegs s t ∧ OnlyRegs { s with duplex := t.duplex, axes := t.axes } t))
    ∧ (isPair s = true → s.paired = true →
      ∃ t, exec (.characterLockLost none) s = .next t
        ∧ t.rd Gl.PARTNER_STATE = 1 ∧ t.rd Gl.PARTNER_LOST_CAUSE = 2 ∧ t.bit Gl.DUPLEX_STATUS 8 = true ∧ Counted 0x1181 s t
        ∧ t.rd Gl.FAST_TICK_SOURCE = 0 ∧ KeepsRegs (pairRegs ++ eventRegs) s t ∧ OnlyEvents { s with duplex := t.duplex, axes := t.axes } t)
    ∧ (s.paired = true → 3 ≤ s.duplex.missing →
      ∃ t, exec .heartbeatLost s = .next t
        ∧ t.rd Gl.PARTNER_STATE = 1 ∧ t.rd Gl.PARTNER_LOST_CAUSE = 1 ∧ t.bit Gl.DUPLEX_STATUS 8 = true ∧ Counted 0x1181 s t
        ∧ t.rdn Gl.HEARTBEAT_LOSSES = min (s.rdn Gl.HEARTBEAT_LOSSES + 1) max32
        ∧ t.duplex.retrainAt = some (s.now + 500) ∧ t.duplex.lostAt = some s.now ∧ t.duplex.outbox = [] ∧ t.duplex.missing = 0
        ∧ (∀ a : Nat, a < 48 → (t.axis a).shadow = none)
        ∧ KeepsRegs (Gl.HEARTBEAT_LOSSES :: pairRegs ++ eventRegs) s t ∧ OnlyEvents { s with duplex := t.duplex, axes := t.axes } t)
    ∧ (s.paired = false → heldFor s.duplex.lostAt s.now 10 = true →
      ∃ t, exec .tickAlignedLoss s = .next t
        ∧ t.rd Gl.TICK_ALIGNED = 0 ∧ t.rd Gl.FAST_TICK_SOURCE = 0 ∧ KeepsRegs [Gl.TICK_ALIGNED, Gl.FAST_TICK_SOURCE] s t ∧ OnlyRegs s t)

/-! ### The Nezirad Safe Layer (chapter 9) -/

/-- A consumer takes a frame through R308 (R41, R252, R253, R300, R308, R310 to R312). One that the bucket refuses is counted and dropped. A CRC-class error draws a unit from the
budget, or finds it empty and sends the connection to FAILED. In WAIT a good frame becomes the candidate, and its payload is not delivered. In STARTING and RUN
the distance of its SEQ from the last decides: 0 duplicate, 33 to 65503 out of window, from 65504 late, each counted and discarded; 1 to 32 goes
to the delay check, and is discarded as DELAYED, or accepted in RUN with its payload delivered and the watchdog restarted; a delay below 0 lowers the base. The cab's payload is checked,
and acts as a car command when its count has changed. A frame that belongs to no consumer of its port, by CAN_ID or by IDENTITY, is counted and discarded, and so is a fragment of a datagram. Every frame is counted on its port. -/
def Obligations.NslConsumerTakesFrames : Prop :=
  ∀ (s : State) (f : NslFrame), s.operating = true → f.port < 4 → portOn s f.port = true →
    (fragmented f = true →
      ∃ t, exec (.nslFrameReceived f) s = .next t
        ∧ t.rdn (Et.RX_DISCARDS (f.port - 2)) = min (s.rdn (Et.RX_DISCARDS (f.port - 2)) + 1) max32
        ∧ KeepsRegs [Et.RX_FRAMES (f.port - 2), Et.RX_DISCARDS (f.port - 2)] s t ∧ OnlyRegs s t)
    ∧ (fragmented f = false → f.latencyUs ≤ 250 →
    ∀ ks, ks = [if f.port < 2 then Cb.RX_FRAMES f.port else Et.RX_FRAMES (f.port - 2), Gl.C0_LATENCY_MAX, Gl.TXN_PEAK] →
    (∀ reg : Nat, reg = (if f.port < 2 then Cb.RX_DISCARDS f.port else Gl.UNKNOWN_IDENTITY) →
        connOf s f = none →
      ∃ t, exec (.nslFrameReceived f) s = .next t
        ∧ t.rdn reg = min (s.rdn reg + 1) max32 ∧ KeepsRegs (reg :: ks) s t ∧ OnlyRegs s t)
    ∧ (∀ n : Nat, connOf s f = some n →
      ∀ p, p = nslParts f.bytes → ∀ x : Conn, x = (takeBucket (s.conn n) s.now).2 →
      ((takeBucket (s.conn n) s.now).1 = false →
        ∃ t, exec (.nslFrameReceived f) s = .next t
          ∧ t.rdn (Ns.BUCKET_DROPS n) = min (s.rdn (Ns.BUCKET_DROPS n) + 1) max32
          ∧ KeepsRegs (Ns.BUCKET_DROPS n :: ks) s t ∧ OnlyRegs { s with conns := putD {} s.conns n x } t)
      ∧ ((takeBucket (s.conn n) s.now).1 = true → nslOk (s.pn (Ns.IDENTITY n)) f = false →
        (0 < s.rdn (Ns.ERROR_BUDGET_LEFT n) →
          ∃ t, exec (.nslFrameReceived f) s = .next t
            ∧ t.rdn (Ns.CRC_CLASS_ERRORS n) = min (s.rdn (Ns.CRC_CLASS_ERRORS n) + 1) max32
            ∧ t.rdn (Ns.ERROR_BUDGET_LEFT n) = s.rdn (Ns.ERROR_BUDGET_LEFT n) - 1
            ∧ KeepsRegs ([Ns.CRC_CLASS_ERRORS n, Ns.ERROR_BUDGET_LEFT n] ++ ks) s t ∧ OnlyRegs { s with conns := t.conns } t)
        ∧ (s.rdn (Ns.ERROR_BUDGET_LEFT n) = 0 → connState s n ≠ 4 →
          ∃ t, exec (.nslFrameReceived f) s = .next t
            ∧ t.rdn (Ns.CRC_CLASS_ERRORS n) = min (s.rdn (Ns.CRC_CLASS_ERRORS n) + 1) max32
            ∧ t.rd (Ns.CONN_STATE n) = 4 ∧ t.rd (Ns.CONN_STATE_B n) = 4 ∧ Counted 0x0242 s t
            ∧ t.rdn (Ns.WATCHDOG_EXPIRIES n) = min (s.rdn (Ns.WATCHDOG_EXPIRIES n) + 1) max32
            ∧ (n = s.pn Gl.CAB_CONNECTION → connState s n = 3 → t.cab = { s.cab with haveRef := false, bits := 0, seen := 0 })
            ∧ (n ≠ s.pn Gl.CAB_CONNECTION ∨ connState s n ≠ 3 →
              KeepsRegs ([Ns.CRC_CLASS_ERRORS n, Ns.CONN_STATE n, Ns.CONN_STATE_B n, Ns.WATCHDOG_EXPIRIES n] ++ ks ++ eventRegs) s t
              ∧ OnlyEvents { s with conns := putD {} s.conns n x } t))
        ∧ (s.rdn (Ns.ERROR_BUDGET_LEFT n) = 0 → connState s n = 4 →
          ∃ t, exec (.nslFrameReceived f) s = .next t
            ∧ t.rdn (Ns.CRC_CLASS_ERRORS n) = min (s.rdn (Ns.CRC_CLASS_ERRORS n) + 1) max32
            ∧ KeepsRegs (Ns.CRC_CLASS_ERRORS n :: ks) s t ∧ OnlyRegs { s with conns := putD {} s.conns n x } t))
      ∧ ((takeBucket (s.conn n) s.now).1 = true → nslOk (s.pn (Ns.IDENTITY n)) f = true
          → (connState s n = 1 ∨ connState s n = 2 ∧ (heldFor x.accepted s.now (50 * s.pn (Ns.WATCHDOG_TIME n) + 1) = true ∨ x.accepted = none)) →
        ∃ t, exec (.nslFrameReceived f) s = .next t
          ∧ t.rd (Ns.CONN_STATE n) = 2 ∧ t.rdn (Ns.LAST_SEQ n) = p.seq ∧ t.blobs = s.blobs
          ∧ t.rdn (Ns.FRAMES_ACCEPTED n) = min (s.rdn (Ns.FRAMES_ACCEPTED n) + 1) max32
          ∧ t.conn n = { x with base := (s.rdn Gl.FAST_TICK_COUNT / 50 + 65536 - p.ts % 65536) % 65536, baseAt := s.now, accepted := some s.now }
          ∧ KeepsRegs ([Ns.CONN_STATE n, Ns.CONN_STATE_B n, Ns.LAST_SEQ n, Ns.FRAMES_ACCEPTED n, Ns.DELAY_LAST n] ++ ks) s t
          ∧ OnlyRegs { s with conns := t.conns } t)
      ∧ ((takeBucket (s.conn n) s.now).1 = true → nslOk (s.pn (Ns.IDENTITY n)) f = true
          → (connState s n = 3 ∨ connState s n = 2 ∧ heldFor x.accepted s.now (50 * s.pn (Ns.WATCHDOG_TIME n) + 1) = false ∧ x.accepted ≠ none) →
        ∀ gap : Nat, gap = (p.seq + 65536 - s.rdn (Ns.LAST_SEQ n)) % 65536 →
        ∀ offset : Nat, offset = (s.rdn Gl.FAST_TICK_COUNT / 50 + 65536 - p.ts % 65536) % 65536 →
        ∀ delay : Nat, delay = (offset + 65536 - x.base) % 65536 →
        (∀ (reg : Nat) (met : Bool), (reg, met) ∈ [(Ns.DUPLICATES n, gap == 0), (Ns.OUT_OF_WINDOW n, decide (33 ≤ gap) && decide (gap ≤ 65503)),
            (Ns.LATE n, decide (65504 ≤ gap)), (Ns.DELAYED n, decide (1 ≤ gap) && decide (gap ≤ 32)
              && decide (min (s.pn (Ns.MAX_DELAY n)) (s.pn (Ns.WATCHDOG_TIME n)) < delay) && decide (delay < 32768))] → met = true →
          ∃ t, exec (.nslFrameReceived f) s = .next t
            ∧ t.rdn reg = min (s.rdn reg + 1) max32 ∧ KeepsRegs (reg :: ks) s t ∧ OnlyRegs { s with conns := putD {} s.conns n x } t)
        ∧ (1 ≤ gap → gap ≤ 32 → (delay ≤ min (s.pn (Ns.MAX_DELAY n)) (s.pn (Ns.WATCHDOG_TIME n)) ∨ 32768 ≤ delay) →
          ∃ t, exec (.nslFrameReceived f) s = .next t
            ∧ t.rd (Ns.CONN_STATE n) = 3 ∧ t.rdn (Ns.LAST_SEQ n) = p.seq ∧ t.rdn (Ns.DELAY_LAST n) = (if delay < 32768 then delay else 0)
            ∧ t.blob (Ns.LAST_PAYLOAD n) = p.payload
            ∧ t.conn n = { x with accepted := some s.now, base := if delay < 32768 then x.base else offset }
            ∧ t.rdn (Ns.FRAMES_ACCEPTED n) = min (s.rdn (Ns.FRAMES_ACCEPTED n) + 1) max32
            ∧ (n ≠ s.pn Gl.CAB_CONNECTION →
              KeepsRegs ([Ns.CONN_STATE n, Ns.CONN_STATE_B n, Ns.LAST_SEQ n, Ns.FRAMES_ACCEPTED n, Ns.DELAY_LAST n] ++ ks) s t
              ∧ OnlyRegs { s with conns := t.conns, blobs := t.blobs } t)
            ∧ (n = s.pn Gl.CAB_CONNECTION →
              ∀ bad : Bool, bad = (p.payload.length != 4 || decide (7 < p.payload.getD 0 0) || decide (7 < p.payload.getD 1 0) || p.payload.getD 3 0 != 0) →
              ∀ act : Bool, act = (s.cab.haveRef && p.payload.getD 2 0 != s.cab.count && p.payload.getD 1 0 != 0) →
              KeepsRegs ([Ns.CONN_STATE n, Ns.CONN_STATE_B n, Ns.LAST_SEQ n, Ns.FRAMES_ACCEPTED n, Ns.DELAY_LAST n, Gl.CAB_PAYLOAD_ERRORS, Gl.CAB_PAYLOADS_OK,
                Gl.CAB_LAST_COUNT, Gl.CAB_COMMANDS_ACTED, Gl.CAR_COMMAND] ++ ks) s t
              ∧ OnlyRegs { s with conns := t.conns, blobs := t.blobs, cab := t.cab, doors := t.doors } t
              ∧ (bad = true → t.rdn Gl.CAB_PAYLOAD_ERRORS = min (s.rdn Gl.CAB_PAYLOAD_ERRORS + 1) max32 ∧ t.cab = { s.cab with bits := 0 })
              ∧ (bad = false → t.rdn Gl.CAB_PAYLOADS_OK = min (s.rdn Gl.CAB_PAYLOADS_OK + 1) max32 ∧ t.rdn Gl.CAB_LAST_COUNT = p.payload.getD 2 0
                ∧ t.cab = { s.cab with bits := p.payload.getD 0 0, haveRef := true, count := p.payload.getD 2 0 })
              ∧ (bad = false → act = true → t.rdn Gl.CAR_COMMAND = p.payload.getD 1 0
                ∧ t.rdn Gl.CAB_COMMANDS_ACTED = min (s.rdn Gl.CAB_COMMANDS_ACTED + 1) max32)
              ∧ (bad = true ∨ act = false → t.doors = s.doors ∧ t.rd Gl.CAR_COMMAND = s.rd Gl.CAR_COMMAND))))))

/-- Supervision and production (R256, R257, R306, R310 to R312, R318). The watchdog takes a connection in RUN or STARTING to WAIT, and out of RUN counts an
expiry and raises its event. A refill adds a unit to the budget, up to 3, and ends FAILED; the base advances by 1 ms every 10 s. The holder's summary goes
out on every port of its connection with the next SEQ, is counted, and goes to the partner. COUNTERS_CLEAR sets the counters of every connection to 0. -/
def Obligations.NslSupervision : Prop :=
  ∀ (s : State),
    (∀ n : Nat, n < 32 → isConsumer s n = true → (connState s n = 2 ∨ connState s n = 3)
        → heldFor (s.conn n).accepted s.now (50 * s.pn (Ns.WATCHDOG_TIME n)) = true →
      ∃ t, exec (.nslWatchdog n) s = .next t
        ∧ t.rd (Ns.CONN_STATE n) = 1 ∧ t.rd (Ns.CONN_STATE_B n) = 1
        ∧ (connState s n = 3 → Counted 0x0241 s t ∧ t.rdn (Ns.WATCHDOG_EXPIRIES n) = min (s.rdn (Ns.WATCHDOG_EXPIRIES n) + 1) max32)
        ∧ (n = s.pn Gl.CAB_CONNECTION → connState s n = 3 → t.cab = { s.cab with haveRef := false, bits := 0, seen := 0 })
        ∧ (n ≠ s.pn Gl.CAB_CONNECTION ∨ connState s n = 2 →
          KeepsRegs ([Ns.CONN_STATE n, Ns.CONN_STATE_B n, Ns.WATCHDOG_EXPIRIES n] ++ eventRegs) s t ∧ OnlyEvents s t))
    ∧ (∀ n : Nat, n < 32 → ∀ since, (s.conn n).refillFrom = some since → since + 60000000 ≤ s.now →
      ∃ t, exec (.errorBudgetRefill n) s = .next t
        ∧ t.rdn (Ns.ERROR_BUDGET_LEFT n) = min 3 (s.rdn (Ns.ERROR_BUDGET_LEFT n) + 1)
        ∧ (connState s n = 4 → t.rd (Ns.CONN_STATE n) = 1) ∧ (connState s n ≠ 4 → t.rd (Ns.CONN_STATE n) = s.rd (Ns.CONN_STATE n))
        ∧ KeepsRegs [Ns.ERROR_BUDGET_LEFT n, Ns.CONN_STATE n, Ns.CONN_STATE_B n] s t ∧ OnlyRegs { s with conns := t.conns } t)
    ∧ (∀ n : Nat, n < 32 → (connState s n = 2 ∨ connState s n = 3) → (s.conn n).baseAt + 500000 ≤ s.now →
      ∃ t, exec (.baseAdvance n) s = .next t
        ∧ t.conn n = { s.conn n with base := ((s.conn n).base + 1) % 65536, baseAt := (s.conn n).baseAt + 500000 }
        ∧ KeepsRegs [] s t ∧ OnlyRegs { s with conns := putD {} s.conns n (t.conn n) } t)
    ∧ (∀ n : Nat, n = s.pn Gl.SUMMARY_CONNECTION → ∀ (q sent : Nat), (s.conn n).seq = some q → (s.conn n).sentAt = some sent →
        s.operating = true → n < 32 → isProducer s n = true → s.holds = true → sent + 500 * max (connPorts s n).length 1 ≤ s.now
        → (s.summary.due = true ∨ sent + 50 * s.pn Gl.SUMMARY_PERIOD ≤ s.now) →
      ∃ t, exec .summarySend s = .next t
        ∧ t.conn n = { s.conn n with seq := some ((q + 1) % 65536), sentAt := some s.now } ∧ t.rdn (Ns.LAST_SEQ n) = (q + 1) % 65536
        ∧ t.rdn Gl.SUMMARIES_SENT = min (s.rdn Gl.SUMMARIES_SENT + 1) max32 ∧ t.summary = { s.summary with due := false }
        ∧ (∀ p, p ∈ connPorts s n → Egress.nsl n p (nslDest s n p) (nslContainer p (nslFrame (s.pn (Ns.IDENTITY n)) ((q + 1) % 65536)
            (s.rdn Gl.FAST_TICK_COUNT / 50 % 65536) (summaryPayload s))) ∈ t.egress)
        ∧ KeepsRegs [Ns.LAST_SEQ n, Ns.FRAMES_SENT n, Gl.SUMMARIES_SENT] s t
        ∧ OnlyEvents { s with conns := putD {} s.conns n (t.conn n), summary := t.summary, duplex := t.duplex } t)
    ∧ (∀ (via : Via) (u : State), Reaches via 0x5280 1 1 none s u 1 →
      ∃ t, exec (.nslCountersClear via 1) s = .next t
        ∧ t.answer = some 0 ∧ t.rd Gl.UNKNOWN_IDENTITY = 0 ∧ (∀ n i : Nat, n < 32 → i < 7 → t.rd (key (0x5200 + n) (0x12 + i)) = 0)
        ∧ KeepsRegs (Gl.UNKNOWN_IDENTITY :: (List.range 32).flatMap (fun n => (List.range 7).map (fun i => key (0x5200 + n) (0x12 + i))) ++ accessRegs) s t
        ∧ OnlyAccess s t)

/-- A C0 frame processed late (R42): a frame on a port that takes it, processed later than 250 µs after its ingress, is counted in C0_DEADLINE_MISSES, raises its class-0 event, and enters
the safe state of a channel discrepancy at once: every safe output open, STO of every axis demanded by both channels. -/
def Obligations.LateFrameEntersTheSafeState : Prop :=
  ∀ (s : State) (f : NslFrame), s.operating = true → f.port < 4 → portOn s f.port = true → fragmented f = false → 250 < f.latencyUs →
    (∃ t, exec (.nslFrameReceived f) s = .next t
      ∧ t.rdn Gl.C0_DEADLINE_MISSES = min (s.rdn Gl.C0_DEADLINE_MISSES + 1) max32 ∧ Counted 0x0101 s t
      ∧ (s.rdn Gl.SAFE_STATE_CAUSE ≠ 0 → t.rd Gl.SAFE_STATE_CAUSE = s.rd Gl.SAFE_STATE_CAUSE))
    ∧ (s.rdn Gl.SAFE_STATE_CAUSE = 0 →
      ∃ t, exec (.nslFrameReceived f) s = .next t
        ∧ t.rd Gl.SAFE_STATE_CAUSE = 6 ∧ Counted 0x01C1 s t ∧ t.holds = false
        ∧ (∀ k, k < 6 → energised t k = false)
        ∧ (∀ a, a < 3 * s.doorways → t.safety.stoA.testBit a = true ∧ t.safety.stoB.testBit a = true))

/-! ### Duplex pairs (chapter 10) -/

/-- The drive token (R322 to R328, R339, R343, R347). A fit unit that may claim, with STAG_IN released for 20 µs, drives STAG_OUT at the claim instant, shows HOLDER and lifts the link's STO; after
having been the partner it takes over: the takeover is counted, flagged and raised. A unit of a pair that finds STAG_IN asserted becomes the partner. A ROLE B that collides counts it and does not drive. A conflict
takes the token at once, demands STO on every link, sets STAG_CONFLICT and raises its event; a fault does so with STAG_FAULT; both leave the unit
unfit. A keep-alive condition that has failed for 1.0 ms lapses: STO of every axis while the token stays. An accepted STAG_COMMAND releases at the next fast-tick boundary. -/
def Obligations.DriveToken : Prop :=
  ∀ (s : State),
    (fit s = true → mayHold s = true → s.holds = false → s.duplex.wasPartner = false → ∀ us : Nat, 20 ≤ us
        → (isPair s = false ∨ s.rdn Gl.ROLE = 0 ∨ heldFor s.power.bootedAt s.now 250000 = true ∧ 5000000 ≤ us) →
      ∃ t, exec (.stagClaim { releasedUs := us }) s = .next t
        ∧ t.holds = true ∧ t.rd Gl.HOLDER = 1 ∧ t.safety = { s.safety with linkSto := false }
        ∧ t.rdn Gl.STAG_CLAIMS = min (s.rdn Gl.STAG_CLAIMS + 1) max32
        ∧ KeepsRegs ([Gl.STAG_CLAIMS, Gl.DUPLEX_STATUS, Gl.FAST_TICK_SOURCE]
            ++ (List.range 16).flatMap (fun d => [Lk.LINK_STATE d, Lk.LINK_STATUS d, Dr.TABLE_CRC d, Dr.TABLE_STATE d])) s t
        ∧ OnlyEvents { s with safety := t.safety, duplex := t.duplex, links := t.links } t)
    ∧ (fit s = true → mayHold s = true → s.holds = false → s.duplex.wasPartner = true → ∀ us : Nat, 20 ≤ us →
      ∃ t, exec (.stagClaim { releasedUs := us }) s = .next t
        ∧ t.holds = true ∧ t.rd Gl.HOLDER = 1 ∧ t.bit Gl.DUPLEX_STATUS 9 = true ∧ Counted 0x1182 s t ∧ t.duplex.adopt = true
        ∧ t.rdn Gl.STAG_CLAIMS = min (s.rdn Gl.STAG_CLAIMS + 1) max32 ∧ t.rdn Gl.TAKEOVERS = min (s.rdn Gl.TAKEOVERS + 1) max32
        ∧ (∀ d, d ∈ allDoors s → (lookup d t.duplex.taken).map (·.kind) = some (takeoverKind s d)))
    ∧ (s.operating = true → s.holds = false → isPair s = true →
      ∃ t, exec (.stagClaim { releasedUs := 0 }) s = .next t
        ∧ t.holds = false ∧ t.bit Gl.DUPLEX_STATUS 3 = true ∧ t.duplex = { s.duplex with stagIn := true, wasPartner := true }
        ∧ KeepsRegs [Gl.DUPLEX_STATUS, Gl.FAST_TICK_SOURCE] s t ∧ OnlyRegs { s with duplex := t.duplex } t)
    ∧ (fit s = true → s.holds = false → isPair s = true → s.rdn Gl.ROLE = 1 → ∀ us : Nat, 20 ≤ us →
        (s.duplex.wasPartner = true ∨ heldFor s.power.bootedAt s.now 250000 = true ∧ 5000000 ≤ us) →
      ∃ t, exec (.stagClaim { releasedUs := us, collision := true }) s = .next t
        ∧ t.holds = false ∧ t.rdn Gl.STAG_COLLISIONS = min (s.rdn Gl.STAG_COLLISIONS + 1) max32
        ∧ t.rdn Gl.STAG_CLAIMS = min (s.rdn Gl.STAG_CLAIMS + 1) max32 ∧ t.duplex = { s.duplex with stagIn := true, wasPartner := true }
        ∧ KeepsRegs [Gl.STAG_CLAIMS, Gl.STAG_COLLISIONS, Gl.DUPLEX_STATUS, Gl.FAST_TICK_SOURCE] s t ∧ OnlyRegs { s with duplex := t.duplex } t)
    ∧ (s.holds = true →
      ∃ t, exec .stagConflict s = .next t
        ∧ t.holds = false ∧ t.rd Gl.HOLDER = 0 ∧ t.bit Gl.DUPLEX_STATUS 12 = true ∧ Counted 0x0184 s t ∧ t.safety = { s.safety with linkSto := true }
        ∧ (∀ d m : Nat, stoBits t d m = 7) ∧ fit t = false
        ∧ KeepsRegs (Gl.DUPLEX_STATUS :: Gl.FAST_TICK_SOURCE
            :: (List.range 16).flatMap (fun d => [Lk.LINK_STATE d, Lk.LINK_STATUS d, Dr.TABLE_CRC d, Dr.TABLE_STATE d]) ++ eventRegs) s t
        ∧ OnlyEvents { s with safety := t.safety, duplex := t.duplex, links := t.links } t)
    ∧ (s.operating = true → ∀ stuckLow : Bool, s.holds = !stuckLow →
      ∃ t, exec (.stagFault stuckLow) s = .next t
        ∧ t.holds = false ∧ t.bit Gl.DUPLEX_STATUS 13 = true ∧ t.safety = { s.safety with linkSto := true } ∧ fit t = false
        ∧ KeepsRegs (Gl.DUPLEX_STATUS :: Gl.FAST_TICK_SOURCE
            :: (List.range 16).flatMap (fun d => [Lk.LINK_STATE d, Lk.LINK_STATUS d, Dr.TABLE_CRC d, Dr.TABLE_STATE d])) s t
        ∧ OnlyEvents { s with safety := t.safety, duplex := t.duplex, links := t.links } t)
    ∧ (s.holds = true → s.duplex.lapsed = false → heldFor s.duplex.keepFrom s.now 50 = true →
      ∃ t, exec .keepAliveLapse s = .next t
        ∧ t.duplex.lapsed = true ∧ t.duplex.lapseSince = some s.now ∧ (∀ a : Nat, safetySto t a = true)
        ∧ (mayHold s = true → t.holds = true)
        ∧ KeepsRegs [] s t ∧ OnlyRegs { s with duplex := t.duplex } t)
    ∧ (∀ (via : Via) (u : State), Reaches via 0x2600 7 1 none s u 1 → mayHold s = true → s.holds = true → s.rdn Gl.PARTNER_STATE = 4
        → s.duplex.pStatus.testBit 13 = true → s.duplex.pStatus.testBit 12 = true → s.bit Gl.DUPLEX_STATUS 5 = true → s.rdn Gl.DUPLEX_MODE = 2
        → (∀ d, d ∈ allDoors s → ¬ (doorState s d = 3 ∨ doorState s d = 5 ∨ doorState s d = 6)) → (∀ a, a ∈ allAxes s → manual s a = false) →
      ∃ t, exec (.stagCommand via 1) s = .next t
        ∧ t.answer = some 0 ∧ t.holds = true ∧ t.duplex.releaseNext = true
        ∧ KeepsRegs accessRegs s t ∧ OnlyAccess { s with duplex := t.duplex } t)

/-- Partner frames (R293, R329 to R333, R346, R352). A bad CRC, or an intact frame with a MIRROR_LEN above 29, is counted and nothing else happens; a frame of a unit strapped with the same ROLE takes the link
DOWN. A valid one is counted as the heartbeat: the run of missing frames ends, the partner's status and check value are what it carries, and
a pair of check values that differ, and that is not the pair last compared, raises its event. An inventory of another product, or of the same ROLE, takes the link DOWN for a second; any other gives the
partner's identity and what differs to send and to expect. -/
def Obligations.PartnerFramesAndInventory : Prop :=
  ∀ (s : State), s.paired = true →
    (∀ f : PFrame,
      (∀ x, x = { s.duplex with lastSof := if isPair s = true then some f.sof else s.duplex.lastSof } →
        ∀ (reg : Nat) (met : Bool), (reg, met) ∈ [(Gl.PL_CRC_ERRORS, f.crc != crc32 (partnerBytes f)),
          (Gl.MIRROR_DISCARDS, partnerIntact s.duplex.lastSof f && decide (29 < f.seg.len))] → met = true →
        ∃ t, exec (.partnerFrame f) s = .next t
          ∧ t.rdn reg = min (s.rdn reg + 1) max32 ∧ KeepsRegs [reg] s t ∧ OnlyRegs { s with duplex := x } t)
      ∧ (partnerIntact s.duplex.lastSof f = true → f.seg.len ≤ 29 → f.pstatus / 16384 % 2 = s.rdn Gl.ROLE →
        ∃ t, exec (.partnerFrame f) s = .next t
          ∧ t.rd Gl.PARTNER_STATE = 1 ∧ t.rd Gl.PARTNER_LOST_CAUSE = 6 ∧ t.duplex.retrainAt = some (s.now + 50000) ∧ Counted 0x1181 s t
          ∧ KeepsRegs (pairRegs ++ eventRegs) s t ∧ OnlyEvents { s with duplex := t.duplex, axes := t.axes } t)
      ∧ (partnerIntact s.duplex.lastSof f = true → f.seg.len ≤ 29 → f.pstatus / 16384 % 2 ≠ s.rdn Gl.ROLE →
        ∃ t, exec (.partnerFrame f) s = .next t
          ∧ t.rdn Gl.PL_FRAMES_OK = min (s.rdn Gl.PL_FRAMES_OK + 1) max32
          ∧ t.duplex.got = true ∧ t.duplex.missing = 0 ∧ t.duplex.pStatus = f.pstatus ∧ t.duplex.pSeq = some f.pseq
          ∧ t.duplex.stagIn = f.pstatus.testBit 15 ∧ t.rdn Gl.PARTNER_CHECK_VALUE = f.checkValue
          ∧ (f.checkValue ≠ s.rdn Gl.CHECK_VALUE → s.duplex.checkSeen ≠ some (s.rdn Gl.CHECK_VALUE, f.checkValue) → Counted 0x0183 s t)
          ∧ (f.mirrorAck ≠ 0 → ∀ m, m ∈ t.duplex.outbox → m.tag ≠ f.mirrorAck)
          ∧ t.doors = s.doors ∧ t.chans = s.chans ∧ t.safety = s.safety ∧ t.holds = (s.holds && mayHold s)))
    ∧ (∀ m : InvMsg,
      (m.productCode ≠ s.rdn Gl.PRODUCT_CODE ∨ m.role = s.rdn Gl.ROLE →
        ∃ t, exec (.inventory m) s = .next t
          ∧ t.rd Gl.PARTNER_STATE = 1 ∧ t.rd Gl.PARTNER_LOST_CAUSE = (if m.productCode ≠ s.rdn Gl.PRODUCT_CODE then 5 else 6)
          ∧ t.duplex.retrainAt = some (s.now + 50000)
          ∧ KeepsRegs (pairRegs ++ eventRegs) s t ∧ OnlyEvents { s with duplex := t.duplex, axes := t.axes } t)
      ∧ (m.productCode = s.rdn Gl.PRODUCT_CODE → m.role ≠ s.rdn Gl.ROLE →
        ∃ t, exec (.inventory m) s = .next t
          ∧ t.rdn Gl.PARTNER_SERIAL = m.serial ∧ t.rdn Gl.PARTNER_REVISION = m.revision ∧ t.rdn Gl.PARTNER_CONFIG_DIGEST = m.configDigest
          ∧ t.duplex.inventoried = true ∧ (s.rdn Gl.PARTNER_STATE ≠ 4 ∨ s.rdb Gl.TICK_ALIGNED = true → t.duplex.inventorySent = true) ∧ t.bit Gl.DUPLEX_STATUS 7 = (m.configDigest == configDigest s)
          ∧ (∀ i, i ∈ m.items → (allItems s).contains (i.1, i.2.1) = true → itemDigest s i.1 i.2.1 ≠ i.2.2.1 →
              (if actsHolder s then itemEmpty s i.1 i.2.1 else !i.2.2.2) = true → (i.1, i.2.1) ∈ t.duplex.expect)
          ∧ KeepsRegs (Gl.PARTNER_SERIAL :: Gl.PARTNER_REVISION :: Gl.PARTNER_CONFIG_DIGEST :: pairRegs) s t
          ∧ OnlyEvents { s with duplex := t.duplex } t))

/-- Mirror messages on a working link (R207, R217, R307, R344, R348, R349, R351, R355). The partner keeps a copied frame, a snapshot with the door states it
shows, a move, the calendar time. Envelopes, backgrounds and learned values are installed, and leave the items awaited. A mirrored write of the
configuration is applied with its generation; one that is refused latches CONFIG_UNSYNCED and raises its event. A message unacknowledged for 2 ms goes out again;
at MIRROR_TIMEOUT it is given up and counted, and its item waits for the next inventory. COUNTERS_CLEAR clears the link's counters. -/
def Obligations.MirrorMessages : Prop :=
  ∀ (s : State), s.paired = true →
    (s.holds = false → ∀ (n seq ts : Nat) (payload : List ByteN), n < 32 → (isProducer s n = false ∨ n ≠ s.pn Gl.SUMMARY_CONNECTION) →
      ∃ t, exec (.nslCopy n seq ts payload) s = .next t
        ∧ lookup n t.duplex.copies = some (seq, ts, payload) ∧ KeepsRegs [] s t ∧ OnlyRegs { s with duplex := t.duplex } t)
    ∧ (s.holds = false → ∀ x : SnapDoor, x.d < s.doorways →
      ∃ t, exec (.doorSnapshot [x]) s = .next t
        ∧ t.duplex.snapshot = [x] ∧ t.duplex.snapAt = some s.now ∧ t.rdn (Dr.STATE x.d) = x.state ∧ t.rdn (Dr.FAULT_CAUSE x.d) = x.faultCause
        ∧ t.rdn (Dr.RETRY_COUNT x.d) = x.retryCount ∧ t.rdn (Dr.STATUS x.d) = x.status
        ∧ KeepsRegs [Dr.STATE x.d, Dr.FAULT_CAUSE x.d, Dr.RETRY_COUNT x.d, Dr.STATUS x.d] s t ∧ OnlyRegs { s with duplex := t.duplex } t)
    ∧ (s.holds = false → ∀ m : MoveMsg, m.d < 16 →
      ∃ t, exec (.move m) s = .next t
        ∧ lookup m.d t.duplex.moves = some m ∧ KeepsRegs [] s t
        ∧ OnlyRegs { s with duplex := { s.duplex with moves := t.duplex.moves } } t)
    ∧ (s.holds = false → ∀ seconds : Nat, seconds ≤ max32 →
      ∃ t, exec (.time seconds) s = .next t ∧ t.rdn Gl.RTC_TIME = seconds ∧ KeepsRegs [Gl.RTC_TIME] s t ∧ OnlyRegs s t)
    ∧ (∀ (a dir state cycles : Nat) (offset : Int) (bs : List ByteN), a < 48 → isLeaf s a = true → dir ≤ 1 → bs.length = 1024 → 1 ≤ state → state ≤ 4 →
      ∃ t, exec (.envelope a dir state cycles offset bs) s = .next t
        ∧ envOf (t.leaf a) (dir == 0) = envOfBytes 256 bs ∧ envOf (t.leaf a) (dir != 0) = envOf (s.leaf a) (dir != 0)
        ∧ envState t a (dir == 0) = state ∧ t.rd (Ax.ENV_OFFSET a) = offset ∧ (t.leaf a).commitBy.isSome = true
        ∧ (0, 2 * a + dir) ∉ t.duplex.expect ∧ (∀ b, b ≠ a → t.leaf b = s.leaf b)
        ∧ KeepsRegs [if dir = 0 then Ax.ENV_STATE_CLOSE a else Ax.ENV_STATE_OPEN a, if dir = 0 then Ax.ENV_CYCLES_CLOSE a else Ax.ENV_CYCLES_OPEN a,
            Ax.ENV_OFFSET a] s t
        ∧ OnlyRegs { s with leaves := t.leaves, duplex := t.duplex } t)
    ∧ (∀ (n : Nat) (px : List (Option Nat)), n < 32 → px.length = 3072 →
      ∃ t, exec (.background n px) s = .next t
        ∧ (t.sensor n).bg = px.map (fun p => p.map (· * 256)) ∧ (t.sensor n).commitBy = s.after 100 ∧ t.rd (Sn.BG_STATE n) = 2
        ∧ t.rdn (Sn.BG_VALID_PIXELS n) = (px.filter (·.isSome)).length ∧ (1, n) ∉ t.duplex.expect ∧ (∀ m, m ≠ n → t.sensor m = s.sensor m)
        ∧ KeepsRegs [Sn.BG_STATE n, Sn.BG_VALID_PIXELS n] s t ∧ OnlyRegs { s with sensors := t.sensors, duplex := t.duplex } t)
    ∧ (∀ (d : Nat) (strokes pos : List Int) (peakOpen peakClose serial : Nat), d < s.doorways →
      ∃ t, exec (.learned d strokes pos peakOpen peakClose serial) s = .next t
        ∧ (∀ a, a ∈ axesOf s d → t.rd (Ax.STROKE a) = strokes.getD (roleOf a) (s.rd (Ax.STROKE a))
            ∧ t.rd (Ax.CLOSED_SWITCH_POS a) = pos.getD (roleOf a) (s.rd (Ax.CLOSED_SWITCH_POS a)))
        ∧ t.rdn (Dr.START_PEAK_OPEN d) = peakOpen ∧ t.rdn (Dr.START_PEAK_CLOSE d) = peakClose ∧ t.rdn (Lk.NODE_SERIAL d) = serial
        ∧ (2, d) ∉ t.duplex.expect ∧ (∀ e, e ≠ d → t.door e = s.door e)
        ∧ KeepsRegs ([3 * d, 3 * d + 1, 3 * d + 2].flatMap (fun a => [Ax.STROKE a, Ax.CLOSED_SWITCH_POS a])
            ++ [Dr.START_PEAK_OPEN d, Dr.START_PEAK_CLOSE d, Lk.NODE_SERIAL d]) s t
        ∧ OnlyRegs { s with doors := t.doors, duplex := t.duplex } t)
    ∧ (∀ (index sub : Nat) (v : Int) (generation : Nat), mirrored s (key index sub) = true
        → keepsOwn s (key index sub) generation = false →
      ∀ w : State, w = writeEntry .mirror index sub (.num v) none s →
      (w.answer = some 0 →
        ∃ t, exec (.mirrorConfigWrite index sub (.num v) generation) s = .next t
          ∧ t.rdn Gl.CONFIG_GENERATION = generation % 2 ^ 32 ∧ (3, 0) ∉ t.duplex.expect ∧ t.answer = s.answer
          ∧ KeepsRegs [Gl.CONFIG_GENERATION] w t ∧ OnlyRegs { w with answer := s.answer, duplex := t.duplex } t)
      ∧ (w.answer ≠ some 0 →
        ∃ t, exec (.mirrorConfigWrite index sub (.num v) generation) s = .next t
          ∧ t.bit Gl.DUPLEX_STATUS 10 = true ∧ Counted 0x3185 w t
          ∧ KeepsRegs (Gl.DUPLEX_STATUS :: Gl.DUPLEX_REPEATS 2 :: eventRegs) w t ∧ OnlyEvents { w with answer := s.answer, duplex := t.duplex } t))
    ∧ (∀ tag : Nat, ∀ m, s.duplex.outbox.find? (fun m => m.tag == tag) = some m →
      (m.tries < 3 → unsent m = false → m.sentAt + 100 ≤ s.now →
        ∃ t, exec (.mirrorRetry tag) s = .next t
          ∧ t.rdn Gl.MIRROR_RETRIES = min (s.rdn Gl.MIRROR_RETRIES + 1) max32 ∧ Egress.mirror m.tag m.type m.data ∈ t.egress
          ∧ t.duplex.outbox.find? (fun m => m.tag == tag) = some { m with tries := m.tries + 1, next := 0, sentAt := s.now }
          ∧ KeepsRegs [Gl.MIRROR_RETRIES] s t ∧ OnlyEvents { s with duplex := t.duplex } t)
      ∧ (m.firstAt + 50 * m.timeout ≤ s.now →
        ∃ t, exec (.mirrorTimeout tag) s = .next t
          ∧ t.rdn Gl.MIRROR_SUPERSEDED = min (s.rdn Gl.MIRROR_SUPERSEDED + 1) max32
          ∧ t.duplex.outbox = s.duplex.outbox.filter (fun x => x.tag != tag) ∧ (∀ i, m.item = some i → i ∈ t.duplex.marked)
          ∧ KeepsRegs [Gl.MIRROR_SUPERSEDED] s t ∧ OnlyRegs { s with duplex := t.duplex } t))
    ∧ (∀ (via : Via) (u : State), Reaches via 0x2601 10 1 none s u 1 →
      ∃ t, exec (.partnerCountersClear via 1) s = .next t
        ∧ t.answer = some 0 ∧ (∀ i, i ∈ [1, 2, 4, 5, 6, 7] → t.rd (key 0x2601 i) = 0)
        ∧ KeepsRegs ([1, 2, 4, 5, 6, 7].map (key 0x2601) ++ accessRegs) s t ∧ OnlyAccess s t)

/-! ### Networks and the dictionary (chapter 13) -/

/-- Dictionary writes (R426, R437, R439). A write of an entry without behaviour of its own, once it passes every check, is stored and answered with 0, and no
other register changes. A write that a check up to the range refuses is answered with that check's abort code, and changes nothing: the entry does not exist, the
level may not write it, it is read-only, the length or the value is wrong, the entry is configured out. -/
def Obligations.DictionaryWrites : Prop :=
  ∀ (s : State) (via : Via) (index sub : Nat),
    (∀ (v : Int) (u : State), Reaches via index sub v none s u v →
        (index, sub) ∈ [(0x1006, 0), (0x2400, 8), (0x2430, 1), (0x2600, 15), (0x340C, 2), (0x3800, 2), (0x3800, 4), (0x3A01, 3), (0x3A11, 1), (0x6004, 1)] →
      ∃ t, exec (.dictionaryWrite via index sub (.num v) none) s = .next t
        ∧ t.answer = some 0 ∧ t.rd (key index sub) = v ∧ KeepsRegs (key index sub :: accessRegs) s t ∧ OnlyAccess s t)
    ∧ (∀ (v : Int) (u : State), front via (requestClass index sub false) (index, sub, .num v, none) s = .go u → via ≠ .pdo →
        (∀ r, rowOf index sub = some r → r.ty ≠ .domain) → ∀ ab : Nat, checkNum via index sub (.num v) none (levelsFor index sub) u = .error ab →
      ∃ t, exec (.dictionaryWrite via index sub (.num v) none) s = .next t
        ∧ t.answer = some ab ∧ KeepsRegs accessRegs s t ∧ OnlyAccess s t)
    ∧ (∀ (v : Int) (u : State), front via (requestClass index sub false) (index, sub, .num v, none) s = .go u → via ≠ .pdo →
      ((rowsOf index).any (fun r => r.hasIndex index) = false →
        ∃ t, exec (.dictionaryWrite via index sub (.num v) none) s = .next t
          ∧ t.answer = some 0x06020000 ∧ KeepsRegs accessRegs s t ∧ OnlyAccess s t)
      ∧ (∀ r, rowOf index sub = some r → r.ty ≠ .domain → r.doorway index sub = none → via ≠ .mirror →
        ((levelsFor index sub).isNone = true → levelMayWrite r.acc (levelOf via u) = false →
          ∃ t, exec (.dictionaryWrite via index sub (.num v) none) s = .next t
            ∧ t.answer = some 0x09000010 ∧ KeepsRegs accessRegs s t ∧ OnlyAccess s t)
        ∧ (r.acc = .ro ∨ r.acc = .const → (levelsFor index sub).isNone = true →
          ∃ t, exec (.dictionaryWrite via index sub (.num v) none) s = .next t
            ∧ t.answer = some 0x06010002 ∧ KeepsRegs accessRegs s t ∧ OnlyAccess s t)))

/-- Timers and frames of the networks (R414 to R416, R420, R428, R429, R432, R433, R441). A segmented write that pauses too long is discarded and counted, by SDO with an
abort; a kept response goes after 2 s, a session after 600 s. Frames of a bulk message are kept in order, the first with a slot of its request's class or counted as refused; a partial
message is discarded and counted when a frame is out of order or 100 ms pass. An echo request is answered up to ten times a second; an ARP request enters the port's cache and is
answered; a poll shows the link and its speed, and its loss raises the event. Bus-off is counted and raised. The counters are cleared together. -/
def Obligations.NetworkTimersAndFrames : Prop :=
  ∀ (s : State),
    (∀ source : Nat, ∀ w, lookup (source + 1) s.net.segs = some w → w.timedOut = false → w.last + 50000 < s.now →
      ∃ t, exec (.dmSegmentTimeout source) s = .next t
        ∧ lookup (source + 1) t.net.segs = some { w with timedOut := true, bytes := [] }
        ∧ t.rdn Gl.SEGMENTED_WRITES_DISCARDED = min (s.rdn Gl.SEGMENTED_WRITES_DISCARDED + 1) max32
        ∧ KeepsRegs [Gl.SEGMENTED_WRITES_DISCARDED, Gl.TXN_IN_FLIGHT] s t ∧ OnlyRegs { s with net := { s.net with segs := t.net.segs } } t)
    ∧ (∀ w, lookup 0 s.net.segs = some w → w.last + 25000 ≤ s.now →
      ∃ t, exec .sdoSegmentTimeout s = .next t
        ∧ lookup 0 t.net.segs = none ∧ Egress.response 0 0x05040000 3 ∈ t.egress
        ∧ t.rdn Gl.SEGMENTED_WRITES_DISCARDED = min (s.rdn Gl.SEGMENTED_WRITES_DISCARDED + 1) max32
        ∧ KeepsRegs [Gl.SEGMENTED_WRITES_DISCARDED, Gl.TXN_IN_FLIGHT] s t
        ∧ OnlyRegs { s with net := { s.net with segs := t.net.segs }, egress := t.egress } t)
    ∧ (∀ source id : Nat,
      ∃ t, exec (.dmResponseExpiry source id) s = .next t
        ∧ t.net.kept = s.net.kept.filter (fun k => !(k.source == source && k.reqId == id && decide (k.at_ + 100000 ≤ s.now)))
        ∧ KeepsRegs [] s t ∧ OnlyRegs { s with net := { s.net with kept := t.net.kept } } t)
    ∧ (∀ n : Nat,
      ∃ t, exec (.sessionTimeout n) s = .next t
        ∧ t.sessions = s.sessions.filter (fun x => !(x.num == n && decide (x.lastValid + 30000000 ≤ s.now)))
        ∧ t.rdn Gl.SESSIONS_OPEN = t.sessions.length
        ∧ KeepsRegs [Gl.SESSIONS_OPEN] s t ∧ OnlyRegs { s with sessions := t.sessions } t)
    ∧ (∀ (port header : Nat) (bs : List ByteN) (x : BulkRx), x = getD {} s.net.bulk port → s.running = true → port < 2 → portOn s port = true →
      (header < 17 → header = x.next → header ≠ 0 → s.now < x.last + 5000 →
        ∃ t, exec (.bulkFrame port header bs) s = .next t
          ∧ getD {} t.net.bulk port = { x with next := header + 1, bytes := x.bytes ++ bs, last := s.now }
          ∧ KeepsRegs [Cb.RX_FRAMES port, Gl.TXN_IN_FLIGHT] s t ∧ OnlyRegs { s with net := { s.net with bulk := t.net.bulk } } t)
      ∧ (∀ (cls : Nat) (further : Bool), header = 0 → x.next = 0 → bulkPending s port = false → bulkClass port bs s = (cls, further) →
        (further = true ∨ slotFree cls s = true →
          ∃ t, exec (.bulkFrame port header bs) s = .next t
            ∧ getD {} t.net.bulk port = { next := 1, bytes := bs, last := s.now, cls, slot := !further }
            ∧ KeepsRegs [Cb.RX_FRAMES port, Gl.TXN_IN_FLIGHT, Gl.TXN_PEAK] s t ∧ OnlyRegs { s with net := { s.net with bulk := t.net.bulk } } t)
        ∧ (further = false → slotFree cls s = false →
          ∃ t, exec (.bulkFrame port header bs) s = .next t
            ∧ t.rdn (Gl.TXN_REFUSED_C0 + cls) = min (s.rdn (Gl.TXN_REFUSED_C0 + cls) + 1) max32
            ∧ KeepsRegs [Cb.RX_FRAMES port, Gl.TXN_REFUSED_C0 + cls] s t ∧ OnlyRegs s t))
      ∧ (header % 128 ≠ x.next →
        ∃ t, exec (.bulkFrame port header bs) s = .next t
          ∧ lookup port t.net.bulk = none ∧ t.rdn (Cb.BULK_DISCARDS port) = min (s.rdn (Cb.BULK_DISCARDS port) + 1) max32
          ∧ KeepsRegs [Cb.RX_FRAMES port, Cb.BULK_DISCARDS port, Gl.TXN_IN_FLIGHT] s t ∧ OnlyRegs { s with net := { s.net with bulk := t.net.bulk } } t))
    ∧ (∀ port : Nat, ∀ x, lookup port s.net.bulk = some x → x.last + 5000 ≤ s.now →
      ∃ t, exec (.bulkTimeout port) s = .next t
        ∧ lookup port t.net.bulk = none ∧ t.rdn (Cb.BULK_DISCARDS port) = min (s.rdn (Cb.BULK_DISCARDS port) + 1) max32
        ∧ KeepsRegs [Cb.BULK_DISCARDS port, Gl.TXN_IN_FLIGHT] s t ∧ OnlyRegs { s with net := { s.net with bulk := t.net.bulk } } t)
    ∧ (∀ port : Nat, ethOn s port = true → ((getD [] s.net.icmp port).filter (fun t => decide (s.now < t + 50000))).length < 10 →
      ∃ t, exec (.icmpEchoRequest port) s = .next t
        ∧ Egress.icmpReply port ∈ t.egress ∧ t.rdn (Et.RX_FRAMES port) = min (s.rdn (Et.RX_FRAMES port) + 1) max32
        ∧ KeepsRegs [Et.RX_FRAMES port, Gl.TXN_PEAK] s t ∧ OnlyRegs { s with net := { s.net with icmp := t.net.icmp }, egress := t.egress } t)
    ∧ (∀ port ip mac : Nat, ethOn s port = true →
      ∃ t, exec (.arpRequest port ip mac) s = .next t
        ∧ Egress.arpReply port ip mac ∈ t.egress ∧ t.net.arp.head? = some (port, ip, mac)
        ∧ (t.net.arp.filter (fun x => x.1 == port)).length ≤ max 32 (s.net.arp.filter (fun x => x.1 == port)).length
        ∧ KeepsRegs [Et.RX_FRAMES port, Gl.TXN_PEAK] s t ∧ OnlyRegs { s with net := { s.net with arp := t.net.arp }, egress := t.egress } t)
    ∧ (∀ (port speed : Nat) (up : Bool), ethOn s port = true →
      ∃ t, exec (.phyLinkPoll port up speed) s = .next t
        ∧ t.rdb (Et.LINK_UP port) = (up && (speed == 100 || speed == 1000))
        ∧ t.rdn (Et.SPEED port) = (if up = true ∧ (speed = 100 ∨ speed = 1000) then speed else 0)
        ∧ (s.rdb (Et.LINK_UP port) = true → t.rdb (Et.LINK_UP port) = false → Counted 0x3141 s t)
        ∧ KeepsRegs (Et.LINK_UP port :: Et.SPEED port :: eventRegs) s t ∧ OnlyEvents s t)
    ∧ (∀ port : Nat, s.running = true → port < 2 → portOn s port = true →
      ∃ t, exec (.canBusOff port) s = .next t
        ∧ t.rdn (Cb.BUS_OFF_COUNT port) = min (s.rdn (Cb.BUS_OFF_COUNT port) + 1) max32 ∧ t.rd (Cb.BUS_STATE port) = 2 ∧ Counted 0x1142 s t
        ∧ KeepsRegs (Cb.BUS_OFF_COUNT port :: Cb.BUS_STATE port :: eventRegs) s t ∧ OnlyEvents { s with net := { s.net with busOff := t.net.busOff } } t)
    ∧ (∀ (via : Via) (u : State), Reaches via 0x2430 7 1 none s u 1 →
      ∃ t, exec (.networkCountersClear via 1) s = .next t
        ∧ t.answer = some 0
        ∧ (∀ k, k ∈ [Et.RX_FRAMES 0, Et.RX_DISCARDS 0, Et.TX_FRAMES 0, Cb.RX_FRAMES 0, Cb.RX_DISCARDS 0, Cb.BULK_DISCARDS 0, Et.RX_FRAMES 1,
            Et.RX_DISCARDS 1, Et.TX_FRAMES 1, Cb.RX_FRAMES 1, Cb.RX_DISCARDS 1, Cb.BULK_DISCARDS 1, Gl.DM_FORMAT_ERRORS, Gl.DM_RETRIES_ANSWERED,
            Gl.SEGMENTED_WRITES_DISCARDED] → t.rd k = 0)
        ∧ KeepsRegs ([Et.RX_DISCARDS 0, Et.TX_FRAMES 0, Cb.RX_DISCARDS 0, Cb.BULK_DISCARDS 0, Et.RX_DISCARDS 1, Et.TX_FRAMES 1, Cb.RX_FRAMES 1,
            Cb.RX_DISCARDS 1, Cb.BULK_DISCARDS 1, Gl.DM_FORMAT_ERRORS, Gl.SEGMENTED_WRITES_DISCARDED] ++ accessRegs) s t ∧ OnlyAccess s t)

/-- CANopen services (R419, R421 to R424, R440). NMT commands set the state; a stop aborts an open SDO transfer; a reset of communication sends boot-up and
takes the configured state. A SYNC starts its supervision anew; without one for SYNC_PERIOD, and without a node's heartbeat, the event and its EMCY go out.
An RPDO that finds no slot of its class is counted as refused; one of the wrong length is refused with an EMCY; one of a synchronous type waits for the SYNC, any other is written. A lapsed RPDO sends its
EMCY once. A TPDO that is due, and a heartbeat that is due, are sent. -/
def Obligations.CanopenServices : Prop :=
  ∀ (s : State), canopen s = true →
    (∀ (code state : Nat), (code, state) ∈ [(1, 5), (2, 4), (128, 127)] →
      ∃ t, exec (.nmtCommand code) s = .next t
        ∧ t.net = { s.net with nmt := state, segs := t.net.segs, c1Latency := t.net.c1Latency } ∧ (code = 2 → lookup 0 t.net.segs = none) ∧ (code ≠ 2 → t.net.segs = s.net.segs)
        ∧ (code = 2 → lookup 0 s.net.segs ≠ none → Egress.response 0 0x08000000 3 ∈ t.egress)
        ∧ KeepsRegs [Cb.RX_FRAMES 0, Gl.SEGMENTED_WRITES_DISCARDED, Gl.TXN_IN_FLIGHT, Gl.TXN_PEAK] s t
        ∧ OnlyRegs { s with net := t.net, egress := t.egress, free := t.free } t)
    ∧ (∀ code : Nat, code = 129 ∨ code = 130 →
      ∃ t, exec (.nmtCommand code) s = .next t
        ∧ t.net.nmt = (if s.rdb Gl.AUTO_OPERATIONAL then 5 else 127) ∧ Egress.bootUp ∈ t.egress ∧ (code = 129 → Counted 0x3145 s t)
        ∧ t.net.hbSent = s.now ∧ t.net.syncSeen = none ∧ t.net.rpdoHeld = [] ∧ t.net.tpdoSent = [] ∧ t.net.kept = s.net.kept ∧ t.net.arp = s.net.arp
        ∧ OnlyEvents s t)
    ∧ (s.net.nmt ≠ 4 → s.net.rpdoHeld = [] →
      ∃ t, exec .sync s = .next t
        ∧ t.net = { s.net with syncSeen := some s.now, syncCount := s.net.syncCount + 1, c1Latency := t.net.c1Latency } ∧ KeepsRegs [Cb.RX_FRAMES 0, Gl.TXN_IN_FLIGHT, Gl.TXN_PEAK] s t
        ∧ OnlyRegs { s with net := t.net, free := t.free } t)
    ∧ (∀ last, s.net.syncSeen = some last → s.rdn Gl.SYNC_PERIOD ≠ 0 → 20 * last + s.rdn Gl.SYNC_PERIOD < 20 * s.now →
      ∃ t, exec .syncMissing s = .next t
        ∧ t.net.syncSeen = none ∧ Counted 0x3144 s t
        ∧ (s.net.nmt ≠ 4 → emcyClear s = true → s.net.emcyWait = [] → Egress.emcyCia 0x8100 ∈ t.egress)
        ∧ KeepsRegs eventRegs s t ∧ OnlyEvents s t)
    ∧ (∀ i : Nat, i < 4 → s.rdn (Gl.CONSUMER_HEARTBEAT i) / 65536 % 128 ≠ 0 → s.rdn (Gl.CONSUMER_HEARTBEAT i) % 65536 ≠ 0 →
      ∃ t, exec (.heartbeatMissing i) s = .next t
        ∧ Counted 0x3143 s t ∧ (s.net.nmt ≠ 4 → emcyClear s = true → s.net.emcyWait = [] → Egress.emcyCia 0x8130 ∈ t.egress)
        ∧ KeepsRegs eventRegs s t ∧ OnlyEvents s t)
    ∧ (∀ (n : Nat) (bs : List ByteN), pdoOn s true n = true →
      (slotFree 1 s = false →
        ∃ t, exec (.rpdo n bs) s = .next t
          ∧ t.rdn Gl.TXN_REFUSED_C1 = min (s.rdn Gl.TXN_REFUSED_C1 + 1) max32 ∧ KeepsRegs [Cb.RX_FRAMES 0, Gl.TXN_REFUSED_C1] s t ∧ OnlyRegs s t)
      ∧ (bs.length ≠ pdoLen s true n → slotFree 1 s = true →
        ∃ t, exec (.rpdo n bs) s = .next t
          ∧ (emcyClear s = true → s.net.emcyWait = [] → Egress.emcyCia (if bs.length < pdoLen s true n then 0x8210 else 0x8220) ∈ t.egress)
          ∧ t.net.rpdoHeld = s.net.rpdoHeld ∧ KeepsRegs [Cb.RX_FRAMES 0, Gl.ERROR_REGISTER] s t ∧ OnlyEvents s t)
      ∧ (bs.length = pdoLen s true n → slotFree 1 s = true → pdoType s true n ≤ 240 →
        ∃ t, exec (.rpdo n bs) s = .next t
          ∧ lookup n t.net.rpdoHeld = some bs ∧ KeepsRegs [Cb.RX_FRAMES 0, Gl.TXN_IN_FLIGHT, Gl.TXN_PEAK] s t
          ∧ OnlyRegs { s with net := { s.net with rpdoHeld := t.net.rpdoHeld, rpdoSeen := t.net.rpdoSeen, c1Latency := t.net.c1Latency }, free := t.free } t)
      ∧ (∀ index sub bytes : Nat, pdoEntries s true n = [(index, sub, bytes)] → bs.length = bytes → 240 < pdoType s true n → pdoTimer s true n = 0 → slotFree 1 s = true →
        ∀ w : State, w = writeEntry .pdo index sub (.bytes bs) none (s.count (Cb.RX_FRAMES 0)).c1Frame →
        ∃ t, exec (.rpdo n bs) s = .next t ∧ KeepsRegs [] w t ∧ OnlyRegs w t))
    ∧ (∀ n : Nat, pdoOn s true n = true → pdoTimer s true n ≠ 0 → ∀ last, lookup n s.net.rpdoSeen = some last → last + 50 * pdoTimer s true n ≤ s.now →
      ∃ t, exec (.rpdoEventTimer n) s = .next t
        ∧ lookup n t.net.rpdoSeen = none ∧ (emcyClear s = true → s.net.emcyWait = [] → Egress.emcyCia 0x8250 ∈ t.egress)
        ∧ KeepsRegs [Gl.ERROR_REGISTER] s t ∧ OnlyEvents s t)
    ∧ (∀ n : Nat, pdoOn s false n = true → pdoCount s false n ≠ 0 → tpdoDue s n = true →
      ∃ t, exec (.tpdoTransmit n) s = .next t
        ∧ Egress.tpdo n (tpdoBytes s n) ∈ t.egress ∧ lookup n t.net.tpdoSent = some (s.now, s.net.syncCount)
        ∧ KeepsRegs [] s t ∧ OnlyRegs { s with net := { s.net with tpdoSent := t.net.tpdoSent, tpdoData := t.net.tpdoData }, egress := t.egress } t)
    ∧ (s.rdn Gl.PRODUCER_HEARTBEAT ≠ 0 → s.net.hbSent + 50 * s.rdn Gl.PRODUCER_HEARTBEAT ≤ s.now →
      ∃ t, exec .heartbeatProduce s = .next t
        ∧ Egress.heartbeat s.net.nmt ∈ t.egress ∧ KeepsRegs [] s t
        ∧ OnlyRegs { s with net := { s.net with hbSent := s.now }, egress := t.egress } t)

/-! ### The recorder (chapter 14) -/

/-- What Scarab takes in (R448 to R452, R455, R456). The oldest event leaves the intake FIFO; a first occurrence, or a code of ALWAYS_LOG, is logged with what the event
carried, counted and committed; any other occurrence writes nothing. The oldest sample leaves its queue and adds one to its bin, to its histogram's samples, and to the
extremes it exceeds. A second of operation advances the stamp, commits it, and moves the proof test's due time. -/
def Obligations.RecorderIntake : Prop :=
  ∀ (s : State),
    (∀ (e : Event) (rest : List Event), s.recd.intake = e :: rest → s.recd.accepting = true →
        (s.recd.sampleTurn = false ∨ s.recd.samples = []) → s.rdn Gl.FIRST_LOG_COUNT < 16383 →
      (s.recd.log.any (fun x => x.ev.code == e.code && x.ev.inst == e.inst) = false ∨ alwaysLog e.code = true →
        ∃ t, exec .eventIntake s = .next t
          ∧ t.recd.intake = rest ∧ t.recd.sampleTurn = true ∧ t.recd.log.length = s.recd.log.length + 1
          ∧ (t.recd.log.getLast?).map (·.ev) = some e ∧ t.rdn Gl.FIRST_LOG_COUNT = s.rdn Gl.FIRST_LOG_COUNT + 1
          ∧ t.rdn Gl.COMMIT_SEQ = (s.rdn Gl.COMMIT_SEQ + 1) % 2 ^ 32
          ∧ recordSeq t 7 (s.rdn Gl.FIRST_LOG_COUNT / 4) = (s.rdn Gl.COMMIT_SEQ + 1) % 2 ^ 32
          ∧ KeepsRegs ([Gl.FIRST_LOG_COUNT, Gl.COMMIT_SEQ] ++ (List.range 32).map Ec.EC_VALUE) s t ∧ OnlyRegs { s with recd := t.recd } t)
      ∧ (s.recd.log.any (fun x => x.ev.code == e.code && x.ev.inst == e.inst) = true → alwaysLog e.code = false →
        ∃ t, exec .eventIntake s = .next t
          ∧ t.recd = { s.recd with intake := rest, sampleTurn := true } ∧ KeepsRegs [] s t ∧ OnlyRegs { s with recd := t.recd } t))
    ∧ (∀ (x : Sample) (rest : List Sample), s.recd.samples = x :: rest → s.recd.accepting = true → (s.recd.sampleTurn = true ∨ s.recd.intake = [])
        → x.area = 1 ∨ x.area = 2 →
      ∃ t, exec .sampleIntake s = .next t
        ∧ t.recd.samples = rest ∧ t.recd.sampleTurn = false
        ∧ getD 0 (t.hist x.area x.hist).bins (binOf s x.area x.hist x.value)
            = min (getD 0 (s.hist x.area x.hist).bins (binOf s x.area x.hist x.value) + 1) max32
        ∧ (t.hist x.area x.hist).samples = min ((s.hist x.area x.hist).samples + 1) max32
        ∧ (t.hist x.area x.hist).valid = true ∧ (t.hist x.area x.hist).low ≤ x.value ∧ x.value ≤ (t.hist x.area x.hist).high
        ∧ (∀ area hist : Nat, 4096 * area + hist ≠ 4096 * x.area + x.hist → t.hist area hist = s.hist area hist)
        ∧ t.recd.log = s.recd.log ∧ t.recd.intake = s.recd.intake ∧ t.recd.codes = s.recd.codes
        ∧ KeepsRegs [Gl.COMMIT_SEQ] s t ∧ OnlyRegs { s with recd := t.recd } t)
    ∧ (s.rdn Gl.POWER_STATE ≤ 1 →
      ∃ t, exec .operatingSecond s = .next t
        ∧ t.rdn Gl.OPERATING_SECONDS = (s.rdn Gl.OPERATING_SECONDS + 1) % 2 ^ 32
        ∧ getD 0 t.nv Gl.OPERATING_SECONDS = ((s.rdn Gl.OPERATING_SECONDS + 1) % 2 ^ 32 : Nat)
        ∧ recordSeq t 0 0 = (s.rdn Gl.COMMIT_SEQ + 1) % 2 ^ 32
        ∧ t.rdn Gl.PROOF_TEST_DUE = s.rdn Gl.PROOF_TEST_INTERVAL
            - ((s.rdn Gl.OPERATING_SECONDS + 1) % 2 ^ 32 - s.rdn Gl.LAST_PROOF_TEST) / 3600
        ∧ KeepsRegs ([Gl.OPERATING_SECONDS, Gl.COMMIT_SEQ, Gl.PROOF_TEST_DUE] ++ sampleRegs) s t
        ∧ t.safety.proofRaised = (if t.rdn Gl.PROOF_TEST_DUE = 0 then s.safety.proofRaised else none)
        ∧ OnlyEvents { s with nv := t.nv, safety := { s.safety with proofRaised := t.safety.proofRaised } } t)

/-- The recorder's window, clearing and counters (R453, R459 to R465, R468). A read of WINDOW gives the record at the cursor and advances it; past the area's end it is
refused. AREA and BULK_COUNT act on the source's own context, BULK_DATA gives up to 15 records with their sequences, an idle context goes after 60 s. A
clear empties the areas of its mask, is counted and stamped, and raises its event. A changed limit, a changed selection and EC_RESET are noted for
the next door tick; a counter's reset never touches the value at once. -/
def Obligations.RecorderAccess : Prop :=
  ∀ (s : State) (source : Nat),
    (readArrives source 0x6000 2 s = true → ∀ c, ctxOf s source = some c →
      (c.cursor < areaRecords s c.area →
        ∃ t, exec (.windowRead source) s = .next t
          ∧ t.answer = some 0 ∧ Egress.bulkResponse source (recordBytes s c.area c.cursor) ∈ t.egress
          ∧ ctxOf t source = some { c with cursor := c.cursor + 1, changeSeq := recordSeq s c.area c.cursor,
                                           data := recordBytes s c.area c.cursor, lastUse := s.now }
          ∧ KeepsRegs accessRegs s t ∧ OnlyAccess s t)
      ∧ (areaRecords s c.area ≤ c.cursor →
        ∃ t, exec (.windowRead source) s = .next t
          ∧ t.answer = some 0x08000022 ∧ ctxOf t source = some { c with lastUse := s.now } ∧ KeepsRegs accessRegs s t))
    ∧ (readArrives source 0x6000 7 s = true → ∀ c, ctxOf s source = some c →
      ∃ t, exec (.bulkDataRead source) s = .next t
          ∧ t.answer = some 0
          ∧ (ctxOf t source).map (fun x => (x.cursor, x.bulkLeft)) = some (c.cursor + bulkTaken s c, c.bulkLeft - bulkTaken s c)
          ∧ Egress.bulkResponse source ((List.range (bulkTaken s c)).flatMap (fun i =>
              recordBytes s c.area (c.cursor + i) ++ leBytes 4 (recordSeq s c.area (c.cursor + i)))) ∈ t.egress
          ∧ KeepsRegs accessRegs s t ∧ OnlyAccess s t)
    ∧ (∀ (v : Int) (u : State), Reaches (viaOf source) 0x6000 4 v none s u v → ∀ c, ctxOf u source = some c →
      ∃ t, exec (.areaWrite source v) s = .next t
        ∧ t.answer = some 0 ∧ ctxOf t source = some { c with area := v.toNat, cursor := 0, bulkLeft := 0, lastUse := s.now }
        ∧ KeepsRegs accessRegs s t ∧ OnlyAccess s t)
    ∧ (∀ (v : Int) (u : State), Reaches (viaOf source) 0x6000 5 v none s u v → ∀ c, ctxOf u source = some c →
      ∃ t, exec (.bulkCountWrite source v) s = .next t
        ∧ t.answer = some 0
        ∧ (ctxOf t source).map (fun x => (x.bulkCount, x.bulkLeft)) = some (v.toNat,
            if v = 0xFFFF then areaRecords s c.area - c.cursor else min v.toNat (areaRecords s c.area - c.cursor))
        ∧ KeepsRegs accessRegs s t ∧ OnlyAccess s t)
    ∧ (∃ t, exec (.contextRelease source) s = .next t
        ∧ t.recd = { s.recd with contexts := s.recd.contexts.filter (fun c => !(c.source == source && decide (c.lastUse + 3000000 ≤ s.now))) }
        ∧ KeepsRegs [] s t ∧ OnlyRegs { s with recd := t.recd } t)
    ∧ (∀ (via : Via) (n : Nat) (u : State), Reaches via 0x6002 1 n none s u n → n ≠ 0 →
      ∃ t, exec (.clear via n) s = .next t
        ∧ t.answer = some 0 ∧ t.rdn Gl.CLEARS = min (s.rdn Gl.CLEARS + 1) max32 ∧ t.rdn Gl.LAST_CLEAR_SECONDS = s.rdn Gl.OPERATING_SECONDS
        ∧ (n.testBit 7 = true → t.recd.log = [] ∧ t.rd Gl.FIRST_LOG_COUNT = 0) ∧ (n.testBit 7 = false → t.recd.log = s.recd.log)
        ∧ (∀ area hist : Nat, 1 ≤ area → area ≤ 4 → n.testBit area = true → (t.hist area hist).bins = [])
        ∧ (∀ area hist : Nat, n.testBit 5 = true → (t.hist area hist).valid = false)
        ∧ Counted 0x3001 (if n.testBit 6 then { s with recd := { s.recd with codes := [] } } else s) t
        ∧ t.rdn Gl.COMMIT_SEQ = (s.rdn Gl.COMMIT_SEQ + 1) % 2 ^ 32)
    ∧ (∀ (via : Via) (index sub : Nat) (v : Int), isHistLimit index = true → ∀ u : State, Reaches via index sub v none s u v →
        (histPair index sub v u).1 + 30 * (histPair index sub v u).2 ≤ 0x7FFFFFFF →
      ∃ t, exec (.histLimitsChanged via index sub v) s = .next t
        ∧ t.answer = some 0 ∧ t.rd (key index sub) = v ∧ t.recd = { s.recd with limitsChanged := key index sub :: s.recd.limitsChanged }
        ∧ KeepsRegs (key index sub :: accessRegs) s t ∧ OnlyAccess s t)
    ∧ (∀ (via : Via) (n sub v : Nat), n < 32 → 1 ≤ sub → sub ≤ 4 → ∀ u : State, Reaches via (0x2500 + n) sub v none s u v →
        ∀ g : Nat → Nat, g = (fun i => if sub = i then v else u.rdn (key (0x2500 + n) i)) → ecValid u (g 1) (g 2) (g 3) (g 4) = true →
      ∃ t, exec (.ecConfigWrite via n sub v) s = .next t
        ∧ t.answer = some 0 ∧ t.rd (key (0x2500 + n) sub) = v ∧ n ∈ t.recd.ecReset
        ∧ KeepsRegs (key (0x2500 + n) sub :: accessRegs) s t ∧ OnlyAccess s t)
    ∧ (∀ (via : Via) (n : Nat), n < 32 → ∀ u : State, Reaches via (0x2500 + n) 7 1 none s u 1 →
      ∃ t, exec (.ecReset via n 1) s = .next t
        ∧ t.answer = some 0 ∧ n ∈ t.recd.ecReset ∧ t.rd (Ec.EC_VALUE n) = s.rd (Ec.EC_VALUE n)
        ∧ KeepsRegs accessRegs s t ∧ OnlyAccess s t)

/-! ### Power states and wake (chapter 15) -/

/-- The wake sequence (R489, R491 to R497). In STABLED an enabled source, or FORCE_WAKE whatever is enabled and after lifting the lockout, starts the
sequence: W1 with its source and VID code 0x8; a transfer on the wake bus that is no complete command is counted as rejected and has no other effect; within 20 ms of a sleep commit the source is latched, and acts afterwards. Each step leads to the next
in its time, and PLL lock ends the wake in the boot's reset with the source shown and the failures cleared. A step that times out is tried once more after 100 ms; the
second timeout has failed the wake: cause and count are latched and AON stays in STABLED. -/
def Obligations.WakeSequence : Prop :=
  ∀ (s : State),
    (∀ (c : Instr) (src : Nat) (met : Bool), (c, src, met) ∈ [
        (Instr.wake (.ofCmd 1), 1, s.bit Gl.WAKE_ENABLE 0 && decide (s.rdn Gl.FAILED_WAKES < 3)),
        (Instr.wakeInEdge true, 2, s.bit Gl.WAKE_ENABLE 1 && decide (s.rdn Gl.FAILED_WAKES < 3) && (s.rdn Gl.WAKE_IN_EDGE == 1 || s.rdn Gl.WAKE_IN_EDGE == 2)),
        (Instr.wakeInEdge false, 2, s.bit Gl.WAKE_ENABLE 1 && decide (s.rdn Gl.FAILED_WAKES < 3) && (s.rdn Gl.WAKE_IN_EDGE == 0 || s.rdn Gl.WAKE_IN_EDGE == 2)),
        (Instr.rtcAlarm, 3, s.bit Gl.WAKE_ENABLE 2 && decide (s.rdn Gl.FAILED_WAKES < 3) && s.rdn Gl.RTC_ALARM != 0
          && s.rdn Gl.RTC_TIME == s.rdn Gl.RTC_ALARM),
        (Instr.forceWake (.ofCmd 2), 4, true)] → met = true → s.power.phase = .stabled → s.power.latched = none →
      ∀ ks, ks = [Gl.VID_CODE, Gl.VDD_CORE_TARGET, Gl.CICADA_WAKES, Gl.RTC_ALARM] →
      (s.power.committedAt = none ∨ heldFor s.power.committedAt s.now 1000 = true →
        ∃ t, exec c s = .next t
          ∧ t.power = { s.power with phase := .w1, stepAt := s.now, source := src, sourceAt := s.now, retried := false, latched := none }
          ∧ t.rd Gl.VID_CODE = 8 ∧ pwrEnMain t = true ∧ (src = 3 → t.rd Gl.RTC_ALARM = 0)
          ∧ (src = 1 ∨ src = 4 → t.rdn Gl.CICADA_WAKES = min (s.rdn Gl.CICADA_WAKES + 1) max32)
          ∧ KeepsRegs (ks ++ (if src = 4 then [Gl.FAILED_WAKES] else [])) s t ∧ OnlyRegs { s with power := t.power } t)
      ∧ (s.power.committedAt ≠ none → heldFor s.power.committedAt s.now 1000 = false →
        ∃ t, exec c s = .next t
          ∧ t.power = { s.power with latched := some src }
          ∧ KeepsRegs (ks ++ (if src = 4 then [Gl.FAILED_WAKES] else [])) s t ∧ OnlyRegs { s with power := t.power } t))
    ∧ (∀ (x : WakeTransfer) (c : Instr) (cmd : Nat), (c, cmd) ∈ [(Instr.wake x, 1), (Instr.forceWake x, 2)] → x ≠ .ofCmd cmd →
      ∃ t, exec c s = .next t
        ∧ t.rdn Gl.CICADA_REJECTED = min (s.rdn Gl.CICADA_REJECTED + 1) max32 ∧ KeepsRegs [Gl.CICADA_REJECTED] s t ∧ OnlyRegs s t)
    ∧ (s.power.phase = .stabled → ∀ src, s.power.latched = some src →
      ∃ t, exec .latchedWake s = .next t
        ∧ t.power = { s.power with phase := .w1, stepAt := s.now, source := src, sourceAt := s.now, retried := false, latched := none }
        ∧ t.rd Gl.VID_CODE = 8 ∧ KeepsRegs [Gl.VID_CODE, Gl.VDD_CORE_TARGET] s t ∧ OnlyRegs { s with power := t.power } t)
    ∧ (s.power.phase = .w1 → s.now ≤ s.power.stepAt + 1000 →
      ∃ t, exec .pgMainHigh s = .next t
        ∧ t.power = { s.power with phase := .w2, stepAt := s.now } ∧ KeepsRegs [] s t ∧ OnlyRegs { s with power := t.power } t)
    ∧ (s.power.phase = .w2 → s.now ≤ s.power.stepAt + 500 →
      ∃ t, exec .oscillatorReady s = .next t
        ∧ t.power = { s.power with phase := .w3, stepAt := s.now } ∧ KeepsRegs [] s t ∧ OnlyRegs { s with power := t.power } t)
    ∧ (∀ elapsed stabled : Nat, s.power.phase = .w3 → s.now ≤ s.power.stepAt + 10 → s.power.source ≠ 0 →
      ∃ t, exec (.pllLock elapsed stabled) s = .next t
        ∧ t.power.phase = .reset ∧ t.power.wakeFailed = false ∧ t.power.causes = (s.power.causes ||| 512)
        ∧ t.rdn Gl.LAST_WAKE_SOURCE = s.power.source ∧ t.rd Gl.FAILED_WAKES = 0
        ∧ t.rdn Gl.WAKE_COUNT = min (s.rdn Gl.WAKE_COUNT + 1) max32 ∧ t.rdn Gl.WAKE_TIME_LAST = min 200000 elapsed
        ∧ KeepsRegs ([Gl.LAST_WAKE_SOURCE, Gl.FAILED_WAKES, Gl.POWER_STATUS, Gl.WAKE_COUNT, Gl.WAKE_TIME_LAST] ++ sampleRegs) s t
        ∧ OnlyEvents { s with power := t.power } t)
    ∧ (∀ cause, wakeTimeout s = some cause →
      (s.power.retried = false →
        ∃ t, exec .wakeRetry s = .next t
          ∧ t.power = { s.power with phase := .pause, stepAt := s.now, retried := true, held := s.power.held ++ [(0x3044, (cause : Int))] }
          ∧ pwrEnMain t = false ∧ KeepsRegs [] s t ∧ OnlyRegs { s with power := t.power } t)
      ∧ (s.power.retried = true →
        ∃ t, exec .wakeRetry s = .next t
          ∧ t.power.phase = .stabled ∧ t.power.wakeFailed = true ∧ t.power.held = s.power.held ++ [(0x1043, (cause : Int))]
          ∧ t.rdn Gl.WAKE_FAIL_CAUSE = cause ∧ t.rdn Gl.FAILED_WAKES = min 3 (s.rdn Gl.FAILED_WAKES + 1) ∧ pwrEnMain t = false ∧ nFault t = false
          ∧ KeepsRegs [Gl.WAKE_FAIL_CAUSE, Gl.FAILED_WAKES] s t ∧ OnlyRegs { s with power := t.power } t))
    ∧ (s.power.phase = .pause → s.power.stepAt + 5000 ≤ s.now →
      ∃ t, exec .wakeRetry s = .next t
        ∧ t.power = { s.power with phase := .w1, stepAt := s.now } ∧ KeepsRegs [] s t ∧ OnlyRegs { s with power := t.power } t)

/-- Power commands and sleep (R326, R487 to R489). RUN and DOZE wait for the next door tick. STABLED is accepted with every doorway closed and locked or isolated, no
learning, alignment or manual mode, a wake source enabled, and a consistent alarm; its sequence then begins at a door tick. The commit ends the sequence in STABLED: the
configuration is kept, sessions are gone, the token is released. A door that has moved, or an enabled wake source, ends the sequence with its status and event
instead, back to RUN. -/
def Obligations.PowerCommandsAndSleep : Prop :=
  ∀ (s : State),
    (∀ (via : Via) (u : State), Reaches via 0x2100 2 0 none s u 0 →
      ∃ t, exec (.powerCommandRun via) s = .next t
        ∧ t.answer = some 0 ∧ t.power.command = some 0 ∧ t.rd Gl.POWER_COMMAND = 0 ∧ t.rd Gl.POWER_STATE = s.rd Gl.POWER_STATE
        ∧ KeepsRegs (Gl.POWER_COMMAND :: accessRegs) s t ∧ OnlyAccess { s with power := { s.power with command := some 0 } } t)
    ∧ (∀ (via : Via) (u : State), Reaches via 0x2100 2 1 none s u 1 → s.rdn Gl.DEBUG_LEVEL ≠ 2 → s.safety.debugSafe = false →
      ∃ t, exec (.powerCommandDoze via) s = .next t
        ∧ t.answer = some 0 ∧ t.power.command = some 1 ∧ t.rd Gl.POWER_COMMAND = 1 ∧ t.rd Gl.POWER_STATE = s.rd Gl.POWER_STATE
        ∧ KeepsRegs (Gl.POWER_COMMAND :: accessRegs) s t ∧ OnlyAccess { s with power := { s.power with command := some 1 } } t)
    ∧ (∀ (via : Via) (u : State), Reaches via 0x2100 2 2 none s u 2 → s.rdn Gl.DEBUG_LEVEL ≠ 2 → s.safety.debugSafe = false → doorsQuiet s = true
        → learning s = false → (allAxes s).any (fun a => (s.axis a).align.isSome || manual s a) = false → s.rdn Gl.WAKE_ENABLE ≠ 0
        → (s.rdn Gl.RTC_ALARM = 0 ∨ s.rdn Gl.RTC_TIME + 2 ≤ s.rdn Gl.RTC_ALARM ∧ s.bit Gl.WAKE_ENABLE 2 = true) →
      ∃ t, exec (.powerCommandStabled via) s = .next t
        ∧ t.answer = some 0 ∧ t.power.sleepAsked = true ∧ t.rd Gl.POWER_COMMAND = 2
        ∧ KeepsRegs (Gl.POWER_COMMAND :: accessRegs) s t ∧ OnlyAccess { s with power := { s.power with sleepAsked := true } } t)
    ∧ (s.running = true → heldFor s.power.sleepFrom s.now 205 = true → doorsQuiet s = true →
      ∃ t, exec .sleepCommit s = .next t
        ∧ t.power.phase = .stabled ∧ t.power.committedAt = some s.now ∧ t.rd Gl.SLEEP_STATUS = 2 ∧ t.sessions = [] ∧ t.holds = false
        ∧ t.doors = s.doors.filterMap keptDoor ∧ t.links = [] ∧ t.egress = [] ∧ pwrEnMain t = false ∧ t.rd Gl.SAFE_STATE_CAUSE = s.rd Gl.SAFE_STATE_CAUSE
        ∧ (∀ k, k ∈ [Gl.SYNC_PERIOD, Gl.LEARN_FLOOR, Gl.EVENT_CLASS_MAX, Ax.ENV_K_CLOSE 0, Gl.SET_DOORWAY_TYPE 3] →
            s.power.restore = false → s.power.restoreSafety = false → t.rd k = s.rd k)
        ∧ t.sec.version = s.sec.version ∧ t.now = s.now)
    ∧ (∀ (c : Instr) (status : Nat) (met : Bool), (c, status, met) ∈ [
        (Instr.sleepCommit, 4, heldFor s.power.sleepFrom s.now 205 && !doorsQuiet s), (Instr.sleepAborted none, 4, s.power.sleepFrom.isSome && !doorsQuiet s),
        (Instr.sleepAborted (some .cicada), 3, s.bit Gl.WAKE_ENABLE 0 && s.power.sleepFrom.isSome),
        (Instr.sleepAborted (some .wakeIn), 3, s.bit Gl.WAKE_ENABLE 1 && s.power.sleepFrom.isSome),
        (Instr.sleepAborted (some .rtc), 3, s.bit Gl.WAKE_ENABLE 2 && s.power.sleepFrom.isSome),
        (Instr.sleepAborted (some .forceWake), 3, s.power.sleepFrom.isSome)] → met = true → s.running = true →
      ∃ t, exec c s = .next t
        ∧ t.power = { s.power with sleepFrom := none, sleepAsked := false, command := some 0 } ∧ t.rdn Gl.SLEEP_STATUS = status
        ∧ t.rd Gl.POWER_COMMAND = 0 ∧ Counted 0x3046 s t
        ∧ KeepsRegs ([Gl.SLEEP_STATUS, Gl.POWER_COMMAND] ++ (List.range 16).flatMap (fun d => [Lk.LINK_STATE d, Lk.LINK_STATUS d]) ++ eventRegs) s t
        ∧ OnlyEvents { s with power := t.power, links := t.links, dies := t.dies } t)

/-- Supplies, domains and temperature (R476, R478 to R480, R482 to R484, R498). A warning of a supply or of the ball is marked and flagged, raises its event, commits the
configuration and stops the recorder's intake; with the last one over, intake goes on. VID rises by any step at once, and falls by one with its
threshold. A sleeping domain's readiness is shown and counted with the stall; one not ready in time is counted and raised. Overheat raises its event
once. A brown-out holds the logic die in reset until its release. -/
def Obligations.SuppliesAndDomains : Prop :=
  ∀ (s : State),
    (s.running = true → ∀ (src : WarnSource) (mv : Nat),
        (src = .io ∧ mv < 3050 ∧ s.power.warnIo = false ∨ src = .core ∧ mv < coreLimit s ∧ s.power.warnCore = false
          ∨ src = .ball ∧ s.power.warnBall = false ∧ s.power.warnIo = false ∧ s.power.warnCore = false) →
      ∃ t, exec (.powerWarning src mv) s = .next t
        ∧ t.power = { s.power with warnIo := s.power.warnIo || src == .io, warnCore := s.power.warnCore || src == .core,
                                   warnBall := s.power.warnBall || src == .ball }
        ∧ t.bit Gl.POWER_STATUS (if src = .core then 9 else 8) = true ∧ t.bit Gl.POWER_STATUS (if src = .core then 1 else 0) = true
        ∧ t.recd.accepting = false ∧ Counted (if src = .core then 0x0042 else 0x0041) s t
        ∧ (∀ k, k ∈ [Gl.SYNC_PERIOD, Gl.LEARN_FLOOR, Gl.EVENT_CLASS_MAX] → getD (dictDefault k) t.nv k = s.rd k)
        ∧ t.doors = s.doors ∧ t.axes = s.axes ∧ t.chans = s.chans ∧ t.safety = s.safety)
    ∧ (s.running = true → ∀ src : WarnSource,
      ∃ t, exec (.powerWarningEnd src) s = .next t
        ∧ t.power = { s.power with warnIo := s.power.warnIo && src != .io, warnCore := s.power.warnCore && src != .core,
                                   warnBall := s.power.warnBall && src != .ball }
        ∧ t.recd = { s.recd with accepting := s.recd.accepting || !(t.power.warnIo || t.power.warnCore || t.power.warnBall) }
        ∧ t.bit Gl.POWER_STATUS 0 = (t.power.warnIo || t.power.warnBall) ∧ t.bit Gl.POWER_STATUS 1 = t.power.warnCore
        ∧ KeepsRegs [Gl.POWER_STATUS] s t ∧ OnlyRegs { s with power := t.power, recd := t.recd } t)
    ∧ (s.running = true → ∀ code : Nat, code < 16 →
      (s.rdn Gl.VID_CODE < code →
        ∃ t, exec (.vidChange code) s = .next t
          ∧ t.rdn Gl.VID_CODE = code ∧ t.rdn Gl.VDD_CORE_TARGET = vidTarget code ∧ coreLimit t = coreLimit s
          ∧ t.power.coreNext = some (vidThreshold code, s.now + 10)
          ∧ KeepsRegs [Gl.VID_CODE, Gl.VDD_CORE_TARGET] s t ∧ OnlyRegs { s with power := t.power } t)
      ∧ (code + 1 = s.rdn Gl.VID_CODE → (s.power.vidLowered = none ∨ heldFor s.power.vidLowered s.now 500 = true) →
        ∃ t, exec (.vidChange code) s = .next t
          ∧ t.rdn Gl.VID_CODE = code ∧ t.rdn Gl.VDD_CORE_TARGET = vidTarget code ∧ coreLimit t = vidThreshold code
          ∧ t.power.vidLowered = some s.now
          ∧ KeepsRegs [Gl.VID_CODE, Gl.VDD_CORE_TARGET] s t ∧ OnlyRegs { s with power := t.power } t))
    ∧ (s.running = true → ∀ i : Nat, i = 4 ∨ i = 7 →
      (s.rdn Gl.POWER_STATE = 1 → s.bit Gl.DOMAINS_ON i = true → maySleep s i = true
          → heldFor (if i = 4 then s.power.motionIdle else s.power.senseIdle) s.now 5000 = true →
        ∃ t, exec (.domainSleep i) s = .next t
          ∧ t.bit Gl.DOMAINS_ON i = false ∧ t.bit Gl.POWER_STATUS 3 = true
          ∧ KeepsRegs [Gl.DOMAINS_ON, Gl.POWER_STATUS] s t ∧ OnlyRegs s t)
      ∧ (∀ stall : Nat, s.bit Gl.DOMAINS_ON i = false → stall ≤ 2000 →
        ∃ t, exec (.domainWake i stall) s = .next t
          ∧ t.bit Gl.DOMAINS_ON i = true ∧ t.rdn Gl.DOMAIN_WAKES = min (s.rdn Gl.DOMAIN_WAKES + 1) max32
          ∧ t.rd Gl.DOMAIN_STALL_MAX = max (s.rd Gl.DOMAIN_STALL_MAX) stall
          ∧ KeepsRegs [Gl.DOMAINS_ON, Gl.DOMAIN_WAKES, Gl.DOMAIN_STALL_MAX, Gl.POWER_STATUS] s t ∧ OnlyRegs { s with power := t.power } t)
      ∧ (∀ via : Option Via, s.bit Gl.DOMAINS_ON i = false →
        ∃ t, exec (.domainNotReady i via) s = .next t
          ∧ t.rdn Gl.DOMAINS_NOT_READY = min (s.rdn Gl.DOMAINS_NOT_READY + 1) max32 ∧ t.bit Gl.POWER_STATUS 11 = true ∧ Counted 0x3045 s t
          ∧ (via ≠ none → t.answer = some 0x09000001)
          ∧ KeepsRegs ([Gl.DOMAINS_NOT_READY, Gl.POWER_STATUS, Gl.POWER_REPEATS 3] ++ eventRegs) s t
          ∧ OnlyEvents { s with power := t.power, answer := t.answer } t))
    ∧ (∀ temp : Int, s.running = true → 1200 < temp → s.power.hotRaised = false → heldFor s.power.hotSince s.now 50000 = true →
      ∃ t, exec (.overtemperature temp) s = .next t
        ∧ Counted 0x1047 s t ∧ t.power = { s.power with hotRaised := true } ∧ KeepsRegs eventRegs s t ∧ OnlyEvents { s with power := t.power } t)
    ∧ (∀ src : BrownSource, s.power.phase = .run ∨ s.power.phase = .reset →
      ∃ t, exec (.brownOut src) s = .next t
        ∧ t.power.phase = .reset ∧ t.power.brown = true ∧ t.power.causes = (s.power.causes ||| brownBit src) ∧ t.running = false ∧ t.holds = false
        ∧ nFault t = false ∧ t.doors = s.doors.filterMap keptDoor ∧ t.sessions = [] ∧ t.egress = [] ∧ t.safety.inReset = true ∧ t.now = s.now)
    ∧ (∃ t, exec .brownOutRelease s = .next t
        ∧ t.power = { s.power with brown := false } ∧ KeepsRegs [] s t ∧ OnlyRegs { s with power := t.power } t)

/-! ### Resets and the boot (chapter 17) -/

/-- Resets (R481, R513, R525 to R529). Every reset of the logic die leaves no session, no link, no move and no frame, releases the token, and leaves its cause for the next boot. Power-on
starts AON from nothing, counts the cycle, latches the straps and begins the wake; nRESET latches the straps and lifts the safe state; a watchdog and a planned reset keep
the safe state, and the third watchdog reset in 600 s halts the next boot. DEVICE_RESET, with the doors closed and the train at zero speed, falls due 100 ms later. -/
def Obligations.Resets : Prop :=
  ∀ (s : State),
    (∀ (c : Instr) (cause : Nat) (keep : Bool) (met : Bool), (c, cause, keep, met) ∈ [
        (Instr.nreset 0x35, 2, false, s.power.phase == .run || s.power.phase == .reset),
        (Instr.watchdog, 32, true, s.running && !inRecoveryMode s),
        (Instr.internalReset 128, 128, true, s.running && s.power.planned.any (fun x => x.2 == 128 && decide (x.1 ≤ s.now))),
        (Instr.internalReset 64, 64, true, s.running && s.power.planned.any (fun x => x.2 == 64 && decide (x.1 ≤ s.now)))] → met = true →
      ∃ t, exec c s = .next t
        ∧ t.power.phase = .reset ∧ t.power.causes = (s.power.causes ||| cause) ∧ t.running = false ∧ t.holds = false ∧ nFault t = false
        ∧ t.doors = s.doors.filterMap keptDoor ∧ (∀ d, (t.door d).move = none ∧ (t.door d).cmds = [])
        ∧ t.links = [] ∧ t.sessions = [] ∧ t.conns = [] ∧ t.egress = [] ∧ t.answer = none ∧ t.safety.inReset = true
        ∧ t.safety.outs = openedOuts s ∧ t.rd Gl.SAFE_STATE_CAUSE = (if keep then s.rd Gl.SAFE_STATE_CAUSE else 0)
        ∧ (c = .nreset 0x35 → t.rd Gl.STRAPS = 0x35 ∧ t.rd Gl.WADDR = 2 ∧ t.rd Gl.STRAP_SAMPLED_BY = 1)
        ∧ (keep = true → t.rd Gl.STRAPS = s.rd Gl.STRAPS)
        ∧ t.rd Gl.SECURITY_STATE = (if s.rdn Gl.SECURITY_STATE = 2 then 1 else s.rd Gl.SECURITY_STATE) ∧ t.now = s.now ∧ t.recd.log = s.recd.log)
    ∧ (∀ straps : Nat,
      ∃ t, exec (.powerOnReset straps) s = .next t
        ∧ t.power.phase = .w1 ∧ t.power.source = 0 ∧ t.power.causes = 1 ∧ t.rdn Gl.STRAPS = straps % 256 ∧ t.rd Gl.STRAP_SAMPLED_BY = 0
        ∧ t.rd Gl.VID_CODE = 8 ∧ t.rd Gl.RTC_TIME = 0 ∧ t.rd Gl.FAILED_WAKES = 0 ∧ t.rd Gl.SAFE_STATE_CAUSE = 0
        ∧ t.holds = false ∧ (∀ d, (t.door d).move = none ∧ (t.door d).cmds = []) ∧ t.sessions = [] ∧ (∀ a, (t.axis a).words = [] ∧ (t.axis a).shadow = none) ∧ t.now = s.now ∧ t.recd.log = s.recd.log)
    ∧ (s.running = true → inRecoveryMode s = false →
      ∃ t, exec .watchdog s = .next t
        ∧ t.power.watchdogs = s.now :: s.power.watchdogs.filter (fun x => decide (s.now ≤ x + 30000000))
        ∧ t.power.halted = (s.power.halted || decide (3 ≤ t.power.watchdogs.length)))
    ∧ (∀ (via : Via) (u : State), Reaches via 0x2204 6 1 none s u 1 → doorsQuiet s = true → zeroSpeed s = true →
      ∃ t, exec (.deviceReset via 1) s = .next t
        ∧ t.answer = some 0 ∧ (s.power.planned = none → t.power.planned = some (s.now + 5000, 128)) ∧ (s.power.planned ≠ none → t.power.planned = s.power.planned)
        ∧ t.running = true
        ∧ KeepsRegs accessRegs s t ∧ OnlyAccess { s with power := { s.power with planned := t.power.planned } } t)

/-- The boot (R457, R527, R531, R533, R536) and the restores (R290, R292, R440). A boot with images that hold, no recovery strap and no halt enters RUN with its doors: the causes are shown, counted and raised, the
configuration is in force, the identity follows part and straps, the node announces itself; a record of the recorder that fails
its check is counted, flagged and reported. A recovery strap, or images that fail, boot without doors, and a
halted boot says so. A write to a member of the safety set under WRITE_ENABLE is stored, unconfirms the set and releases the token; the restores wait for the
next device reset, and that of the set also unconfirms it. -/
def Obligations.BootAndRestore : Prop :=
  ∀ (s : State),
    (∀ (appOk safetyOk : List Bool) (bad : List Nat), s.power.phase = .reset → s.power.brown = false → s.power.held = [] →
        ∀ mode : Nat, mode = bootMode s ([0, 1].map (fun i => appOk.getD i false && s.rdn (Gl.SLOT_STATE i) != 2))
          ([0, 1].map (fun i => safetyOk.getD i false && s.rdn (Gl.SLOT_STATE (2 + i)) != 2)) →
      ∃ t, exec (.boot { app := appOk, safety := safetyOk } bad) s = .next t
        ∧ t.running = true ∧ t.rdn Gl.BOOT_MODE = mode ∧ t.rdn Gl.RESET_CAUSE = s.power.causes ∧ t.power.causes = 0 ∧ t.power.bootedAt = some s.now
        ∧ (t.operating = true ↔ mode = 0) ∧ (mode = 3 ↔ s.power.halted = true)
        ∧ (s.power.causes ≠ 512 → t.rdn Gl.RESETS = min (s.rdn Gl.RESETS + 1) max32)
        ∧ ((∀ x, x ∈ bad → x / 65536 ≠ 6) → Counted 0x3081 s t ∧ (mode = 3 → Counted 0x0083 s t) ∧ (mode = 1 ∨ mode = 2 → Counted 0x1084 s t))
        ∧ (bad = [] → t.rd Gl.RECORDS_CORRUPTED = s.rd Gl.RECORDS_CORRUPTED)
        ∧ (∀ x, bad = [x] → 1 ≤ x / 65536 → x / 65536 ≤ 7 → x % 65536 < areaRecords s (x / 65536) →
          t.rdn Gl.RECORDS_CORRUPTED = min (s.rdn Gl.RECORDS_CORRUPTED + 1) max32 ∧ t.bit Gl.RECORDER_STATUS 10 = true
          ∧ (x / 65536 ≠ 6 → Counted 0x3004 s t))
        ∧ (∀ k, k ∈ [Gl.SYNC_PERIOD, Gl.LEARN_FLOOR, Gl.EVENT_CLASS_MAX, Ax.ENV_K_CLOSE 0] → t.rd k = s.rd k ∧ t.p k = s.rd k)
        ∧ t.rdn Gl.DOORWAYS_PRESENT = s.doorways ∧ t.rdn Gl.DOORWAYS_CONFIGURED = s.doorwaysConfigured ∧ t.rd Gl.ROLE = b2i (s.bit Gl.STRAPS 0)
        ∧ t.rdn Gl.NODE_ID = (if s.rdn Gl.NODE_ID_SET = 0 then strapNodeId s else s.rdn Gl.NODE_ID_SET)
        ∧ t.rdn Gl.BOOT_TIME_DICT ≤ 250000 ∧ t.rdn Gl.BOOT_TIME_DOORS ≤ 400000 ∧ t.holds = (s.holds && mayHold t) ∧ t.now = s.now)
    ∧ (∀ (via : Via) (index sub : Nat) (v : Int), (index, sub) ∈ [(0x5020, 1), (0x5050, 8), (0x5050, 9)] → ∀ u : State, Reaches via index sub v none s u v →
        (setChecks index sub v u).any (·.1) = false → s.rdb Gl.WRITE_ENABLE = true →
      ∃ t, exec (.safetySetWrite via index sub v) s = .next t
        ∧ t.answer = some 0 ∧ t.rd (key index sub) = v ∧ t.rd Gl.CONFIRM = 0 ∧ t.rdn Gl.SET_STATE ≠ 1 ∧ t.holds = false
        ∧ t.p (key index sub) = s.p (key index sub)
        ∧ KeepsRegs ([key index sub, Gl.CONFIRM, Gl.SET_STATE, Gl.CHECK_VALUE, Gl.CHECK_VALUE_B] ++ accessRegs) s t)
    ∧ (∀ (via : Via) (u : State), Reaches via 0x1011 1 0x64616F6C none s u 0x64616F6C →
      ∃ t, exec (.restoreDefaults via 0x64616F6C) s = .next t
        ∧ t.answer = some 0 ∧ t.power.restore = true ∧ KeepsRegs accessRegs s t
        ∧ OnlyAccess { s with power := { s.power with restore := true } } t)
    ∧ (∀ (via : Via) (u : State), Reaches via 0x1011 2 0x64616F6C none s u 0x64616F6C → s.rdb Gl.WRITE_ENABLE = true →
      ∃ t, exec (.restoreSafetyDefaults via 0x64616F6C) s = .next t
        ∧ t.answer = some 0 ∧ t.power.restoreSafety = true ∧ t.rd Gl.CONFIRM = 0 ∧ t.rdn Gl.SET_STATE ≠ 1 ∧ t.holds = false
        ∧ KeepsRegs ([Gl.CONFIRM, Gl.SET_STATE] ++ accessRegs) s t)

/-- DEVICE_RESET (R528). A write of 1 at Maintainer level or above, with every participating doorway closed and locked or isolated and the train at zero speed, is answered, and the
reset is planned 100 ms later with cause COMMAND; with a door in motion or without zero speed it is refused with 0x0800 0022, above 1 with 0x0609 0030, at a lower level
with 0x0900 0010. The planned reset is performed when it is due, and NMT reset node resets nothing. -/
def Obligations.DeviceReset : Prop :=
  ∀ (s : State) (via : Via),
    (∀ u : State, Reaches via 0x2204 6 1 none s u 1 →
      (doorsQuiet s = true → zeroSpeed s = true → s.power.planned = none →
        ∃ t, exec (.deviceReset via 1) s = .next t
          ∧ t.answer = some 0 ∧ t.power.planned = some (s.now + 5000, 128) ∧ t.running = true
          ∧ (∀ m, via = .msg m → Egress.response m.source 0 3 ∈ t.egress)
          ∧ KeepsRegs accessRegs s t ∧ OnlyAccess { s with power := { s.power with planned := t.power.planned } } t)
      ∧ (doorsQuiet s = false ∨ zeroSpeed s = false →
        ∃ t, exec (.deviceReset via 1) s = .next t ∧ t.answer = some 0x08000022 ∧ KeepsRegs accessRegs s t ∧ OnlyAccess s t))
    ∧ (∀ (v : Int) (u : State), front via 3 (0x2204, 6, .num v, none) s = .go u →
      (1 < v → v ≤ 255 → (via = .mirror ∨ levelMayWrite .rwm (levelOf via u) = true) → s.rdn Gl.SECURITY_STATE ≠ 3 →
        ∃ t, exec (.deviceReset via v) s = .next t ∧ t.answer = some 0x06090030 ∧ KeepsRegs accessRegs s t ∧ OnlyAccess s t)
      ∧ (via ≠ .mirror → levelMayWrite .rwm (levelOf via u) = false →
        ∃ t, exec (.deviceReset via v) s = .next t ∧ t.answer = some 0x09000010 ∧ KeepsRegs accessRegs s t ∧ OnlyAccess s t))
    ∧ (∀ at_ : Nat, s.running = true → s.power.planned = some (at_, 128) → at_ ≤ s.now →
      ∃ t, exec (.internalReset 128) s = .next t
        ∧ t.power.phase = .reset ∧ t.power.causes = (s.power.causes ||| 128) ∧ t.running = false ∧ t.power.planned = none)
    ∧ (∃ t, exec (.nmtCommand 129) s = .next t ∧ t.power = s.power ∧ t.running = s.running)

/-! ### Identity and sessions (chapter 16) -/

/-- Opening and closing a session (R505 to R508). A credential of 1 to 2048 bytes begins the source's handshake anew. A request of 90 bytes that names a credential or level
the anchor does not grant is refused with 0x0609 0030, one beyond four sessions or in the lockout with 0x0800 0022; any other is accepted, and the challenge is then read with
the device's signature over the transcript. A proof that verifies within 10 s lets the session open; one that does not is counted, flagged and raised, and the eighth
within 600 s locks every request out. A handshake ends 10 s after its request, the lockout in its time, and a session by its own SESSION_CLOSE. -/
def Obligations.SessionHandshake : Prop :=
  ∀ (s : State),
    (∀ (source : Nat) (bs : List ByteN) (u : State), ReachesBytes (viaOf source) 0x2320 1 bs s u → 1 ≤ bs.length → bs.length ≤ 2048 →
      ∃ t, exec (.sessionCredential source bs) s = .next t
        ∧ t.answer = some 0 ∧ t.shake source = some { credential := bs } ∧ (∀ n, n ≠ source → t.shake n = s.shake n)
        ∧ KeepsRegs accessRegs s t ∧ OnlyAccess { s with sec := { s.sec with handshakes := t.sec.handshakes } } t)
    ∧ (∀ (source : Nat) (bs : List ByteN) (u : State), ReachesBytes (viaOf source) 0x2320 2 bs s u → bs.length = 90 →
      ∀ h, h = (s.shake source).getD {} →
      ∃ t, exec (.sessionRequest source bs) s = .next t
        ∧ KeepsRegs accessRegs s t ∧ OnlyAccess { s with sec := { s.sec with handshakes := t.sec.handshakes } } t
        ∧ (if requestBad s h (bs.getD 0 0) (bs.getD 1 0) = true then t.answer = some 0x06090030 ∧ t.sec = s.sec
           else if 4 ≤ (liveSessions s).length ∨ handshakesLocked s = true then t.answer = some 0x08000022 ∧ t.sec = s.sec
           else t.answer = some 0 ∧ (∀ n, n ≠ source → t.shake n = s.shake n)
             ∧ ∃ x, t.shake source = some x ∧ x.credential = h.credential ∧ x.level = bs.getD 0 0 ∧ x.anchor = bs.getD 1 0
                 ∧ x.toolKey = (bs.drop 2).take 56 ∧ x.toolNonce = bs.drop 58 ∧ x.asked = some s.now
                 ∧ (freeNumbers s ≠ [] → x.num ∈ freeNumbers s)
                 ∧ x.deviceKey = Config.x448 x.deviceScalar (5 :: List.replicate 55 0)))
    ∧ (∀ source : Nat, readArrives source 0x2320 3 s = true → ∀ h, s.shake source = some h →
      ∃ t, exec (.sessionChallenge source) s = .next t
        ∧ KeepsRegs accessRegs s t ∧ OnlyAccess s t
        ∧ (if h.asked = none then t.answer = some 0x08000022 ∧ t.egress = s.egress ++ [.response source 0x08000022 3]
           else t.answer = some 0
             ∧ t.egress = s.egress ++ [.bulkResponse source
                 ([h.num] ++ h.deviceKey ++ h.deviceNonce ++ Config.deviceSign (withContext "D16-SESSION-D" (transcript s h)))]))
    ∧ (∀ (source : Nat) (bs : List ByteN) (u : State), ReachesBytes (viaOf source) 0x2320 4 bs s u → bs.length = 114 →
      ∀ h, s.shake source = some h →
      (∀ at_, h.asked = some at_ → s.now < at_ + 500000 →
        ∃ t, exec (.sessionProof source bs) s = .next t
          ∧ (if Config.ed448Ok (Config.certKey h.credential) (withContext "D16-SESSION-T" (transcript s h)) bs = false then
              t.answer = some 0x06090030 ∧ Counted 0x20C2 s t
                ∧ t.rdn Gl.AUTH_FAILURES = min (s.rdn Gl.AUTH_FAILURES + 1) max32 ∧ t.bit Gl.SECURITY_STATUS 9 = true
                ∧ t.sec.refused = s.now :: s.sec.refused.filter (fun n => decide (s.now < n + 30000000))
                ∧ (8 ≤ t.sec.refused.length → t.sec.lockUntil = some (s.now + 30000000) ∧ t.bit Gl.SECURITY_STATUS 2 = true)
                ∧ (t.sec.refused.length < 8 → t.sec.lockUntil = s.sec.lockUntil ∧ t.bit Gl.SECURITY_STATUS 2 = s.bit Gl.SECURITY_STATUS 2)
                ∧ KeepsRegs ([Gl.SECURITY_STATUS, Gl.SECURITY_REPEATS 1] ++ accessRegs ++ eventRegs) s t
                ∧ OnlyAccess { s with sec := { s.sec with refused := t.sec.refused, lockUntil := t.sec.lockUntil } } t
             else if 4 ≤ (liveSessions s).length + s.sec.opening.length then t.answer = some 0x08000022 ∧ KeepsRegs accessRegs s t ∧ OnlyAccess s t
             else t.answer = some 0 ∧ t.shake source = none ∧ (∀ n, n ≠ source → t.shake n = s.shake n)
               ∧ (∃ x : Session, t.sec.opening = s.sec.opening ++ [x] ∧ x.num = h.num ∧ x.level = levelNum h.level ∧ x.anchor = h.anchor
                   ∧ x.counter = 0 ∧ x.source = source
                   ∧ x.key = Config.kmac256 (Config.x448 h.deviceScalar h.toolKey) (withContext "D16-SESSION-KEY" (transcript s h)) 32)
               ∧ KeepsRegs accessRegs s t
               ∧ OnlyAccess { s with sec := { s.sec with handshakes := t.sec.handshakes, opening := t.sec.opening } } t))
      ∧ (h.asked = none ∨ heldFor h.asked s.now 500000 = true →
        ∃ t, exec (.sessionProof source bs) s = .next t ∧ t.answer = some 0x08000022 ∧ KeepsRegs accessRegs s t ∧ OnlyAccess s t))
    ∧ (∀ source : Nat, ∀ h, s.shake source = some h → heldFor h.asked s.now 500000 = true →
      ∃ t, exec (.handshakeTimeout source) s = .next t
        ∧ t.shake source = none ∧ (∀ n, n ≠ source → t.shake n = s.shake n)
        ∧ KeepsRegs [] s t ∧ OnlyRegs { s with sec := { s.sec with handshakes := t.sec.handshakes } } t)
    ∧ (due s.sec.lockUntil s.now = true →
      ∃ t, exec .handshakeLockoutEnd s = .next t
        ∧ t.bit Gl.SECURITY_STATUS 2 = false ∧ (∀ i, i ≠ 2 → t.bit Gl.SECURITY_STATUS i = s.bit Gl.SECURITY_STATUS i)
        ∧ KeepsRegs [Gl.SECURITY_STATUS] s t ∧ OnlyRegs { s with sec := { s.sec with lockUntil := none, refused := [] } } t)
    ∧ (∀ (m : Msg) (v : Int) (u : State), Reaches (.msg m) 0x2320 5 v none s u v → m.session ≠ 0 →
      (v = m.session →
        ∃ t, exec (.sessionClose (.msg m) v) s = .next t
          ∧ t.answer = some 0 ∧ t.rdn Gl.SESSIONS_OPEN = t.sessions.length
          ∧ KeepsRegs (Gl.SESSIONS_OPEN :: accessRegs) s t
          ∧ OnlyAccess { s with sessions := s.sessions.filter (fun x => x.num != m.session) } t)
      ∧ (v ≠ m.session →
        ∃ t, exec (.sessionClose (.msg m) v) s = .next t ∧ t.answer = some 0x06090030 ∧ KeepsRegs accessRegs s t ∧ OnlyAccess s t))

/-- Attestation, anchors, the co-signature and debug (R503, R504, R510, R517 to R519). A nonce is taken for the report of the next door tick; a blob that the vendor signed, for
this part, with a higher generation waits for that tick. Only the Commissioner changes key and policy, with the event. An unlock to a higher level, with
every door closed and locked, waits for the door tick. The end-of-test fuse leads from MANUFACTURE to SECURED. RMA, on the vendor's signature, forces the safe state, erases
keys, sessions and configuration, and resets at once. -/
def Obligations.IdentityAndDebug : Prop :=
  ∀ (s : State),
    (∀ (via : Via) (bs : List ByteN) (u : State), ReachesBytes via 0x2330 1 bs s u →
      (bs.length = 32 →
        ∃ t, exec (.attestNonce via bs) s = .next t
          ∧ t.answer = some 0 ∧ KeepsRegs accessRegs s t ∧ OnlyAccess { s with sec := { s.sec with nonce := bs, nonceDue := true } } t)
      ∧ (bs.length ≠ 32 →
        ∃ t, exec (.attestNonce via bs) s = .next t ∧ t.answer = some 0x06070010 ∧ KeepsRegs accessRegs s t ∧ OnlyAccess s t))
    ∧ (∀ (via : Via) (bs : List ByteN) (u : State), ReachesBytes via 0x2318 1 bs s u → bs.length = 181 →
      ∃ t, exec (.anchorInstall via bs) s = .next t
        ∧ KeepsRegs accessRegs s t ∧ OnlyAccess { s with sec := { s.sec with anchors := t.sec.anchors } } t
        ∧ (if Config.ed448Ok Config.vendorKey (withContext "D16-ANCHOR" (bs.take 67)) (bs.drop 67) = true ∧ bs.getD 0 0 ≤ 7 ∧ bs.getD 1 0 ≤ 2
              ∧ leVal ((bs.drop 63).take 4) = s.rdn Gl.SERIAL ∧ s.rdn (An.ANCHOR_GENERATION (bs.getD 0 0)) < leVal ((bs.drop 2).take 4) then
            t.answer = some 0 ∧ t.sec.anchors = s.sec.anchors ++ [bs.take 67]
          else t.answer = some 0x06090030 ∧ t.sec.anchors = s.sec.anchors))
    ∧ (∀ (via : Via) (key_ : List ByteN) (u : State), ReachesBytes via 0x2319 1 key_ s u → key_.length = 57 →
        (via = .mirror ∨ levelOf via u = .commissioner) → (key_.all (· == 0) = false ∨ s.rdn Gl.COSIGN_POLICY ≠ 1) →
      ∃ t, exec (.cosignChange via (some key_) none) s = .next t
        ∧ t.answer = some 0 ∧ t.blob Gl.COSIGN_KEY = key_ ∧ (∀ k, k ≠ Gl.COSIGN_KEY → t.blob k = s.blob k) ∧ Counted 0x20CA s t
        ∧ KeepsRegs (accessRegs ++ eventRegs) s t ∧ OnlyAccess { s with blobs := t.blobs } t)
    ∧ (∀ (via : Via) (v : Int) (u : State), Reaches via 0x2319 2 v (some (fun l => l == .commissioner)) s u v →
        (v = 0 ∨ v = 1 ∧ (s.blob Gl.COSIGN_KEY).all (· == 0) = false) →
      ∃ t, exec (.cosignChange via none (some v)) s = .next t
        ∧ t.answer = some 0 ∧ t.rd Gl.COSIGN_POLICY = v ∧ Counted 0x20CA s t
        ∧ KeepsRegs (Gl.COSIGN_POLICY :: accessRegs ++ eventRegs) s t ∧ OnlyAccess s t)
    ∧ (∀ (c : Instr) (level : Int), (c, level) ∈ [(Instr.debugUnlockObserve .sdo, 1), (Instr.debugUnlockHalt .sdo, 2)] →
        ∀ u, front .sdo 3 (0x2300, 3, .num level, none) s = .go u →
      ∃ t, exec c s = .next t ∧ t.answer = some 0x09000010 ∧ KeepsRegs accessRegs s t ∧ OnlyAccess s t)
    ∧ (s.rdn Gl.SECURITY_STATE = 1 ∨ s.rdn Gl.SECURITY_STATE = 2 → doorsQuiet s = true → zeroSpeed s = true → ∀ via : Via,
      (∀ u, Reaches via 0x2300 3 1 (some (fun l => l == .commissioner || l == .vendor)) s u 1 → s.rdn Gl.DEBUG_LEVEL = 0 →
        ∃ t, exec (.debugUnlockObserve via) s = .next t
          ∧ t.answer = some 0 ∧ t.rd Gl.DEBUG_LEVEL = s.rd Gl.DEBUG_LEVEL ∧ KeepsRegs accessRegs s t
          ∧ OnlyAccess { s with sec := { s.sec with debugDue := some 1 } } t)
      ∧ (∀ u, Reaches via 0x2300 3 2 (some (fun l => l == .commissioner || l == .vendor)) s u 2 → s.rdn Gl.DEBUG_LEVEL ≤ 1 →
        ∃ t, exec (.debugUnlockHalt via) s = .next t
          ∧ t.answer = some 0 ∧ t.rd Gl.DEBUG_LEVEL = s.rd Gl.DEBUG_LEVEL ∧ KeepsRegs accessRegs s t
          ∧ OnlyAccess { s with sec := { s.sec with debugDue := some 2 } } t))
    ∧ (s.rdn Gl.SECURITY_STATE = 0 →
      ∃ t, exec .endOfTestFuse s = .next t ∧ t.rd Gl.SECURITY_STATE = 1 ∧ KeepsRegs [Gl.SECURITY_STATE] s t ∧ OnlyRegs s t)
    ∧ (∀ (via : Via) (bs : List ByteN) (u : State), ReachesBytes via 0x2340 1 bs s u → (via = .mirror ∨ levelOf via u = .vendor) → bs.length = 150 →
      ∃ t, exec (.rmaCommand via bs) s = .next t
        ∧ (if leVal (bs.take 4) ≠ s.rdn Gl.SERIAL ∨ (bs.drop 4).take 32 ≠ s.sec.nonce
              ∨ Config.ed448Ok Config.vendorKey (withContext "D16-RMA" (bs.take 36)) (bs.drop 36) = false then
            t.answer = some 0x06090030 ∧ KeepsRegs accessRegs s t ∧ OnlyAccess s t
          else if doorsQuiet s = false ∨ zeroSpeed s = false ∨ s.rdn Gl.SECURITY_STATE = 0 then t.answer = some 0x08000022 ∧ KeepsRegs accessRegs s t ∧ OnlyAccess s t
          else t.answer = some 0 ∧ t.rd Gl.SECURITY_STATE = 3 ∧ t.power.planned = some (s.now, 256) ∧ Counted 0x20CB s t
            ∧ t.sec.deviceKey = false ∧ t.sessions = [] ∧ t.sec.handshakes = [] ∧ t.blobs = [] ∧ t.holds = false
            ∧ t.safety.debugSafe = true ∧ t.safety.stoA = allAxesMask s ∧ t.safety.stoB = allAxesMask s ∧ t.safety.soA = 0 ∧ t.safety.soB = 0
            ∧ (∀ k, k ∈ [Gl.SYNC_PERIOD, Gl.LEARN_FLOOR, Ax.ENV_K_CLOSE 0] → getD (dictDefault k) t.nv k = dictDefault k)))

/-- Firmware (R511 to R514, R516). The first segment marks the inactive slot INVALID and discards an open segmented write of its source, which is counted; segments in order are taken and stand in the slot; at FINAL the first failing check of R512 is
shown in FW_RESULT and refuses the write, and an image that passes becomes VALID with its event. FW_ACTIVATE commits the slot as the boot choice and plans the reset after
100 ms; FW_CONFIRM ends the trial, and raises the rollback counter to a higher version with the next fuse. -/
def Obligations.FirmwareUpdate : Prop :=
  ∀ (s : State),
    (∀ (via : Via) (offset len : Nat) (bs : List ByteN) (final : Option FwVerdict) (u : State), front via 3 (fwContent offset bs final) s = .go u →
        levelMayWrite .rwm (levelOf via u) = true → s.rdn Gl.SECURITY_STATE ≠ 3 → bs.length = len → len ≤ 1024 →
        offset + len ≤ (if s.rdn Gl.FW_TARGET = 1 then 3145728 else 524288) →
        s.sec.activated = none → s.rdn Gl.BOOT_STATE ≠ 1 → s.bit Gl.SECURITY_STATUS 0 = false →
        s.net.segs.any (fun x => x.1 != segSource via && x.2.index == 0x2201 && x.2.sub == 2 && !x.2.timedOut) = false →
        s.rdn Gl.FW_TARGET = 1 ∨ s.rdn Gl.FW_TARGET = 2 → s.rdn Gl.APP_ACTIVE_SLOT ≤ 1 → s.rdn Gl.SAFETY_ACTIVE_SLOT ≤ 1 →
        (offset = 0 ∨ ∃ w ∈ lookup (segSource via) s.net.segs,
          w.index = 0x2201 ∧ w.sub = 2 ∧ w.timedOut = false ∧ s.now ≤ w.last + segPause (segSource via) ∧ offset = s.sec.received) →
      ∀ slot, slot = targetSlot s (s.rdn Gl.FW_TARGET) → ∀ img, img = (slotImage s slot).take offset ++ bs →
      ∀ dropped, dropped = (if offset = 0 ∧ ((lookup (segSource via) s.net.segs).any (fun w => !w.timedOut)) = true then
          min (s.rdn Gl.SEGMENTED_WRITES_DISCARDED + 1) max32 else s.rdn Gl.SEGMENTED_WRITES_DISCARDED) →
      (final = none →
        ∃ t, exec (.fwImage via offset bs final) s = .next t
          ∧ t.answer = some 0 ∧ t.rdn Gl.SEGMENTED_WRITES_DISCARDED = dropped ∧ t.sec.received = offset + len ∧ (offset = 0 → t.rd (Gl.SLOT_STATE slot) = 2)
          ∧ (∃ w ∈ lookup (segSource via) t.net.segs, w.index = 0x2201 ∧ w.sub = 2 ∧ w.last = s.now ∧ w.timedOut = false)
          ∧ KeepsRegs ((if offset = 0 then [Gl.SLOT_STATE slot, Gl.SEGMENTED_WRITES_DISCARDED] else []) ++ accessRegs) s t
          ∧ slotImage t slot = img ∧ OnlyAccess { s with sec := { s.sec with received := offset + len, images := t.sec.images } } t)
      ∧ (∀ v, final = some v → ∀ h, h = fwHeader img v → ∀ r, r = imageResult s h (offset + len) →
        ∃ t, exec (.fwImage via offset bs final) s = .next t
          ∧ t.rdn Gl.FW_RESULT = r ∧ t.rdn Gl.SEGMENTED_WRITES_DISCARDED = dropped ∧ lookup (segSource via) t.net.segs = none
          ∧ t.answer = some (if r = 1 then 0 else 0x06090030)
          ∧ (r = 1 → t.rd (Gl.SLOT_STATE slot) = 1 ∧ t.rdn (Gl.SLOT_REVISION slot) = h.revision
              ∧ t.rdn (Gl.SLOT_SECURITY_VERSION slot) = h.securityVersion ∧ Counted 0x20C3 s t)
          ∧ (r ≠ 1 → offset = 0 → t.rd (Gl.SLOT_STATE slot) = 2) ∧ (r ≠ 1 → offset ≠ 0 → t.rd (Gl.SLOT_STATE slot) = s.rd (Gl.SLOT_STATE slot))
          ∧ KeepsRegs ([Gl.FW_RESULT, Gl.SLOT_STATE slot] ++ (if offset = 0 then [Gl.SEGMENTED_WRITES_DISCARDED] else []) ++ (if r = 1 then [Gl.SLOT_REVISION slot, Gl.SLOT_SECURITY_VERSION slot] ++ eventRegs else [])
              ++ accessRegs) s t
          ∧ slotImage t slot = img ∧ OnlyAccess { s with sec := { s.sec with received := 0, images := t.sec.images } } t))
    ∧ (∀ (via : Via) (u : State), Reaches via 0x2201 4 1 none s u 1 → s.bit Gl.SECURITY_STATUS 0 = false →
        s.rdn (Gl.SLOT_STATE (targetSlot s (s.rdn Gl.FW_TARGET))) = 1 → s.rdn Gl.BOOT_STATE = 0 →
        (s.rdn Gl.BOOT_MODE = 1 ∨ s.rdn Gl.BOOT_MODE = 2 ∨ doorsQuiet s = true ∧ zeroSpeed s = true) →
      ∃ t, exec (.fwActivate via 1) s = .next t
        ∧ t.answer = some 0 ∧ t.sec.activated = some (s.rdn Gl.FW_TARGET)
        ∧ (s.rdn Gl.FW_TARGET = 1 → t.sec.appChoice = targetSlot s 1) ∧ (s.rdn Gl.FW_TARGET = 2 → t.sec.safetyChoice + 2 = targetSlot s 2)
        ∧ (s.power.planned = none → t.power.planned = some (s.now + 5000, 64)) ∧ Counted 0x20C4 s t
        ∧ t.running = true ∧ t.rd Gl.BOOT_STATE = 0
        ∧ KeepsRegs (accessRegs ++ eventRegs) s t
        ∧ OnlyAccess { s with
            sec := { s.sec with activated := t.sec.activated, appChoice := t.sec.appChoice, safetyChoice := t.sec.safetyChoice }
            power := { s.power with planned := t.power.planned, ignoreRec := t.power.ignoreRec } } t)
    ∧ (∀ (via : Via) (u : State), Reaches via 0x2201 5 1 none s u 1 → s.bit Gl.SECURITY_STATUS 0 = false → s.rdn Gl.BOOT_STATE = 1 →
      ∀ ver, ver = s.rdn (Gl.SLOT_SECURITY_VERSION (trialSlot s)) →
      ∃ t, exec (.fwConfirm via 1) s = .next t
        ∧ t.answer = some 0 ∧ t.rd Gl.BOOT_STATE = 0 ∧ t.bit Gl.SECURITY_STATUS 3 = false ∧ t.sec.trial = 0 ∧ Counted 0x20C5 s t
        ∧ (s.rdn Gl.ROLLBACK_COUNTER < ver → s.rdn Gl.ROLLBACK_FUSES < 64 →
            t.rdn Gl.ROLLBACK_COUNTER = ver ∧ t.rdn Gl.ROLLBACK_FUSES = s.rdn Gl.ROLLBACK_FUSES + 1 ∧ t.sec.version = ver
              ∧ t.sec.raises = s.sec.raises + 1 ∧ Counted 0x20C7 s t)
        ∧ (s.rdn Gl.ROLLBACK_COUNTER < ver → s.rdn Gl.ROLLBACK_FUSES = 64 →
            t.rd Gl.ROLLBACK_COUNTER = s.rd Gl.ROLLBACK_COUNTER ∧ t.bit Gl.SECURITY_STATUS 1 = true)
        ∧ (ver ≤ s.rdn Gl.ROLLBACK_COUNTER → t.rd Gl.ROLLBACK_COUNTER = s.rd Gl.ROLLBACK_COUNTER ∧ t.rd Gl.ROLLBACK_FUSES = s.rd Gl.ROLLBACK_FUSES)
        ∧ KeepsRegs ([Gl.BOOT_STATE, Gl.SECURITY_STATUS, Gl.ROLLBACK_COUNTER, Gl.ROLLBACK_FUSES] ++ accessRegs ++ eventRegs) s t
        ∧ OnlyAccess { s with sec := t.sec } t)

/-! ### The three ticks (chapters 1, 3 and 16) -/

/-- Ticks (R22 to R24, R26, R85, R119, R441, R498, R503 to R507). A fast tick lets time pass by one and, on a running module, counts it and sends off what waited for the wire. A motion tick acts once at each
count divisible by 5 and a door tick at each divisible by 50, at any other moment neither does anything. A motion tick moves nothing while the doors do not run or their domain is off: on an operating module only the channels' signals are then exchanged; an axis that every link holds in STO then demands no current, and its set-point follows its position. A door
tick shows what the dies and the monitors measured; an accepted anchor replaces its slot, an accepted session opens, an accepted unlock takes effect, and the report is
signed for the last nonce. -/
def Obligations.Ticks : Prop :=
  ∀ (s : State),
    (s.running = false →
      ∃ t, exec .fastTick s = .next t
        ∧ t.now = s.now + 1 ∧ KeepsRegs [Gl.RTC_TIME] s t
        ∧ OnlyRegs { s with now := s.now + 1, power := { s.power with rtcPart := t.power.rtcPart } } t)
    ∧ (s.running = true → s.operating = false → s.power.sleepFrom = none → s.net.emcyWait = [] →
      ∃ t, exec .fastTick s = .next t
        ∧ t.now = s.now + 1 ∧ t.rdn Gl.FAST_TICK_COUNT = (s.rdn Gl.FAST_TICK_COUNT + 1) % 4096000000 ∧ t.egress = []
        ∧ (∀ p, p < 2 → s.rdn (Et.TX_FRAMES p) + (s.egress.filter (fun e => etherPort e == some p)).length ≤ max32 →
            t.rdn (Et.TX_FRAMES p) = s.rdn (Et.TX_FRAMES p) + (s.egress.filter (fun e => etherPort e == some p)).length)
        ∧ KeepsRegs [Gl.RTC_TIME, Gl.FAST_TICK_COUNT, Et.TX_FRAMES 0, Et.TX_FRAMES 1] s t
        ∧ OnlyRegs { s with now := s.now + 1, egress := [], power := { s.power with rtcPart := t.power.rtcPart },
                            boundary := { s.boundary with cleared := t.boundary.cleared } } t)
    ∧ (s.operating = false ∨ s.bit Gl.DOMAINS_ON 4 = false → motionDue s = true →
      ∃ t, exec .motionTick s = .next t ∧ KeepsRegs [] s t
        ∧ OnlyRegs { s with boundary := { s.boundary with motionAt := some s.now }, safety := if s.operating then s.channelSignals.safety else s.safety } t)
    ∧ (motionDue s = false → ∃ t, exec .motionTick s = .next t ∧ KeepsRegs [] s t ∧ OnlyRegs s t)
    ∧ (motionDue s = true → s.operating = true → s.bit Gl.DOMAINS_ON 4 = true → s.safety.linkSto = true → ∀ a, a ∈ allAxes s →
      ∃ t, exec .motionTick s = .next t
        ∧ t.now = s.now ∧ t.rd (Ax.IQ_DEMAND a) = 0 ∧ t.rd (Ax.FOLLOWING_ERROR a) = 0
        ∧ (t.axis a).setNm = (t.axis a).posNm ∧ t.rd (Ax.POSITION_SETPOINT a) = max (-2000000) (min 2000000 (divRound (t.axis a).posNm 1000)))
    ∧ (∀ rep : DoorReport, doorDue s = false → ∃ t, exec (.doorTick rep) s = .next t ∧ KeepsRegs [] s t ∧ OnlyRegs s t)
    ∧ (∀ rep : DoorReport, s.running = false → doorDue s = true →
      ∃ t, exec (.doorTick rep) s = .next t ∧ KeepsRegs [] s t ∧ OnlyRegs { s with boundary := { s.boundary with doorAt := some s.now } } t)
    ∧ (∀ rep : DoorReport, doorDue s = true → s.running = true →
      ∃ t, exec (.doorTick rep) s = .next t
        ∧ t.sec.anchors = [] ∧ t.sec.opening = [] ∧ t.sec.nonceDue = false ∧ t.sec.debugDue = none ∧ t.power.command = none ∧ t.power.sleepAsked = false)
    ∧ (∀ rep : DoorReport, doorDue s = true → s.running = true → s.operating = false →
      ∃ t, exec (.doorTick rep) s = .next t
        ∧ t.now = s.now
        ∧ (∀ x, rep.temps = some x → t.rd Gl.LOGIC_TEMP = max (-550) (min 1500 x.1) ∧ t.rd Gl.FIELD_A_TEMP = max (-550) (min 1750 x.2.1)
            ∧ t.rd Gl.FIELD_B_TEMP = max (-550) (min 1750 x.2.2))
        ∧ (∀ x, rep.supplies = some x → t.rdn Gl.VDD_AON = min 5000 x.1 ∧ t.rdn Gl.VDD_IO = min 5000 x.2.1 ∧ t.rdn Gl.VDDA = min 3000 x.2.2.1
            ∧ t.rdn Gl.VDD_CORE = min 1500 x.2.2.2)
        ∧ (s.sec.nonceDue = true → s.sec.nonce.length = 32 → ((t.blob Gl.ATTEST_REPORT).drop 12).take 32 = s.sec.nonce)
        ∧ (∀ b, s.sec.anchors = [b] → b.getD 0 0 ≤ 7 →
            t.rdn (An.ANCHOR_GENERATION (b.getD 0 0)) = leVal ((b.drop 2).take 4) ∧ t.rdn (An.ANCHOR_MAX_LEVEL (b.getD 0 0)) = b.getD 1 0
              ∧ t.blob (An.ANCHOR_KEY (b.getD 0 0)) = (b.drop 6).take 57 ∧ t.sessions.all (fun x => x.anchor != b.getD 0 0) = true)
        ∧ (s.sec.anchors = [] → t.sessions = s.sessions ++ s.sec.opening)
        ∧ (s.sec.opening ≠ [] → t.rdn Gl.SESSIONS_OPEN = t.sessions.length)
        ∧ (∀ l, s.sec.debugDue = some l → t.rdn Gl.DEBUG_LEVEL = l ∧ t.rd Gl.SECURITY_STATE = 2
            ∧ t.rdn Gl.DEBUG_UNLOCKS = min (s.rdn Gl.DEBUG_UNLOCKS + 1) max32
            ∧ (l = 2 → t.safety.debugSafe = true ∧ t.safety.stoA = allAxesMask t ∧ t.safety.soA = 0 ∧ t.holds = false)))

/-- The fast tick counts time (R22, R26): on every running module FAST_TICK_COUNT goes on by one, from 0xF423FFFF to 0, whatever else the tick does, and no other tick moves
it or the time. -/
def Obligations.FastTickCounts : Prop :=
  ∀ (s : State), s.running = true →
    (∃ t, exec .fastTick s = .next t
      ∧ t.now = s.now + 1 ∧ t.rdn Gl.FAST_TICK_COUNT = (s.rdn Gl.FAST_TICK_COUNT + 1) % 4096000000)
    ∧ (∃ t, exec .motionTick s = .next t ∧ t.now = s.now ∧ t.rd Gl.FAST_TICK_COUNT = s.rd Gl.FAST_TICK_COUNT)
    ∧ (∀ rep : DoorReport, ∃ t, exec (.doorTick rep) s = .next t ∧ t.now = s.now ∧ t.rd Gl.FAST_TICK_COUNT = s.rd Gl.FAST_TICK_COUNT)
end

