-- ==== Sys2Proof/Machine/Arrive.lean ====
section
/-!
DEFINITION. The order in which work waits for the message engine (R38): how a command that arrives joins the queue. A step takes what
stands in front; a sender that follows R38 enters its commands by `State.arrive`.
-/
namespace Sys2Proof.Machine

/-- Class of a dictionary request that came in a frame of a network (R434); a PDO is C1, and the mirror is no work of the engine. -/
def frameClass (via : Via) (index sub : Nat) (segmented : Bool) : Option Nat := match via with
  | .mirror => none
  | .pdo => some 1
  | _ => some (requestClass index sub segmented)

/-- Class of a command that is the write of one door, car or axis command entry (R434 row 1). -/
def commandClass (via : Via) : Option Nat := if via = .mirror then none else some 1

/-- Class of a command as a work item of the message engine (R35, R434). Ticks, pins, timers, link and partner frames and the events of the
functions themselves are none: they are not its work. -/
def workClass (s : State) (c : Instr) : Option Nat := match c with
  | .nslFrameReceived _ => some 0
  | .nmtCommand _ | .sync | .rpdo _ _ => some 1
  | .icmpEchoRequest _ | .arpRequest _ _ _ => some 3
  | .bulkFrame port header bs =>
    if header % 128 = 0 then some (bulkClass port bs s).1 else some (getD {} s.net.bulk port).cls
  | .openLeft v | .openRight v | .closeLeft v | .closeRight v | .closeAll v | .holdAll v | .endHoldAll v
  | .open_ v _ | .close v _ | .holdOpen v _ | .endHold v _ | .reset v _ | .forcedClose v _ => commandClass v
  | .learnRunStart v d | .learnRunCancel v d => frameClass v (0x3004 + 0x40 * d) 1 false
  | .axisModeChange v a _ => frameClass v (0x3405 + 0x10 * a) 1 false
  | .jogStart v a _ => frameClass v (0x3405 + 0x10 * a) 4 false
  | .jogStop v a => frameClass v (0x3405 + 0x10 * a) 4 false
  | .alignmentRunStart v a | .alignmentRunCancel v a => frameClass v (0x340A + 0x10 * a) 1 false
  | .motorDataChange v a sub9 _ => frameClass v (0x3400 + 0x10 * a) sub9 false
  | .tableReload v d _ _ => frameClass v (0x3006 + 0x40 * d) 1 false
  | .bgLearnStart v n => frameClass v (0x3820 + n) 1 false
  | .envDataWrite v _ => frameClass v 0x3900 2 false
  | .envResetOne v | .envResetBoth v => frameClass v 0x3900 3 false
  | .faultClear v q _ => frameClass v (chanIndex q) 0x17 false
  | .lampLearn v q _ => frameClass v (chanIndex q) 0x22 false
  | .soFaultClear v _ => frameClass v 0x5102 4 false
  | .writeEnable v _ => frameClass v 0x5002 1 false
  | .confirm v _ => frameClass v 0x5001 1 false
  | .restoreDefaults v _ => frameClass v 0x1011 1 false
  | .restoreSafetyDefaults v _ => frameClass v 0x1011 2 false
  | .proofTestDone v _ => frameClass v 0x5104 2 false
  | .stagCommand v _ => frameClass v 0x2600 7 false
  | .safetySetWrite v index sub _ | .histLimitsChanged v index sub _ => frameClass v index sub false
  | .dictionaryWrite v index sub _ seg => frameClass v index sub seg.isSome
  | .clear v _ => frameClass v 0x6002 1 false
  | .ecConfigWrite v n sub _ => frameClass v (0x2500 + n) sub false
  | .ecReset v n _ => frameClass v (0x2500 + n) 7 false
  | .linkCountersClear v d _ => frameClass v (0x3A05 + 0x10 * d) 1 false
  | .nslCountersClear v _ => frameClass v 0x5280 1 false
  | .partnerCountersClear v _ => frameClass v 0x2601 10 false
  | .networkCountersClear v _ => frameClass v 0x2430 7 false
  | .powerCommandRun v | .powerCommandDoze v | .powerCommandStabled v => frameClass v 0x2100 2 false
  | .attestNonce v _ => frameClass v 0x2330 1 false
  | .anchorInstall v _ => frameClass v 0x2318 1 false
  | .sessionClose v _ => frameClass v 0x2320 5 false
  | .cosignChange v _ _ => frameClass v 0x2319 1 false
  | .fwImage v _ _ _ => frameClass v 0x2201 2 true
  | .fwActivate v _ => frameClass v 0x2201 4 false
  | .fwConfirm v _ => frameClass v 0x2201 5 false
  | .debugUnlockObserve v | .debugUnlockHalt v => frameClass v 0x2300 3 false
  | .rmaCommand v _ => frameClass v 0x2340 1 false
  | .deviceReset v _ => frameClass v 0x2204 6 false
  | .windowRead _ | .areaWrite _ _ | .bulkCountWrite _ _ | .bulkDataRead _
  | .sessionCredential _ _ | .sessionRequest _ _ | .sessionChallenge _ | .sessionProof _ _ => some 3
  | _ => none

/-- The waiting commands, the newest first, with one more of class `k`: it passes those of a lower class, and nothing else. -/
def passLower (s : State) (k : Nat) (c : Instr) : List Instr → List Instr
  | [] => [c]
  | x :: rest => match workClass s x with
    | some j => if k < j then x :: passLower s k c rest else c :: x :: rest
    | none => c :: x :: rest

/-- A command joins the queue (R38): work of the engine goes ahead of waiting work of lower classes and behind its own class, in order of
ingress; a tick or another event parts what came before it from what comes after. DEDUCED: log entry 220. -/
def State.arrive (s : State) (c : Instr) : State := match workClass s c with
  | some k => { s with pending := (passLower s k c s.pending.reverse).reverse }
  | none => { s with pending := s.pending ++ [c] }

end Sys2Proof.Machine
end

