-- ==== Sys2Proof/Laws/Arrive.lean ====
section
/-!
SUPPORT. What the arrival of a command can do to the queue.
-/
namespace Sys2Proof.Machine

/-- A command that passes work of lower classes is one more among those that wait (R38). -/
theorem passLower_perm (s : State) (k : Nat) (c : Instr) (l : List Instr) : (passLower s k c l).Perm (c :: l) := by
  induction l with
  | nil => exact .refl _
  | cons x rest ih =>
    simp only [passLower]
    split
    · split
      · exact (ih.cons x).trans (.swap c x rest)
      · exact .refl _
    · exact .refl _

/-- An arriving command joins the queue, and no waiting one is lost (R38). -/
theorem State.arrive_pending (s : State) (c : Instr) : (s.arrive c).pending.Perm (c :: s.pending) := by
  unfold State.arrive
  split
  · exact (List.reverse_perm _).trans ((passLower_perm ..).trans ((List.reverse_perm _).cons c))
  · exact List.perm_append_singleton c s.pending

/-- Arrival changes the queue alone. -/
theorem State.arrive_rest (s : State) (c : Instr) : { s.arrive c with pending := s.pending } = s := by
  unfold State.arrive
  split <;> rfl

end Sys2Proof.Machine
end

