-- ==== Sys2Proof/Laws/State.lean ====
section
/-!
SUPPORT. What each record update leaves: one lemma per field and update, true by `rfl`.
-/
namespace Sys2Proof.Machine

/-! ### `wr` writes `dict` only -/

@[simp] theorem State.wr_pending (s : State) (k : Nat) (v : Int) : (s.wr k v).pending = s.pending := rfl
@[simp] theorem State.wr_now (s : State) (k : Nat) (v : Int) : (s.wr k v).now = s.now := rfl
@[simp] theorem State.wr_free (s : State) (k : Nat) (v : Int) : (s.wr k v).free = s.free := rfl
@[simp] theorem State.wr_answer (s : State) (k : Nat) (v : Int) : (s.wr k v).answer = s.answer := rfl
@[simp] theorem State.wr_eff (s : State) (k : Nat) (v : Int) : (s.wr k v).eff = s.eff := rfl
@[simp] theorem State.wr_nv (s : State) (k : Nat) (v : Int) : (s.wr k v).nv = s.nv := rfl
@[simp] theorem State.wr_blobs (s : State) (k : Nat) (v : Int) : (s.wr k v).blobs = s.blobs := rfl
@[simp] theorem State.wr_egress (s : State) (k : Nat) (v : Int) : (s.wr k v).egress = s.egress := rfl
@[simp] theorem State.wr_part (s : State) (k : Nat) (v : Int) : (s.wr k v).part = s.part := rfl
@[simp] theorem State.wr_boundary (s : State) (k : Nat) (v : Int) : (s.wr k v).boundary = s.boundary := rfl
@[simp] theorem State.wr_doors (s : State) (k : Nat) (v : Int) : (s.wr k v).doors = s.doors := rfl
@[simp] theorem State.wr_axes (s : State) (k : Nat) (v : Int) : (s.wr k v).axes = s.axes := rfl
@[simp] theorem State.wr_recd (s : State) (k : Nat) (v : Int) : (s.wr k v).recd = s.recd := rfl
@[simp] theorem State.wr_net (s : State) (k : Nat) (v : Int) : (s.wr k v).net = s.net := rfl
@[simp] theorem State.wr_sessions (s : State) (k : Nat) (v : Int) : (s.wr k v).sessions = s.sessions := rfl
@[simp] theorem State.wr_safety (s : State) (k : Nat) (v : Int) : (s.wr k v).safety = s.safety := rfl
@[simp] theorem State.wr_contacts (s : State) (k : Nat) (v : Int) : (s.wr k v).contacts = s.contacts := rfl
@[simp] theorem State.wr_pairs (s : State) (k : Nat) (v : Int) : (s.wr k v).pairs = s.pairs := rfl
@[simp] theorem State.wr_cab (s : State) (k : Nat) (v : Int) : (s.wr k v).cab = s.cab := rfl
@[simp] theorem State.wr_leaves (s : State) (k : Nat) (v : Int) : (s.wr k v).leaves = s.leaves := rfl
@[simp] theorem State.wr_leafCommits (s : State) (k : Nat) (v : Int) : (s.wr k v).leafCommits = s.leafCommits := rfl
@[simp] theorem State.wr_sensors (s : State) (k : Nat) (v : Int) : (s.wr k v).sensors = s.sensors := rfl
@[simp] theorem State.wr_depthQueue (s : State) (k : Nat) (v : Int) : (s.wr k v).depthQueue = s.depthQueue := rfl
@[simp] theorem State.wr_links (s : State) (k : Nat) (v : Int) : (s.wr k v).links = s.links := rfl
@[simp] theorem State.wr_nodes (s : State) (k : Nat) (v : Int) : (s.wr k v).nodes = s.nodes := rfl
@[simp] theorem State.wr_conns (s : State) (k : Nat) (v : Int) : (s.wr k v).conns = s.conns := rfl
@[simp] theorem State.wr_summary (s : State) (k : Nat) (v : Int) : (s.wr k v).summary = s.summary := rfl
@[simp] theorem State.wr_chans (s : State) (k : Nat) (v : Int) : (s.wr k v).chans = s.chans := rfl
@[simp] theorem State.wr_dies (s : State) (k : Nat) (v : Int) : (s.wr k v).dies = s.dies := rfl
@[simp] theorem State.wr_heat (s : State) (k : Nat) (v : Int) : (s.wr k v).heat = s.heat := rfl
@[simp] theorem State.wr_power (s : State) (k : Nat) (v : Int) : (s.wr k v).power = s.power := rfl
@[simp] theorem State.wr_sec (s : State) (k : Nat) (v : Int) : (s.wr k v).sec = s.sec := rfl
@[simp] theorem State.wr_duplex (s : State) (k : Nat) (v : Int) : (s.wr k v).duplex = s.duplex := rfl

/-! ### `wrn` writes `dict` only -/

@[simp] theorem State.wrn_pending (s : State) (k n : Nat) : (s.wrn k n).pending = s.pending := rfl
@[simp] theorem State.wrn_now (s : State) (k n : Nat) : (s.wrn k n).now = s.now := rfl
@[simp] theorem State.wrn_free (s : State) (k n : Nat) : (s.wrn k n).free = s.free := rfl
@[simp] theorem State.wrn_answer (s : State) (k n : Nat) : (s.wrn k n).answer = s.answer := rfl
@[simp] theorem State.wrn_eff (s : State) (k n : Nat) : (s.wrn k n).eff = s.eff := rfl
@[simp] theorem State.wrn_nv (s : State) (k n : Nat) : (s.wrn k n).nv = s.nv := rfl
@[simp] theorem State.wrn_blobs (s : State) (k n : Nat) : (s.wrn k n).blobs = s.blobs := rfl
@[simp] theorem State.wrn_egress (s : State) (k n : Nat) : (s.wrn k n).egress = s.egress := rfl
@[simp] theorem State.wrn_part (s : State) (k n : Nat) : (s.wrn k n).part = s.part := rfl
@[simp] theorem State.wrn_boundary (s : State) (k n : Nat) : (s.wrn k n).boundary = s.boundary := rfl
@[simp] theorem State.wrn_doors (s : State) (k n : Nat) : (s.wrn k n).doors = s.doors := rfl
@[simp] theorem State.wrn_axes (s : State) (k n : Nat) : (s.wrn k n).axes = s.axes := rfl
@[simp] theorem State.wrn_recd (s : State) (k n : Nat) : (s.wrn k n).recd = s.recd := rfl
@[simp] theorem State.wrn_net (s : State) (k n : Nat) : (s.wrn k n).net = s.net := rfl
@[simp] theorem State.wrn_sessions (s : State) (k n : Nat) : (s.wrn k n).sessions = s.sessions := rfl
@[simp] theorem State.wrn_safety (s : State) (k n : Nat) : (s.wrn k n).safety = s.safety := rfl
@[simp] theorem State.wrn_contacts (s : State) (k n : Nat) : (s.wrn k n).contacts = s.contacts := rfl
@[simp] theorem State.wrn_pairs (s : State) (k n : Nat) : (s.wrn k n).pairs = s.pairs := rfl
@[simp] theorem State.wrn_cab (s : State) (k n : Nat) : (s.wrn k n).cab = s.cab := rfl
@[simp] theorem State.wrn_leaves (s : State) (k n : Nat) : (s.wrn k n).leaves = s.leaves := rfl
@[simp] theorem State.wrn_leafCommits (s : State) (k n : Nat) : (s.wrn k n).leafCommits = s.leafCommits := rfl
@[simp] theorem State.wrn_sensors (s : State) (k n : Nat) : (s.wrn k n).sensors = s.sensors := rfl
@[simp] theorem State.wrn_depthQueue (s : State) (k n : Nat) : (s.wrn k n).depthQueue = s.depthQueue := rfl
@[simp] theorem State.wrn_links (s : State) (k n : Nat) : (s.wrn k n).links = s.links := rfl
@[simp] theorem State.wrn_nodes (s : State) (k n : Nat) : (s.wrn k n).nodes = s.nodes := rfl
@[simp] theorem State.wrn_conns (s : State) (k n : Nat) : (s.wrn k n).conns = s.conns := rfl
@[simp] theorem State.wrn_summary (s : State) (k n : Nat) : (s.wrn k n).summary = s.summary := rfl
@[simp] theorem State.wrn_chans (s : State) (k n : Nat) : (s.wrn k n).chans = s.chans := rfl
@[simp] theorem State.wrn_dies (s : State) (k n : Nat) : (s.wrn k n).dies = s.dies := rfl
@[simp] theorem State.wrn_heat (s : State) (k n : Nat) : (s.wrn k n).heat = s.heat := rfl
@[simp] theorem State.wrn_power (s : State) (k n : Nat) : (s.wrn k n).power = s.power := rfl
@[simp] theorem State.wrn_sec (s : State) (k n : Nat) : (s.wrn k n).sec = s.sec := rfl
@[simp] theorem State.wrn_duplex (s : State) (k n : Nat) : (s.wrn k n).duplex = s.duplex := rfl

/-! ### `enforce` writes `eff` only -/

@[simp] theorem State.enforce_pending (s : State) (k : Nat) (v : Int) : (s.enforce k v).pending = s.pending := rfl
@[simp] theorem State.enforce_now (s : State) (k : Nat) (v : Int) : (s.enforce k v).now = s.now := rfl
@[simp] theorem State.enforce_free (s : State) (k : Nat) (v : Int) : (s.enforce k v).free = s.free := rfl
@[simp] theorem State.enforce_answer (s : State) (k : Nat) (v : Int) : (s.enforce k v).answer = s.answer := rfl
@[simp] theorem State.enforce_dict (s : State) (k : Nat) (v : Int) : (s.enforce k v).dict = s.dict := rfl
@[simp] theorem State.enforce_nv (s : State) (k : Nat) (v : Int) : (s.enforce k v).nv = s.nv := rfl
@[simp] theorem State.enforce_blobs (s : State) (k : Nat) (v : Int) : (s.enforce k v).blobs = s.blobs := rfl
@[simp] theorem State.enforce_egress (s : State) (k : Nat) (v : Int) : (s.enforce k v).egress = s.egress := rfl
@[simp] theorem State.enforce_part (s : State) (k : Nat) (v : Int) : (s.enforce k v).part = s.part := rfl
@[simp] theorem State.enforce_boundary (s : State) (k : Nat) (v : Int) : (s.enforce k v).boundary = s.boundary := rfl
@[simp] theorem State.enforce_doors (s : State) (k : Nat) (v : Int) : (s.enforce k v).doors = s.doors := rfl
@[simp] theorem State.enforce_axes (s : State) (k : Nat) (v : Int) : (s.enforce k v).axes = s.axes := rfl
@[simp] theorem State.enforce_recd (s : State) (k : Nat) (v : Int) : (s.enforce k v).recd = s.recd := rfl
@[simp] theorem State.enforce_net (s : State) (k : Nat) (v : Int) : (s.enforce k v).net = s.net := rfl
@[simp] theorem State.enforce_sessions (s : State) (k : Nat) (v : Int) : (s.enforce k v).sessions = s.sessions := rfl
@[simp] theorem State.enforce_safety (s : State) (k : Nat) (v : Int) : (s.enforce k v).safety = s.safety := rfl
@[simp] theorem State.enforce_contacts (s : State) (k : Nat) (v : Int) : (s.enforce k v).contacts = s.contacts := rfl
@[simp] theorem State.enforce_pairs (s : State) (k : Nat) (v : Int) : (s.enforce k v).pairs = s.pairs := rfl
@[simp] theorem State.enforce_cab (s : State) (k : Nat) (v : Int) : (s.enforce k v).cab = s.cab := rfl
@[simp] theorem State.enforce_leaves (s : State) (k : Nat) (v : Int) : (s.enforce k v).leaves = s.leaves := rfl
@[simp] theorem State.enforce_leafCommits (s : State) (k : Nat) (v : Int) : (s.enforce k v).leafCommits = s.leafCommits := rfl
@[simp] theorem State.enforce_sensors (s : State) (k : Nat) (v : Int) : (s.enforce k v).sensors = s.sensors := rfl
@[simp] theorem State.enforce_depthQueue (s : State) (k : Nat) (v : Int) : (s.enforce k v).depthQueue = s.depthQueue := rfl
@[simp] theorem State.enforce_links (s : State) (k : Nat) (v : Int) : (s.enforce k v).links = s.links := rfl
@[simp] theorem State.enforce_nodes (s : State) (k : Nat) (v : Int) : (s.enforce k v).nodes = s.nodes := rfl
@[simp] theorem State.enforce_conns (s : State) (k : Nat) (v : Int) : (s.enforce k v).conns = s.conns := rfl
@[simp] theorem State.enforce_summary (s : State) (k : Nat) (v : Int) : (s.enforce k v).summary = s.summary := rfl
@[simp] theorem State.enforce_chans (s : State) (k : Nat) (v : Int) : (s.enforce k v).chans = s.chans := rfl
@[simp] theorem State.enforce_dies (s : State) (k : Nat) (v : Int) : (s.enforce k v).dies = s.dies := rfl
@[simp] theorem State.enforce_heat (s : State) (k : Nat) (v : Int) : (s.enforce k v).heat = s.heat := rfl
@[simp] theorem State.enforce_power (s : State) (k : Nat) (v : Int) : (s.enforce k v).power = s.power := rfl
@[simp] theorem State.enforce_sec (s : State) (k : Nat) (v : Int) : (s.enforce k v).sec = s.sec := rfl
@[simp] theorem State.enforce_duplex (s : State) (k : Nat) (v : Int) : (s.enforce k v).duplex = s.duplex := rfl

/-! ### `setB` writes `dict` only -/

@[simp] theorem State.setB_pending (s : State) (k i : Nat) (b : Bool) : (s.setB k i b).pending = s.pending := rfl
@[simp] theorem State.setB_now (s : State) (k i : Nat) (b : Bool) : (s.setB k i b).now = s.now := rfl
@[simp] theorem State.setB_free (s : State) (k i : Nat) (b : Bool) : (s.setB k i b).free = s.free := rfl
@[simp] theorem State.setB_answer (s : State) (k i : Nat) (b : Bool) : (s.setB k i b).answer = s.answer := rfl
@[simp] theorem State.setB_eff (s : State) (k i : Nat) (b : Bool) : (s.setB k i b).eff = s.eff := rfl
@[simp] theorem State.setB_nv (s : State) (k i : Nat) (b : Bool) : (s.setB k i b).nv = s.nv := rfl
@[simp] theorem State.setB_blobs (s : State) (k i : Nat) (b : Bool) : (s.setB k i b).blobs = s.blobs := rfl
@[simp] theorem State.setB_egress (s : State) (k i : Nat) (b : Bool) : (s.setB k i b).egress = s.egress := rfl
@[simp] theorem State.setB_part (s : State) (k i : Nat) (b : Bool) : (s.setB k i b).part = s.part := rfl
@[simp] theorem State.setB_boundary (s : State) (k i : Nat) (b : Bool) : (s.setB k i b).boundary = s.boundary := rfl
@[simp] theorem State.setB_doors (s : State) (k i : Nat) (b : Bool) : (s.setB k i b).doors = s.doors := rfl
@[simp] theorem State.setB_axes (s : State) (k i : Nat) (b : Bool) : (s.setB k i b).axes = s.axes := rfl
@[simp] theorem State.setB_recd (s : State) (k i : Nat) (b : Bool) : (s.setB k i b).recd = s.recd := rfl
@[simp] theorem State.setB_net (s : State) (k i : Nat) (b : Bool) : (s.setB k i b).net = s.net := rfl
@[simp] theorem State.setB_sessions (s : State) (k i : Nat) (b : Bool) : (s.setB k i b).sessions = s.sessions := rfl
@[simp] theorem State.setB_safety (s : State) (k i : Nat) (b : Bool) : (s.setB k i b).safety = s.safety := rfl
@[simp] theorem State.setB_contacts (s : State) (k i : Nat) (b : Bool) : (s.setB k i b).contacts = s.contacts := rfl
@[simp] theorem State.setB_pairs (s : State) (k i : Nat) (b : Bool) : (s.setB k i b).pairs = s.pairs := rfl
@[simp] theorem State.setB_cab (s : State) (k i : Nat) (b : Bool) : (s.setB k i b).cab = s.cab := rfl
@[simp] theorem State.setB_leaves (s : State) (k i : Nat) (b : Bool) : (s.setB k i b).leaves = s.leaves := rfl
@[simp] theorem State.setB_leafCommits (s : State) (k i : Nat) (b : Bool) : (s.setB k i b).leafCommits = s.leafCommits := rfl
@[simp] theorem State.setB_sensors (s : State) (k i : Nat) (b : Bool) : (s.setB k i b).sensors = s.sensors := rfl
@[simp] theorem State.setB_depthQueue (s : State) (k i : Nat) (b : Bool) : (s.setB k i b).depthQueue = s.depthQueue := rfl
@[simp] theorem State.setB_links (s : State) (k i : Nat) (b : Bool) : (s.setB k i b).links = s.links := rfl
@[simp] theorem State.setB_nodes (s : State) (k i : Nat) (b : Bool) : (s.setB k i b).nodes = s.nodes := rfl
@[simp] theorem State.setB_conns (s : State) (k i : Nat) (b : Bool) : (s.setB k i b).conns = s.conns := rfl
@[simp] theorem State.setB_summary (s : State) (k i : Nat) (b : Bool) : (s.setB k i b).summary = s.summary := rfl
@[simp] theorem State.setB_chans (s : State) (k i : Nat) (b : Bool) : (s.setB k i b).chans = s.chans := rfl
@[simp] theorem State.setB_dies (s : State) (k i : Nat) (b : Bool) : (s.setB k i b).dies = s.dies := rfl
@[simp] theorem State.setB_heat (s : State) (k i : Nat) (b : Bool) : (s.setB k i b).heat = s.heat := rfl
@[simp] theorem State.setB_power (s : State) (k i : Nat) (b : Bool) : (s.setB k i b).power = s.power := rfl
@[simp] theorem State.setB_sec (s : State) (k i : Nat) (b : Bool) : (s.setB k i b).sec = s.sec := rfl
@[simp] theorem State.setB_duplex (s : State) (k i : Nat) (b : Bool) : (s.setB k i b).duplex = s.duplex := rfl

/-! ### `setBlob` writes `blobs` only -/

@[simp] theorem State.setBlob_pending (s : State) (k : Nat) (bs : List ByteN) : (s.setBlob k bs).pending = s.pending := rfl
@[simp] theorem State.setBlob_now (s : State) (k : Nat) (bs : List ByteN) : (s.setBlob k bs).now = s.now := rfl
@[simp] theorem State.setBlob_free (s : State) (k : Nat) (bs : List ByteN) : (s.setBlob k bs).free = s.free := rfl
@[simp] theorem State.setBlob_answer (s : State) (k : Nat) (bs : List ByteN) : (s.setBlob k bs).answer = s.answer := rfl
@[simp] theorem State.setBlob_dict (s : State) (k : Nat) (bs : List ByteN) : (s.setBlob k bs).dict = s.dict := rfl
@[simp] theorem State.setBlob_eff (s : State) (k : Nat) (bs : List ByteN) : (s.setBlob k bs).eff = s.eff := rfl
@[simp] theorem State.setBlob_nv (s : State) (k : Nat) (bs : List ByteN) : (s.setBlob k bs).nv = s.nv := rfl
@[simp] theorem State.setBlob_egress (s : State) (k : Nat) (bs : List ByteN) : (s.setBlob k bs).egress = s.egress := rfl
@[simp] theorem State.setBlob_part (s : State) (k : Nat) (bs : List ByteN) : (s.setBlob k bs).part = s.part := rfl
@[simp] theorem State.setBlob_boundary (s : State) (k : Nat) (bs : List ByteN) : (s.setBlob k bs).boundary = s.boundary := rfl
@[simp] theorem State.setBlob_doors (s : State) (k : Nat) (bs : List ByteN) : (s.setBlob k bs).doors = s.doors := rfl
@[simp] theorem State.setBlob_axes (s : State) (k : Nat) (bs : List ByteN) : (s.setBlob k bs).axes = s.axes := rfl
@[simp] theorem State.setBlob_recd (s : State) (k : Nat) (bs : List ByteN) : (s.setBlob k bs).recd = s.recd := rfl
@[simp] theorem State.setBlob_net (s : State) (k : Nat) (bs : List ByteN) : (s.setBlob k bs).net = s.net := rfl
@[simp] theorem State.setBlob_sessions (s : State) (k : Nat) (bs : List ByteN) : (s.setBlob k bs).sessions = s.sessions := rfl
@[simp] theorem State.setBlob_safety (s : State) (k : Nat) (bs : List ByteN) : (s.setBlob k bs).safety = s.safety := rfl
@[simp] theorem State.setBlob_contacts (s : State) (k : Nat) (bs : List ByteN) : (s.setBlob k bs).contacts = s.contacts := rfl
@[simp] theorem State.setBlob_pairs (s : State) (k : Nat) (bs : List ByteN) : (s.setBlob k bs).pairs = s.pairs := rfl
@[simp] theorem State.setBlob_cab (s : State) (k : Nat) (bs : List ByteN) : (s.setBlob k bs).cab = s.cab := rfl
@[simp] theorem State.setBlob_leaves (s : State) (k : Nat) (bs : List ByteN) : (s.setBlob k bs).leaves = s.leaves := rfl
@[simp] theorem State.setBlob_leafCommits (s : State) (k : Nat) (bs : List ByteN) : (s.setBlob k bs).leafCommits = s.leafCommits := rfl
@[simp] theorem State.setBlob_sensors (s : State) (k : Nat) (bs : List ByteN) : (s.setBlob k bs).sensors = s.sensors := rfl
@[simp] theorem State.setBlob_depthQueue (s : State) (k : Nat) (bs : List ByteN) : (s.setBlob k bs).depthQueue = s.depthQueue := rfl
@[simp] theorem State.setBlob_links (s : State) (k : Nat) (bs : List ByteN) : (s.setBlob k bs).links = s.links := rfl
@[simp] theorem State.setBlob_nodes (s : State) (k : Nat) (bs : List ByteN) : (s.setBlob k bs).nodes = s.nodes := rfl
@[simp] theorem State.setBlob_conns (s : State) (k : Nat) (bs : List ByteN) : (s.setBlob k bs).conns = s.conns := rfl
@[simp] theorem State.setBlob_summary (s : State) (k : Nat) (bs : List ByteN) : (s.setBlob k bs).summary = s.summary := rfl
@[simp] theorem State.setBlob_chans (s : State) (k : Nat) (bs : List ByteN) : (s.setBlob k bs).chans = s.chans := rfl
@[simp] theorem State.setBlob_dies (s : State) (k : Nat) (bs : List ByteN) : (s.setBlob k bs).dies = s.dies := rfl
@[simp] theorem State.setBlob_heat (s : State) (k : Nat) (bs : List ByteN) : (s.setBlob k bs).heat = s.heat := rfl
@[simp] theorem State.setBlob_power (s : State) (k : Nat) (bs : List ByteN) : (s.setBlob k bs).power = s.power := rfl
@[simp] theorem State.setBlob_sec (s : State) (k : Nat) (bs : List ByteN) : (s.setBlob k bs).sec = s.sec := rfl
@[simp] theorem State.setBlob_duplex (s : State) (k : Nat) (bs : List ByteN) : (s.setBlob k bs).duplex = s.duplex := rfl

/-! ### `setDoor` writes `doors` only -/

@[simp] theorem State.setDoor_pending (s : State) (d : Nat) (x : Door) : (s.setDoor d x).pending = s.pending := rfl
@[simp] theorem State.setDoor_now (s : State) (d : Nat) (x : Door) : (s.setDoor d x).now = s.now := rfl
@[simp] theorem State.setDoor_free (s : State) (d : Nat) (x : Door) : (s.setDoor d x).free = s.free := rfl
@[simp] theorem State.setDoor_answer (s : State) (d : Nat) (x : Door) : (s.setDoor d x).answer = s.answer := rfl
@[simp] theorem State.setDoor_dict (s : State) (d : Nat) (x : Door) : (s.setDoor d x).dict = s.dict := rfl
@[simp] theorem State.setDoor_eff (s : State) (d : Nat) (x : Door) : (s.setDoor d x).eff = s.eff := rfl
@[simp] theorem State.setDoor_nv (s : State) (d : Nat) (x : Door) : (s.setDoor d x).nv = s.nv := rfl
@[simp] theorem State.setDoor_blobs (s : State) (d : Nat) (x : Door) : (s.setDoor d x).blobs = s.blobs := rfl
@[simp] theorem State.setDoor_egress (s : State) (d : Nat) (x : Door) : (s.setDoor d x).egress = s.egress := rfl
@[simp] theorem State.setDoor_part (s : State) (d : Nat) (x : Door) : (s.setDoor d x).part = s.part := rfl
@[simp] theorem State.setDoor_boundary (s : State) (d : Nat) (x : Door) : (s.setDoor d x).boundary = s.boundary := rfl
@[simp] theorem State.setDoor_axes (s : State) (d : Nat) (x : Door) : (s.setDoor d x).axes = s.axes := rfl
@[simp] theorem State.setDoor_recd (s : State) (d : Nat) (x : Door) : (s.setDoor d x).recd = s.recd := rfl
@[simp] theorem State.setDoor_net (s : State) (d : Nat) (x : Door) : (s.setDoor d x).net = s.net := rfl
@[simp] theorem State.setDoor_sessions (s : State) (d : Nat) (x : Door) : (s.setDoor d x).sessions = s.sessions := rfl
@[simp] theorem State.setDoor_safety (s : State) (d : Nat) (x : Door) : (s.setDoor d x).safety = s.safety := rfl
@[simp] theorem State.setDoor_contacts (s : State) (d : Nat) (x : Door) : (s.setDoor d x).contacts = s.contacts := rfl
@[simp] theorem State.setDoor_pairs (s : State) (d : Nat) (x : Door) : (s.setDoor d x).pairs = s.pairs := rfl
@[simp] theorem State.setDoor_cab (s : State) (d : Nat) (x : Door) : (s.setDoor d x).cab = s.cab := rfl
@[simp] theorem State.setDoor_leaves (s : State) (d : Nat) (x : Door) : (s.setDoor d x).leaves = s.leaves := rfl
@[simp] theorem State.setDoor_leafCommits (s : State) (d : Nat) (x : Door) : (s.setDoor d x).leafCommits = s.leafCommits := rfl
@[simp] theorem State.setDoor_sensors (s : State) (d : Nat) (x : Door) : (s.setDoor d x).sensors = s.sensors := rfl
@[simp] theorem State.setDoor_depthQueue (s : State) (d : Nat) (x : Door) : (s.setDoor d x).depthQueue = s.depthQueue := rfl
@[simp] theorem State.setDoor_links (s : State) (d : Nat) (x : Door) : (s.setDoor d x).links = s.links := rfl
@[simp] theorem State.setDoor_nodes (s : State) (d : Nat) (x : Door) : (s.setDoor d x).nodes = s.nodes := rfl
@[simp] theorem State.setDoor_conns (s : State) (d : Nat) (x : Door) : (s.setDoor d x).conns = s.conns := rfl
@[simp] theorem State.setDoor_summary (s : State) (d : Nat) (x : Door) : (s.setDoor d x).summary = s.summary := rfl
@[simp] theorem State.setDoor_chans (s : State) (d : Nat) (x : Door) : (s.setDoor d x).chans = s.chans := rfl
@[simp] theorem State.setDoor_dies (s : State) (d : Nat) (x : Door) : (s.setDoor d x).dies = s.dies := rfl
@[simp] theorem State.setDoor_heat (s : State) (d : Nat) (x : Door) : (s.setDoor d x).heat = s.heat := rfl
@[simp] theorem State.setDoor_power (s : State) (d : Nat) (x : Door) : (s.setDoor d x).power = s.power := rfl
@[simp] theorem State.setDoor_sec (s : State) (d : Nat) (x : Door) : (s.setDoor d x).sec = s.sec := rfl
@[simp] theorem State.setDoor_duplex (s : State) (d : Nat) (x : Door) : (s.setDoor d x).duplex = s.duplex := rfl

/-! ### `modDoor` writes `doors` only -/

@[simp] theorem State.modDoor_pending (s : State) (d : Nat) (f : Door → Door) : (s.modDoor d f).pending = s.pending := rfl
@[simp] theorem State.modDoor_now (s : State) (d : Nat) (f : Door → Door) : (s.modDoor d f).now = s.now := rfl
@[simp] theorem State.modDoor_free (s : State) (d : Nat) (f : Door → Door) : (s.modDoor d f).free = s.free := rfl
@[simp] theorem State.modDoor_answer (s : State) (d : Nat) (f : Door → Door) : (s.modDoor d f).answer = s.answer := rfl
@[simp] theorem State.modDoor_dict (s : State) (d : Nat) (f : Door → Door) : (s.modDoor d f).dict = s.dict := rfl
@[simp] theorem State.modDoor_eff (s : State) (d : Nat) (f : Door → Door) : (s.modDoor d f).eff = s.eff := rfl
@[simp] theorem State.modDoor_nv (s : State) (d : Nat) (f : Door → Door) : (s.modDoor d f).nv = s.nv := rfl
@[simp] theorem State.modDoor_blobs (s : State) (d : Nat) (f : Door → Door) : (s.modDoor d f).blobs = s.blobs := rfl
@[simp] theorem State.modDoor_egress (s : State) (d : Nat) (f : Door → Door) : (s.modDoor d f).egress = s.egress := rfl
@[simp] theorem State.modDoor_part (s : State) (d : Nat) (f : Door → Door) : (s.modDoor d f).part = s.part := rfl
@[simp] theorem State.modDoor_boundary (s : State) (d : Nat) (f : Door → Door) : (s.modDoor d f).boundary = s.boundary := rfl
@[simp] theorem State.modDoor_axes (s : State) (d : Nat) (f : Door → Door) : (s.modDoor d f).axes = s.axes := rfl
@[simp] theorem State.modDoor_recd (s : State) (d : Nat) (f : Door → Door) : (s.modDoor d f).recd = s.recd := rfl
@[simp] theorem State.modDoor_net (s : State) (d : Nat) (f : Door → Door) : (s.modDoor d f).net = s.net := rfl
@[simp] theorem State.modDoor_sessions (s : State) (d : Nat) (f : Door → Door) : (s.modDoor d f).sessions = s.sessions := rfl
@[simp] theorem State.modDoor_safety (s : State) (d : Nat) (f : Door → Door) : (s.modDoor d f).safety = s.safety := rfl
@[simp] theorem State.modDoor_contacts (s : State) (d : Nat) (f : Door → Door) : (s.modDoor d f).contacts = s.contacts := rfl
@[simp] theorem State.modDoor_pairs (s : State) (d : Nat) (f : Door → Door) : (s.modDoor d f).pairs = s.pairs := rfl
@[simp] theorem State.modDoor_cab (s : State) (d : Nat) (f : Door → Door) : (s.modDoor d f).cab = s.cab := rfl
@[simp] theorem State.modDoor_leaves (s : State) (d : Nat) (f : Door → Door) : (s.modDoor d f).leaves = s.leaves := rfl
@[simp] theorem State.modDoor_leafCommits (s : State) (d : Nat) (f : Door → Door) : (s.modDoor d f).leafCommits = s.leafCommits := rfl
@[simp] theorem State.modDoor_sensors (s : State) (d : Nat) (f : Door → Door) : (s.modDoor d f).sensors = s.sensors := rfl
@[simp] theorem State.modDoor_depthQueue (s : State) (d : Nat) (f : Door → Door) : (s.modDoor d f).depthQueue = s.depthQueue := rfl
@[simp] theorem State.modDoor_links (s : State) (d : Nat) (f : Door → Door) : (s.modDoor d f).links = s.links := rfl
@[simp] theorem State.modDoor_nodes (s : State) (d : Nat) (f : Door → Door) : (s.modDoor d f).nodes = s.nodes := rfl
@[simp] theorem State.modDoor_conns (s : State) (d : Nat) (f : Door → Door) : (s.modDoor d f).conns = s.conns := rfl
@[simp] theorem State.modDoor_summary (s : State) (d : Nat) (f : Door → Door) : (s.modDoor d f).summary = s.summary := rfl
@[simp] theorem State.modDoor_chans (s : State) (d : Nat) (f : Door → Door) : (s.modDoor d f).chans = s.chans := rfl
@[simp] theorem State.modDoor_dies (s : State) (d : Nat) (f : Door → Door) : (s.modDoor d f).dies = s.dies := rfl
@[simp] theorem State.modDoor_heat (s : State) (d : Nat) (f : Door → Door) : (s.modDoor d f).heat = s.heat := rfl
@[simp] theorem State.modDoor_power (s : State) (d : Nat) (f : Door → Door) : (s.modDoor d f).power = s.power := rfl
@[simp] theorem State.modDoor_sec (s : State) (d : Nat) (f : Door → Door) : (s.modDoor d f).sec = s.sec := rfl
@[simp] theorem State.modDoor_duplex (s : State) (d : Nat) (f : Door → Door) : (s.modDoor d f).duplex = s.duplex := rfl

/-! ### `faultDoor` writes `doors` only -/

@[simp] theorem State.faultDoor_pending (s : State) (d c : Nat) : (s.faultDoor d c).pending = s.pending := rfl
@[simp] theorem State.faultDoor_now (s : State) (d c : Nat) : (s.faultDoor d c).now = s.now := rfl
@[simp] theorem State.faultDoor_free (s : State) (d c : Nat) : (s.faultDoor d c).free = s.free := rfl
@[simp] theorem State.faultDoor_answer (s : State) (d c : Nat) : (s.faultDoor d c).answer = s.answer := rfl
@[simp] theorem State.faultDoor_dict (s : State) (d c : Nat) : (s.faultDoor d c).dict = s.dict := rfl
@[simp] theorem State.faultDoor_eff (s : State) (d c : Nat) : (s.faultDoor d c).eff = s.eff := rfl
@[simp] theorem State.faultDoor_nv (s : State) (d c : Nat) : (s.faultDoor d c).nv = s.nv := rfl
@[simp] theorem State.faultDoor_blobs (s : State) (d c : Nat) : (s.faultDoor d c).blobs = s.blobs := rfl
@[simp] theorem State.faultDoor_egress (s : State) (d c : Nat) : (s.faultDoor d c).egress = s.egress := rfl
@[simp] theorem State.faultDoor_part (s : State) (d c : Nat) : (s.faultDoor d c).part = s.part := rfl
@[simp] theorem State.faultDoor_boundary (s : State) (d c : Nat) : (s.faultDoor d c).boundary = s.boundary := rfl
@[simp] theorem State.faultDoor_axes (s : State) (d c : Nat) : (s.faultDoor d c).axes = s.axes := rfl
@[simp] theorem State.faultDoor_recd (s : State) (d c : Nat) : (s.faultDoor d c).recd = s.recd := rfl
@[simp] theorem State.faultDoor_net (s : State) (d c : Nat) : (s.faultDoor d c).net = s.net := rfl
@[simp] theorem State.faultDoor_sessions (s : State) (d c : Nat) : (s.faultDoor d c).sessions = s.sessions := rfl
@[simp] theorem State.faultDoor_safety (s : State) (d c : Nat) : (s.faultDoor d c).safety = s.safety := rfl
@[simp] theorem State.faultDoor_contacts (s : State) (d c : Nat) : (s.faultDoor d c).contacts = s.contacts := rfl
@[simp] theorem State.faultDoor_pairs (s : State) (d c : Nat) : (s.faultDoor d c).pairs = s.pairs := rfl
@[simp] theorem State.faultDoor_cab (s : State) (d c : Nat) : (s.faultDoor d c).cab = s.cab := rfl
@[simp] theorem State.faultDoor_leaves (s : State) (d c : Nat) : (s.faultDoor d c).leaves = s.leaves := rfl
@[simp] theorem State.faultDoor_leafCommits (s : State) (d c : Nat) : (s.faultDoor d c).leafCommits = s.leafCommits := rfl
@[simp] theorem State.faultDoor_sensors (s : State) (d c : Nat) : (s.faultDoor d c).sensors = s.sensors := rfl
@[simp] theorem State.faultDoor_depthQueue (s : State) (d c : Nat) : (s.faultDoor d c).depthQueue = s.depthQueue := rfl
@[simp] theorem State.faultDoor_links (s : State) (d c : Nat) : (s.faultDoor d c).links = s.links := rfl
@[simp] theorem State.faultDoor_nodes (s : State) (d c : Nat) : (s.faultDoor d c).nodes = s.nodes := rfl
@[simp] theorem State.faultDoor_conns (s : State) (d c : Nat) : (s.faultDoor d c).conns = s.conns := rfl
@[simp] theorem State.faultDoor_summary (s : State) (d c : Nat) : (s.faultDoor d c).summary = s.summary := rfl
@[simp] theorem State.faultDoor_chans (s : State) (d c : Nat) : (s.faultDoor d c).chans = s.chans := rfl
@[simp] theorem State.faultDoor_dies (s : State) (d c : Nat) : (s.faultDoor d c).dies = s.dies := rfl
@[simp] theorem State.faultDoor_heat (s : State) (d c : Nat) : (s.faultDoor d c).heat = s.heat := rfl
@[simp] theorem State.faultDoor_power (s : State) (d c : Nat) : (s.faultDoor d c).power = s.power := rfl
@[simp] theorem State.faultDoor_sec (s : State) (d c : Nat) : (s.faultDoor d c).sec = s.sec := rfl
@[simp] theorem State.faultDoor_duplex (s : State) (d c : Nat) : (s.faultDoor d c).duplex = s.duplex := rfl

/-! ### `setAxis` writes `axes` only -/

@[simp] theorem State.setAxis_pending (s : State) (a : Nat) (x : Axis) : (s.setAxis a x).pending = s.pending := rfl
@[simp] theorem State.setAxis_now (s : State) (a : Nat) (x : Axis) : (s.setAxis a x).now = s.now := rfl
@[simp] theorem State.setAxis_free (s : State) (a : Nat) (x : Axis) : (s.setAxis a x).free = s.free := rfl
@[simp] theorem State.setAxis_answer (s : State) (a : Nat) (x : Axis) : (s.setAxis a x).answer = s.answer := rfl
@[simp] theorem State.setAxis_dict (s : State) (a : Nat) (x : Axis) : (s.setAxis a x).dict = s.dict := rfl
@[simp] theorem State.setAxis_eff (s : State) (a : Nat) (x : Axis) : (s.setAxis a x).eff = s.eff := rfl
@[simp] theorem State.setAxis_nv (s : State) (a : Nat) (x : Axis) : (s.setAxis a x).nv = s.nv := rfl
@[simp] theorem State.setAxis_blobs (s : State) (a : Nat) (x : Axis) : (s.setAxis a x).blobs = s.blobs := rfl
@[simp] theorem State.setAxis_egress (s : State) (a : Nat) (x : Axis) : (s.setAxis a x).egress = s.egress := rfl
@[simp] theorem State.setAxis_part (s : State) (a : Nat) (x : Axis) : (s.setAxis a x).part = s.part := rfl
@[simp] theorem State.setAxis_boundary (s : State) (a : Nat) (x : Axis) : (s.setAxis a x).boundary = s.boundary := rfl
@[simp] theorem State.setAxis_doors (s : State) (a : Nat) (x : Axis) : (s.setAxis a x).doors = s.doors := rfl
@[simp] theorem State.setAxis_recd (s : State) (a : Nat) (x : Axis) : (s.setAxis a x).recd = s.recd := rfl
@[simp] theorem State.setAxis_net (s : State) (a : Nat) (x : Axis) : (s.setAxis a x).net = s.net := rfl
@[simp] theorem State.setAxis_sessions (s : State) (a : Nat) (x : Axis) : (s.setAxis a x).sessions = s.sessions := rfl
@[simp] theorem State.setAxis_safety (s : State) (a : Nat) (x : Axis) : (s.setAxis a x).safety = s.safety := rfl
@[simp] theorem State.setAxis_contacts (s : State) (a : Nat) (x : Axis) : (s.setAxis a x).contacts = s.contacts := rfl
@[simp] theorem State.setAxis_pairs (s : State) (a : Nat) (x : Axis) : (s.setAxis a x).pairs = s.pairs := rfl
@[simp] theorem State.setAxis_cab (s : State) (a : Nat) (x : Axis) : (s.setAxis a x).cab = s.cab := rfl
@[simp] theorem State.setAxis_leaves (s : State) (a : Nat) (x : Axis) : (s.setAxis a x).leaves = s.leaves := rfl
@[simp] theorem State.setAxis_leafCommits (s : State) (a : Nat) (x : Axis) : (s.setAxis a x).leafCommits = s.leafCommits := rfl
@[simp] theorem State.setAxis_sensors (s : State) (a : Nat) (x : Axis) : (s.setAxis a x).sensors = s.sensors := rfl
@[simp] theorem State.setAxis_depthQueue (s : State) (a : Nat) (x : Axis) : (s.setAxis a x).depthQueue = s.depthQueue := rfl
@[simp] theorem State.setAxis_links (s : State) (a : Nat) (x : Axis) : (s.setAxis a x).links = s.links := rfl
@[simp] theorem State.setAxis_nodes (s : State) (a : Nat) (x : Axis) : (s.setAxis a x).nodes = s.nodes := rfl
@[simp] theorem State.setAxis_conns (s : State) (a : Nat) (x : Axis) : (s.setAxis a x).conns = s.conns := rfl
@[simp] theorem State.setAxis_summary (s : State) (a : Nat) (x : Axis) : (s.setAxis a x).summary = s.summary := rfl
@[simp] theorem State.setAxis_chans (s : State) (a : Nat) (x : Axis) : (s.setAxis a x).chans = s.chans := rfl
@[simp] theorem State.setAxis_dies (s : State) (a : Nat) (x : Axis) : (s.setAxis a x).dies = s.dies := rfl
@[simp] theorem State.setAxis_heat (s : State) (a : Nat) (x : Axis) : (s.setAxis a x).heat = s.heat := rfl
@[simp] theorem State.setAxis_power (s : State) (a : Nat) (x : Axis) : (s.setAxis a x).power = s.power := rfl
@[simp] theorem State.setAxis_sec (s : State) (a : Nat) (x : Axis) : (s.setAxis a x).sec = s.sec := rfl
@[simp] theorem State.setAxis_duplex (s : State) (a : Nat) (x : Axis) : (s.setAxis a x).duplex = s.duplex := rfl

/-! ### `addSat` writes `dict` only -/

@[simp] theorem State.addSat_pending (s : State) (k n top : Nat) : (s.addSat k n top).pending = s.pending := rfl
@[simp] theorem State.addSat_now (s : State) (k n top : Nat) : (s.addSat k n top).now = s.now := rfl
@[simp] theorem State.addSat_free (s : State) (k n top : Nat) : (s.addSat k n top).free = s.free := rfl
@[simp] theorem State.addSat_answer (s : State) (k n top : Nat) : (s.addSat k n top).answer = s.answer := rfl
@[simp] theorem State.addSat_eff (s : State) (k n top : Nat) : (s.addSat k n top).eff = s.eff := rfl
@[simp] theorem State.addSat_nv (s : State) (k n top : Nat) : (s.addSat k n top).nv = s.nv := rfl
@[simp] theorem State.addSat_blobs (s : State) (k n top : Nat) : (s.addSat k n top).blobs = s.blobs := rfl
@[simp] theorem State.addSat_egress (s : State) (k n top : Nat) : (s.addSat k n top).egress = s.egress := rfl
@[simp] theorem State.addSat_part (s : State) (k n top : Nat) : (s.addSat k n top).part = s.part := rfl
@[simp] theorem State.addSat_boundary (s : State) (k n top : Nat) : (s.addSat k n top).boundary = s.boundary := rfl
@[simp] theorem State.addSat_doors (s : State) (k n top : Nat) : (s.addSat k n top).doors = s.doors := rfl
@[simp] theorem State.addSat_axes (s : State) (k n top : Nat) : (s.addSat k n top).axes = s.axes := rfl
@[simp] theorem State.addSat_recd (s : State) (k n top : Nat) : (s.addSat k n top).recd = s.recd := rfl
@[simp] theorem State.addSat_net (s : State) (k n top : Nat) : (s.addSat k n top).net = s.net := rfl
@[simp] theorem State.addSat_sessions (s : State) (k n top : Nat) : (s.addSat k n top).sessions = s.sessions := rfl
@[simp] theorem State.addSat_safety (s : State) (k n top : Nat) : (s.addSat k n top).safety = s.safety := rfl
@[simp] theorem State.addSat_contacts (s : State) (k n top : Nat) : (s.addSat k n top).contacts = s.contacts := rfl
@[simp] theorem State.addSat_pairs (s : State) (k n top : Nat) : (s.addSat k n top).pairs = s.pairs := rfl
@[simp] theorem State.addSat_cab (s : State) (k n top : Nat) : (s.addSat k n top).cab = s.cab := rfl
@[simp] theorem State.addSat_leaves (s : State) (k n top : Nat) : (s.addSat k n top).leaves = s.leaves := rfl
@[simp] theorem State.addSat_leafCommits (s : State) (k n top : Nat) : (s.addSat k n top).leafCommits = s.leafCommits := rfl
@[simp] theorem State.addSat_sensors (s : State) (k n top : Nat) : (s.addSat k n top).sensors = s.sensors := rfl
@[simp] theorem State.addSat_depthQueue (s : State) (k n top : Nat) : (s.addSat k n top).depthQueue = s.depthQueue := rfl
@[simp] theorem State.addSat_links (s : State) (k n top : Nat) : (s.addSat k n top).links = s.links := rfl
@[simp] theorem State.addSat_nodes (s : State) (k n top : Nat) : (s.addSat k n top).nodes = s.nodes := rfl
@[simp] theorem State.addSat_conns (s : State) (k n top : Nat) : (s.addSat k n top).conns = s.conns := rfl
@[simp] theorem State.addSat_summary (s : State) (k n top : Nat) : (s.addSat k n top).summary = s.summary := rfl
@[simp] theorem State.addSat_chans (s : State) (k n top : Nat) : (s.addSat k n top).chans = s.chans := rfl
@[simp] theorem State.addSat_dies (s : State) (k n top : Nat) : (s.addSat k n top).dies = s.dies := rfl
@[simp] theorem State.addSat_heat (s : State) (k n top : Nat) : (s.addSat k n top).heat = s.heat := rfl
@[simp] theorem State.addSat_power (s : State) (k n top : Nat) : (s.addSat k n top).power = s.power := rfl
@[simp] theorem State.addSat_sec (s : State) (k n top : Nat) : (s.addSat k n top).sec = s.sec := rfl
@[simp] theorem State.addSat_duplex (s : State) (k n top : Nat) : (s.addSat k n top).duplex = s.duplex := rfl

/-! ### `count` writes `dict` only -/

@[simp] theorem State.count_pending (s : State) (k : Nat) : (s.count k).pending = s.pending := rfl
@[simp] theorem State.count_now (s : State) (k : Nat) : (s.count k).now = s.now := rfl
@[simp] theorem State.count_free (s : State) (k : Nat) : (s.count k).free = s.free := rfl
@[simp] theorem State.count_answer (s : State) (k : Nat) : (s.count k).answer = s.answer := rfl
@[simp] theorem State.count_eff (s : State) (k : Nat) : (s.count k).eff = s.eff := rfl
@[simp] theorem State.count_nv (s : State) (k : Nat) : (s.count k).nv = s.nv := rfl
@[simp] theorem State.count_blobs (s : State) (k : Nat) : (s.count k).blobs = s.blobs := rfl
@[simp] theorem State.count_egress (s : State) (k : Nat) : (s.count k).egress = s.egress := rfl
@[simp] theorem State.count_part (s : State) (k : Nat) : (s.count k).part = s.part := rfl
@[simp] theorem State.count_boundary (s : State) (k : Nat) : (s.count k).boundary = s.boundary := rfl
@[simp] theorem State.count_doors (s : State) (k : Nat) : (s.count k).doors = s.doors := rfl
@[simp] theorem State.count_axes (s : State) (k : Nat) : (s.count k).axes = s.axes := rfl
@[simp] theorem State.count_recd (s : State) (k : Nat) : (s.count k).recd = s.recd := rfl
@[simp] theorem State.count_net (s : State) (k : Nat) : (s.count k).net = s.net := rfl
@[simp] theorem State.count_sessions (s : State) (k : Nat) : (s.count k).sessions = s.sessions := rfl
@[simp] theorem State.count_safety (s : State) (k : Nat) : (s.count k).safety = s.safety := rfl
@[simp] theorem State.count_contacts (s : State) (k : Nat) : (s.count k).contacts = s.contacts := rfl
@[simp] theorem State.count_pairs (s : State) (k : Nat) : (s.count k).pairs = s.pairs := rfl
@[simp] theorem State.count_cab (s : State) (k : Nat) : (s.count k).cab = s.cab := rfl
@[simp] theorem State.count_leaves (s : State) (k : Nat) : (s.count k).leaves = s.leaves := rfl
@[simp] theorem State.count_leafCommits (s : State) (k : Nat) : (s.count k).leafCommits = s.leafCommits := rfl
@[simp] theorem State.count_sensors (s : State) (k : Nat) : (s.count k).sensors = s.sensors := rfl
@[simp] theorem State.count_depthQueue (s : State) (k : Nat) : (s.count k).depthQueue = s.depthQueue := rfl
@[simp] theorem State.count_links (s : State) (k : Nat) : (s.count k).links = s.links := rfl
@[simp] theorem State.count_nodes (s : State) (k : Nat) : (s.count k).nodes = s.nodes := rfl
@[simp] theorem State.count_conns (s : State) (k : Nat) : (s.count k).conns = s.conns := rfl
@[simp] theorem State.count_summary (s : State) (k : Nat) : (s.count k).summary = s.summary := rfl
@[simp] theorem State.count_chans (s : State) (k : Nat) : (s.count k).chans = s.chans := rfl
@[simp] theorem State.count_dies (s : State) (k : Nat) : (s.count k).dies = s.dies := rfl
@[simp] theorem State.count_heat (s : State) (k : Nat) : (s.count k).heat = s.heat := rfl
@[simp] theorem State.count_power (s : State) (k : Nat) : (s.count k).power = s.power := rfl
@[simp] theorem State.count_sec (s : State) (k : Nat) : (s.count k).sec = s.sec := rfl
@[simp] theorem State.count_duplex (s : State) (k : Nat) : (s.count k).duplex = s.duplex := rfl

/-! ### `send` writes `egress` only -/

@[simp] theorem State.send_pending (s : State) (e : Egress) : (s.send e).pending = s.pending := rfl
@[simp] theorem State.send_now (s : State) (e : Egress) : (s.send e).now = s.now := rfl
@[simp] theorem State.send_free (s : State) (e : Egress) : (s.send e).free = s.free := rfl
@[simp] theorem State.send_answer (s : State) (e : Egress) : (s.send e).answer = s.answer := rfl
@[simp] theorem State.send_dict (s : State) (e : Egress) : (s.send e).dict = s.dict := rfl
@[simp] theorem State.send_eff (s : State) (e : Egress) : (s.send e).eff = s.eff := rfl
@[simp] theorem State.send_nv (s : State) (e : Egress) : (s.send e).nv = s.nv := rfl
@[simp] theorem State.send_blobs (s : State) (e : Egress) : (s.send e).blobs = s.blobs := rfl
@[simp] theorem State.send_part (s : State) (e : Egress) : (s.send e).part = s.part := rfl
@[simp] theorem State.send_boundary (s : State) (e : Egress) : (s.send e).boundary = s.boundary := rfl
@[simp] theorem State.send_doors (s : State) (e : Egress) : (s.send e).doors = s.doors := rfl
@[simp] theorem State.send_axes (s : State) (e : Egress) : (s.send e).axes = s.axes := rfl
@[simp] theorem State.send_recd (s : State) (e : Egress) : (s.send e).recd = s.recd := rfl
@[simp] theorem State.send_net (s : State) (e : Egress) : (s.send e).net = s.net := rfl
@[simp] theorem State.send_sessions (s : State) (e : Egress) : (s.send e).sessions = s.sessions := rfl
@[simp] theorem State.send_safety (s : State) (e : Egress) : (s.send e).safety = s.safety := rfl
@[simp] theorem State.send_contacts (s : State) (e : Egress) : (s.send e).contacts = s.contacts := rfl
@[simp] theorem State.send_pairs (s : State) (e : Egress) : (s.send e).pairs = s.pairs := rfl
@[simp] theorem State.send_cab (s : State) (e : Egress) : (s.send e).cab = s.cab := rfl
@[simp] theorem State.send_leaves (s : State) (e : Egress) : (s.send e).leaves = s.leaves := rfl
@[simp] theorem State.send_leafCommits (s : State) (e : Egress) : (s.send e).leafCommits = s.leafCommits := rfl
@[simp] theorem State.send_sensors (s : State) (e : Egress) : (s.send e).sensors = s.sensors := rfl
@[simp] theorem State.send_depthQueue (s : State) (e : Egress) : (s.send e).depthQueue = s.depthQueue := rfl
@[simp] theorem State.send_links (s : State) (e : Egress) : (s.send e).links = s.links := rfl
@[simp] theorem State.send_nodes (s : State) (e : Egress) : (s.send e).nodes = s.nodes := rfl
@[simp] theorem State.send_conns (s : State) (e : Egress) : (s.send e).conns = s.conns := rfl
@[simp] theorem State.send_summary (s : State) (e : Egress) : (s.send e).summary = s.summary := rfl
@[simp] theorem State.send_chans (s : State) (e : Egress) : (s.send e).chans = s.chans := rfl
@[simp] theorem State.send_dies (s : State) (e : Egress) : (s.send e).dies = s.dies := rfl
@[simp] theorem State.send_heat (s : State) (e : Egress) : (s.send e).heat = s.heat := rfl
@[simp] theorem State.send_power (s : State) (e : Egress) : (s.send e).power = s.power := rfl
@[simp] theorem State.send_sec (s : State) (e : Egress) : (s.send e).sec = s.sec := rfl
@[simp] theorem State.send_duplex (s : State) (e : Egress) : (s.send e).duplex = s.duplex := rfl

/-! ### `setCode` writes `recd` only -/

@[simp] theorem State.setCode_pending (s : State) (c : Nat) (r : CodeRec) : (s.setCode c r).pending = s.pending := rfl
@[simp] theorem State.setCode_now (s : State) (c : Nat) (r : CodeRec) : (s.setCode c r).now = s.now := rfl
@[simp] theorem State.setCode_free (s : State) (c : Nat) (r : CodeRec) : (s.setCode c r).free = s.free := rfl
@[simp] theorem State.setCode_answer (s : State) (c : Nat) (r : CodeRec) : (s.setCode c r).answer = s.answer := rfl
@[simp] theorem State.setCode_dict (s : State) (c : Nat) (r : CodeRec) : (s.setCode c r).dict = s.dict := rfl
@[simp] theorem State.setCode_eff (s : State) (c : Nat) (r : CodeRec) : (s.setCode c r).eff = s.eff := rfl
@[simp] theorem State.setCode_nv (s : State) (c : Nat) (r : CodeRec) : (s.setCode c r).nv = s.nv := rfl
@[simp] theorem State.setCode_blobs (s : State) (c : Nat) (r : CodeRec) : (s.setCode c r).blobs = s.blobs := rfl
@[simp] theorem State.setCode_egress (s : State) (c : Nat) (r : CodeRec) : (s.setCode c r).egress = s.egress := rfl
@[simp] theorem State.setCode_part (s : State) (c : Nat) (r : CodeRec) : (s.setCode c r).part = s.part := rfl
@[simp] theorem State.setCode_boundary (s : State) (c : Nat) (r : CodeRec) : (s.setCode c r).boundary = s.boundary := rfl
@[simp] theorem State.setCode_doors (s : State) (c : Nat) (r : CodeRec) : (s.setCode c r).doors = s.doors := rfl
@[simp] theorem State.setCode_axes (s : State) (c : Nat) (r : CodeRec) : (s.setCode c r).axes = s.axes := rfl
@[simp] theorem State.setCode_net (s : State) (c : Nat) (r : CodeRec) : (s.setCode c r).net = s.net := rfl
@[simp] theorem State.setCode_sessions (s : State) (c : Nat) (r : CodeRec) : (s.setCode c r).sessions = s.sessions := rfl
@[simp] theorem State.setCode_safety (s : State) (c : Nat) (r : CodeRec) : (s.setCode c r).safety = s.safety := rfl
@[simp] theorem State.setCode_contacts (s : State) (c : Nat) (r : CodeRec) : (s.setCode c r).contacts = s.contacts := rfl
@[simp] theorem State.setCode_pairs (s : State) (c : Nat) (r : CodeRec) : (s.setCode c r).pairs = s.pairs := rfl
@[simp] theorem State.setCode_cab (s : State) (c : Nat) (r : CodeRec) : (s.setCode c r).cab = s.cab := rfl
@[simp] theorem State.setCode_leaves (s : State) (c : Nat) (r : CodeRec) : (s.setCode c r).leaves = s.leaves := rfl
@[simp] theorem State.setCode_leafCommits (s : State) (c : Nat) (r : CodeRec) : (s.setCode c r).leafCommits = s.leafCommits := rfl
@[simp] theorem State.setCode_sensors (s : State) (c : Nat) (r : CodeRec) : (s.setCode c r).sensors = s.sensors := rfl
@[simp] theorem State.setCode_depthQueue (s : State) (c : Nat) (r : CodeRec) : (s.setCode c r).depthQueue = s.depthQueue := rfl
@[simp] theorem State.setCode_links (s : State) (c : Nat) (r : CodeRec) : (s.setCode c r).links = s.links := rfl
@[simp] theorem State.setCode_nodes (s : State) (c : Nat) (r : CodeRec) : (s.setCode c r).nodes = s.nodes := rfl
@[simp] theorem State.setCode_conns (s : State) (c : Nat) (r : CodeRec) : (s.setCode c r).conns = s.conns := rfl
@[simp] theorem State.setCode_summary (s : State) (c : Nat) (r : CodeRec) : (s.setCode c r).summary = s.summary := rfl
@[simp] theorem State.setCode_chans (s : State) (c : Nat) (r : CodeRec) : (s.setCode c r).chans = s.chans := rfl
@[simp] theorem State.setCode_dies (s : State) (c : Nat) (r : CodeRec) : (s.setCode c r).dies = s.dies := rfl
@[simp] theorem State.setCode_heat (s : State) (c : Nat) (r : CodeRec) : (s.setCode c r).heat = s.heat := rfl
@[simp] theorem State.setCode_power (s : State) (c : Nat) (r : CodeRec) : (s.setCode c r).power = s.power := rfl
@[simp] theorem State.setCode_sec (s : State) (c : Nat) (r : CodeRec) : (s.setCode c r).sec = s.sec := rfl
@[simp] theorem State.setCode_duplex (s : State) (c : Nat) (r : CodeRec) : (s.setCode c r).duplex = s.duplex := rfl

/-! ### `ecAdd` writes `dict` only -/

@[simp] theorem State.ecAdd_pending (s : State) (n : Nat) : (s.ecAdd n).pending = s.pending := rfl
@[simp] theorem State.ecAdd_now (s : State) (n : Nat) : (s.ecAdd n).now = s.now := rfl
@[simp] theorem State.ecAdd_free (s : State) (n : Nat) : (s.ecAdd n).free = s.free := rfl
@[simp] theorem State.ecAdd_answer (s : State) (n : Nat) : (s.ecAdd n).answer = s.answer := rfl
@[simp] theorem State.ecAdd_eff (s : State) (n : Nat) : (s.ecAdd n).eff = s.eff := rfl
@[simp] theorem State.ecAdd_nv (s : State) (n : Nat) : (s.ecAdd n).nv = s.nv := rfl
@[simp] theorem State.ecAdd_blobs (s : State) (n : Nat) : (s.ecAdd n).blobs = s.blobs := rfl
@[simp] theorem State.ecAdd_egress (s : State) (n : Nat) : (s.ecAdd n).egress = s.egress := rfl
@[simp] theorem State.ecAdd_part (s : State) (n : Nat) : (s.ecAdd n).part = s.part := rfl
@[simp] theorem State.ecAdd_boundary (s : State) (n : Nat) : (s.ecAdd n).boundary = s.boundary := rfl
@[simp] theorem State.ecAdd_doors (s : State) (n : Nat) : (s.ecAdd n).doors = s.doors := rfl
@[simp] theorem State.ecAdd_axes (s : State) (n : Nat) : (s.ecAdd n).axes = s.axes := rfl
@[simp] theorem State.ecAdd_recd (s : State) (n : Nat) : (s.ecAdd n).recd = s.recd := rfl
@[simp] theorem State.ecAdd_net (s : State) (n : Nat) : (s.ecAdd n).net = s.net := rfl
@[simp] theorem State.ecAdd_sessions (s : State) (n : Nat) : (s.ecAdd n).sessions = s.sessions := rfl
@[simp] theorem State.ecAdd_safety (s : State) (n : Nat) : (s.ecAdd n).safety = s.safety := rfl
@[simp] theorem State.ecAdd_contacts (s : State) (n : Nat) : (s.ecAdd n).contacts = s.contacts := rfl
@[simp] theorem State.ecAdd_pairs (s : State) (n : Nat) : (s.ecAdd n).pairs = s.pairs := rfl
@[simp] theorem State.ecAdd_cab (s : State) (n : Nat) : (s.ecAdd n).cab = s.cab := rfl
@[simp] theorem State.ecAdd_leaves (s : State) (n : Nat) : (s.ecAdd n).leaves = s.leaves := rfl
@[simp] theorem State.ecAdd_leafCommits (s : State) (n : Nat) : (s.ecAdd n).leafCommits = s.leafCommits := rfl
@[simp] theorem State.ecAdd_sensors (s : State) (n : Nat) : (s.ecAdd n).sensors = s.sensors := rfl
@[simp] theorem State.ecAdd_depthQueue (s : State) (n : Nat) : (s.ecAdd n).depthQueue = s.depthQueue := rfl
@[simp] theorem State.ecAdd_links (s : State) (n : Nat) : (s.ecAdd n).links = s.links := rfl
@[simp] theorem State.ecAdd_nodes (s : State) (n : Nat) : (s.ecAdd n).nodes = s.nodes := rfl
@[simp] theorem State.ecAdd_conns (s : State) (n : Nat) : (s.ecAdd n).conns = s.conns := rfl
@[simp] theorem State.ecAdd_summary (s : State) (n : Nat) : (s.ecAdd n).summary = s.summary := rfl
@[simp] theorem State.ecAdd_chans (s : State) (n : Nat) : (s.ecAdd n).chans = s.chans := rfl
@[simp] theorem State.ecAdd_dies (s : State) (n : Nat) : (s.ecAdd n).dies = s.dies := rfl
@[simp] theorem State.ecAdd_heat (s : State) (n : Nat) : (s.ecAdd n).heat = s.heat := rfl
@[simp] theorem State.ecAdd_power (s : State) (n : Nat) : (s.ecAdd n).power = s.power := rfl
@[simp] theorem State.ecAdd_sec (s : State) (n : Nat) : (s.ecAdd n).sec = s.sec := rfl
@[simp] theorem State.ecAdd_duplex (s : State) (n : Nat) : (s.ecAdd n).duplex = s.duplex := rfl

/-! ### `setCon` writes `contacts` only -/

@[simp] theorem State.setCon_pending (s : State) (d : Nat) (x : Contacts) : (s.setCon d x).pending = s.pending := rfl
@[simp] theorem State.setCon_now (s : State) (d : Nat) (x : Contacts) : (s.setCon d x).now = s.now := rfl
@[simp] theorem State.setCon_free (s : State) (d : Nat) (x : Contacts) : (s.setCon d x).free = s.free := rfl
@[simp] theorem State.setCon_answer (s : State) (d : Nat) (x : Contacts) : (s.setCon d x).answer = s.answer := rfl
@[simp] theorem State.setCon_dict (s : State) (d : Nat) (x : Contacts) : (s.setCon d x).dict = s.dict := rfl
@[simp] theorem State.setCon_eff (s : State) (d : Nat) (x : Contacts) : (s.setCon d x).eff = s.eff := rfl
@[simp] theorem State.setCon_nv (s : State) (d : Nat) (x : Contacts) : (s.setCon d x).nv = s.nv := rfl
@[simp] theorem State.setCon_blobs (s : State) (d : Nat) (x : Contacts) : (s.setCon d x).blobs = s.blobs := rfl
@[simp] theorem State.setCon_egress (s : State) (d : Nat) (x : Contacts) : (s.setCon d x).egress = s.egress := rfl
@[simp] theorem State.setCon_part (s : State) (d : Nat) (x : Contacts) : (s.setCon d x).part = s.part := rfl
@[simp] theorem State.setCon_boundary (s : State) (d : Nat) (x : Contacts) : (s.setCon d x).boundary = s.boundary := rfl
@[simp] theorem State.setCon_doors (s : State) (d : Nat) (x : Contacts) : (s.setCon d x).doors = s.doors := rfl
@[simp] theorem State.setCon_axes (s : State) (d : Nat) (x : Contacts) : (s.setCon d x).axes = s.axes := rfl
@[simp] theorem State.setCon_recd (s : State) (d : Nat) (x : Contacts) : (s.setCon d x).recd = s.recd := rfl
@[simp] theorem State.setCon_net (s : State) (d : Nat) (x : Contacts) : (s.setCon d x).net = s.net := rfl
@[simp] theorem State.setCon_sessions (s : State) (d : Nat) (x : Contacts) : (s.setCon d x).sessions = s.sessions := rfl
@[simp] theorem State.setCon_safety (s : State) (d : Nat) (x : Contacts) : (s.setCon d x).safety = s.safety := rfl
@[simp] theorem State.setCon_pairs (s : State) (d : Nat) (x : Contacts) : (s.setCon d x).pairs = s.pairs := rfl
@[simp] theorem State.setCon_cab (s : State) (d : Nat) (x : Contacts) : (s.setCon d x).cab = s.cab := rfl
@[simp] theorem State.setCon_leaves (s : State) (d : Nat) (x : Contacts) : (s.setCon d x).leaves = s.leaves := rfl
@[simp] theorem State.setCon_leafCommits (s : State) (d : Nat) (x : Contacts) : (s.setCon d x).leafCommits = s.leafCommits := rfl
@[simp] theorem State.setCon_sensors (s : State) (d : Nat) (x : Contacts) : (s.setCon d x).sensors = s.sensors := rfl
@[simp] theorem State.setCon_depthQueue (s : State) (d : Nat) (x : Contacts) : (s.setCon d x).depthQueue = s.depthQueue := rfl
@[simp] theorem State.setCon_links (s : State) (d : Nat) (x : Contacts) : (s.setCon d x).links = s.links := rfl
@[simp] theorem State.setCon_nodes (s : State) (d : Nat) (x : Contacts) : (s.setCon d x).nodes = s.nodes := rfl
@[simp] theorem State.setCon_conns (s : State) (d : Nat) (x : Contacts) : (s.setCon d x).conns = s.conns := rfl
@[simp] theorem State.setCon_summary (s : State) (d : Nat) (x : Contacts) : (s.setCon d x).summary = s.summary := rfl
@[simp] theorem State.setCon_chans (s : State) (d : Nat) (x : Contacts) : (s.setCon d x).chans = s.chans := rfl
@[simp] theorem State.setCon_dies (s : State) (d : Nat) (x : Contacts) : (s.setCon d x).dies = s.dies := rfl
@[simp] theorem State.setCon_heat (s : State) (d : Nat) (x : Contacts) : (s.setCon d x).heat = s.heat := rfl
@[simp] theorem State.setCon_power (s : State) (d : Nat) (x : Contacts) : (s.setCon d x).power = s.power := rfl
@[simp] theorem State.setCon_sec (s : State) (d : Nat) (x : Contacts) : (s.setCon d x).sec = s.sec := rfl
@[simp] theorem State.setCon_duplex (s : State) (d : Nat) (x : Contacts) : (s.setCon d x).duplex = s.duplex := rfl

/-! ### `setLink` writes `links` only -/

@[simp] theorem State.setLink_pending (s : State) (d : Nat) (x : Link) : (s.setLink d x).pending = s.pending := rfl
@[simp] theorem State.setLink_now (s : State) (d : Nat) (x : Link) : (s.setLink d x).now = s.now := rfl
@[simp] theorem State.setLink_free (s : State) (d : Nat) (x : Link) : (s.setLink d x).free = s.free := rfl
@[simp] theorem State.setLink_answer (s : State) (d : Nat) (x : Link) : (s.setLink d x).answer = s.answer := rfl
@[simp] theorem State.setLink_dict (s : State) (d : Nat) (x : Link) : (s.setLink d x).dict = s.dict := rfl
@[simp] theorem State.setLink_eff (s : State) (d : Nat) (x : Link) : (s.setLink d x).eff = s.eff := rfl
@[simp] theorem State.setLink_nv (s : State) (d : Nat) (x : Link) : (s.setLink d x).nv = s.nv := rfl
@[simp] theorem State.setLink_blobs (s : State) (d : Nat) (x : Link) : (s.setLink d x).blobs = s.blobs := rfl
@[simp] theorem State.setLink_egress (s : State) (d : Nat) (x : Link) : (s.setLink d x).egress = s.egress := rfl
@[simp] theorem State.setLink_part (s : State) (d : Nat) (x : Link) : (s.setLink d x).part = s.part := rfl
@[simp] theorem State.setLink_boundary (s : State) (d : Nat) (x : Link) : (s.setLink d x).boundary = s.boundary := rfl
@[simp] theorem State.setLink_doors (s : State) (d : Nat) (x : Link) : (s.setLink d x).doors = s.doors := rfl
@[simp] theorem State.setLink_axes (s : State) (d : Nat) (x : Link) : (s.setLink d x).axes = s.axes := rfl
@[simp] theorem State.setLink_recd (s : State) (d : Nat) (x : Link) : (s.setLink d x).recd = s.recd := rfl
@[simp] theorem State.setLink_net (s : State) (d : Nat) (x : Link) : (s.setLink d x).net = s.net := rfl
@[simp] theorem State.setLink_sessions (s : State) (d : Nat) (x : Link) : (s.setLink d x).sessions = s.sessions := rfl
@[simp] theorem State.setLink_safety (s : State) (d : Nat) (x : Link) : (s.setLink d x).safety = s.safety := rfl
@[simp] theorem State.setLink_contacts (s : State) (d : Nat) (x : Link) : (s.setLink d x).contacts = s.contacts := rfl
@[simp] theorem State.setLink_pairs (s : State) (d : Nat) (x : Link) : (s.setLink d x).pairs = s.pairs := rfl
@[simp] theorem State.setLink_cab (s : State) (d : Nat) (x : Link) : (s.setLink d x).cab = s.cab := rfl
@[simp] theorem State.setLink_leaves (s : State) (d : Nat) (x : Link) : (s.setLink d x).leaves = s.leaves := rfl
@[simp] theorem State.setLink_leafCommits (s : State) (d : Nat) (x : Link) : (s.setLink d x).leafCommits = s.leafCommits := rfl
@[simp] theorem State.setLink_sensors (s : State) (d : Nat) (x : Link) : (s.setLink d x).sensors = s.sensors := rfl
@[simp] theorem State.setLink_depthQueue (s : State) (d : Nat) (x : Link) : (s.setLink d x).depthQueue = s.depthQueue := rfl
@[simp] theorem State.setLink_nodes (s : State) (d : Nat) (x : Link) : (s.setLink d x).nodes = s.nodes := rfl
@[simp] theorem State.setLink_conns (s : State) (d : Nat) (x : Link) : (s.setLink d x).conns = s.conns := rfl
@[simp] theorem State.setLink_summary (s : State) (d : Nat) (x : Link) : (s.setLink d x).summary = s.summary := rfl
@[simp] theorem State.setLink_chans (s : State) (d : Nat) (x : Link) : (s.setLink d x).chans = s.chans := rfl
@[simp] theorem State.setLink_dies (s : State) (d : Nat) (x : Link) : (s.setLink d x).dies = s.dies := rfl
@[simp] theorem State.setLink_heat (s : State) (d : Nat) (x : Link) : (s.setLink d x).heat = s.heat := rfl
@[simp] theorem State.setLink_power (s : State) (d : Nat) (x : Link) : (s.setLink d x).power = s.power := rfl
@[simp] theorem State.setLink_sec (s : State) (d : Nat) (x : Link) : (s.setLink d x).sec = s.sec := rfl
@[simp] theorem State.setLink_duplex (s : State) (d : Nat) (x : Link) : (s.setLink d x).duplex = s.duplex := rfl

/-! ### `setLeaf` writes `leaves` only -/

@[simp] theorem State.setLeaf_pending (s : State) (a : Nat) (x : Leaf) : (s.setLeaf a x).pending = s.pending := rfl
@[simp] theorem State.setLeaf_now (s : State) (a : Nat) (x : Leaf) : (s.setLeaf a x).now = s.now := rfl
@[simp] theorem State.setLeaf_free (s : State) (a : Nat) (x : Leaf) : (s.setLeaf a x).free = s.free := rfl
@[simp] theorem State.setLeaf_answer (s : State) (a : Nat) (x : Leaf) : (s.setLeaf a x).answer = s.answer := rfl
@[simp] theorem State.setLeaf_dict (s : State) (a : Nat) (x : Leaf) : (s.setLeaf a x).dict = s.dict := rfl
@[simp] theorem State.setLeaf_eff (s : State) (a : Nat) (x : Leaf) : (s.setLeaf a x).eff = s.eff := rfl
@[simp] theorem State.setLeaf_nv (s : State) (a : Nat) (x : Leaf) : (s.setLeaf a x).nv = s.nv := rfl
@[simp] theorem State.setLeaf_blobs (s : State) (a : Nat) (x : Leaf) : (s.setLeaf a x).blobs = s.blobs := rfl
@[simp] theorem State.setLeaf_egress (s : State) (a : Nat) (x : Leaf) : (s.setLeaf a x).egress = s.egress := rfl
@[simp] theorem State.setLeaf_part (s : State) (a : Nat) (x : Leaf) : (s.setLeaf a x).part = s.part := rfl
@[simp] theorem State.setLeaf_boundary (s : State) (a : Nat) (x : Leaf) : (s.setLeaf a x).boundary = s.boundary := rfl
@[simp] theorem State.setLeaf_doors (s : State) (a : Nat) (x : Leaf) : (s.setLeaf a x).doors = s.doors := rfl
@[simp] theorem State.setLeaf_axes (s : State) (a : Nat) (x : Leaf) : (s.setLeaf a x).axes = s.axes := rfl
@[simp] theorem State.setLeaf_recd (s : State) (a : Nat) (x : Leaf) : (s.setLeaf a x).recd = s.recd := rfl
@[simp] theorem State.setLeaf_net (s : State) (a : Nat) (x : Leaf) : (s.setLeaf a x).net = s.net := rfl
@[simp] theorem State.setLeaf_sessions (s : State) (a : Nat) (x : Leaf) : (s.setLeaf a x).sessions = s.sessions := rfl
@[simp] theorem State.setLeaf_safety (s : State) (a : Nat) (x : Leaf) : (s.setLeaf a x).safety = s.safety := rfl
@[simp] theorem State.setLeaf_contacts (s : State) (a : Nat) (x : Leaf) : (s.setLeaf a x).contacts = s.contacts := rfl
@[simp] theorem State.setLeaf_pairs (s : State) (a : Nat) (x : Leaf) : (s.setLeaf a x).pairs = s.pairs := rfl
@[simp] theorem State.setLeaf_cab (s : State) (a : Nat) (x : Leaf) : (s.setLeaf a x).cab = s.cab := rfl
@[simp] theorem State.setLeaf_leafCommits (s : State) (a : Nat) (x : Leaf) : (s.setLeaf a x).leafCommits = s.leafCommits := rfl
@[simp] theorem State.setLeaf_sensors (s : State) (a : Nat) (x : Leaf) : (s.setLeaf a x).sensors = s.sensors := rfl
@[simp] theorem State.setLeaf_depthQueue (s : State) (a : Nat) (x : Leaf) : (s.setLeaf a x).depthQueue = s.depthQueue := rfl
@[simp] theorem State.setLeaf_links (s : State) (a : Nat) (x : Leaf) : (s.setLeaf a x).links = s.links := rfl
@[simp] theorem State.setLeaf_nodes (s : State) (a : Nat) (x : Leaf) : (s.setLeaf a x).nodes = s.nodes := rfl
@[simp] theorem State.setLeaf_conns (s : State) (a : Nat) (x : Leaf) : (s.setLeaf a x).conns = s.conns := rfl
@[simp] theorem State.setLeaf_summary (s : State) (a : Nat) (x : Leaf) : (s.setLeaf a x).summary = s.summary := rfl
@[simp] theorem State.setLeaf_chans (s : State) (a : Nat) (x : Leaf) : (s.setLeaf a x).chans = s.chans := rfl
@[simp] theorem State.setLeaf_dies (s : State) (a : Nat) (x : Leaf) : (s.setLeaf a x).dies = s.dies := rfl
@[simp] theorem State.setLeaf_heat (s : State) (a : Nat) (x : Leaf) : (s.setLeaf a x).heat = s.heat := rfl
@[simp] theorem State.setLeaf_power (s : State) (a : Nat) (x : Leaf) : (s.setLeaf a x).power = s.power := rfl
@[simp] theorem State.setLeaf_sec (s : State) (a : Nat) (x : Leaf) : (s.setLeaf a x).sec = s.sec := rfl
@[simp] theorem State.setLeaf_duplex (s : State) (a : Nat) (x : Leaf) : (s.setLeaf a x).duplex = s.duplex := rfl

/-! ### `setSensor` writes `sensors` only -/

@[simp] theorem State.setSensor_pending (s : State) (n : Nat) (x : Sensor) : (s.setSensor n x).pending = s.pending := rfl
@[simp] theorem State.setSensor_now (s : State) (n : Nat) (x : Sensor) : (s.setSensor n x).now = s.now := rfl
@[simp] theorem State.setSensor_free (s : State) (n : Nat) (x : Sensor) : (s.setSensor n x).free = s.free := rfl
@[simp] theorem State.setSensor_answer (s : State) (n : Nat) (x : Sensor) : (s.setSensor n x).answer = s.answer := rfl
@[simp] theorem State.setSensor_dict (s : State) (n : Nat) (x : Sensor) : (s.setSensor n x).dict = s.dict := rfl
@[simp] theorem State.setSensor_eff (s : State) (n : Nat) (x : Sensor) : (s.setSensor n x).eff = s.eff := rfl
@[simp] theorem State.setSensor_nv (s : State) (n : Nat) (x : Sensor) : (s.setSensor n x).nv = s.nv := rfl
@[simp] theorem State.setSensor_blobs (s : State) (n : Nat) (x : Sensor) : (s.setSensor n x).blobs = s.blobs := rfl
@[simp] theorem State.setSensor_egress (s : State) (n : Nat) (x : Sensor) : (s.setSensor n x).egress = s.egress := rfl
@[simp] theorem State.setSensor_part (s : State) (n : Nat) (x : Sensor) : (s.setSensor n x).part = s.part := rfl
@[simp] theorem State.setSensor_boundary (s : State) (n : Nat) (x : Sensor) : (s.setSensor n x).boundary = s.boundary := rfl
@[simp] theorem State.setSensor_doors (s : State) (n : Nat) (x : Sensor) : (s.setSensor n x).doors = s.doors := rfl
@[simp] theorem State.setSensor_axes (s : State) (n : Nat) (x : Sensor) : (s.setSensor n x).axes = s.axes := rfl
@[simp] theorem State.setSensor_recd (s : State) (n : Nat) (x : Sensor) : (s.setSensor n x).recd = s.recd := rfl
@[simp] theorem State.setSensor_net (s : State) (n : Nat) (x : Sensor) : (s.setSensor n x).net = s.net := rfl
@[simp] theorem State.setSensor_sessions (s : State) (n : Nat) (x : Sensor) : (s.setSensor n x).sessions = s.sessions := rfl
@[simp] theorem State.setSensor_safety (s : State) (n : Nat) (x : Sensor) : (s.setSensor n x).safety = s.safety := rfl
@[simp] theorem State.setSensor_contacts (s : State) (n : Nat) (x : Sensor) : (s.setSensor n x).contacts = s.contacts := rfl
@[simp] theorem State.setSensor_pairs (s : State) (n : Nat) (x : Sensor) : (s.setSensor n x).pairs = s.pairs := rfl
@[simp] theorem State.setSensor_cab (s : State) (n : Nat) (x : Sensor) : (s.setSensor n x).cab = s.cab := rfl
@[simp] theorem State.setSensor_leaves (s : State) (n : Nat) (x : Sensor) : (s.setSensor n x).leaves = s.leaves := rfl
@[simp] theorem State.setSensor_leafCommits (s : State) (n : Nat) (x : Sensor) : (s.setSensor n x).leafCommits = s.leafCommits := rfl
@[simp] theorem State.setSensor_depthQueue (s : State) (n : Nat) (x : Sensor) : (s.setSensor n x).depthQueue = s.depthQueue := rfl
@[simp] theorem State.setSensor_links (s : State) (n : Nat) (x : Sensor) : (s.setSensor n x).links = s.links := rfl
@[simp] theorem State.setSensor_nodes (s : State) (n : Nat) (x : Sensor) : (s.setSensor n x).nodes = s.nodes := rfl
@[simp] theorem State.setSensor_conns (s : State) (n : Nat) (x : Sensor) : (s.setSensor n x).conns = s.conns := rfl
@[simp] theorem State.setSensor_summary (s : State) (n : Nat) (x : Sensor) : (s.setSensor n x).summary = s.summary := rfl
@[simp] theorem State.setSensor_chans (s : State) (n : Nat) (x : Sensor) : (s.setSensor n x).chans = s.chans := rfl
@[simp] theorem State.setSensor_dies (s : State) (n : Nat) (x : Sensor) : (s.setSensor n x).dies = s.dies := rfl
@[simp] theorem State.setSensor_heat (s : State) (n : Nat) (x : Sensor) : (s.setSensor n x).heat = s.heat := rfl
@[simp] theorem State.setSensor_power (s : State) (n : Nat) (x : Sensor) : (s.setSensor n x).power = s.power := rfl
@[simp] theorem State.setSensor_sec (s : State) (n : Nat) (x : Sensor) : (s.setSensor n x).sec = s.sec := rfl
@[simp] theorem State.setSensor_duplex (s : State) (n : Nat) (x : Sensor) : (s.setSensor n x).duplex = s.duplex := rfl

/-! ### `setNode` writes `nodes` only -/

@[simp] theorem State.setNode_pending (s : State) (d : Nat) (x : Node) : (s.setNode d x).pending = s.pending := rfl
@[simp] theorem State.setNode_now (s : State) (d : Nat) (x : Node) : (s.setNode d x).now = s.now := rfl
@[simp] theorem State.setNode_free (s : State) (d : Nat) (x : Node) : (s.setNode d x).free = s.free := rfl
@[simp] theorem State.setNode_answer (s : State) (d : Nat) (x : Node) : (s.setNode d x).answer = s.answer := rfl
@[simp] theorem State.setNode_dict (s : State) (d : Nat) (x : Node) : (s.setNode d x).dict = s.dict := rfl
@[simp] theorem State.setNode_eff (s : State) (d : Nat) (x : Node) : (s.setNode d x).eff = s.eff := rfl
@[simp] theorem State.setNode_nv (s : State) (d : Nat) (x : Node) : (s.setNode d x).nv = s.nv := rfl
@[simp] theorem State.setNode_blobs (s : State) (d : Nat) (x : Node) : (s.setNode d x).blobs = s.blobs := rfl
@[simp] theorem State.setNode_egress (s : State) (d : Nat) (x : Node) : (s.setNode d x).egress = s.egress := rfl
@[simp] theorem State.setNode_part (s : State) (d : Nat) (x : Node) : (s.setNode d x).part = s.part := rfl
@[simp] theorem State.setNode_boundary (s : State) (d : Nat) (x : Node) : (s.setNode d x).boundary = s.boundary := rfl
@[simp] theorem State.setNode_doors (s : State) (d : Nat) (x : Node) : (s.setNode d x).doors = s.doors := rfl
@[simp] theorem State.setNode_axes (s : State) (d : Nat) (x : Node) : (s.setNode d x).axes = s.axes := rfl
@[simp] theorem State.setNode_recd (s : State) (d : Nat) (x : Node) : (s.setNode d x).recd = s.recd := rfl
@[simp] theorem State.setNode_net (s : State) (d : Nat) (x : Node) : (s.setNode d x).net = s.net := rfl
@[simp] theorem State.setNode_sessions (s : State) (d : Nat) (x : Node) : (s.setNode d x).sessions = s.sessions := rfl
@[simp] theorem State.setNode_safety (s : State) (d : Nat) (x : Node) : (s.setNode d x).safety = s.safety := rfl
@[simp] theorem State.setNode_contacts (s : State) (d : Nat) (x : Node) : (s.setNode d x).contacts = s.contacts := rfl
@[simp] theorem State.setNode_pairs (s : State) (d : Nat) (x : Node) : (s.setNode d x).pairs = s.pairs := rfl
@[simp] theorem State.setNode_cab (s : State) (d : Nat) (x : Node) : (s.setNode d x).cab = s.cab := rfl
@[simp] theorem State.setNode_leaves (s : State) (d : Nat) (x : Node) : (s.setNode d x).leaves = s.leaves := rfl
@[simp] theorem State.setNode_leafCommits (s : State) (d : Nat) (x : Node) : (s.setNode d x).leafCommits = s.leafCommits := rfl
@[simp] theorem State.setNode_sensors (s : State) (d : Nat) (x : Node) : (s.setNode d x).sensors = s.sensors := rfl
@[simp] theorem State.setNode_depthQueue (s : State) (d : Nat) (x : Node) : (s.setNode d x).depthQueue = s.depthQueue := rfl
@[simp] theorem State.setNode_links (s : State) (d : Nat) (x : Node) : (s.setNode d x).links = s.links := rfl
@[simp] theorem State.setNode_conns (s : State) (d : Nat) (x : Node) : (s.setNode d x).conns = s.conns := rfl
@[simp] theorem State.setNode_summary (s : State) (d : Nat) (x : Node) : (s.setNode d x).summary = s.summary := rfl
@[simp] theorem State.setNode_chans (s : State) (d : Nat) (x : Node) : (s.setNode d x).chans = s.chans := rfl
@[simp] theorem State.setNode_dies (s : State) (d : Nat) (x : Node) : (s.setNode d x).dies = s.dies := rfl
@[simp] theorem State.setNode_heat (s : State) (d : Nat) (x : Node) : (s.setNode d x).heat = s.heat := rfl
@[simp] theorem State.setNode_power (s : State) (d : Nat) (x : Node) : (s.setNode d x).power = s.power := rfl
@[simp] theorem State.setNode_sec (s : State) (d : Nat) (x : Node) : (s.setNode d x).sec = s.sec := rfl
@[simp] theorem State.setNode_duplex (s : State) (d : Nat) (x : Node) : (s.setNode d x).duplex = s.duplex := rfl

/-! ### `setConn` writes `conns` only -/

@[simp] theorem State.setConn_pending (s : State) (n : Nat) (x : Conn) : (s.setConn n x).pending = s.pending := rfl
@[simp] theorem State.setConn_now (s : State) (n : Nat) (x : Conn) : (s.setConn n x).now = s.now := rfl
@[simp] theorem State.setConn_free (s : State) (n : Nat) (x : Conn) : (s.setConn n x).free = s.free := rfl
@[simp] theorem State.setConn_answer (s : State) (n : Nat) (x : Conn) : (s.setConn n x).answer = s.answer := rfl
@[simp] theorem State.setConn_dict (s : State) (n : Nat) (x : Conn) : (s.setConn n x).dict = s.dict := rfl
@[simp] theorem State.setConn_eff (s : State) (n : Nat) (x : Conn) : (s.setConn n x).eff = s.eff := rfl
@[simp] theorem State.setConn_nv (s : State) (n : Nat) (x : Conn) : (s.setConn n x).nv = s.nv := rfl
@[simp] theorem State.setConn_blobs (s : State) (n : Nat) (x : Conn) : (s.setConn n x).blobs = s.blobs := rfl
@[simp] theorem State.setConn_egress (s : State) (n : Nat) (x : Conn) : (s.setConn n x).egress = s.egress := rfl
@[simp] theorem State.setConn_part (s : State) (n : Nat) (x : Conn) : (s.setConn n x).part = s.part := rfl
@[simp] theorem State.setConn_boundary (s : State) (n : Nat) (x : Conn) : (s.setConn n x).boundary = s.boundary := rfl
@[simp] theorem State.setConn_doors (s : State) (n : Nat) (x : Conn) : (s.setConn n x).doors = s.doors := rfl
@[simp] theorem State.setConn_axes (s : State) (n : Nat) (x : Conn) : (s.setConn n x).axes = s.axes := rfl
@[simp] theorem State.setConn_recd (s : State) (n : Nat) (x : Conn) : (s.setConn n x).recd = s.recd := rfl
@[simp] theorem State.setConn_net (s : State) (n : Nat) (x : Conn) : (s.setConn n x).net = s.net := rfl
@[simp] theorem State.setConn_sessions (s : State) (n : Nat) (x : Conn) : (s.setConn n x).sessions = s.sessions := rfl
@[simp] theorem State.setConn_safety (s : State) (n : Nat) (x : Conn) : (s.setConn n x).safety = s.safety := rfl
@[simp] theorem State.setConn_contacts (s : State) (n : Nat) (x : Conn) : (s.setConn n x).contacts = s.contacts := rfl
@[simp] theorem State.setConn_pairs (s : State) (n : Nat) (x : Conn) : (s.setConn n x).pairs = s.pairs := rfl
@[simp] theorem State.setConn_cab (s : State) (n : Nat) (x : Conn) : (s.setConn n x).cab = s.cab := rfl
@[simp] theorem State.setConn_leaves (s : State) (n : Nat) (x : Conn) : (s.setConn n x).leaves = s.leaves := rfl
@[simp] theorem State.setConn_leafCommits (s : State) (n : Nat) (x : Conn) : (s.setConn n x).leafCommits = s.leafCommits := rfl
@[simp] theorem State.setConn_sensors (s : State) (n : Nat) (x : Conn) : (s.setConn n x).sensors = s.sensors := rfl
@[simp] theorem State.setConn_depthQueue (s : State) (n : Nat) (x : Conn) : (s.setConn n x).depthQueue = s.depthQueue := rfl
@[simp] theorem State.setConn_links (s : State) (n : Nat) (x : Conn) : (s.setConn n x).links = s.links := rfl
@[simp] theorem State.setConn_nodes (s : State) (n : Nat) (x : Conn) : (s.setConn n x).nodes = s.nodes := rfl
@[simp] theorem State.setConn_summary (s : State) (n : Nat) (x : Conn) : (s.setConn n x).summary = s.summary := rfl
@[simp] theorem State.setConn_chans (s : State) (n : Nat) (x : Conn) : (s.setConn n x).chans = s.chans := rfl
@[simp] theorem State.setConn_dies (s : State) (n : Nat) (x : Conn) : (s.setConn n x).dies = s.dies := rfl
@[simp] theorem State.setConn_heat (s : State) (n : Nat) (x : Conn) : (s.setConn n x).heat = s.heat := rfl
@[simp] theorem State.setConn_power (s : State) (n : Nat) (x : Conn) : (s.setConn n x).power = s.power := rfl
@[simp] theorem State.setConn_sec (s : State) (n : Nat) (x : Conn) : (s.setConn n x).sec = s.sec := rfl
@[simp] theorem State.setConn_duplex (s : State) (n : Nat) (x : Conn) : (s.setConn n x).duplex = s.duplex := rfl

/-! ### `setChan` writes `chans` only -/

@[simp] theorem State.setChan_pending (s : State) (q : Nat) (x : OutChan) : (s.setChan q x).pending = s.pending := rfl
@[simp] theorem State.setChan_now (s : State) (q : Nat) (x : OutChan) : (s.setChan q x).now = s.now := rfl
@[simp] theorem State.setChan_free (s : State) (q : Nat) (x : OutChan) : (s.setChan q x).free = s.free := rfl
@[simp] theorem State.setChan_answer (s : State) (q : Nat) (x : OutChan) : (s.setChan q x).answer = s.answer := rfl
@[simp] theorem State.setChan_dict (s : State) (q : Nat) (x : OutChan) : (s.setChan q x).dict = s.dict := rfl
@[simp] theorem State.setChan_eff (s : State) (q : Nat) (x : OutChan) : (s.setChan q x).eff = s.eff := rfl
@[simp] theorem State.setChan_nv (s : State) (q : Nat) (x : OutChan) : (s.setChan q x).nv = s.nv := rfl
@[simp] theorem State.setChan_blobs (s : State) (q : Nat) (x : OutChan) : (s.setChan q x).blobs = s.blobs := rfl
@[simp] theorem State.setChan_egress (s : State) (q : Nat) (x : OutChan) : (s.setChan q x).egress = s.egress := rfl
@[simp] theorem State.setChan_part (s : State) (q : Nat) (x : OutChan) : (s.setChan q x).part = s.part := rfl
@[simp] theorem State.setChan_boundary (s : State) (q : Nat) (x : OutChan) : (s.setChan q x).boundary = s.boundary := rfl
@[simp] theorem State.setChan_doors (s : State) (q : Nat) (x : OutChan) : (s.setChan q x).doors = s.doors := rfl
@[simp] theorem State.setChan_axes (s : State) (q : Nat) (x : OutChan) : (s.setChan q x).axes = s.axes := rfl
@[simp] theorem State.setChan_recd (s : State) (q : Nat) (x : OutChan) : (s.setChan q x).recd = s.recd := rfl
@[simp] theorem State.setChan_net (s : State) (q : Nat) (x : OutChan) : (s.setChan q x).net = s.net := rfl
@[simp] theorem State.setChan_sessions (s : State) (q : Nat) (x : OutChan) : (s.setChan q x).sessions = s.sessions := rfl
@[simp] theorem State.setChan_safety (s : State) (q : Nat) (x : OutChan) : (s.setChan q x).safety = s.safety := rfl
@[simp] theorem State.setChan_contacts (s : State) (q : Nat) (x : OutChan) : (s.setChan q x).contacts = s.contacts := rfl
@[simp] theorem State.setChan_pairs (s : State) (q : Nat) (x : OutChan) : (s.setChan q x).pairs = s.pairs := rfl
@[simp] theorem State.setChan_cab (s : State) (q : Nat) (x : OutChan) : (s.setChan q x).cab = s.cab := rfl
@[simp] theorem State.setChan_leaves (s : State) (q : Nat) (x : OutChan) : (s.setChan q x).leaves = s.leaves := rfl
@[simp] theorem State.setChan_leafCommits (s : State) (q : Nat) (x : OutChan) : (s.setChan q x).leafCommits = s.leafCommits := rfl
@[simp] theorem State.setChan_sensors (s : State) (q : Nat) (x : OutChan) : (s.setChan q x).sensors = s.sensors := rfl
@[simp] theorem State.setChan_depthQueue (s : State) (q : Nat) (x : OutChan) : (s.setChan q x).depthQueue = s.depthQueue := rfl
@[simp] theorem State.setChan_links (s : State) (q : Nat) (x : OutChan) : (s.setChan q x).links = s.links := rfl
@[simp] theorem State.setChan_nodes (s : State) (q : Nat) (x : OutChan) : (s.setChan q x).nodes = s.nodes := rfl
@[simp] theorem State.setChan_conns (s : State) (q : Nat) (x : OutChan) : (s.setChan q x).conns = s.conns := rfl
@[simp] theorem State.setChan_summary (s : State) (q : Nat) (x : OutChan) : (s.setChan q x).summary = s.summary := rfl
@[simp] theorem State.setChan_dies (s : State) (q : Nat) (x : OutChan) : (s.setChan q x).dies = s.dies := rfl
@[simp] theorem State.setChan_heat (s : State) (q : Nat) (x : OutChan) : (s.setChan q x).heat = s.heat := rfl
@[simp] theorem State.setChan_power (s : State) (q : Nat) (x : OutChan) : (s.setChan q x).power = s.power := rfl
@[simp] theorem State.setChan_sec (s : State) (q : Nat) (x : OutChan) : (s.setChan q x).sec = s.sec := rfl
@[simp] theorem State.setChan_duplex (s : State) (q : Nat) (x : OutChan) : (s.setChan q x).duplex = s.duplex := rfl

/-! ### `modChan` writes `chans` only -/

@[simp] theorem State.modChan_pending (s : State) (q : Nat) (f : OutChan → OutChan) : (s.modChan q f).pending = s.pending := rfl
@[simp] theorem State.modChan_now (s : State) (q : Nat) (f : OutChan → OutChan) : (s.modChan q f).now = s.now := rfl
@[simp] theorem State.modChan_free (s : State) (q : Nat) (f : OutChan → OutChan) : (s.modChan q f).free = s.free := rfl
@[simp] theorem State.modChan_answer (s : State) (q : Nat) (f : OutChan → OutChan) : (s.modChan q f).answer = s.answer := rfl
@[simp] theorem State.modChan_dict (s : State) (q : Nat) (f : OutChan → OutChan) : (s.modChan q f).dict = s.dict := rfl
@[simp] theorem State.modChan_eff (s : State) (q : Nat) (f : OutChan → OutChan) : (s.modChan q f).eff = s.eff := rfl
@[simp] theorem State.modChan_nv (s : State) (q : Nat) (f : OutChan → OutChan) : (s.modChan q f).nv = s.nv := rfl
@[simp] theorem State.modChan_blobs (s : State) (q : Nat) (f : OutChan → OutChan) : (s.modChan q f).blobs = s.blobs := rfl
@[simp] theorem State.modChan_egress (s : State) (q : Nat) (f : OutChan → OutChan) : (s.modChan q f).egress = s.egress := rfl
@[simp] theorem State.modChan_part (s : State) (q : Nat) (f : OutChan → OutChan) : (s.modChan q f).part = s.part := rfl
@[simp] theorem State.modChan_boundary (s : State) (q : Nat) (f : OutChan → OutChan) : (s.modChan q f).boundary = s.boundary := rfl
@[simp] theorem State.modChan_doors (s : State) (q : Nat) (f : OutChan → OutChan) : (s.modChan q f).doors = s.doors := rfl
@[simp] theorem State.modChan_axes (s : State) (q : Nat) (f : OutChan → OutChan) : (s.modChan q f).axes = s.axes := rfl
@[simp] theorem State.modChan_recd (s : State) (q : Nat) (f : OutChan → OutChan) : (s.modChan q f).recd = s.recd := rfl
@[simp] theorem State.modChan_net (s : State) (q : Nat) (f : OutChan → OutChan) : (s.modChan q f).net = s.net := rfl
@[simp] theorem State.modChan_sessions (s : State) (q : Nat) (f : OutChan → OutChan) : (s.modChan q f).sessions = s.sessions := rfl
@[simp] theorem State.modChan_safety (s : State) (q : Nat) (f : OutChan → OutChan) : (s.modChan q f).safety = s.safety := rfl
@[simp] theorem State.modChan_contacts (s : State) (q : Nat) (f : OutChan → OutChan) : (s.modChan q f).contacts = s.contacts := rfl
@[simp] theorem State.modChan_pairs (s : State) (q : Nat) (f : OutChan → OutChan) : (s.modChan q f).pairs = s.pairs := rfl
@[simp] theorem State.modChan_cab (s : State) (q : Nat) (f : OutChan → OutChan) : (s.modChan q f).cab = s.cab := rfl
@[simp] theorem State.modChan_leaves (s : State) (q : Nat) (f : OutChan → OutChan) : (s.modChan q f).leaves = s.leaves := rfl
@[simp] theorem State.modChan_leafCommits (s : State) (q : Nat) (f : OutChan → OutChan) : (s.modChan q f).leafCommits = s.leafCommits := rfl
@[simp] theorem State.modChan_sensors (s : State) (q : Nat) (f : OutChan → OutChan) : (s.modChan q f).sensors = s.sensors := rfl
@[simp] theorem State.modChan_depthQueue (s : State) (q : Nat) (f : OutChan → OutChan) : (s.modChan q f).depthQueue = s.depthQueue := rfl
@[simp] theorem State.modChan_links (s : State) (q : Nat) (f : OutChan → OutChan) : (s.modChan q f).links = s.links := rfl
@[simp] theorem State.modChan_nodes (s : State) (q : Nat) (f : OutChan → OutChan) : (s.modChan q f).nodes = s.nodes := rfl
@[simp] theorem State.modChan_conns (s : State) (q : Nat) (f : OutChan → OutChan) : (s.modChan q f).conns = s.conns := rfl
@[simp] theorem State.modChan_summary (s : State) (q : Nat) (f : OutChan → OutChan) : (s.modChan q f).summary = s.summary := rfl
@[simp] theorem State.modChan_dies (s : State) (q : Nat) (f : OutChan → OutChan) : (s.modChan q f).dies = s.dies := rfl
@[simp] theorem State.modChan_heat (s : State) (q : Nat) (f : OutChan → OutChan) : (s.modChan q f).heat = s.heat := rfl
@[simp] theorem State.modChan_power (s : State) (q : Nat) (f : OutChan → OutChan) : (s.modChan q f).power = s.power := rfl
@[simp] theorem State.modChan_sec (s : State) (q : Nat) (f : OutChan → OutChan) : (s.modChan q f).sec = s.sec := rfl
@[simp] theorem State.modChan_duplex (s : State) (q : Nat) (f : OutChan → OutChan) : (s.modChan q f).duplex = s.duplex := rfl

/-! ### `setDie` writes `dies` only -/

@[simp] theorem State.setDie_pending (s : State) (d : Nat) (x : FieldDie) : (s.setDie d x).pending = s.pending := rfl
@[simp] theorem State.setDie_now (s : State) (d : Nat) (x : FieldDie) : (s.setDie d x).now = s.now := rfl
@[simp] theorem State.setDie_free (s : State) (d : Nat) (x : FieldDie) : (s.setDie d x).free = s.free := rfl
@[simp] theorem State.setDie_answer (s : State) (d : Nat) (x : FieldDie) : (s.setDie d x).answer = s.answer := rfl
@[simp] theorem State.setDie_dict (s : State) (d : Nat) (x : FieldDie) : (s.setDie d x).dict = s.dict := rfl
@[simp] theorem State.setDie_eff (s : State) (d : Nat) (x : FieldDie) : (s.setDie d x).eff = s.eff := rfl
@[simp] theorem State.setDie_nv (s : State) (d : Nat) (x : FieldDie) : (s.setDie d x).nv = s.nv := rfl
@[simp] theorem State.setDie_blobs (s : State) (d : Nat) (x : FieldDie) : (s.setDie d x).blobs = s.blobs := rfl
@[simp] theorem State.setDie_egress (s : State) (d : Nat) (x : FieldDie) : (s.setDie d x).egress = s.egress := rfl
@[simp] theorem State.setDie_part (s : State) (d : Nat) (x : FieldDie) : (s.setDie d x).part = s.part := rfl
@[simp] theorem State.setDie_boundary (s : State) (d : Nat) (x : FieldDie) : (s.setDie d x).boundary = s.boundary := rfl
@[simp] theorem State.setDie_doors (s : State) (d : Nat) (x : FieldDie) : (s.setDie d x).doors = s.doors := rfl
@[simp] theorem State.setDie_axes (s : State) (d : Nat) (x : FieldDie) : (s.setDie d x).axes = s.axes := rfl
@[simp] theorem State.setDie_recd (s : State) (d : Nat) (x : FieldDie) : (s.setDie d x).recd = s.recd := rfl
@[simp] theorem State.setDie_net (s : State) (d : Nat) (x : FieldDie) : (s.setDie d x).net = s.net := rfl
@[simp] theorem State.setDie_sessions (s : State) (d : Nat) (x : FieldDie) : (s.setDie d x).sessions = s.sessions := rfl
@[simp] theorem State.setDie_safety (s : State) (d : Nat) (x : FieldDie) : (s.setDie d x).safety = s.safety := rfl
@[simp] theorem State.setDie_contacts (s : State) (d : Nat) (x : FieldDie) : (s.setDie d x).contacts = s.contacts := rfl
@[simp] theorem State.setDie_pairs (s : State) (d : Nat) (x : FieldDie) : (s.setDie d x).pairs = s.pairs := rfl
@[simp] theorem State.setDie_cab (s : State) (d : Nat) (x : FieldDie) : (s.setDie d x).cab = s.cab := rfl
@[simp] theorem State.setDie_leaves (s : State) (d : Nat) (x : FieldDie) : (s.setDie d x).leaves = s.leaves := rfl
@[simp] theorem State.setDie_leafCommits (s : State) (d : Nat) (x : FieldDie) : (s.setDie d x).leafCommits = s.leafCommits := rfl
@[simp] theorem State.setDie_sensors (s : State) (d : Nat) (x : FieldDie) : (s.setDie d x).sensors = s.sensors := rfl
@[simp] theorem State.setDie_depthQueue (s : State) (d : Nat) (x : FieldDie) : (s.setDie d x).depthQueue = s.depthQueue := rfl
@[simp] theorem State.setDie_links (s : State) (d : Nat) (x : FieldDie) : (s.setDie d x).links = s.links := rfl
@[simp] theorem State.setDie_nodes (s : State) (d : Nat) (x : FieldDie) : (s.setDie d x).nodes = s.nodes := rfl
@[simp] theorem State.setDie_conns (s : State) (d : Nat) (x : FieldDie) : (s.setDie d x).conns = s.conns := rfl
@[simp] theorem State.setDie_summary (s : State) (d : Nat) (x : FieldDie) : (s.setDie d x).summary = s.summary := rfl
@[simp] theorem State.setDie_chans (s : State) (d : Nat) (x : FieldDie) : (s.setDie d x).chans = s.chans := rfl
@[simp] theorem State.setDie_heat (s : State) (d : Nat) (x : FieldDie) : (s.setDie d x).heat = s.heat := rfl
@[simp] theorem State.setDie_power (s : State) (d : Nat) (x : FieldDie) : (s.setDie d x).power = s.power := rfl
@[simp] theorem State.setDie_sec (s : State) (d : Nat) (x : FieldDie) : (s.setDie d x).sec = s.sec := rfl
@[simp] theorem State.setDie_duplex (s : State) (d : Nat) (x : FieldDie) : (s.setDie d x).duplex = s.duplex := rfl

/-! ### `setOut` writes `safety` only -/

@[simp] theorem State.setOut_pending (s : State) (k : Nat) (x : SafeOut) : (s.setOut k x).pending = s.pending := rfl
@[simp] theorem State.setOut_now (s : State) (k : Nat) (x : SafeOut) : (s.setOut k x).now = s.now := rfl
@[simp] theorem State.setOut_free (s : State) (k : Nat) (x : SafeOut) : (s.setOut k x).free = s.free := rfl
@[simp] theorem State.setOut_answer (s : State) (k : Nat) (x : SafeOut) : (s.setOut k x).answer = s.answer := rfl
@[simp] theorem State.setOut_dict (s : State) (k : Nat) (x : SafeOut) : (s.setOut k x).dict = s.dict := rfl
@[simp] theorem State.setOut_eff (s : State) (k : Nat) (x : SafeOut) : (s.setOut k x).eff = s.eff := rfl
@[simp] theorem State.setOut_nv (s : State) (k : Nat) (x : SafeOut) : (s.setOut k x).nv = s.nv := rfl
@[simp] theorem State.setOut_blobs (s : State) (k : Nat) (x : SafeOut) : (s.setOut k x).blobs = s.blobs := rfl
@[simp] theorem State.setOut_egress (s : State) (k : Nat) (x : SafeOut) : (s.setOut k x).egress = s.egress := rfl
@[simp] theorem State.setOut_part (s : State) (k : Nat) (x : SafeOut) : (s.setOut k x).part = s.part := rfl
@[simp] theorem State.setOut_boundary (s : State) (k : Nat) (x : SafeOut) : (s.setOut k x).boundary = s.boundary := rfl
@[simp] theorem State.setOut_doors (s : State) (k : Nat) (x : SafeOut) : (s.setOut k x).doors = s.doors := rfl
@[simp] theorem State.setOut_axes (s : State) (k : Nat) (x : SafeOut) : (s.setOut k x).axes = s.axes := rfl
@[simp] theorem State.setOut_recd (s : State) (k : Nat) (x : SafeOut) : (s.setOut k x).recd = s.recd := rfl
@[simp] theorem State.setOut_net (s : State) (k : Nat) (x : SafeOut) : (s.setOut k x).net = s.net := rfl
@[simp] theorem State.setOut_sessions (s : State) (k : Nat) (x : SafeOut) : (s.setOut k x).sessions = s.sessions := rfl
@[simp] theorem State.setOut_contacts (s : State) (k : Nat) (x : SafeOut) : (s.setOut k x).contacts = s.contacts := rfl
@[simp] theorem State.setOut_pairs (s : State) (k : Nat) (x : SafeOut) : (s.setOut k x).pairs = s.pairs := rfl
@[simp] theorem State.setOut_cab (s : State) (k : Nat) (x : SafeOut) : (s.setOut k x).cab = s.cab := rfl
@[simp] theorem State.setOut_leaves (s : State) (k : Nat) (x : SafeOut) : (s.setOut k x).leaves = s.leaves := rfl
@[simp] theorem State.setOut_leafCommits (s : State) (k : Nat) (x : SafeOut) : (s.setOut k x).leafCommits = s.leafCommits := rfl
@[simp] theorem State.setOut_sensors (s : State) (k : Nat) (x : SafeOut) : (s.setOut k x).sensors = s.sensors := rfl
@[simp] theorem State.setOut_depthQueue (s : State) (k : Nat) (x : SafeOut) : (s.setOut k x).depthQueue = s.depthQueue := rfl
@[simp] theorem State.setOut_links (s : State) (k : Nat) (x : SafeOut) : (s.setOut k x).links = s.links := rfl
@[simp] theorem State.setOut_nodes (s : State) (k : Nat) (x : SafeOut) : (s.setOut k x).nodes = s.nodes := rfl
@[simp] theorem State.setOut_conns (s : State) (k : Nat) (x : SafeOut) : (s.setOut k x).conns = s.conns := rfl
@[simp] theorem State.setOut_summary (s : State) (k : Nat) (x : SafeOut) : (s.setOut k x).summary = s.summary := rfl
@[simp] theorem State.setOut_chans (s : State) (k : Nat) (x : SafeOut) : (s.setOut k x).chans = s.chans := rfl
@[simp] theorem State.setOut_dies (s : State) (k : Nat) (x : SafeOut) : (s.setOut k x).dies = s.dies := rfl
@[simp] theorem State.setOut_heat (s : State) (k : Nat) (x : SafeOut) : (s.setOut k x).heat = s.heat := rfl
@[simp] theorem State.setOut_power (s : State) (k : Nat) (x : SafeOut) : (s.setOut k x).power = s.power := rfl
@[simp] theorem State.setOut_sec (s : State) (k : Nat) (x : SafeOut) : (s.setOut k x).sec = s.sec := rfl
@[simp] theorem State.setOut_duplex (s : State) (k : Nat) (x : SafeOut) : (s.setOut k x).duplex = s.duplex := rfl

end Sys2Proof.Machine
end

