-- ==== Sys2Proof/Laws/Store.lean ====
section
/-!
SUPPORT. Read after write for sparse maps, for the dictionary and for the instances that engines keep; bits of status words.
-/
namespace Sys2Proof.Machine

/-! ### Sparse maps -/

theorem lookup_erase_same {α : Type} (k : Nat) (m : Store α) : lookup k (erase k m) = none := by
  induction m with
  | nil => rfl
  | cons x r ih =>
    obtain ⟨j, v⟩ := x
    simp only [erase]
    split
    · exact ih
    · simp [lookup, *]

theorem lookup_erase_ne {α : Type} {k j : Nat} (h : j ≠ k) (m : Store α) : lookup j (erase k m) = lookup j m := by
  induction m with
  | nil => rfl
  | cons x r ih =>
    obtain ⟨i, v⟩ := x
    simp only [erase, lookup]
    split
    · next e => subst e; simp [Ne.symm h, ih]
    · simp [lookup, ih]

theorem lookup_place_same {α : Type} (k : Nat) (v : α) (m : Store α) (h : lookup k m = none) :
    lookup k (place k v m) = some v := by
  induction m with
  | nil => simp [place, lookup]
  | cons x r ih =>
    obtain ⟨j, w⟩ := x
    simp only [lookup] at h
    simp only [place]
    split
    · simp [lookup]
    · by_cases e : j = k
      · simp [e] at h
      · simp only [e, if_false] at h
        simp [lookup, e, ih h]

theorem lookup_place_ne {α : Type} {k j : Nat} (hj : j ≠ k) (v : α) (m : Store α) : lookup j (place k v m) = lookup j m := by
  induction m with
  | nil => simp [place, lookup, Ne.symm hj]
  | cons x r ih =>
    obtain ⟨i, w⟩ := x
    simp only [place]
    split
    · simp [lookup, Ne.symm hj]
    · simp [lookup, ih]

@[simp] theorem getD_putD_same {α : Type} [DecidableEq α] (d : α) (m : Store α) (k : Nat) (v : α) : getD d (putD d m k v) k = v := by
  simp only [putD, getD]
  split
  · next e => simp [lookup_erase_same, e]
  · simp [lookup_place_same k v _ (lookup_erase_same k m)]

theorem getD_putD_ne {α : Type} [DecidableEq α] {k j : Nat} (h : j ≠ k) (d e : α) (m : Store α) (v : α) :
    getD e (putD d m k v) j = getD e m j := by
  simp only [putD, getD]
  split
  · simp [lookup_erase_ne h]
  · simp [lookup_place_ne h, lookup_erase_ne h]

/-- `putD` keeps a map free of entries at their default. -/
theorem lookup_putD_ne_default {α : Type} [DecidableEq α] (d : α) (m : Store α) (k : Nat) (v : α) : lookup k (putD d m k v) ≠ some d := by
  simp only [putD]
  split
  · simp [lookup_erase_same]
  · next e => simp [lookup_place_same k v _ (lookup_erase_same k m), e]

/-! ### The dictionary -/

@[simp] theorem rd_wr_same (s : State) (k : Nat) (v : Int) : (s.wr k v).rd k = v := by simp [State.rd, State.wr]

theorem rd_wr_ne {k j : Nat} (h : j ≠ k) (s : State) (v : Int) : (s.wr k v).rd j = s.rd j := by
  simp [State.rd, State.wr, getD_putD_ne h]

theorem rd_wr (s : State) (k j : Nat) (v : Int) : (s.wr k v).rd j = if j = k then v else s.rd j := by
  split
  · next e => subst e; simp
  · next e => exact rd_wr_ne e s v

theorem rd_wrn (s : State) (k j n : Nat) : (s.wrn k n).rd j = if j = k then (n : Int) else s.rd j := rd_wr s k j n

theorem rd_setB (s : State) (k i j : Nat) (b : Bool) : (s.setB k i b).rd j = if j = k then setBit (s.rd k) i b else s.rd j :=
  rd_wr s k j _

theorem rd_addSat (s : State) (k n top j : Nat) :
    (s.addSat k n top).rd j = if j = k then ((min (s.rdn k + n) top : Nat) : Int) else s.rd j := rd_wr s k j _

theorem rd_count (s : State) (k j : Nat) : (s.count k).rd j = if j = k then ((min (s.rdn k + 1) max32 : Nat) : Int) else s.rd j :=
  rd_wr s k j _

@[simp] theorem rd_of_dict {s t : State} (h : t.dict = s.dict) (k : Nat) : t.rd k = s.rd k := by simp [State.rd, h]

@[simp] theorem p_enforce_same (s : State) (k : Nat) (v : Int) : (s.enforce k v).p k = v := by simp [State.p, State.enforce]

theorem p_enforce_ne {k j : Nat} (h : j ≠ k) (s : State) (v : Int) : (s.enforce k v).p j = s.p j := by
  simp [State.p, State.enforce, getD_putD_ne h]

@[simp] theorem blob_setBlob_same (s : State) (k : Nat) (bs : List ByteN) : (s.setBlob k bs).blob k = bs := by
  simp [State.blob, State.setBlob]

theorem blob_setBlob_ne {k j : Nat} (h : j ≠ k) (s : State) (bs : List ByteN) : (s.setBlob k bs).blob j = s.blob j := by
  simp [State.blob, State.setBlob, getD_putD_ne h]

/-! ### Bits -/

theorem testBit_setBit_same (v : Int) (i : Nat) (b : Bool) : bitOf (setBit v i b) i = b := by
  simp only [bitOf, setBit]
  generalize v.toNat = n
  by_cases h : n.testBit i = b
  · simp [h]
  · simp only [h, if_false]
    cases b with
    | true =>
      have hf : n.testBit i = false := by simpa using h
      simp only [if_true, Int.toNat_natCast]
      rw [Nat.add_comm, Nat.testBit_two_pow_add_eq, hf]; rfl
    | false =>
      have hb : n.testBit i = true := by simpa using h
      have hle : 2 ^ i ≤ n := Nat.ge_two_pow_of_testBit hb
      obtain ⟨m, rfl⟩ : ∃ m, n = 2 ^ i + m := ⟨n - 2 ^ i, by omega⟩
      rw [Nat.testBit_two_pow_add_eq] at hb
      simpa using hb

theorem testBit_setBit_ne {i j : Nat} (h : j ≠ i) (v : Int) (b : Bool) : bitOf (setBit v i b) j = bitOf v j := by
  have key : ∀ m : Nat, m.testBit i = false → (2 ^ i + m).testBit j = m.testBit j := by
    intro m hm
    rcases Nat.lt_or_gt_of_ne h with hlt | hgt
    · exact Nat.testBit_two_pow_add_gt hlt m
    · have e : 2 ^ i + m = 2 ^ i ||| m := by
        apply Nat.eq_of_testBit_eq
        intro x
        rcases Nat.lt_trichotomy x i with hx | hx | hx
        · rw [Nat.testBit_two_pow_add_gt hx, Nat.testBit_or, Nat.testBit_two_pow]; simp [Nat.ne_of_gt hx]
        · subst hx; rw [Nat.testBit_two_pow_add_eq, Nat.testBit_or, Nat.testBit_two_pow]; simp [hm]
        · have hdiv : (2 ^ i + m) / 2 ^ (i + 1) = m / 2 ^ (i + 1) := by
            have hm2 : m % 2 ^ (i + 1) < 2 ^ i := by
              have : m % 2 ^ (i + 1) = m % 2 ^ i + 2 ^ i * (m.testBit i).toNat := by
                rw [Nat.pow_succ, Nat.mod_mul, Nat.testBit_eq_decide_div_mod_eq]
                rcases Nat.mod_two_eq_zero_or_one (m / 2 ^ i) with h0 | h0 <;> simp [h0]
              rw [this, hm]; simpa using Nat.mod_lt m (Nat.two_pow_pos i)
            have := Nat.div_add_mod m (2 ^ (i + 1))
            have h2 : 2 ^ (i + 1) = 2 ^ i + 2 ^ i := by rw [Nat.pow_succ]; omega
            apply Nat.div_eq_of_lt_le
            · rw [Nat.mul_comm]; omega
            · rw [Nat.add_mul, Nat.mul_comm]; omega
          have hs : ∀ y : Nat, y.testBit x = (y / 2 ^ (i + 1)).testBit (x - (i + 1)) := by
            intro y
            rw [← Nat.shiftRight_eq_div_pow, Nat.testBit_shiftRight]; congr 1; omega
          rw [hs, hdiv, ← hs, Nat.testBit_or, Nat.testBit_two_pow]; simp [Nat.ne_of_lt hx]
      rw [e, Nat.testBit_or, Nat.testBit_two_pow]; simp [Ne.symm h]
  simp only [bitOf, setBit]
  generalize v.toNat = n
  by_cases hb : n.testBit i = b
  · simp [hb]
  · simp only [hb, if_false]
    cases b with
    | true =>
      have hf : n.testBit i = false := by simpa using hb
      simp only [if_true, Int.toNat_natCast]
      rw [Nat.add_comm, key n hf]
    | false =>
      have ht : n.testBit i = true := by simpa using hb
      have hle : 2 ^ i ≤ n := Nat.ge_two_pow_of_testBit ht
      obtain ⟨m, rfl⟩ : ∃ m, n = 2 ^ i + m := ⟨n - 2 ^ i, by omega⟩
      rw [Nat.testBit_two_pow_add_eq] at ht
      have hm : m.testBit i = false := by simpa using ht
      simp [key m hm]

@[simp] theorem bit_setB_same (s : State) (k i : Nat) (b : Bool) : (s.setB k i b).bit k i = b := by
  simp [State.bit, State.setB, testBit_setBit_same]

theorem bit_setB_bit_ne {i j : Nat} (h : j ≠ i) (s : State) (k : Nat) (b : Bool) : (s.setB k i b).bit k j = s.bit k j := by
  simp [State.bit, State.setB, testBit_setBit_ne h]

theorem bit_setB_ne {k j : Nat} (h : j ≠ k) (s : State) (i n : Nat) (b : Bool) : (s.setB k i b).bit j n = s.bit j n := by
  simp [State.bit, State.setB, rd_wr_ne h]

theorem bit_setB (s : State) (k i j n : Nat) (b : Bool) :
    (s.setB k i b).bit j n = if j = k ∧ n = i then b else s.bit j n := by
  by_cases hk : j = k
  · subst hk
    by_cases hn : n = i
    · subst hn; simp
    · simp [hn, bit_setB_bit_ne hn]
  · simp [hk, bit_setB_ne hk]

theorem bit_wr_ne {k j : Nat} (h : j ≠ k) (s : State) (n : Nat) (v : Int) : (s.wr k v).bit j n = s.bit j n := by
  simp [State.bit, rd_wr_ne h]

/-! ### Instances -/

@[simp] theorem door_setDoor_same (s : State) (d : Nat) (x : Door) : (s.setDoor d x).door d = x := by simp [State.door, State.setDoor]
theorem door_setDoor_ne {d e : Nat} (h : e ≠ d) (s : State) (x : Door) : (s.setDoor d x).door e = s.door e := by
  simp [State.door, State.setDoor, getD_putD_ne h]
@[simp] theorem axis_setAxis_same (s : State) (a : Nat) (x : Axis) : (s.setAxis a x).axis a = x := by simp [State.axis, State.setAxis]
theorem axis_setAxis_ne {a b : Nat} (h : b ≠ a) (s : State) (x : Axis) : (s.setAxis a x).axis b = s.axis b := by
  simp [State.axis, State.setAxis, getD_putD_ne h]
@[simp] theorem chan_setChan_same (s : State) (q : Nat) (x : OutChan) : (s.setChan q x).chan q = x := by simp [State.chan, State.setChan]
theorem chan_setChan_ne {q r : Nat} (h : r ≠ q) (s : State) (x : OutChan) : (s.setChan q x).chan r = s.chan r := by
  simp [State.chan, State.setChan, getD_putD_ne h]
@[simp] theorem con_setCon_same (s : State) (d : Nat) (x : Contacts) : (s.setCon d x).con d = x := by simp [State.con, State.setCon]
@[simp] theorem link_setLink_same (s : State) (d : Nat) (x : Link) : (s.setLink d x).link d = x := by simp [State.link, State.setLink]
@[simp] theorem node_setNode_same (s : State) (d : Nat) (x : Node) : (s.setNode d x).node d = x := by simp [State.node, State.setNode]
@[simp] theorem die_setDie_same (s : State) (d : Nat) (x : FieldDie) : (s.setDie d x).die d = x := by simp [State.die, State.setDie]

end Sys2Proof.Machine
end

