-- ==== Sys2Proof/Laws/Router.lean ====
section
/-!
SUPPORT. What the event router, the samples and the end of every command can change, each said once.
-/
namespace Sys2Proof.Machine

/-! ### Flags and counters -/

theorem rd_latch_ne {k w r : Nat} (hw : k ≠ w) (hr : k ≠ r) (s : State) (i : Nat) : (s.latch w i r).rd k = s.rd k := by
  unfold State.latch; split
  · rw [State.addSat, rd_wr_ne hr]
  · split
    · rw [State.setB, rd_wr_ne hw, State.addSat, rd_wr_ne hr]
    · rw [State.setB, rd_wr_ne hw]

theorem bit_latch_same {w r : Nat} (h : w ≠ r) (s : State) (i : Nat) : (s.latch w i r).bit w i = true := by
  unfold State.latch; split
  · next e => rw [State.addSat, bit_wr_ne h]; exact e
  · split
    · rw [bit_setB_same]
    · rw [bit_setB_same]

/-! ### The event router -/

theorem rd_ecEach {k : Nat} (h : k ∉ (List.range 32).map Ec.EC_VALUE) (s : State) (f : State → Nat → Bool) : (s.ecEach f).rd k = s.rd k := by
  unfold State.ecEach
  revert h
  generalize List.range 32 = l
  intro h
  induction l generalizing s with
  | nil => rfl
  | cons n r ih =>
    simp only [List.map_cons, List.mem_cons, not_or] at h
    simp only [List.foldl_cons]
    rw [ih (h := h.2)]
    split
    · simp only [State.ecAdd, State.addSat]; exact rd_wr_ne h.1 _ _
    · rfl

theorem rd_sendEmcy {k : Nat} (h : k ≠ Gl.ERROR_REGISTER) (s : State) (c : Bool) (e : Egress) : (s.sendEmcy c e).rd k = s.rd k := by
  have key : ∀ (t : State) (n : Nat), t.dict = s.dict → (t.wrn Gl.ERROR_REGISTER n).rd k = s.rd k := by
    intro t n e
    rw [State.wrn, rd_wr_ne h]; exact rd_of_dict e k
  unfold State.sendEmcy State.fresh
  dsimp only
  split
  · exact key _ _ rfl
  · split
    · exact key { s with free := s.free + 1 } _ rfl
    · split
      · exact key { s with free := s.free + 1 } _ rfl
      · exact key { s with free := s.free + 1 } _ rfl

theorem rd_notify {k : Nat} (h : k ≠ Gl.ERROR_REGISTER) (s : State) (c i : Nat) : (s.notify c i).rd k = s.rd k := by
  have key : ∀ t u : State, t.dict = u.dict → t.rd k = u.rd k := fun t u e => rd_of_dict e k
  unfold State.notify
  simp only [List.foldl_cons, List.foldl_nil]
  split
  · rw [← rd_sendEmcy h s (codeClass c == 0) (.emcy (codeClass c) c i s.secs)]
    apply key
    split <;> split <;> rfl
  · apply key
    split <;> split <;> rfl

theorem rd_raise {k : Nat} (h : k ∉ eventRegs) (s : State) (c i : Nat) (v : Int) : (s.raise c i v).rd k = s.rd k := by
  simp only [eventRegs, List.mem_append, List.mem_cons, List.not_mem_nil, or_false, not_or] at h
  obtain ⟨⟨h1, h2, h3, h4⟩, h5⟩ := h
  have sc : ∀ (t : State) c r, (t.setCode c r).rd k = t.rd k := fun _ _ _ => rfl
  unfold State.raise
  dsimp only
  split
  · rw [sc, rd_ecEach h5]
  · split
    · show (State.notify _ _ _).rd k = _
      rw [rd_notify h1, sc, rd_ecEach h5]
    · rw [rd_ecEach h5, rd_latch_ne h3 h4, State.count, State.addSat, rd_wr_ne h2, sc, rd_notify h1, sc, rd_ecEach h5]

theorem rd_sample {k : Nat} (h : k ∉ sampleRegs) (s : State) (a n : Nat) (v : Int) : (s.sample a n v).rd k = s.rd k := by
  simp only [sampleRegs, List.mem_cons, List.not_mem_nil, or_false, not_or] at h
  unfold State.sample; split
  · rfl
  · rw [rd_latch_ne h.2.1 h.2.2, State.count, State.addSat, rd_wr_ne h.1]

/-! ### What events and samples leave alone

A function of the state that does not look at the registers, the recorder, the network queues, the egress and the count of free
values sees no difference: with a projection it gives one field's frame, with the state without those fields it gives all of them. -/

/-- A function that events do not affect. -/
def EventBlind {α : Type} (f : State → α) : Prop :=
  ∀ (s : State) (d : Store Int) (r : Recorder) (n : Net) (e : List Egress) (m : Nat),
    f { s with dict := d, recd := r, net := n, egress := e, free := m } = f s

/-- A function that register writes do not affect. -/
def RegBlind {α : Type} (f : State → α) : Prop := ∀ (s : State) (d : Store Int), f { s with dict := d } = f s

/-- A function that does not look at the registers, the network queues, the egress and the count of free values. -/
def PortBlind {α : Type} (f : State → α) : Prop :=
  ∀ (s : State) (d : Store Int) (n : Net) (e : List Egress) (m : Nat), f { s with dict := d, net := n, egress := e, free := m } = f s

theorem EventBlind.port {α : Type} {f : State → α} (h : EventBlind f) : PortBlind f := fun s d n e m => h s d s.recd n e m

theorem EventBlind.reg {α : Type} {f : State → α} (h : EventBlind f) : RegBlind f := fun s d => h s d s.recd s.net s.egress s.free

theorem wr_blind {α : Type} {f : State → α} (h : RegBlind f) (s : State) (k : Nat) (v : Int) : f (s.wr k v) = f s := h s _

theorem setB_blind {α : Type} {f : State → α} (h : RegBlind f) (s : State) (k i : Nat) (b : Bool) : f (s.setB k i b) = f s := h s _

theorem count_blind {α : Type} {f : State → α} (h : RegBlind f) (s : State) (k : Nat) : f (s.count k) = f s := h s _

theorem latch_blind {α : Type} {f : State → α} (h : RegBlind f) (s : State) (w i r : Nat) : f (s.latch w i r) = f s := by
  unfold State.latch; split
  · exact h s _
  · split
    · exact (setB_blind h _ w i true).trans (h s _)
    · exact h s _

theorem ecEach_blind {α : Type} {f : State → α} (h : RegBlind f) (s : State) (g : State → Nat → Bool) : f (s.ecEach g) = f s := by
  unfold State.ecEach
  generalize List.range 32 = l
  induction l generalizing s with
  | nil => rfl
  | cons n r ih =>
    simp only [List.foldl_cons]
    rw [ih]
    split
    · exact h s _
    · rfl

theorem sendEmcy_blind {α : Type} {f : State → α} (h : PortBlind f) (s : State) (c : Bool) (e : Egress) : f (s.sendEmcy c e) = f s := by
  unfold State.sendEmcy State.fresh
  dsimp only
  split
  · exact h s _ s.net s.egress _
  · split
    · exact h s _ s.net _ _
    · split
      · exact h s _ _ _ _
      · exact h s _ _ s.egress _

theorem port_blind {α : Type} {f : State → α} (h : PortBlind f) (s : State) (n : Net) (e : List Egress) :
    f { s with net := n, egress := e } = f s := h s s.dict n e s.free

theorem notify_blind {α : Type} {f : State → α} (h : PortBlind f) (s : State) (c i : Nat) : f (s.notify c i) = f s := by
  have port : ∀ (t : State) (P : Prop) [Decidable P] (n : Net) (e : List Egress),
      f (if P then { t with net := n, egress := e } else t) = f t := by
    intro t P _ n e; split
    · exact port_blind h t n e
    · rfl
  unfold State.notify
  simp only [List.foldl_cons, List.foldl_nil]
  refine (port _ _ _ _).trans ((port _ _ _ _).trans ?_)
  split
  · exact sendEmcy_blind h s _ _
  · rfl

theorem setCode_blind {α : Type} {f : State → α} (h : EventBlind f) (s : State) (c : Nat) (r : CodeRec) : f (s.setCode c r) = f s :=
  h s s.dict _ s.net s.egress s.free

theorem raise_blind {α : Type} {f : State → α} (h : EventBlind f) (s : State) (c i : Nat) (v : Int) : f (s.raise c i v) = f s := by
  unfold State.raise
  dsimp only
  split
  · rw [setCode_blind h, ecEach_blind h.reg]
  · split
    · refine (h _ _ _ _ _ _).trans ?_
      rw [notify_blind h.port, setCode_blind h, ecEach_blind h.reg]
    · rw [ecEach_blind h.reg, latch_blind h.reg, count_blind h.reg, setCode_blind h, notify_blind h.port, setCode_blind h, ecEach_blind h.reg]

theorem sample_blind {α : Type} {f : State → α} (h : EventBlind f) (s : State) (a n : Nat) (v : Int) : f (s.sample a n v) = f s := by
  unfold State.sample; split
  · exact h s s.dict _ s.net s.egress s.free
  · rw [latch_blind h.reg, count_blind h.reg]

theorem sansEvents_blind : EventBlind State.sansEvents := fun _ _ _ _ _ _ => rfl

theorem sansRegs_blind : RegBlind State.sansRegs := fun _ _ => rfl

/-! ### The end of a command -/

@[simp] theorem settle_pending (t : State) (q : List Instr) : (t.settle q).pending = q := by
  unfold State.settle; dsimp only; split <;> rfl

theorem rd_letGo {k : Nat} (h : k ≠ Gl.HOLDER) (t : State) : t.letGo.rd k = t.rd k :=
  (rd_of_dict (s := t.wr Gl.HOLDER 0) (t := t.letGo) rfl k).trans (rd_wr_ne h t 0)

theorem rd_settle {k : Nat} (h : k ∉ wiredRegs) (t : State) (q : List Instr) : (t.settle q).rd k = t.rd k := by
  simp only [wiredRegs, List.mem_cons, List.not_mem_nil, or_false, not_or] at h
  have key : ∀ u : State, (State.wrn { u.wr Gl.HOLDER (b2i u.holds) with pending := q } Gl.NFAULT_CAUSES
      (nfaultCauses { u.wr Gl.HOLDER (b2i u.holds) with pending := q })).rd k = u.rd k := by
    intro u
    rw [State.wrn, rd_wr_ne h.2]
    exact (rd_of_dict (s := u.wr Gl.HOLDER (b2i u.holds)) rfl k).trans (rd_wr_ne h.1 u _)
  unfold State.settle
  dsimp only
  split
  · exact (key _).trans (rd_letGo h.1 t)
  · exact key _

/-- `settle` changes the queue, the wired registers and the token's line only. -/
theorem settle_blind {α : Type} {f : State → α}
    (h : ∀ (s : State) (d : Store Int) (q : List Instr) (v r : Bool),
      f { s with dict := d, pending := q, duplex := { s.duplex with driving := v, releaseNext := r } } = f s)
    (t : State) (q : List Instr) : f (t.settle q) = f t := by
  unfold State.settle
  dsimp only
  split
  · exact h t _ q false false
  · exact h t _ q t.duplex.driving t.duplex.releaseNext

@[simp] theorem settle_sansRegs (t : State) (q : List Instr) : (t.settle q).sansRegs = t.sansRegs :=
  settle_blind (f := State.sansRegs) (fun _ _ _ _ _ => rfl) t q

@[simp] theorem settle_sansEvents (t : State) (q : List Instr) : (t.settle q).sansEvents = t.sansEvents :=
  settle_blind (f := State.sansEvents) (fun _ _ _ _ _ => rfl) t q

/-- Every command ends in a next state, by way of `settle`. -/
theorem exec_done (c : Instr) (s : State) : ∃ t, exec c s = done s t := by
  cases c <;> exact ⟨_, rfl⟩

/-! ### Frames compose -/

theorem KeepsRegs.refl (ks : List Nat) (s : State) : KeepsRegs ks s s := fun _ _ _ => rfl

theorem KeepsRegs.trans {ks : List Nat} {s t u : State} (h : KeepsRegs ks s t) (g : KeepsRegs ks t u) : KeepsRegs ks s u :=
  fun k hk hw => (g k hk hw).trans (h k hk hw)

theorem KeepsRegs.mono {ks ls : List Nat} {s t : State} (h : KeepsRegs ks s t) (hs : ∀ k ∈ ks, k ∈ ls) : KeepsRegs ls s t :=
  fun k hk hw => h k (fun m => hk (hs k m)) hw


theorem KeepsRegs.settle {ks : List Nat} {s t : State} (q : List Instr) (h : ∀ k, k ∉ ks → t.rd k = s.rd k) : KeepsRegs ks s (t.settle q) :=
  fun k hk hw => (rd_settle hw t q).trans (h k hk)

theorem bit_settle {k : Nat} (h : k ∉ wiredRegs) (t : State) (q : List Instr) (i : Nat) : (t.settle q).bit k i = t.bit k i := by
  simp only [State.bit, rd_settle h]

theorem rdn_settle {k : Nat} (h : k ∉ wiredRegs) (t : State) (q : List Instr) : (t.settle q).rdn k = t.rdn k := by
  simp only [State.rdn, rd_settle h]

theorem bit_raise {k : Nat} (h : k ∉ eventRegs) (s : State) (c i : Nat) (v : Int) (n : Nat) : (s.raise c i v).bit k n = s.bit k n := by
  simp only [State.bit, rd_raise h]

theorem rdn_raise {k : Nat} (h : k ∉ eventRegs) (s : State) (c i : Nat) (v : Int) : (s.raise c i v).rdn k = s.rdn k := by
  simp only [State.rdn, rd_raise h]

/-- A code's record after a write of a record. -/
theorem code_setCode (s : State) (c : Nat) (r : CodeRec) : (s.setCode c r).code c = r := by
  simp [State.code, State.setCode]

theorem code_of_recd {s t : State} (h : t.recd = s.recd) (c : Nat) : t.code c = s.code c := by simp [State.code, h]

theorem code_ecEach (s : State) (g : State → Nat → Bool) (c : Nat) : (s.ecEach g).code c = s.code c :=
  code_of_recd (ecEach_blind (f := State.recd) (fun _ _ => rfl) s g) c

theorem code_notify (s : State) (k i c : Nat) : (s.notify k i).code c = s.code c :=
  code_of_recd (notify_blind (f := State.recd) (fun _ _ _ _ _ => rfl) s k i) c

theorem code_latch (s : State) (w i r c : Nat) : (s.latch w i r).code c = s.code c :=
  code_of_recd (latch_blind (f := State.recd) (fun _ _ => rfl) s w i r) c

theorem code_count (s : State) (k c : Nat) : (s.count k).code c = s.code c := rfl

/-- A raised event is counted once (R445). -/
theorem counted_raise (s : State) (c i : Nat) (v : Int) : Counted c s (s.raise c i v) := by
  unfold Counted State.raise
  dsimp only
  split
  · rw [code_setCode]
  · split
    · show (State.code (State.notify _ c i) c).occ = _
      rw [code_notify, code_setCode]
    · rw [code_ecEach, code_latch, code_count, code_setCode]
      show (State.code (State.notify _ c i) c).occ = _
      rw [code_notify, code_setCode]

theorem counted_settle {c : Nat} {s t : State} (h : Counted c s t) (q : List Instr) : Counted c s (t.settle q) := by
  have e : (t.settle q).recd = t.recd := settle_blind (f := State.recd) (fun _ _ _ _ _ => rfl) t q
  unfold Counted State.code at *
  rw [e]; exact h

end Sys2Proof.Machine
end

