-- ==== Sys2Proof/WellFormed.lean ====
section
/-!
DEFINITION. Which commands are well-formed: instances that the part has, and fields within the widths that the frames and tables give
them. The meanings need none of this, since a command outside these bounds finds nothing to act on; it says what a sender may send.
-/
namespace Sys2Proof.WellFormed

/-! ### Instances (R1, R3) -/

/-- Doorways 0–15, axes 0–47, depth sensors 0–31. -/
def isDoor (d : Nat) : Bool := decide (d < 16)
def isAxis (a : Nat) : Bool := decide (a < 48)
def isSensor (n : Nat) : Bool := decide (n < 32)

/-- Contacts of a doorway, in the order of R234. -/
def isContact (c : Nat) : Bool := decide (1 ≤ c) && decide (c ≤ 7)

/-- Field inputs, safe input pairs, output channels, safe outputs, the two field dies (R355, R378, R381). -/
def isInput (n : Nat) : Bool := decide (n < 48)
def isPair (p : Nat) : Bool := decide (p < 24)
def isChannel (q : Nat) : Bool := decide (q < 24)
def isSafeOut (k : Nat) : Bool := decide (k < 6)
def isDie (die : Nat) : Bool := decide (die < 2)

/-- NSL connections, and the two ports of a kind (R298, R414). -/
def isConnection (n : Nat) : Bool := decide (n < 32)
def isPort (p : Nat) : Bool := decide (p < 2)

/-- A link that trains: those of doorways 0–15, and 16 for the partner link (R179, R329). -/
def isLink (d : Nat) : Bool := decide (d ≤ 16)

/-! ### Fields -/

/-- A field of `n` bits. -/
def fits (n v : Nat) : Bool := decide (v < 2 ^ n)

/-- A signed field of `n` bits. -/
def fitsSigned (n : Nat) (v : Int) : Bool := decide (-(2 ^ (n - 1) : Int) ≤ v) && decide (v < (2 ^ (n - 1) : Int))

/-- Bytes. -/
def isBytes (bs : List ByteN) : Bool := bs.all (fits 8)

/-- Bytes of exact length. -/
def bytesOf (n : Nat) (bs : List ByteN) : Bool := decide (bs.length = n) && isBytes bs

/-- Index and sub-index of an entry (R437). -/
def isEntry (index sub : Nat) : Bool := fits 16 index && fits 8 sub

end Sys2Proof.WellFormed

namespace Sys2Proof
open WellFormed

namespace Msg
/-- The header of a dictionary message (R426). -/
def wellFormed (m : Msg) : Bool := fits 8 m.session && fits 16 m.reqId && fits 32 m.counter
end Msg

namespace Via
def wellFormed : Via → Bool
  | .msg m => m.wellFormed
  | .sdo | .pdo | .mirror => true
end Via

namespace Val
def wellFormed : Val → Bool
  | .num _ => true
  | .bytes bs => isBytes bs
end Val

/-! ### Frames -/

namespace UpAxis
/-- An axis's part of an uplink frame (R128, R165 to R167). -/
def wellFormed (x : UpAxis) : Bool := fits 3 x.comm && fits 4 x.encRsv && fits 24 x.count && fits 500 x.s0 && fits 500 x.s1 && fits 32 x.appliedSp
end UpAxis

namespace Chunk
/-- A depth chunk (R165, R170). -/
def wellFormed (c : Chunk) : Bool :=
  decide (c.sensor < 2) && fits 8 c.chunk && fits 8 c.frameNo && decide (c.pixels.length = 32) && c.pixels.all (fits 16)
end Chunk

namespace UpFrame
/-- An uplink data frame (R165 to R170). -/
def wellFormed (f : UpFrame) : Bool :=
  fits 8 f.frameType && fits 16 f.seq && fits 16 f.status && decide (f.axes.length ≤ 3) && f.axes.all UpAxis.wellFormed
    && fits 8 f.inputsA && fits 8 f.inputsBInv && fits 8 f.outputsRb && fitsSigned 8 f.nodeTemp && fitsSigned 16 f.dcCurrent && fits 16 f.dcVoltage
    && fits 16 f.appliedSeq && fits 8 f.respTag && fits 8 f.respResult && isBytes f.respData && fits 32 f.crc
    && fits 6 f.depthRsv && decide (f.depthIdle.length ≤ 67) && isBytes f.depthIdle
    && (match f.chunk with | some c => c.wellFormed | none => true)
end UpFrame

namespace DownFrame
/-- A downlink data frame (R161, R162). -/
def wellFormed (f : DownFrame) : Bool :=
  fits 16 f.seq && fits 8 f.safeStoA && fits 8 f.safeRunB && fits 8 f.outputs && decide (f.words.length = 3) && f.words.all (fits 32)
    && fits 8 f.mgmtTag && fits 8 f.mgmtOp && fits 16 f.mgmtAddr && fits 16 f.mgmtLen && isBytes f.mgmtData && fits 32 f.crc
    && fits 8 f.frameType && fits 5 f.ctlRsv && decide (f.tail.length ≤ 86) && isBytes f.tail
end DownFrame

namespace NodeMeas
/-- What a node measures (R157, R165, R168, R169). -/
def wellFormed (m : NodeMeas) : Bool :=
  decide (m.axes.length ≤ 3) && m.axes.all UpAxis.wellFormed && fits 8 m.inputsA && fits 8 m.inputsB && fitsSigned 8 m.temp
    && fitsSigned 16 m.dcCurrent && fits 16 m.dcVoltage && fits 3 m.trips && (match m.chunk with | some c => c.wellFormed | none => true)
end NodeMeas

namespace TrainFrame
/-- A training frame (R179). -/
def wellFormed (f : TrainFrame) : Bool :=
  fits 16 f.seq && fits 8 f.step && fits 8 f.reqLevel && fits 8 f.txLevel && fits 8 f.rxErrors && fits 8 f.caps && fits 32 f.crc
    && (match f.port with | some p => isPort p | none => true)
end TrainFrame

namespace Mgmt
/-- A management message (R161, R182): at most 384 bytes of data. -/
def wellFormed (m : Mgmt) : Bool := isPort m.port && fits 8 m.tag && fits 16 m.addr && decide (m.data.length ≤ 384) && isBytes m.data
end Mgmt

namespace NslFrame
/-- An NSL frame (R299, R302, R303): its port, a fragment on Ethernet alone, and a payload of at most 64 bytes. -/
def wellFormed (f : NslFrame) : Bool :=
  decide (f.port < 4) && (!f.fragment || decide (2 ≤ f.port)) && decide (f.canId < 2048) && decide (f.head.1 < 256) && decide (f.head.2 < 256) && decide (f.bytes.length ≤ 64) && isBytes f.bytes
end NslFrame

namespace PFrame
/-- A partner frame (R330, R331, R335, R337, R348). -/
def wellFormed (f : PFrame) : Bool :=
  fits 16 f.pseq && fits 16 f.pstatus && fits 32 f.tickCount && decide (f.linkSeqs.length ≤ 16) && f.linkSeqs.all (fits 16)
    && decide (f.shadows.length ≤ 24) && f.shadows.all (fun r => fits 32 r.word && fits 8 r.flags) && decide (f.motions.length ≤ 2)
    && f.motions.all (fun r => (isDoor r.d || r.d == 0xFF) && fits 8 r.tick && fits 32 r.pathS && fits 32 r.pathSpeed && fits 8 r.phase && fits 8 r.moveId)
    && fits 32 f.checkValue && fits 8 f.mirrorAck && fits 8 f.frameType && fits 32 f.crc && fits 8 f.seg.tag && fits 7 f.seg.type
    && fits 8 f.seg.seg && fits 8 f.seg.len && decide (f.seg.data.length ≤ 29) && isBytes f.seg.data
end PFrame

/-! ### Commands -/

namespace Instr
/-- A command that a sender may send. -/
def wellFormed : Instr → Bool
  | .fastTick | .motionTick | .proofTestDue | .depthFrameProcessed | .dissipationTrip | .summarySend | .stagConflict | .keepAliveLapse
  | .heartbeatLost | .partnerRetrain | .tickAlignedLoss | .sdoSegmentTimeout | .sync | .syncMissing | .heartbeatProduce | .eventIntake
  | .sampleIntake | .operatingSecond | .sleepCommit | .rtcAlarm | .wakeRetry | .brownOutRelease | .handshakeLockoutEnd
  | .watchdog | .pgMainHigh | .oscillatorReady | .latchedWake | .endOfTestFuse => true
  | .aliveLost _ | .stagClaim _ | .stagFault _ | .sleepAborted _ | .wakeInEdge _ | .powerWarning _ _ | .powerWarningEnd _ | .brownOut _
  | .overtemperature _ => true
  | .wake t => isBytes t.bytes && decide (t ≠ .ofCmd 2)
  | .forceWake t => isBytes t.bytes && decide (t ≠ .ofCmd 1)
  | .doorTick r =>
    r.chans.all (fun c => isChannel c.q && decide (c.band < 3)) && r.inputCurrents.all (fun x => isInput x.1) && r.soLoads.all (fun x => isSafeOut x.1)
  | .moveEnd d | .startForced d | .closeWarningEnd d | .autoCloseExpiry d | .unlockTimeout d | .lockTimeout d | .stepTimeout d
  | .preselectTimeExpiry d | .dwellEnd d | .openDwellEnd d | .depthHoldLong d | .loopViewDisagreement d | .lockPairDisagree d
  | .passengerRequest d | .learnRunEnd d | .retrainDelayExpiry d | .mgmtRetry d
  | .nodeConfigTimeout d | .resumeFailed d | .nodePowerUp d => isDoor d
  | .sf7StopWindowExpiry a | .standstillDelayExpiry a | .holdRampEnd a | .stoUnconfirmed a | .jogStep a
  | .phaseLoss a | .commutation a | .stall a | .saturation a | .brakeShortEnd a | .envelopeCommit a => isAxis a
  | .contactDiscrepancy d c | .contactFilteredChange d c _ _ => isDoor d && isContact c
  | .safetyPortWatchdog die | .safetyPortResumed die | .lineRefLow die _ | .lineRefRestored die _ | .vfieldLow die _ _ | .vfieldMissing die _ _
  | .fieldDieReportTimeout die | .fieldWatchdogExpiry die | .dieOvertemp die _ | .dieOvertempEnd die _ | .fieldDiePowerUp die => isDie die
  | .testPulse k _ | .soOvercurrent k _ | .soUntested k _ => isSafeOut k
  | .testPulseEnd k _ _ _ _ f => isSafeOut k && (match f with | some j => isSafeOut j | none => true)
  | .switchStaticFault k _ _ f => isSafeOut k && (match f with | some j => isSafeOut j | none => true)
  | .soFaultClear via _ | .writeEnable via _ | .confirm via _ | .restoreSafetyDefaults via _ | .restoreDefaults via _ | .proofTestDone via _
  | .openLeft via | .openRight via | .closeLeft via | .closeRight via | .closeAll via | .holdAll via | .endHoldAll via
  | .envResetOne via | .envResetBoth via | .stagCommand via _ | .clear via _ | .nslCountersClear via _ | .partnerCountersClear via _
  | .networkCountersClear via _ | .powerCommandRun via | .powerCommandDoze via | .powerCommandStabled via | .sessionClose via _
  | .fwActivate via _ | .fwConfirm via _ | .debugUnlockObserve via | .debugUnlockHalt via | .deviceReset via _ => via.wellFormed
  | .safetySetWrite via index sub _ | .histLimitsChanged via index sub _ => via.wellFormed && isEntry index sub
  | .open_ via d | .close via d | .holdOpen via d | .endHold via d | .reset via d | .forcedClose via d | .learnRunStart via d
  | .learnRunCancel via d | .linkCountersClear via d _ => via.wellFormed && isDoor d
  | .axisModeChange via a _ | .jogStart via a _ | .jogStop via a | .alignmentRunStart via a | .alignmentRunCancel via a => via.wellFormed && isAxis a
  | .motorDataChange via a sub _ => via.wellFormed && isAxis a && fits 8 sub
  | .tableReload via d _ custom => via.wellFormed && isDoor d && (match custom with | some bs => isBytes bs | none => true)
  | .uplinkFrame d f => isDoor d && f.wellFormed
  | .linkLost d cause => isDoor d && fits 8 cause
  | .characterLock d | .trainingDone d | .trainTimeout d => isLink d
  | .trainingFrame d f => isLink d && f.wellFormed && (isDoor d || f.port.isNone)
  | .identify d m | .readCaps d m | .tableWrite d m | .tableCommit d m | .tableCheck d m | .configWrite d m | .configRead d m | .sensorWrite d m
  | .sensorRead d m | .setTiming d m | .echo d m => isDoor d && m.wellFormed
  | .coarseStep jog n => if jog then isAxis n else decide (n < 4)
  | .alignmentRunEnd a state cause => isAxis a && [(2, 0), (3, 9), (3, 10)].contains (state, cause)
  | .stepperSelfAlignmentEnd a cause => isAxis a && [0, 9, 10].contains cause
  | .nodeApplyInstant d f m => isDoor d && f.a.all DownFrame.wellFormed && f.b.all DownFrame.wellFormed && m.wellFormed
  | .nodeResume d fa fb => isDoor d && fa.all DownFrame.wellFormed && fb.all DownFrame.wellFormed
  | .depthSensorFailed n _ | .bgLearnEnd n => isSensor n
  | .bgLearnStart via n => via.wellFormed && isSensor n
  | .envDataWrite via bs | .attestNonce via bs | .anchorInstall via bs | .rmaCommand via bs => via.wellFormed && isBytes bs
  | .inputFilteredChange n _ | .wireBreak n | .wireBreakEnd n => isInput n
  | .pairDiscrepancy p | .pairDiscrepancyClear p => isPair p
  | .inrushWindowEnd q _ | .overcurrentTrip q | .retryPauseEnd q | .tripCountReset q | .thermalTrip q _ | .thermalLatchClear q _
  | .openLoad q _ | .lampLearnEnd q _ | .lampDark q | .lampFailTimeExpiry q | .pulseGeneratorEdge q _ | .demagnetisationEnd q _ _ => isChannel q
  | .shortToSupply q tied => isChannel q && (match tied with | some r => isChannel r | none => true)
  | .tiedChannelDetect x y => isChannel x && isChannel y
  | .faultClear via q _ | .lampLearn via q _ => via.wellFormed && isChannel q
  | .nslFrameReceived f => f.wellFormed
  | .nslWatchdog n | .errorBudgetRefill n | .baseAdvance n => isConnection n
  | .partnerFrame f => f.wellFormed
  | .nslCopy n seq ts payload => isConnection n && fits 16 seq && fits 32 ts && isBytes payload
  | .doorSnapshot ds => ds.all (fun x => isDoor x.d)
  | .move m => isDoor m.d
  | .envelope a dir state cycles _ bs => isAxis a && decide (dir < 2) && fits 8 state && fits 32 cycles && isBytes bs
  | .background n px => isSensor n && decide (px.length ≤ 3072)
  | .learned d _ _ peakOpen peakClose serial => isDoor d && fits 16 peakOpen && fits 16 peakClose && fits 32 serial
  | .mirrorConfigWrite index sub v generation => isEntry index sub && v.wellFormed && fits 32 generation
  | .inventory m => fits 32 m.productCode && fits 32 m.revision && fits 32 m.serial && decide (m.role < 2)
  | .time seconds => fits 32 seconds
  | .mirrorRetry tag | .mirrorTimeout tag => decide (1 ≤ tag) && fits 8 tag
  | .dictionaryWrite via index sub v seg =>
    via.wellFormed && isEntry index sub && v.wellFormed && (match seg with | some g => fits 32 g.offset | none => true)
  | .dmSegmentTimeout _ | .windowRead _ | .areaWrite _ _ | .bulkCountWrite _ _ | .bulkDataRead _ | .contextRelease _ | .sessionChallenge _
  | .handshakeTimeout _ => true
  | .bulkFrame port header bs => isPort port && fits 8 header && decide (bs.length ≤ 63) && isBytes bs
  | .bulkTimeout port | .canBusOff port | .icmpEchoRequest port => isPort port
  | .rpdo n bs => decide (n < 16) && decide (bs.length ≤ 8) && isBytes bs
  | .rpdoEventTimer n | .tpdoTransmit n => decide (n < 16)
  | .nmtCommand code => fits 8 code
  | .heartbeatMissing i => fits 8 i
  | .arpRequest port ip mac => isPort port && fits 32 ip && fits 48 mac
  | .phyLinkPoll port _ _ => isPort port
  | .sessionTimeout n => decide (1 ≤ n) && fits 8 n
  | .dmResponseExpiry _ id => fits 16 id
  | .ecConfigWrite via n _ _ | .ecReset via n _ => via.wellFormed && decide (n < 32)
  | .pllLock _ _ => true
  | .powerOnReset straps | .nreset straps => fits 8 straps
  | .vidChange code => fits 4 code
  | .domainSleep i | .domainWake i _ => decide (i < 10)
  | .domainNotReady i via => decide (i < 10) && (match via with | some v => v.wellFormed | none => true)
  | .sessionCredential _ bs => decide (1 ≤ bs.length) && decide (bs.length ≤ 2048) && isBytes bs
  | .sessionRequest _ bs => bytesOf 90 bs
  | .sessionProof _ bs => bytesOf 114 bs
  | .cosignChange via k _ => via.wellFormed && (match k with | some bs => bytesOf 57 bs | none => true)
  | .fwImage via offset bs _ => via.wellFormed && fits 32 offset && decide (bs.length ≤ 1024) && isBytes bs
  | .internalReset cause => fits 16 cause
  | .boot images bad => decide (images.app.length ≤ 2) && decide (images.safety.length ≤ 2) && bad.all (fits 19)
  | .characterLockLost d => match d with | some d => isDoor d | none => true
end Instr

end Sys2Proof
end

