-- ==== Sys2Proof/Tests/Slice0.lean ====
section
/-!
SUPPORT. Small tests: what is not well-formed, and for every clause of every obligation a state and operands that meet all its hypotheses
together. Samples are the quiet machine after a boot with a few entries set.
-/
namespace Sys2Proof.Tests
open Sys2Proof.Machine
set_option Elab.async false

/-- A machine in RUN. -/
def on : State := { State.reset with power := { phase := .run }, now := 1000000 }

/-- Entries set, written and in force. -/
def cfg (s : State) (k : Nat) (v : Int) : State := (s.wr k v).enforce k v
def cfgs (s : State) (l : List (Nat × Int)) : State := l.foldl (fun s x => cfg s x.1 x.2) s
def wrs (s : State) (l : List (Nat × Int)) : State := l.foldl (fun s x => s.wr x.1 x.2) s

/-- The state a request reaches its entry in. -/
def after : Front → State
  | .go u => u
  | .stop s => s
def isGo : Front → Bool
  | .go _ => true
  | .stop _ => false

theorem goes {f : Front} (h : isGo f = true) : f = .go (after f) := by
  cases f with
  | go u => rfl
  | stop s => cases h

/-- `Reaches`, as one check. -/
def reachesB (via : Via) (index sub : Nat) (v : Int) (lv : Option (Level → Bool)) (s : State) (n : Int) : Bool :=
  let f := front via (requestClass index sub false) (index, sub, .num v, none) s
  isGo f && (match checkNum via index sub (.num v) none lv (after f) with | .ok m => m == n | .error _ => false)
    && configuredOut index sub (after f) == false

theorem reaches {via : Via} {index sub : Nat} {v : Int} {lv : Option (Level → Bool)} {s : State} {n : Int} (h : reachesB via index sub v lv s n = true) :
    Reaches via index sub v lv s (after (front via (requestClass index sub false) (index, sub, .num v, none) s)) n := by
  simp only [reachesB, Bool.and_eq_true, beq_iff_eq] at h
  refine ⟨goes h.1.1, ?_, h.2⟩
  have := h.1.2
  split at this
  · next e => rw [e, beq_iff_eq.mp this]
  · cases this

/-- `ReachesBytes`, as one check. -/
def reachesBytesB (via : Via) (index sub : Nat) (bs : List ByteN) (s : State) : Bool :=
  let f := front via (requestClass index sub false) (index, sub, .bytes bs, none) s
  isGo f && (match exists_ index sub (after f) with
      | .ok r => (via == .mirror || levelMayWrite r.acc (levelOf via (after f))) && r.acc != .ro && r.acc != .const
      | .error _ => false)
    && !frozenByRma (after f) && configuredOut index sub (after f) == false

theorem reachesBytes {via : Via} {index sub : Nat} {bs : List ByteN} {s : State} (h : reachesBytesB via index sub bs s = true) :
    ReachesBytes via index sub bs s (after (front via (requestClass index sub false) (index, sub, .bytes bs, none) s)) := by
  simp only [reachesBytesB, Bool.and_eq_true, beq_iff_eq, Bool.not_eq_true'] at h
  refine ⟨goes h.1.1.1, ?_, h.1.2, h.2⟩
  have := h.1.1.2
  split at this
  · next e =>
    try rw [e]
    simp only [Bool.and_eq_true, Bool.or_eq_true, beq_iff_eq, bne_iff_ne] at this
    exact ⟨this.1.1, this.1.2, this.2⟩
  · cases this

theorem errs {x : Except Nat Int} {e : Nat} (h : (match x with | .error a => a == e | .ok _ => false) = true) : x = .error e := by
  cases x with
  | error a => exact congrArg _ (beq_iff_eq.mp h)
  | ok n => cases h

/-- Frames sealed with the CRC of their bytes are intact. -/
theorem upIntactSealed {last : Option Nat} {f : UpFrame} (h : (f.codeOk && sofOk last f.sof f.cut && f.frameType == 0x11) = true) :
    upIntact last (sealUp f) = true := by
  have a : ∀ c, upBytes { f with crc := c } = upBytes f := fun _ => rfl
  have b : ∀ c, ({ f with crc := c } : UpFrame).crc = c := fun _ => rfl
  have e : (sealUp f).crc = crc32 (upBytes (sealUp f)) := (b _).trans (congrArg crc32 (a _).symm)
  unfold upIntact
  rw [e, beq_self_eq_true, Bool.and_true]
  exact h

theorem partnerIntactSealed {last : Option Nat} {f : PFrame} (h : (f.codeOk && sofOk last f.sof f.cut && f.frameType == 0x14) = true) :
    partnerIntact last (sealPartner f) = true := by
  have a : ∀ c, partnerBytes { f with crc := c } = partnerBytes f := fun _ => rfl
  have b : ∀ c, ({ f with crc := c } : PFrame).crc = c := fun _ => rfl
  have e : (sealPartner f).crc = crc32 (partnerBytes (sealPartner f)) := (b _).trans (congrArg crc32 (a _).symm)
  unfold partnerIntact
  rw [e, beq_self_eq_true, Bool.and_true]
  exact h

theorem trainSealed {last : Option Nat} {f : TrainFrame} (h : (f.errs == 0 && sofOk last f.sof f.cut) = true) : trainOk last (sealTrain f) = true :=
    by
  have a : ∀ c, trainBytes { f with crc := c } = trainBytes f := fun _ => rfl
  have b : ∀ c, ({ f with crc := c } : TrainFrame).crc = c := fun _ => rfl
  have e : (sealTrain f).crc = crc32 (trainBytes (sealTrain f)) := (b _).trans (congrArg crc32 (a _).symm)
  have d : ∀ c, (({ f with crc := c } : TrainFrame).errs == 0 && sofOk last ({ f with crc := c } : TrainFrame).sof ({ f with crc := c } : TrainFrame).cut)
      = (f.errs == 0 && sofOk last f.sof f.cut) := fun _ => rfl
  unfold trainOk
  rw [e, beq_self_eq_true, Bool.and_true]
  exact (d _).trans h

theorem validSealed {last : Option Nat} {f : DownFrame} (h : (f.ok && f.frameType == 0x12 && f.words.all wordValid && decide (f.mgmtLen ≤ 384)) = true)
    (hs : sofOk last f.sof f.cut = true) : validOf last (some (sealDown f)) = some (sealDown f) := by
  have a : ∀ c, downBytes { f with crc := c } = downBytes f := fun _ => rfl
  have b : ∀ c, ({ f with crc := c } : DownFrame).crc = c := fun _ => rfl
  have e : (sealDown f).crc = crc32 (downBytes (sealDown f)) := (b _).trans (congrArg crc32 (a _).symm)
  have k : frameValid (sealDown f) = true := by
    unfold frameValid
    rw [e, beq_self_eq_true, Bool.and_true]
    exact h
  have j : sofOk last (sealDown f).sof (sealDown f).cut = true := hs
  simp only [validOf, j, k, Bool.and_self, if_true]

theorem anySealed {last : Option Nat} {f : DownFrame} {p : DownFrame → Bool} {b : Bool}
    (h : (f.ok && f.frameType == 0x12 && f.words.all wordValid && decide (f.mgmtLen ≤ 384)) = true) (hs : sofOk last f.sof f.cut = true)
    (hp : p (sealDown f) = b) : (validOf last (some (sealDown f))).any p = b := by
  rw [validSealed h hs]; simpa using hp

/-- The CRC byte by byte, each register evaluated before the next. -/
def crcGo : List ByteN → Nat → Nat
  | [], c => c
  | b :: bs, c => match crcByte c b with
    | 0 => crcGo bs 0
    | n + 1 => crcGo bs (n + 1)

theorem crcGo_eq (bs : List ByteN) (c : Nat) : crcGo bs c = bs.foldl crcByte c := by
  induction bs generalizing c with
  | nil => rfl
  | cons b bs ih =>
    rw [List.foldl_cons, ← ih]
    show (match crcByte c b with
      | 0 => crcGo bs 0
      | n + 1 => crcGo bs (n + 1)) = _
    generalize crcByte c b = x
    cases x <;> rfl

theorem badCrc {c : Nat} {bs : List ByteN} (h : Nat.beq c (crcGo bs 0xFFFFFFFF ^^^ 0xFFFFFFFF) = false) : (c != crc32 bs) = true := by
  rw [crcGo_eq] at h
  exact bne_iff_ne.mpr (Nat.ne_of_beq_eq_false h)

theorem ofRow {x : Option Row} (h : x.all (fun r => decide (r.ty ≠ .domain)) = true) : ∀ r, x = some r → r.ty ≠ .domain := by
  intro r e; subst e; simpa using h

/-! ### Well-formedness: one ill-formed command for each check, refused -/

theorem test_ill_wake_command : Instr.wellFormed (Instr.wake (.ofCmd 2)) = false := by decide
theorem test_ill_force_wake_command : Instr.wellFormed (Instr.forceWake (.ofCmd 1)) = false := by decide
theorem test_ill_door_16 : Instr.wellFormed (.moveEnd 16) = false := by decide
theorem test_ill_axis_48 : Instr.wellFormed (.stall 48) = false := by decide
theorem test_ill_sensor_32 : Instr.wellFormed (.bgLearnEnd 32) = false := by decide
theorem test_ill_contact_8 : Instr.wellFormed (.contactDiscrepancy 0 8) = false := by decide
theorem test_ill_input_48 : Instr.wellFormed (.wireBreak 48) = false := by decide
theorem test_ill_pair_24 : Instr.wellFormed (.pairDiscrepancy 24) = false := by decide
theorem test_ill_channel_24 : Instr.wellFormed (.overcurrentTrip 24) = false := by decide
theorem test_ill_tied_channel : Instr.wellFormed (.shortToSupply 3 (some 24)) = false := by decide
theorem test_ill_safe_out_6 : Instr.wellFormed (.soUntested 6 .hs) = false := by decide
theorem test_ill_follow_out : Instr.wellFormed (.testPulseEnd 0 .hs true true 0 (some 6)) = false := by decide
theorem test_ill_die_2 : Instr.wellFormed (.lineRefLow 2 0) = false := by decide
theorem test_ill_connection_32 : Instr.wellFormed (.nslWatchdog 32) = false := by decide
theorem test_ill_port_2 : Instr.wellFormed (.canBusOff 2) = false := by decide
theorem test_ill_byte_256 : Instr.wellFormed (.envDataWrite .sdo [256]) = false := by decide
theorem test_ill_proof_length : Instr.wellFormed (.sessionProof 2 []) = false := by decide
theorem test_ill_request_length : Instr.wellFormed (.sessionRequest 2 (List.replicate 89 0)) = false := by decide +kernel
theorem test_ill_credential_empty : Instr.wellFormed (.sessionCredential 2 []) = false := by decide
theorem test_ill_index_17_bits : Instr.wellFormed (.dictionaryWrite .sdo 0x10000 0 (.num 0) none) = false := by decide
theorem test_ill_sub_9_bits : Instr.wellFormed (.dictionaryWrite .sdo 0x2010 256 (.num 0) none) = false := by decide
theorem test_ill_seg_offset : Instr.wellFormed (.dictionaryWrite .sdo 0x2010 1 (.bytes []) (some { offset := 2 ^ 32, final := true })) = false :=
    by decide
theorem test_ill_val_bytes : Instr.wellFormed (.dictionaryWrite .sdo 0x2010 1 (.bytes [300]) none) = false := by decide
theorem test_ill_msg_session : Instr.wellFormed (.openLeft (.msg { source := 2, session := 256 })) = false := by decide
theorem test_ill_msg_req_id : Instr.wellFormed (.openLeft (.msg { source := 2, reqId := 65536 })) = false := by decide
theorem test_ill_msg_counter : Instr.wellFormed (.openLeft (.msg { source := 2, counter := 2 ^ 32 })) = false := by decide
theorem test_ill_report_channel : Instr.wellFormed (.doorTick { chans := [{ q := 24, current := 0, deltaT := 0, band := 0, power := 0 }] }) = false :=
    by decide
theorem test_ill_report_band : Instr.wellFormed (.doorTick { chans := [{ q := 0, current := 0, deltaT := 0, band := 3, power := 0 }] }) = false :=
    by decide
theorem test_ill_uplink_axes : Instr.wellFormed (.uplinkFrame 0 { axes := [{}, {}, {}, {}] }) = false := by decide +kernel
theorem test_ill_uplink_stream : Instr.wellFormed (.uplinkFrame 0 { axes := [{ s0 := (2 ^ 250) ^ 2 }] }) = false := by decide +kernel
theorem test_ill_uplink_count : Instr.wellFormed (.uplinkFrame 0 { axes := [{ count := 2 ^ 24 }] }) = false := by decide +kernel
theorem test_ill_uplink_seq : Instr.wellFormed (.uplinkFrame 0 { seq := 65536 }) = false := by decide +kernel
theorem test_ill_uplink_crc : Instr.wellFormed (.uplinkFrame 0 { crc := 2 ^ 32 }) = false := by decide +kernel
theorem test_ill_uplink_temp : Instr.wellFormed (.uplinkFrame 0 { nodeTemp := 128 }) = false := by decide +kernel
theorem test_ill_uplink_chunk : Instr.wellFormed (.uplinkFrame 0 { chunk := some { sensor := 2, chunk := 0, frameNo := 0, pixels := List.replicate 32 0 } }) = false := by decide +kernel
theorem test_ill_uplink_pixels : Instr.wellFormed (.uplinkFrame 0 { chunk := some { sensor := 0, chunk := 0, frameNo := 0, pixels := [] } }) = false :=
    by decide +kernel
theorem test_ill_down_words : Instr.wellFormed (.nodeResume 0 (some { ok := true, seq := 0, hold := true, shadow := false, resume := true, safeStoA := 7, safeRunB := 0, outputs := 0, words := [] }) none) = false := by decide +kernel
theorem test_ill_node_trips : Instr.wellFormed (.nodeApplyInstant 0 {} { trips := 8 }) = false := by decide +kernel
theorem test_ill_node_axes : Instr.wellFormed (.nodeApplyInstant 0 {} { axes := [{}, {}, {}, {}] }) = false := by decide +kernel
theorem test_ill_train_link : Instr.wellFormed (.trainingFrame 17 {}) = false := by decide +kernel
theorem test_ill_train_step : Instr.wellFormed (.trainingFrame 0 { step := 256 }) = false := by decide +kernel
theorem test_ill_train_port : Instr.wellFormed (.trainingFrame 0 { port := some 2 }) = false := by decide +kernel
theorem test_ill_train_partner_port : Instr.wellFormed (.trainingFrame 16 { port := some 0 }) = false := by decide +kernel
theorem test_ill_lock_link : Instr.wellFormed (.characterLock 17) = false := by decide
theorem test_ill_mgmt_data : Instr.wellFormed (.echo 0 { port := 0, tag := 1, hold := true, addr := 0, data := List.replicate 385 0 }) = false :=
    by decide +kernel
theorem test_ill_mgmt_port : Instr.wellFormed (.identify 0 { port := 2, tag := 1, hold := true, addr := 0, data := [] }) = false := by decide
theorem test_ill_nsl_port : Instr.wellFormed (.nslFrameReceived { port := 4, bytes := [] }) = false := by decide
theorem test_ill_nsl_id : Instr.wellFormed (.nslFrameReceived { port := 0, canId := 2048, bytes := [] }) = false := by decide
theorem test_ill_nsl_head : Instr.wellFormed (.nslFrameReceived { port := 2, head := (256, 0), bytes := [] }) = false := by decide
theorem test_ill_partner_seg : Instr.wellFormed (.partnerFrame { pseq := 0, pstatus := 0, tickCount := 0, checkValue := 0, seg := { data := List.replicate 30 0 } }) = false := by decide +kernel
theorem test_ill_partner_tag : Instr.wellFormed (.partnerFrame { pseq := 0, pstatus := 0, tickCount := 0, checkValue := 0, seg := { tag := 256 } }) = false := by decide +kernel
theorem test_ill_partner_ack : Instr.wellFormed (.partnerFrame { pseq := 0, pstatus := 0, tickCount := 0, checkValue := 0, mirrorAck := 256 }) = false := by decide +kernel
theorem test_ill_snapshot_door : Instr.wellFormed (.doorSnapshot [{ d := 16, state := 1, faultCause := 0, retryCount := 0, status := 0, warnLeft := 0, dwellLeft := 0, autoLeft := 0 }]) = false := by decide
theorem test_ill_mirror_tag_0 : Instr.wellFormed (.mirrorTimeout 0) = false := by decide
theorem test_ill_rpdo_16 : Instr.wellFormed (.rpdo 16 []) = false := by decide
theorem test_ill_rpdo_length : Instr.wellFormed (.rpdo 0 (List.replicate 9 0)) = false := by decide +kernel
theorem test_ill_bulk_length : Instr.wellFormed (.bulkFrame 0 0 (List.replicate 64 0)) = false := by decide +kernel
theorem test_ill_session_0 : Instr.wellFormed (.sessionTimeout 0) = false := by decide
theorem test_ill_counter_32 : Instr.wellFormed (.ecReset .sdo 32 1) = false := by decide
theorem test_ill_straps : Instr.wellFormed (.nreset 256) = false := by decide
theorem test_ill_vid_16 : Instr.wellFormed (.vidChange 16) = false := by decide
theorem test_ill_domain_10 : Instr.wellFormed (.domainSleep 10) = false := by decide
theorem test_ill_image_segment : Instr.wellFormed (.fwImage .sdo 0 (List.replicate 1025 0) none) = false := by decide +kernel
theorem test_ill_image_offset : Instr.wellFormed (.fwImage .sdo (2 ^ 32) [] none) = false := by decide
theorem test_ill_key_length : Instr.wellFormed (.cosignChange .sdo (some []) none) = false := by decide
theorem test_ill_boot_slots : Instr.wellFormed (.boot { app := [true, true, true] } []) = false := by decide
theorem test_ill_boot_record : Instr.wellFormed (.boot {} [2 ^ 19]) = false := by decide
theorem test_ill_step_pair : Instr.wellFormed (.coarseStep false 4) = false := by decide
theorem test_ill_jog_axis : Instr.wellFormed (.coarseStep true 48) = false := by decide
theorem test_ill_run_verdict : Instr.wellFormed (.alignmentRunEnd 0 2 9) = false := by decide
theorem test_ill_self_verdict : Instr.wellFormed (.stepperSelfAlignmentEnd 0 2) = false := by decide

/-- The limits themselves are admitted. -/
theorem test_well_formed : ([.moveEnd 15, .stall 47, .bgLearnEnd 31, .contactDiscrepancy 15 7, .wireBreak 47, .pairDiscrepancy 23, .nslWatchdog 31,
    .uplinkFrame 15 { axes := [{}, {}, {}] }, .sessionProof 2 (List.replicate 114 255), .vidChange 15, .domainSleep 9,
    .rpdo 15 (List.replicate 8 0)] : List Instr).all
    Instr.wellFormed = true := by decide +kernel

/-! ### Worked examples of the manual -/

/-- R114's example: 4 pole pairs on 61.44 mm a turn give an address pitch of 10 000 nm, and STEP_SCALE 48 a coarse step of 480 µm. -/
theorem test_address_pitch : coarseNm (cfg on (Ax.STEP_SCALE 0) 48) 0 = 480000 := by decide +kernel

/-- R499: VID code 8 stands for 805 mV. -/
theorem test_vid : vidTarget 8 = 805 := by decide

/-- R22: after 0xF423FFFF the count returns to 0. -/
theorem test_fast_tick_wraps : (match exec .fastTick (on.wr Gl.FAST_TICK_COUNT 0xF423FFFF) with
    | .next t => t.rd Gl.FAST_TICK_COUNT == 0
    | _ => false) = true := by decide +kernel

/-- The reset state is wired, so the invariant of the wiring has an instance. -/
theorem test_EveryStepKeepsTheWiring : Wired State.reset := by unfold Wired; decide

/-! ### The hypotheses of every clause can be met together -/

/-! ### Field inputs and contacts -/
namespace Inputs
def base : State := cfgs on [(Gl.SET_DOORWAY_TYPE 0, 2), (Gl.SET_DOORWAY_TYPE 3, 3)]
def s0 : State := base
def s2 : State := cfgs base [(In.WIRE_BREAK_ENABLE 3, 1), (In.WIRE_BREAK_ENABLE 47, 1)]
def s5 : State := (wrs (cfgs base [(Gl.PAIR_MODE 5, 1), (Gl.PAIR_WIRE_BREAK 5, 1),(Gl.PAIR_MODE 7, 2)]) [(Gl.INPUT_STATE,
    2^5+2^7)] |>.stampPair 5 |>.stampPair 7 |> fun s => {s with now := 2000000})
def s6 : State := (wrs (cfgs base [(Gl.PAIR_MODE 5, 1)]) [(Gl.PAIR_DISCREPANCY_MASK, 2^5+2^7)] |> fun s =>
    {s with pairs := {s.pairs with quiet := [(5,100)]}})
def s7 : State := wrs (cfgs base [(In.INPUT_CLASS 3, 2),(In.INPUT_CLASS 33, 2), (Gl.LINE_REF_A, 0x44), (Gl.LINE_REF_B, 0x60)]) [(Gl.INPUT_STATE,
    2^3+2^33)]
def s8 : State := wrs (cfgs base [(In.INPUT_CLASS 3, 2),(In.INPUT_CLASS 33, 2), (Gl.LINE_REF_A, 0x44), (Gl.LINE_REF_B, 0x60)]) [(Gl.INPUT_STATE,
    2^3+2^33), (Gl.FIELD_STATUS, 0x30+5)]
def s10 : State := (cfgs base [(key 0x5050 1, 0), (key 0x5050 2, 1), (key 0x5053 3,
    0x83)] |>.setCon 0 {rawA := 3, rawB := 1, diffSince := [(1,0),(2,5)], conB := 3})
def s11 : State := wrs (cfgs base [(In.WIRE_BREAK_ENABLE 3, 1)]) [(Gl.WIRE_BREAK_MASK, 2^5+2^30)]

abbrev Hyp.FieldInputAndWireBreak_0 := fun (_s : State) (n : Nat) (_v : Bool) => (n < 48 : Prop)
theorem test_FieldInputAndWireBreak_0 : Hyp.FieldInputAndWireBreak_0 s0 0 true :=
  by decide
abbrev Hyp.FieldInputAndWireBreak_1 := fun (_s : State) (n : Nat) (_v : Bool) => (n < 48 : Prop)
theorem test_FieldInputAndWireBreak_1 : Hyp.FieldInputAndWireBreak_1 s0 0 true :=
  by decide
abbrev Hyp.FieldInputAndWireBreak_2 := fun (s : State) (n : Nat) => (n < 48 ∧ breakChecked s n = true ∧ s.bit Gl.INPUT_STATE n = false
    ∧ s.bit Gl.FIELD_STATUS (1 + 2 * dieOf n) = false ∧ s.bit Gl.WIRE_BREAK_MASK n = false : Prop)
theorem test_FieldInputAndWireBreak_2 : Hyp.FieldInputAndWireBreak_2 s2 3 :=
  by decide
abbrev Hyp.FieldInputAndWireBreak_3 := fun (s : State) (n : Nat) => (n < 48 ∧ s.bit Gl.WIRE_BREAK_MASK n = true
    ∧ s.bit Gl.FIELD_STATUS (1 + 2 * dieOf n) = false : Prop)
theorem test_FieldInputAndWireBreak_3 : Hyp.FieldInputAndWireBreak_3 s11 5 :=
  by decide
abbrev Hyp.PairDiscrepancyLatches_0 := fun (s : State) (p : Nat) => (p < 24 ∧ pairOn s p = true ∧ pairIsContact s p = false ∧ pairLatched s p = false
    ∧ supplyMissing s = false ∧ heldFor (lookup p s.pairs.diffSince) s.now (50 * s.pn (Gl.PAIR_DISCREPANCY_TIME p) + 1) = true : Prop)
theorem test_PairDiscrepancyLatches_0 : Hyp.PairDiscrepancyLatches_0 s5 5 :=
  by decide
abbrev Hyp.PairDiscrepancyLatches_1 := fun (s : State) (p : Nat) => (p < 24 ∧ pairLatched s p = true ∧ 100 ≤ getD 0 s.pairs.quiet p : Prop)
theorem test_PairDiscrepancyLatches_1 : Hyp.PairDiscrepancyLatches_1 s6 5 :=
  by decide
abbrev Hyp.FieldDieSupplies_0 := fun (s : State) (die : Nat) (iref : Nat) (nom : Nat) => (die < 2 ∧ lineNominal s = some nom ∧ lineRef s die ≠ 0xFF
    ∧ 100 * iref < 55 * nom ∧ s.bit Gl.FIELD_STATUS (4 + die) = false : Prop)
theorem test_FieldDieSupplies_0 : Hyp.FieldDieSupplies_0 s7 0 0 2700 :=
  by decide
abbrev Hyp.FieldDieSupplies_1 := fun (s : State) (die : Nat) (iref : Nat) (nom : Nat) => (die < 2 ∧ lineNominal s = some nom ∧ 55 * nom ≤ 100 * iref
    ∧ s.bit Gl.FIELD_STATUS (4 + die) = true : Prop)
theorem test_FieldDieSupplies_1 : Hyp.FieldDieSupplies_1 s8 0 2700 2700 :=
  by decide
abbrev Hyp.FieldDieSupplies_2 := fun (s : State) (die : Nat) (mv : Nat) => (die < 2 ∧ mv < 16800 ∧ s.bit Gl.FIELD_STATUS (2 * die) = false : Prop)
theorem test_FieldDieSupplies_2 : Hyp.FieldDieSupplies_2 s0 0 0 :=
  by decide
abbrev Hyp.FieldDieSupplies_3 := fun (s : State) (die : Nat) (mv : Nat) => (die < 2 ∧ 17300 < mv ∧ s.bit Gl.FIELD_STATUS (2 * die) = true : Prop)
theorem test_FieldDieSupplies_3 : Hyp.FieldDieSupplies_3 s8 0 17301 :=
  by decide
abbrev Hyp.FieldDieSupplies_4 := fun (_s : State) (die : Nat) => (die < 2 : Prop)
theorem test_FieldDieSupplies_4 : Hyp.FieldDieSupplies_4 s0 0 :=
  by decide
abbrev Hyp.ContactReadings_0 := fun (s : State) (d : Nat) (c : Nat) (v : Bool) => (1 ≤ c ∧ c ≤ 7 ∧ contactCode s d c < 8
    ∧ (s.con d).rawA.testBit (contactCode s d c) = v ∧ rawSince (s.con d) (contactCode s d c) + 5 * s.pn (Ct.CONTACT_FILTER d) ≤ s.now : Prop)
theorem test_ContactReadings_0 : Hyp.ContactReadings_0 s0 23 1 false :=
  by decide
abbrev Hyp.ContactReadings_1 := fun (s : State) (d : Nat) (c : Nat) (v : Bool) => (1 ≤ c ∧ c ≤ 7 ∧ contactCode s d c < 8
    ∧ (s.con d).rawB.testBit (contactCode s d c) = v ∧ rawSince (s.con d) (8 + contactCode s d c) + 5 * s.pn (Ct.CONTACT_FILTER d) ≤ s.now : Prop)
theorem test_ContactReadings_1 : Hyp.ContactReadings_1 s0 23 1 false :=
  by decide
abbrev Hyp.ContactReadings_2 := fun (s : State) (d : Nat) (c : Nat) => (1 ≤ c ∧ c ≤ 7 ∧ configured s d = true ∧ contactLatched s d c = false
    ∧ heldFor (lookup c (s.con d).diffSince) s.now (50 * s.pn (Ct.CONTACT_DISCREPANCY_TIME d) + 1) = true : Prop)
theorem test_ContactReadings_2 : Hyp.ContactReadings_2 s10 0 1 :=
  by decide
end Inputs

/-! ### Protected outputs -/
namespace Outputs
def base : State := (cfgs on [(Gl.SET_DOORWAY_TYPE 0, 2), (Ou.COMMAND 3, 1), (Ou.COMMAND 17,
    1)]) |>.setDie 0 {fedAt := some 999999, expired := false, loaded := true} |>.setDie 1 {fedAt := some 999999, expired := false, loaded := true}
def onq (s : State) (q : Nat) : State := ({s with now := s.now - 100000}.modChan q (fun x => {x with want := true})).refresh q |> fun s =>
    {s with now := s.now + 100000}
def b1 : State := onq (onq base 3) 17
def ended (s : State) : State := (s.modChan 3 (fun x =>
    {x with inrushUntil := none, inrushEnd := some 900000, lowSince := some 900000})).modChan 17 (fun x =>
    {x with inrushUntil := none, inrushEnd := some 900000, lowSince := some 0})
def b2 := ended b1
def tr (s : State) (q : Nat) : State := match exec (.overcurrentTrip q) s with | .next t => t | _ => s
def th (s : State) (q d: Nat) : State := match exec (.thermalTrip q d) s with | .next t => t | _ => s
def later (s : State) : State := {s with now := s.now + 100000000}
def authed (s : State) : State := {s with sessions := [{num := 5, level := .commissioner, anchor := 0, counter := 0, lastValid := 0, source := 2}]}
def t0 : State := tr b2 3
def s0 : State := b2.modChan 3 (fun x => {x with causes := [4, 1]})
def s2 : State := b1
def s4 : State := cfgs b2 [(Ou.RETRY_LIMIT 3, 1), (Ou.RETRY_LIMIT 17, 1)]
def s5 : State := later (tr b2 3)
def s6 : State := tr b2 17
def s9 : State := later (th (tr b2 17) 17 1500)
def s10 : State := th b2 3 1500
def s11 : State := b2.setDie 0 {b2.die 0 with hot := true}
def s12 : State := (b2.modChan 5 (fun x => {x with band := 2, highSince := some 0})).modChan 20 (fun x => {x with band := 2, highSince := some 0})
def s13 : State := cfgs ((b2.modChan 5 (fun x => {x with band := 1, midSince := some 0})).modChan 20 (fun x =>
    {x with band := 1, midSince := some 0})) [(Ou.COIL_MIN_CURRENT 17, 100)]
def s14 : State := b2.modChan 17 (fun x => {x with steady := false, pg := 2})
def s17 : State := later (b2.modChan 3 (fun x => {x with learnFrom := some 5}))
def s18 : State := cfgs b2 [(Ou.LAMP_NOMINAL 3, 100)]
def s19 : State := later ((cfgs (b2.modChan 3 (fun x => {x with failFrom := some 12})) [(Ou.LAMP_FAIL_TIME 3, 100)]))
def s21 : State := (authed b2).setB (Ou.OUT_STATUS 3) 1 true
def s22 : State := wrs (later { b2 with heat := {overSince := some 0, limit := 100}}) [(Gl.DISSIPATION_ESTIMATE, 500), (Ou.DISSIPATION 3, 450),
    (Ou.DISSIPATION 17, 20)]

abbrev Hyp.OvercurrentTripAndRetry_0 := fun (s : State) (q : Nat) u t0 => (q < 24 ∧ (s.chan q).inrushUntil = some u ∧ (s.chan q).onSince = some t0
    ∧ chanOn s q = true ∧ t0 + 50 ≤ s.now : Prop)
theorem test_OvercurrentTripAndRetry_0 : Hyp.OvercurrentTripAndRetry_0 s2 3 901000 900000 :=
  by decide
abbrev Hyp.OvercurrentTripAndRetry_1 := fun (s : State) (q : Nat) => (q < 24 ∧ chanOn s q = true ∧ thermalLatched s q = false
    ∧ (s.chan q).inrushUntil = none ∧ heldFor (s.chan q).inrushEnd s.now 5 = true ∧ s.rdn (Ou.TRIP_COUNT q) + 1 < s.pn (Ou.RETRY_LIMIT q)
    ∧ s.rdn (Ou.TRIP_COUNT q) < 32 : Prop)
theorem test_OvercurrentTripAndRetry_1 : Hyp.OvercurrentTripAndRetry_1 s0 3 :=
  by decide
abbrev Hyp.OvercurrentTripAndRetry_2 := fun (s : State) (q : Nat) => (q < 24 ∧ chanOn s q = false ∧ thermalLatched s q = true
    ∧ (s.chan q).tripAt = some s.now ∧ s.rdn (Ou.TRIP_COUNT q) + 1 < s.pn (Ou.RETRY_LIMIT q) ∧ s.rdn (Ou.TRIP_COUNT q) < 32 : Prop)
theorem test_OvercurrentTripAndRetry_2 : Hyp.OvercurrentTripAndRetry_2 s10 3 :=
  by decide
abbrev Hyp.OvercurrentTripAndRetry_3 := fun (s : State) (q : Nat) => (q < 24 ∧ q < 16 ∧ chanOn s q = true ∧ (s.chan q).inrushUntil = none
    ∧ heldFor (s.chan q).inrushEnd s.now 5 = true ∧ s.pn (Ou.RETRY_LIMIT q) ≤ s.rdn (Ou.TRIP_COUNT q) + 1 ∧ s.rdn (Ou.TRIP_COUNT q) < 32 : Prop)
theorem test_OvercurrentTripAndRetry_3 : Hyp.OvercurrentTripAndRetry_3 s4 3 :=
  by decide
abbrev Hyp.OvercurrentTripAndRetry_4 := fun (s : State) (q : Nat) => (q < 24 ∧ 16 ≤ q ∧ chanOn s q = true ∧ (s.chan q).inrushUntil = none
    ∧ heldFor (s.chan q).inrushEnd s.now 5 = true ∧ s.pn (Ou.RETRY_LIMIT q) ≤ s.rdn (Ou.TRIP_COUNT q) + 1 ∧ s.rdn (Ou.TRIP_COUNT q) < 32 : Prop)
theorem test_OvercurrentTripAndRetry_4 : Hyp.OvercurrentTripAndRetry_4 s4 17 :=
  by decide
abbrev Hyp.OvercurrentTripAndRetry_5 := fun (s : State) (q : Nat) => (q < 24 ∧ due (s.chan q).pauseUntil s.now = true : Prop)
theorem test_OvercurrentTripAndRetry_5 : Hyp.OvercurrentTripAndRetry_5 s5 3 :=
  by decide
abbrev Hyp.OvercurrentTripAndRetry_6 := fun (s : State) (q : Nat) => (q < 24 ∧ due (s.chan q).pauseUntil s.now = true ∧ (s.chan q).want = true
    ∧ (s.chan q).steady = true ∧ chanOn s q = false ∧ (s.die (dieOfChan q)).expired = false ∧ (s.die (dieOfChan q)).stabled = false
    ∧ (s.die (dieOfChan q)).hot = false ∧ s.bit (Ou.OUT_STATUS q) 4 = false ∧ s.bit (Ou.OUT_STATUS q) 8 = false ∧ s.bit (Ou.OUT_STATUS q) 10 = false
    ∧ s.bit (Ou.OUT_STATUS q) 12 = false ∧ (s.chan q).heldOff = false ∧ (s.chan q).clearing = false : Prop)
theorem test_OvercurrentTripAndRetry_6 : Hyp.OvercurrentTripAndRetry_6 s5 3 :=
  by decide
abbrev Hyp.OvercurrentTripAndRetry_7 := fun (s : State) (q : Nat) => (q < 24 ∧ chanOn s q = true
    ∧ heldFor (s.chan q).onSince s.now 50000 = true : Prop)
theorem test_OvercurrentTripAndRetry_7 : Hyp.OvercurrentTripAndRetry_7 s0 3 :=
  by decide
abbrev Hyp.ThermalLatch_0 := fun (s : State) (q : Nat) (dT : Nat) => (q < 24 ∧ s.pn (Ou.DELTA_T_LIMIT q) ≤ dT ∧ dT ≤ 1500
    ∧ thermalLatched s q = false : Prop)
theorem test_ThermalLatch_0 : Hyp.ThermalLatch_0 s0 0 1500 :=
  by decide
abbrev Hyp.ThermalLatch_1 := fun (s : State) (q : Nat) (dT : Nat) => (q < 24 ∧ dT < 150 ∧ thermalLatched s q = true : Prop)
theorem test_ThermalLatch_1 : Hyp.ThermalLatch_1 s9 17 0 :=
  by decide
abbrev Hyp.ThermalLatch_2 := fun (s : State) (q : Nat) (temp : Int) => (q < 24 ∧ 1500 ≤ temp ∧ (s.die (dieOfChan q)).hot = false : Prop)
theorem test_ThermalLatch_2 : Hyp.ThermalLatch_2 s0 0 1500 :=
  by decide
abbrev Hyp.ThermalLatch_3 := fun (s : State) (q : Nat) (temp : Int) => (q < 24 ∧ temp < 1400 ∧ (s.die (dieOfChan q)).hot = true : Prop)
theorem test_ThermalLatch_3 : Hyp.ThermalLatch_3 s11 0 0 :=
  by decide
abbrev Hyp.ReadbackFaults_0 := fun (s : State) (q : Nat) => (q < 24 ∧ chanOn s q = false ∧ (s.chan q).band = 2
    ∧ heldFor (s.chan q).highSince s.now 250 = true ∧ joinedHigh s q = false ∧ s.bit (Ou.OUT_STATUS q) 9 = false
    ∧ s.bit (Ou.OUT_STATUS q) 10 = false : Prop)
theorem test_ReadbackFaults_0 : Hyp.ReadbackFaults_0 s12 5 :=
  by decide
abbrev Hyp.ReadbackFaults_1 := fun (s : State) (q : Nat) y => (q < 24 ∧ chanOn s q = false ∧ (s.chan q).band = 2
    ∧ heldFor (s.chan q).highSince s.now 250 = true ∧ joinedHigh s q = false ∧ s.bit (Ou.OUT_STATUS q) 9 = false ∧ s.bit (Ou.OUT_STATUS q) 10 = false
    ∧ y < 24 ∧ y ≠ q ∧ chanOn s y = true : Prop)
theorem test_ReadbackFaults_1 : Hyp.ReadbackFaults_1 s12 5 3 :=
  by decide
abbrev Hyp.ReadbackFaults_2 := fun (s : State) (q : Nat) y => (q < 24 ∧ y < 24 ∧ q ≠ y ∧ chanOn s q = true ∧ chanOn s y = false
    ∧ heldFor (s.chan q).onSince s.now 50 = true ∧ joinedHigh s y = false ∧ s.bit (Ou.OUT_STATUS y) 10 = false : Prop)
theorem test_ReadbackFaults_2 : Hyp.ReadbackFaults_2 s0 3 0 :=
  by decide
abbrev Hyp.ReadbackFaults_3 := fun (s : State) (q : Nat) => (q < 24 ∧ (s.chan q).openSeen = false ∧ chanOn s q = false ∧ s.pb (Ou.OFF_TEST q) = true
    ∧ joinedHigh s q = false ∧ (s.chan q).band = 1 ∧ heldFor (s.chan q).midSince s.now 2500 = true : Prop)
theorem test_ReadbackFaults_3 : Hyp.ReadbackFaults_3 s13 5 :=
  by decide
abbrev Hyp.ReadbackFaults_4 := fun (s : State) (q : Nat) => (q < 24 ∧ 16 ≤ q ∧ (s.chan q).openSeen = false ∧ chanOn s q = true
    ∧ s.pn (Ou.COIL_MIN_CURRENT q) ≠ 0 ∧ heldFor (s.chan q).lowSince s.now 1000 = true : Prop)
theorem test_ReadbackFaults_4 : Hyp.ReadbackFaults_4 s13 17 :=
  by decide
abbrev Hyp.FieldDieChannels_0 := fun (s : State) (die : Nat) (q : Nat) => (die < 2 ∧ q < 24 ∧ dieOfChan q = die ∧ (s.die die).expired = false
    ∧ (s.die die).stabled = false ∧ heldFor (s.die die).fedAt s.now (50 * (s.die die).wd) = true : Prop)
theorem test_FieldDieChannels_0 : Hyp.FieldDieChannels_0 s5 0 0 :=
  by decide
abbrev Hyp.FieldDieChannels_1 := fun (_s : State) (die : Nat) (q : Nat) => (die < 2 ∧ q < 24 ∧ dieOfChan q = die : Prop)
theorem test_FieldDieChannels_1 : Hyp.FieldDieChannels_1 s0 0 0 :=
  by decide
abbrev Hyp.FieldDieChannels_2 := fun (s : State) (die : Nat) (q : Nat) (on : Bool) (n : Nat) => (die < 2 ∧ q < 24 ∧ dieOfChan q = die
    ∧ (driven s q).2 = some n ∧ n < 8 ∧ (s.chan q).phaseNext = none ∧ pgEdge (pgRec s die n) (s.chan q).phase s.now on = true : Prop)
theorem test_FieldDieChannels_2 : Hyp.FieldDieChannels_2 s14 0 17 true 2 :=
  by decide
abbrev Hyp.FieldDieChannels_3 := fun (s : State) (die : Nat) (q : Nat) (_energy : Nat) (_limited : Bool) => (die < 2 ∧ q < 24 ∧ dieOfChan q = die
    ∧ 16 ≤ q ∧ (s.chan q).decaying = true ∧ s.pn (Ou.DEMAG_MODE q) = 0 : Prop)
theorem test_FieldDieChannels_3 : Hyp.FieldDieChannels_3 s6 0 17 0 true :=
  by decide
abbrev Hyp.LampSupervision_0 := fun (s : State) (q : Nat) m => (q < 16 ∧ heldFor (s.chan q).learnFrom s.now 100000 = true ∧ 20 ≤ m : Prop)
theorem test_LampSupervision_0 : Hyp.LampSupervision_0 s17 3 20 :=
  by decide
abbrev Hyp.LampSupervision_1 := fun (s : State) (q : Nat) m => (q < 16 ∧ heldFor (s.chan q).learnFrom s.now 100000 = true ∧ m < 20 : Prop)
theorem test_LampSupervision_1 : Hyp.LampSupervision_1 s17 3 0 :=
  by decide
abbrev Hyp.LampSupervision_2 := fun (s : State) (q : Nat) => (q < 16 ∧ supervised s q = true ∧ (s.chan q).want = true ∧ protected_ s q = false
    ∧ lampFailed s q = false ∧ 16 ≤ s.pn (Ou.LAMP_SPARE q) : Prop)
theorem test_LampSupervision_2 : Hyp.LampSupervision_2 s18 3 :=
  by decide
abbrev Hyp.LampSupervision_3 := fun (s : State) (q : Nat) => (q < 16 ∧ (s.chan q).causes ≠ [] ∧ (∀ c ∈ (s.chan q).causes, c ≤ 4)
    ∧ lampFailed s q = false ∧ 16 ≤ s.pn (Ou.LAMP_SPARE q) : Prop)
theorem test_LampSupervision_3 : Hyp.LampSupervision_3 s0 3 :=
  by decide
abbrev Hyp.LampSupervision_4 := fun (s : State) (q : Nat) => (q < 16 ∧ (s.chan q).causes ≠ [] ∧ (∀ c ∈ (s.chan q).causes, c ≤ 4)
    ∧ lampFailed s q = false ∧ 16 ≤ s.pn (Ou.LAMP_SPARE q) : Prop)
theorem test_LampSupervision_4 : Hyp.LampSupervision_4 s0 3 :=
  by decide
abbrev Hyp.LampSupervision_5 := fun (s : State) (q : Nat) => (q < 16 ∧ (s.chan q).causes ≠ [] ∧ (∀ c ∈ (s.chan q).causes, c ≤ 4)
    ∧ lampFailed s q = false ∧ 16 ≤ s.pn (Ou.LAMP_SPARE q) : Prop)
theorem test_LampSupervision_5 : Hyp.LampSupervision_5 s0 3 :=
  by decide
abbrev Hyp.LampSupervision_6 := fun (s : State) (q : Nat) => (q < 16 ∧ (s.chan q).causes ≠ [] ∧ (∀ c ∈ (s.chan q).causes, c ≤ 4)
    ∧ lampFailed s q = false ∧ 16 ≤ s.pn (Ou.LAMP_SPARE q) : Prop)
theorem test_LampSupervision_6 : Hyp.LampSupervision_6 s0 3 :=
  by decide
abbrev Hyp.LampSupervision_7 := fun (s : State) (q : Nat) => (q < 16 ∧ (s.chan q).causes ≠ [] ∧ (∀ c ∈ (s.chan q).causes, c ≤ 4)
    ∧ lampFailed s q = false ∧ 16 ≤ s.pn (Ou.LAMP_SPARE q) : Prop)
theorem test_LampSupervision_7 : Hyp.LampSupervision_7 s0 3 :=
  by decide
abbrev Hyp.LampSupervision_8 := fun (s : State) (q : Nat) => (q < 16 ∧ (s.chan q).causes ≠ [] ∧ (∀ c ∈ (s.chan q).causes, c ≤ 4)
    ∧ lampFailed s q = false ∧ 16 ≤ s.pn (Ou.LAMP_SPARE q) : Prop)
theorem test_LampSupervision_8 : Hyp.LampSupervision_8 s0 3 :=
  by decide
abbrev Hyp.LampSupervision_9 := fun (s : State) (q : Nat) => (q < 16 ∧ (s.chan q).causes ≠ [] ∧ (∀ c ∈ (s.chan q).causes, c ≤ 4)
    ∧ lampFailed s q = false ∧ 16 ≤ s.pn (Ou.LAMP_SPARE q) : Prop)
theorem test_LampSupervision_9 : Hyp.LampSupervision_9 s0 3 :=
  by decide
abbrev Hyp.LampSupervision_10 := fun (s : State) (q : Nat) => (q < 16 ∧ (s.chan q).causes ≠ [] ∧ (∀ c ∈ (s.chan q).causes, c ≤ 4)
    ∧ lampFailed s q = false ∧ 16 ≤ s.pn (Ou.LAMP_SPARE q) : Prop)
theorem test_LampSupervision_10 : Hyp.LampSupervision_10 s0 3 :=
  by decide
abbrev Hyp.LampSupervision_11 := fun (s : State) (q : Nat) => (q < 16 ∧ s.rdn Gl.FAST_TICK_COUNT % 50 = 0 ∧ (∀ c ∈ (s.chan q).causes, 3 ≤ c)
    ∧ heldFor (s.chan q).failFrom s.now (50 * s.pn (Ou.LAMP_FAIL_TIME q)) = true ∧ (s.chan q).heldOff = false ∧ lampFailed s q = false : Prop)
theorem test_LampSupervision_11 : Hyp.LampSupervision_11 s19 3 :=
  by decide
abbrev Hyp.LampSupervision_12 := fun (s : State) (q : Nat) (via : Via) => (q < 16 ∧ (fun u =>
    Reaches via (chanIndex q) 0x17 1 none s u 1) (after (front via (requestClass (chanIndex q) 0x17 false) ((chanIndex q), 0x17, .num 1,
    none) s)) : Prop)
theorem test_LampSupervision_12 : Hyp.LampSupervision_12 s0 0 Via.mirror :=
  ⟨by decide, reaches (by decide)⟩
abbrev Hyp.LampSupervision_13 := fun (s : State) (q : Nat) (via : Via) => (q < 16 ∧ (fun u => Reaches via (chanIndex q) 0x22 1 none s u 1
    ∧ demanded u q = true ∧ (u.chan q).steady = true ∧ u.pn (Ou.ON_STATE q) = 1 ∧ protected_ u q = false
    ∧ standby u q = false) (after (front via (requestClass (chanIndex q) 0x22 false) ((chanIndex q), 0x22, .num 1, none) s)) : Prop)
theorem test_LampSupervision_13 : Hyp.LampSupervision_13 s21 3 Via.mirror :=
  ⟨by decide, reaches (by decide), by decide⟩
abbrev Hyp.DissipationTripSheds_0 := fun (s : State) => (s.rdn Gl.FAST_TICK_COUNT % 50 = 0 ∧ heldFor s.heat.overSince s.now 50000 = true : Prop)
theorem test_DissipationTripSheds_0 : Hyp.DissipationTripSheds_0 s22 :=
  by decide
end Outputs

/-! ### Safety channels and safe outputs -/
namespace Safe
def base : State := (cfgs on [(Gl.SET_DOORWAY_TYPE 0, 2), (Gl.SET_DOORWAY_TYPE 3, 3)])
def so (s : State) (k : Nat) : State := (((s.wr (Gl.SO_STATUS k) 7).setB Gl.SO_STATE k true).setOut k {changedAt := some 5, onSince := some 5})
def live : State := { (wrs (so (so base 0) 4) [(Gl.SET_STATE, 1)]) with duplex := {driving := true} }
def authed (s : State) : State := {s with sessions := [{num := 5, level := .commissioner, anchor := 0, counter := 0, lastValid := 0, source := 2}]}
def slot (s : State) (k : Nat) (sd : Side) : State := s.wrn Gl.FAST_TICK_COUNT (pulseSlot s k sd * 50 + 35)
def s0 : State := {live with safety := {live.safety with aliveAtA := some 5, aliveAtB := some 999950, portA := some {since := 5, last := 999975}, portB := some {since := 999000, last := 999995}}}
def s2 : State := base
def s5 : State := live.wr Gl.SAFE_STATE_CAUSE 3
def s7 : State := wrs live [(Gl.FIELD_STATUS, 0xA)]
def s9 : State := slot live 0 .hs
def s11 : State := live.setOut 0 {live.out 0 with pulse := some (false, 5)}
def s13 : State := live.setOut 4 {live.out 4 with hsUntested := 86400000}
def s15 : State := live.setAxis 1 {sf7Until := some 7, sf4Pos := [5000,0,0,0,0]}
def s16 : State := {live.wr (Lk.LINK_STATE 0) 5 with safety := {live.safety with stoSent := [(0, 7)]}}
def s17 : State := authed {live.wr Gl.SAFE_STATE_CAUSE 0 with safety := {live.safety with relA := 4, relB := 4}}
def s20 : State := (base).wr Gl.PROOF_TEST_DUE 0

abbrev Hyp.SafeStateOpensEverything_0 := fun (s : State) (ch : Chan) => (s.safety.inReset = false ∧ s.rd Gl.SAFE_STATE_CAUSE = 0 ∧ heldFor (match ch with | .A => s.safety.aliveAtB | .B => s.safety.aliveAtA) s.now 50 = true : Prop)
theorem test_SafeStateOpensEverything_0 : Hyp.SafeStateOpensEverything_0 s0 Chan.A :=
  by decide
abbrev Hyp.SafeStateOpensEverything_1 := fun (s : State) (_ch : Chan) => (s.safety.inReset = false ∧ s.rdn Gl.SAFE_STATE_CAUSE ≠ 0 : Prop)
theorem test_SafeStateOpensEverything_1 : Hyp.SafeStateOpensEverything_1 s5 Chan.A :=
  by decide
abbrev Hyp.SafeStateOpensEverything_2 := fun (s : State) die => (s.safety.inReset = false ∧ die < 2 ∧ s.rd Gl.SAFE_STATE_CAUSE = 0
    ∧ portQuiet s die = true ∧ portExpired s die = false : Prop)
theorem test_SafeStateOpensEverything_2 : Hyp.SafeStateOpensEverything_2 s0 0 :=
  by decide
abbrev Hyp.SafeStateOpensEverything_3 := fun (s : State) die => (s.safety.inReset = false ∧ die < 2 ∧ portSteady s die = true : Prop)
theorem test_SafeStateOpensEverything_3 : Hyp.SafeStateOpensEverything_3 s0 1 :=
  by decide
abbrev Hyp.MissingSupplyOpensOutputs_0 := fun (s : State) (die : Nat) mv => (die < 2 ∧ mv < 9000 ∧ s.bit Gl.FIELD_STATUS (2 * die + 1) = false : Prop)
theorem test_MissingSupplyOpensOutputs_0 : Hyp.MissingSupplyOpensOutputs_0 s0 0 0 :=
  by decide
abbrev Hyp.MissingSupplyOpensOutputs_1 := fun (s : State) (die : Nat) mv => (die < 2 ∧ 10000 < mv ∧ s.bit Gl.FIELD_STATUS (2 * die + 1) = true : Prop)
theorem test_MissingSupplyOpensOutputs_1 : Hyp.MissingSupplyOpensOutputs_1 s7 0 10001 :=
  by decide
abbrev Hyp.SafeOutputTestsAndFaults_0 := fun (s : State) (k : Nat) (side : Side) => (k < 6 ∧ energised s k = true ∧ (s.out k).pulse = none
    ∧ s.rdn Gl.FAST_TICK_COUNT / 50 % 500 = pulseSlot s k side ∧ s.rdn Gl.FAST_TICK_COUNT % 50 = 35
    ∧ ((s.out k).changedAt = none ∨ heldFor (s.out k).changedAt s.now 500 = true) : Prop)
theorem test_SafeOutputTestsAndFaults_0 : Hyp.SafeOutputTestsAndFaults_0 s9 0 Side.hs :=
  by decide
abbrev Hyp.SafeOutputTestsAndFaults_1 := fun (s : State) (k : Nat) (side : Side) load start => (k < 6 ∧ energised s k = true
    ∧ (s.out k).pulse = some (side == .ls, start) ∧ start + 10 ≤ s.now ∧ 5 ≤ load : Prop)
theorem test_SafeOutputTestsAndFaults_1 : Hyp.SafeOutputTestsAndFaults_1 s11 0 Side.hs 5 5 :=
  by decide
abbrev Hyp.SafeOutputTestsAndFaults_2 := fun (s : State) (k : Nat) (side : Side) load start => (k < 6 ∧ energised s k = true
    ∧ (s.out k).pulse = some (side == .ls, start) ∧ start + 10 ≤ s.now ∧ 5 ≤ load ∧ soFaulted s k = false : Prop)
theorem test_SafeOutputTestsAndFaults_2 : Hyp.SafeOutputTestsAndFaults_2 s11 0 Side.hs 5 5 :=
  by decide
abbrev Hyp.SafeOutputTestsAndFaults_3 := fun (s : State) (k : Nat) (side : Side) => (k < 6 ∧ soFaulted s k = false ∧ s.bit (Gl.SO_STATUS k) (match side with | .hs => 0 | .ls => 1) = true : Prop)
theorem test_SafeOutputTestsAndFaults_3 : Hyp.SafeOutputTestsAndFaults_3 s0 0 Side.hs :=
  by decide
abbrev Hyp.SafeOutputTestsAndFaults_4 := fun (s : State) (k : Nat) (side : Side) => (k < 6 ∧ soFaulted s k = false ∧ s.bit (Gl.SO_STATUS k) (match side with | .hs => 0 | .ls => 1) = true ∧ heldFor (s.out k).changedAt s.now 500 = true : Prop)
theorem test_SafeOutputTestsAndFaults_4 : Hyp.SafeOutputTestsAndFaults_4 s0 0 Side.hs :=
  by decide
abbrev Hyp.SafeOutputTestsAndFaults_5 := fun (s : State) (k : Nat) (_side : Side) => (k < 6 ∧ soFaulted s k = false
    ∧ s.bit (Gl.SO_STATUS k) 0 = false ∧ (s.out k).pulse = none : Prop)
theorem test_SafeOutputTestsAndFaults_5 : Hyp.SafeOutputTestsAndFaults_5 s0 1 Side.hs :=
  by decide
abbrev Hyp.SafeOutputTestsAndFaults_6 := fun (s : State) (k : Nat) (side : Side) => (k < 6 ∧ (match side with | .hs => (s.out k).hsUntested | .ls => (s.out k).lsUntested) ≥ 86400000 ∧ s.bit (Gl.SO_STATUS k) 4 = false : Prop)
theorem test_SafeOutputTestsAndFaults_6 : Hyp.SafeOutputTestsAndFaults_6 s13 4 Side.hs :=
  by decide
abbrev Hyp.UnsafeMotionDemandsSto_0 := fun (s : State) (a : Nat) => (due (s.axis a).sf7Until s.now = true ∧ 2000 ≤ safeMove (s.axis a) : Prop)
theorem test_UnsafeMotionDemandsSto_0 : Hyp.UnsafeMotionDemandsSto_0 s15 1 :=
  by decide
abbrev Hyp.UnsafeMotionDemandsSto_1 := fun (s : State) (a : Nat) => ((axesOf s (doorOf a)).contains a = true ∧ linkUp s (doorOf a) = true
    ∧ heldFor (lookup a s.safety.stoSent) s.now 5 = true : Prop)
theorem test_UnsafeMotionDemandsSto_1 : Hyp.UnsafeMotionDemandsSto_1 s16 0 :=
  by decide
abbrev Hyp.SafetySetCommands_0 := fun (s : State) (via : Via) => ((fun u => Reaches via 0x5002 1 1 none s u 1 ∧ u.safety.relA.testBit 2 = true
    ∧ u.safety.relB.testBit 2 = true ∧ (∀ d, d < 16 → doorState u d ≠ 3 ∧ doorState u d ≠ 5
    ∧ doorState u d ≠ 6)) (after (front via (requestClass 0x5002 1 false) (0x5002, 1, .num 1, none) s)) : Prop)
theorem test_SafetySetCommands_0 : Hyp.SafetySetCommands_0 s17 Via.mirror :=
  ⟨reaches (by decide), by decide⟩
abbrev Hyp.SafetySetCommands_1 := fun (s : State) (via : Via) (v : Int) => ((fun u => Reaches via 0x5001 1 v none s u v ∧ 0 ≤ v
    ∧ v = u.rd Gl.CHECK_VALUE ∧ v = u.rd Gl.CHECK_VALUE_B ∧ (∀ a ∈ storedAxes u, roleOf a ≠ 2 → 1000 ≤ u.rdn (Ax.CURRENT_BANDWIDTH a))
    ∧ u.rdn Gl.SET_STATE ≠ 1) (after (front via (requestClass 0x5001 1 false) (0x5001, 1, .num v, none) s)) : Prop)
theorem test_SafetySetCommands_1 : Hyp.SafetySetCommands_1 s2 Via.mirror 0 :=
  ⟨reaches (by decide), by decide⟩
abbrev Hyp.SafetySetCommands_2 := fun (s : State) (via : Via) (v : Int) => ((fun u => Reaches via 0x5001 1 v none s u v
    ∧ (v ≠ u.rd Gl.CHECK_VALUE ∨ v ≠ u.rd Gl.CHECK_VALUE_B)) (after (front via (requestClass 0x5001 1 false) (0x5001, 1, .num v, none) s)) : Prop)
theorem test_SafetySetCommands_2 : Hyp.SafetySetCommands_2 s0 Via.mirror 1 :=
  ⟨reaches (by decide), by decide⟩
abbrev Hyp.SafetySetCommands_3 := fun (s : State) (via : Via) (v : Nat) => ((fun u => Reaches via 0x5102 4 v none s u v
    ∧ v < 64) (after (front via (requestClass 0x5102 4 false) (0x5102, 4, .num v, none) s)) : Prop)
theorem test_SafetySetCommands_3 : Hyp.SafetySetCommands_3 s0 Via.mirror 0 :=
  ⟨reaches (by decide), by decide⟩
abbrev Hyp.SafetySetCommands_4 := fun (s : State) (via : Via) => ((fun u =>
    Reaches via 0x5104 2 1 none s u 1) (after (front via (requestClass 0x5104 2 false) (0x5104, 2, .num 1, none) s)) : Prop)
theorem test_SafetySetCommands_4 : Hyp.SafetySetCommands_4 s0 Via.mirror :=
  reaches (by decide)
abbrev Hyp.SafetySetCommands_5 := fun (s : State) (_via : Via) => (s.rd Gl.PROOF_TEST_DUE = 0 ∧ s.safety.proofRaised = none : Prop)
theorem test_SafetySetCommands_5 : Hyp.SafetySetCommands_5 s20 Via.sdo :=
  by decide
end Safe

/-! ### Doorways -/
namespace Doors
def base0 : State := (cfgs on [(Gl.SET_DOORWAY_TYPE 0, 2), (Gl.SET_DOORWAY_TYPE 3, 3), (Gl.SET_DOORWAY_SIDE 3, 1), (Ax.STROKE 0, 700000),
    (Ax.STROKE 1, 700000), (Ax.STROKE 9, 700000), (Ax.STROKE 11, 700000), (Ax.MOVING_MASS 0, 9), (Ax.MOVING_MASS 1, 9), (Ax.MOVING_MASS 9, 9)])
def base := wrs base0 [(Gl.LEFT_RELEASED,1),(Gl.RIGHT_RELEASED,1),(Gl.ZERO_SPEED,1), (Dr.STATE 0, 4), (Dr.STATE 3, 1), (Gl.DOMAINS_ON, 255)]
def authed (s : State) : State := {s with sessions := [{num := 5, level := .commissioner, anchor := 0, counter := 0, lastValid := 0, source := 2}]}
def md (s : State) (d : Nat) (f : Door → Door) : State := s.modDoor d f
def mv (k : MoveKind) : Move := {kind := k, closing := true, axes := [{a := 0, start := 0, target := 5}, {a := 1, start := 0, target := 5}, {a := 77, start := 0, target := 5}], started := 5, ended := true, reached := true}
def seekMv (k : MoveKind) : Move := {mv k with axes := [], seeks := [{a := 9, opening := true, start := 5, segs := [], found := some 7000},{a := 11, opening := true, start := 5, segs := [], found := none}], limitStopped := true}
def s0 : State := md base 3 (fun x => {x with move := some {mv .unlock with limitStopped := true}})
def s2 : State := md base 3 (fun x => {x with move := some (seekMv .unlock), learn := some {}})
def s86 : State := authed (wrs base [(Dr.STATE 0, 7), (Dr.STATE 3, 8)])
def s88 : State := md base 0 (fun x => {x with warnUntil := some 5})
def s89 : State := md base 0 (fun x => {x with autoUntil := some 5})
def s90 : State := md base 0 (fun x => {x with preselUntil := some 5, dwellUntil := some 6, openDwellUntil := some 6})
def s91 : State := md (base.wr (Dr.STATE 0) 2) 0 (fun x => {x with unlockUntil := some 5, opening := true, lockOn := true})
def s92 : State := md (base.wr (Dr.STATE 0) 2) 0 (fun x => {x with lockUntil := some 5})
def s93 : State := (cfg base (Dr.REQUEST_INPUT_INSIDE 0) 3).setCon 0 {filt := 8}
def s94 : State := md base 0 (fun x => {x with startWait := some {kind := .close, since := 7}})
def s95 : State := md (base.wr Gl.DOMAINS_ON 3) 0 (fun x => {x with startWait := some {kind := .close, since := 7}})
def s96 : State := md base 3 (fun x => {x with stepUntil := some 5, stepExtending := true, move := some {mv .stepExtend with axes := [{a := 11, start := 0, target := 7}]}})
def s97 : State := md base 3 (fun x => {x with viewSince := some 5, lockPairSince := some 7, holdSince := some 5})
def s101 : State := authed (md base 3 (fun x =>
    {x with learn := some {finished := true, e1 := [(9, 700000), (11, 700000)], e2 := [(9, 700500), (11, 700600)], c1 := [(9,5)], c2 := [(9,7)]}}))

abbrev Hyp.DoorwayCommandsWaitForTheDoorTick_0 := fun (s : State) (via : Via) (d : Nat) (c : Via → Nat → Instr) (n : Nat) => (d < 16 ∧ (c,
    n) ∈ [(Instr.open_, 1), (Instr.close, 2), (Instr.holdOpen, 3), (Instr.endHold, 4), (Instr.reset, 5), (Instr.forcedClose, 6)] ∧ (fun u =>
    Reaches via (0x3001 + 0x40 * d) 1 n none s u n
    ∧ commandOk u d n = true) (after (front via (requestClass (0x3001 + 0x40 * d) 1 false) ((0x3001 + 0x40 * d), 1, .num n, none) s)) : Prop)
theorem test_DoorwayCommandsWaitForTheDoorTick_0 : Hyp.DoorwayCommandsWaitForTheDoorTick_0 s0 Via.sdo 0 Instr.open_ 1
    ∧ Hyp.DoorwayCommandsWaitForTheDoorTick_0 s0 Via.sdo 0 Instr.close 2 ∧ Hyp.DoorwayCommandsWaitForTheDoorTick_0 s0 Via.sdo 0 Instr.holdOpen 3
    ∧ Hyp.DoorwayCommandsWaitForTheDoorTick_0 s0 Via.sdo 0 Instr.endHold 4 ∧ Hyp.DoorwayCommandsWaitForTheDoorTick_0 s86 Via.sdo 0 Instr.reset 5
    ∧ Hyp.DoorwayCommandsWaitForTheDoorTick_0 s86 Via.sdo 0 Instr.forcedClose 6 :=
  ⟨⟨by decide, .head _, reaches (by decide), by decide⟩, ⟨by decide, .tail _ (.head _), reaches (by decide), by decide⟩, ⟨by decide,
    .tail _ (.tail _ (.head _)), reaches (by decide), by decide⟩, ⟨by decide, .tail _ (.tail _ (.tail _ (.head _))), reaches (by decide), by decide⟩,
    ⟨by decide, .tail _ (.tail _ (.tail _ (.tail _ (.head _)))), reaches (by decide), by decide⟩, ⟨by decide,
    .tail _ (.tail _ (.tail _ (.tail _ (.tail _ (.head _))))), reaches (by decide), by decide⟩⟩
abbrev Hyp.DoorwayCommandsWaitForTheDoorTick_1 := fun (s : State) (via : Via) (d : Nat) (c : Via → Nat → Instr) (n : Nat) => (d < 16 ∧ (c,
    n) ∈ [(Instr.open_, 1), (Instr.close, 2), (Instr.holdOpen, 3), (Instr.endHold, 4), (Instr.reset, 5), (Instr.forcedClose, 6)] ∧ (fun u =>
    Reaches via (0x3001 + 0x40 * d) 1 n none s u n ∧ commandOk u d n = false
    ∧ via ≠ .pdo) (after (front via (requestClass (0x3001 + 0x40 * d) 1 false) ((0x3001 + 0x40 * d), 1, .num n, none) s)) : Prop)
theorem test_DoorwayCommandsWaitForTheDoorTick_1 : Hyp.DoorwayCommandsWaitForTheDoorTick_1 s0 Via.sdo 0 Instr.reset 5
    ∧ Hyp.DoorwayCommandsWaitForTheDoorTick_1 s0 Via.sdo 0 Instr.forcedClose 6 ∧ Hyp.DoorwayCommandsWaitForTheDoorTick_1 s0 Via.sdo 1 Instr.open_ 1
    ∧ Hyp.DoorwayCommandsWaitForTheDoorTick_1 s0 Via.sdo 1 Instr.close 2 ∧ Hyp.DoorwayCommandsWaitForTheDoorTick_1 s0 Via.sdo 1 Instr.holdOpen 3
    ∧ Hyp.DoorwayCommandsWaitForTheDoorTick_1 s0 Via.sdo 1 Instr.endHold 4 :=
  ⟨⟨by decide, .tail _ (.tail _ (.tail _ (.tail _ (.head _)))), reaches (by decide), by decide⟩, ⟨by decide,
    .tail _ (.tail _ (.tail _ (.tail _ (.tail _ (.head _))))), reaches (by decide), by decide⟩, ⟨by decide, .head _, reaches (by decide), by decide⟩,
    ⟨by decide, .tail _ (.head _), reaches (by decide), by decide⟩, ⟨by decide, .tail _ (.tail _ (.head _)), reaches (by decide), by decide⟩,
    ⟨by decide, .tail _ (.tail _ (.tail _ (.head _))), reaches (by decide), by decide⟩⟩
abbrev Hyp.CarCommandsReachTheirSide_0 := fun (s : State) (via : Via) (c : Via → Instr) (n : Nat) (cmd : Nat) (side : Option Nat) => ((c, n, cmd,
    side) ∈ [(Instr.openLeft, 1, 1, some 0), (Instr.openRight, 2, 1, some 1), (Instr.closeLeft, 3, 2, some 0), (Instr.closeRight, 4, 2, some 1),
    (Instr.closeAll, 5, 2, none), (Instr.holdAll, 6, 3, none), (Instr.endHoldAll, 7, 4, none)] ∧ (fun u =>
    Reaches via 0x2010 1 n none s u n) (after (front via (requestClass 0x2010 1 false) (0x2010, 1, .num n, none) s)) : Prop)
theorem test_CarCommandsReachTheirSide_0 : Hyp.CarCommandsReachTheirSide_0 s0 Via.sdo Instr.openLeft 1 1 (some 0)
    ∧ Hyp.CarCommandsReachTheirSide_0 s0 Via.sdo Instr.openRight 2 1 (some 1)
    ∧ Hyp.CarCommandsReachTheirSide_0 s0 Via.sdo Instr.closeLeft 3 2 (some 0)
    ∧ Hyp.CarCommandsReachTheirSide_0 s0 Via.sdo Instr.closeRight 4 2 (some 1) ∧ Hyp.CarCommandsReachTheirSide_0 s0 Via.sdo Instr.closeAll 5 2 none
    ∧ Hyp.CarCommandsReachTheirSide_0 s0 Via.sdo Instr.holdAll 6 3 none ∧ Hyp.CarCommandsReachTheirSide_0 s0 Via.sdo Instr.endHoldAll 7 4 none :=
  ⟨⟨.head _, reaches (by decide)⟩, ⟨.tail _ (.head _), reaches (by decide)⟩, ⟨.tail _ (.tail _ (.head _)), reaches (by decide)⟩,
    ⟨.tail _ (.tail _ (.tail _ (.head _))), reaches (by decide)⟩, ⟨.tail _ (.tail _ (.tail _ (.tail _ (.head _)))), reaches (by decide)⟩,
    ⟨.tail _ (.tail _ (.tail _ (.tail _ (.tail _ (.head _))))), reaches (by decide)⟩,
    ⟨.tail _ (.tail _ (.tail _ (.tail _ (.tail _ (.tail _ (.head _)))))), reaches (by decide)⟩⟩
abbrev Hyp.SequenceTimersEnd_0 := fun (s : State) (d : Nat) => (due (s.door d).warnUntil s.now = true ∧ (s.door d).warnEnded = false
    ∧ (s.door d).closePend = none ∧ doorState s d = 4 ∧ (s.door d).startWait = none ∧ (s.door d).granted = none : Prop)
theorem test_SequenceTimersEnd_0 : Hyp.SequenceTimersEnd_0 s88 0 :=
  by decide
abbrev Hyp.SequenceTimersEnd_1 := fun (s : State) (d : Nat) => (due (s.door d).autoUntil s.now = true : Prop)
theorem test_SequenceTimersEnd_1 : Hyp.SequenceTimersEnd_1 s89 0 :=
  by decide
abbrev Hyp.SequenceTimersEnd_2 := fun (s : State) (d : Nat) => (due (s.door d).preselUntil s.now = true : Prop)
theorem test_SequenceTimersEnd_2 : Hyp.SequenceTimersEnd_2 s90 0 :=
  by decide
abbrev Hyp.SequenceTimersEnd_3 := fun (s : State) (d : Nat) => (due (s.door d).dwellUntil s.now = true : Prop)
theorem test_SequenceTimersEnd_3 : Hyp.SequenceTimersEnd_3 s90 0 :=
  by decide
abbrev Hyp.SequenceTimersEnd_4 := fun (s : State) (d : Nat) => (due (s.door d).openDwellUntil s.now = true : Prop)
theorem test_SequenceTimersEnd_4 : Hyp.SequenceTimersEnd_4 s90 0 :=
  by decide
abbrev Hyp.SequenceTimersEnd_5 := fun (s : State) (d : Nat) => (due (s.door d).unlockUntil s.now = true ∧ doorState s d = 2
    ∧ (s.door d).opening = true ∧ (s.door d).next ≠ some .opening : Prop)
theorem test_SequenceTimersEnd_5 : Hyp.SequenceTimersEnd_5 s91 0 :=
  by decide
abbrev Hyp.SequenceTimersEnd_6 := fun (s : State) (d : Nat) => (due (s.door d).lockUntil s.now = true ∧ doorState s d = 2
    ∧ (s.door d).opening = false ∧ (s.door d).next ≠ some .locked : Prop)
theorem test_SequenceTimersEnd_6 : Hyp.SequenceTimersEnd_6 s92 0 :=
  by decide
abbrev Hyp.DoorwayMonitors_0 := fun (s : State) (d : Nat) => (d < 16 ∧ configured s d = true
    ∧ (inputActive s d (s.pn (Dr.REQUEST_INPUT_INSIDE d)) = true ∨ inputActive s d (s.pn (Dr.REQUEST_INPUT_OUTSIDE d)) = true) : Prop)
theorem test_DoorwayMonitors_0 : Hyp.DoorwayMonitors_0 s93 0 :=
  by decide
abbrev Hyp.DoorwayMonitors_1 := fun (s : State) (d : Nat) w => (d < 16 ∧ (s.door d).startWait = some w ∧ w.since + 20000 ≤ s.now
    ∧ sequencing s = true ∧ domainsReady s = true : Prop)
theorem test_DoorwayMonitors_1 : Hyp.DoorwayMonitors_1 s94 0 { kind := StartKind.close, since := 7 } :=
  by decide
abbrev Hyp.DoorwayMonitors_2 := fun (s : State) (d : Nat) w => (d < 16 ∧ (s.door d).startWait = some w ∧ w.since + 20000 ≤ s.now
    ∧ sequencing s = true ∧ domainsReady s = false : Prop)
theorem test_DoorwayMonitors_2 : Hyp.DoorwayMonitors_2 s95 0 { kind := StartKind.close, since := 7 } :=
  by decide
abbrev Hyp.DoorwayMonitors_3 := fun (s : State) (d : Nat) => (d < 16 ∧ due (s.door d).stepUntil s.now = true : Prop)
theorem test_DoorwayMonitors_3 : Hyp.DoorwayMonitors_3 s96 3 :=
  by decide
abbrev Hyp.DoorwayMonitors_4 := fun (s : State) (d : Nat) => (d < 16 ∧ heldFor (s.door d).viewSince s.now 1001 = true
    ∧ (s.door d).viewRaised = false : Prop)
theorem test_DoorwayMonitors_4 : Hyp.DoorwayMonitors_4 s97 3 :=
  by decide
abbrev Hyp.DoorwayMonitors_5 := fun (s : State) (d : Nat) => (d < 16
    ∧ heldFor (s.door d).lockPairSince s.now (50 * s.pn (Dr.LOCK_PAIR_TIME d) + 1) = true ∧ (s.door d).lockPairRaised = false : Prop)
theorem test_DoorwayMonitors_5 : Hyp.DoorwayMonitors_5 s97 3 :=
  by decide
abbrev Hyp.DoorwayMonitors_6 := fun (s : State) (d : Nat) => (d < 16 ∧ heldFor (s.door d).holdSince s.now (50 * s.pn (Dr.DEPTH_HOLD_MAX d)) = true
    ∧ (s.door d).holdRaised = false : Prop)
theorem test_DoorwayMonitors_6 : Hyp.DoorwayMonitors_6 s97 3 :=
  by decide
abbrev Hyp.MoveEndFreesTheDoorway_0 := fun (s : State) (d : Nat) m => (d < 16 ∧ (s.door d).move = some m ∧ m.ended = true
    ∧ (s.door d).obs = none : Prop)
theorem test_MoveEndFreesTheDoorway_0 : Hyp.MoveEndFreesTheDoorway_0 s0 3 { kind := MoveKind.unlock, closing := true, axes := [{ a := 0, start := 0, target := 5 }, { a := 1, start := 0, target := 5 }, { a := 77, start := 0, target := 5 }], seeks := [], s := 0, v := 0, segs := [], elapsed := 0, lim := { v := 0, a := 0, d := 0, j := 0, stop := 0 }, rampDecel := 0, stopping := false, ended := true, reached := true, started := 5, moveId := 0, creep := false, limitSeen := none, limitStopped := true, limAxes := [], stopDue := false, hard := false, held := none } :=
  by decide
abbrev Hyp.MoveEndFreesTheDoorway_1 := fun (s : State) (d : Nat) => (d < 16 ∧ (∀ m,
    (s.door d).move = some m → m.ended = false ∨ (s.door d).obs ≠ none) : Prop)
theorem test_MoveEndFreesTheDoorway_1 : Hyp.MoveEndFreesTheDoorway_1 s0 0 :=
  by decide
abbrev Hyp.MoveEndFreesTheDoorway_2 := fun (s : State) (d : Nat) m => (d < 16 ∧ (s.door d).move = some m ∧ m.ended = true ∧ (s.door d).obs = none
    ∧ (s.door d).thenMove = none ∧ m.limitStopped = false ∧ m.seeks = [] ∧ m.kind ≠ .refClose ∧ m.kind ≠ .seekOpen ∧ m.kind ≠ .seekClose
    ∧ m.kind ≠ .seekStepOut ∧ m.kind ≠ .seekStepIn : Prop)
theorem test_MoveEndFreesTheDoorway_2 : Hyp.MoveEndFreesTheDoorway_2 s96 3 { kind := MoveKind.stepExtend, closing := true, axes := [{ a := 11, start := 0, target := 7 }], seeks := [], s := 0, v := 0, segs := [], elapsed := 0, lim := { v := 0, a := 0, d := 0, j := 0, stop := 0 }, rampDecel := 0, stopping := false, ended := true, reached := true, started := 5, moveId := 0, creep := false, limitSeen := none, limitStopped := false, limAxes := [], stopDue := false, hard := false, held := none } :=
  by decide
abbrev Hyp.StrokeLearnRun_0 := fun (s : State) (via : Via) (d : Nat) => (d < 16 ∧ (fun u => Reaches via (0x3004 + 0x40 * d) 1 1 none s u 1
    ∧ configured u d = true ∧ doorState u d = 1 ∧ released u d = true ∧ zeroSpeed u = true ∧ doorManual u d = false
    ∧ (u.door d).learn = none) (after (front via (requestClass (0x3004 + 0x40 * d) 1 false) ((0x3004 + 0x40 * d), 1, .num 1, none) s)) : Prop)
theorem test_StrokeLearnRun_0 : Hyp.StrokeLearnRun_0 s0 Via.mirror 3 :=
  ⟨by decide, reaches (by decide), by decide⟩
abbrev Hyp.StrokeLearnRun_1 := fun (s : State) (via : Via) (d : Nat) l => (d < 16 ∧ (fun u => Reaches via (0x3004 + 0x40 * d) 1 2 none s u 2
    ∧ configured u d = true ∧ (u.door d).learn = some l) (after (front via (requestClass (0x3004 + 0x40 * d) 1 false) ((0x3004 + 0x40 * d), 1, .num 2,
    none) s)) : Prop)
theorem test_StrokeLearnRun_1 : Hyp.StrokeLearnRun_1 s2 Via.mirror 3 { pass := 1, step := 1, e1 := [], e2 := [], c1 := [], c2 := [], shifts := [], noEnd := false, aborted := false, finished := false } :=
  ⟨by decide, reaches (by decide), by decide⟩
abbrev Hyp.StrokeLearnRun_2 := fun (s : State) (_via : Via) (d : Nat) l => (d < 16 ∧ (s.door d).learn = some l ∧ l.finished = true
    ∧ l.aborted = false : Prop)
theorem test_StrokeLearnRun_2 : Hyp.StrokeLearnRun_2 s101 Via.sdo 3 { pass := 1, step := 1, e1 := [(9, 700000), (11, 700000)], e2 := [(9, 700500), (11, 700600)], c1 := [(9, 5)], c2 := [(9, 7)], shifts := [], noEnd := false, aborted := false, finished := true } :=
  by decide
end Doors

/-! ### Axes and loops -/
namespace Motion
def base0 : State := (cfgs on [(Gl.SET_DOORWAY_TYPE 0, 2), (Gl.SET_DOORWAY_TYPE 3, 3), (Gl.SET_DOORWAY_SIDE 3, 1), (Ax.STROKE 0, 700000),
    (Ax.STROKE 1, 700000), (Ax.STROKE 9, 700000), (Ax.STROKE 11, 700000)])
def base := wrs base0 [(Gl.LEFT_RELEASED,1),(Gl.RIGHT_RELEASED,1),(Gl.ZERO_SPEED,1), (Dr.STATE 0, 4), (Dr.STATE 3, 4), (Gl.DOMAINS_ON, 255),
    (Lk.LINK_STATE 0, 5), (Lk.LINK_STATE 3, 5), (Dr.TABLE_STATE 0, 2), (Dr.TABLE_STATE 3, 2), (Gl.WRITE_ENABLE, 1), (Ax.ANGLE_STATE 0, 1),
    (Ax.ANGLE_STATE 1, 1), (Ax.ANGLE_STATE 9, 1)]
def authed (s : State) : State := {s with sessions := [{num := 5, level := .commissioner, anchor := 0, counter := 0, lastValid := 0, source := 2}]}
def ma (s : State) (a : Nat) (f : Axis → Axis) : State := s.setAxis a (f (s.axis a))
def mv (k : MoveKind) : Move := {kind := k, closing := true, axes := [{a := 0, start := 0, target := 5}, {a := 1, start := 0, target := 5}, {a := 77, start := 0, target := 5}], started := 5, ended := true, reached := true}
def man (m : Int) : State := cfg base (Ax.AXIS_MODE 0) m
def stepped (m : Nat) : State := (cfgs (man 1) [(Gl.STEP_DIR_INPUTS 0, 0x43), (Gl.STEP_DIR_INPUTS 1, 0x44), (Gl.STEP_DIR_INPUTS 2, 0x43),
    (Gl.STEP_DIR_INPUTS 3, 0x45), (Ax.AXIS_MODE 1, 1), (Ax.STEP_PAIR 1, 1), (Ax.AXIS_MODE 9, 1), (Ax.STEP_PAIR 9, 0)]).wr Gl.INPUT_STATE m
def aligned (self : Bool) (c1 : Int) : State := ma (base.wr (Ax.COMMUTATION_OFFSET 1) 700) 1 (fun x =>
    {x with align := some {self := self, started := 5, prevState := 1, c0 := some 3, c1 := some c1}})
def s0 : State := stepped 8
def s6 : State := aligned true 0
def s7 : State := aligned false 0
def s15 : State := aligned false 300
def s20 : State := aligned true 640
def s33 : State := ma base 1 (fun x => {x with stillSince := some 5})
def s34 : State := ma base 1 (fun x => {x with holdStart := some 5})
def s38 : State := authed (man 2)
def s40 : State := ma ((man 2).wr (Ax.JOG_STEPS 0) 3) 0 (fun x => {x with jogNext := some 7})
def s42 : State := ma base 0 (fun x => {x with phaseLossSince := some 5, commFaultSince := some 6, stallSince := some 7, limitedRun := 100000000})
def s43 : State := (ma base 0 (fun x => {x with phaseLossSince := some 5, commFaultSince := some 6, stallSince := some 7, limitedRun := 100000000})).modDoor 0 (fun x => {x with move := some {mv .closeLeaves with ended := false}})
def s44 : State := ma (man 1) 0 (fun x => {x with stallSince := some 7})
def s45 : State := ma (base.wr (Ax.LOOP_FAULT_CAUSE 0) 5) 0 (fun x => {x with faultBrake := true, faultAt := some 5})
def s46 : State := authed (ma (ma base 0 (fun x => {x with posNm := 300000000})) 1 (fun x => {x with posNm := 300000000}))

abbrev Hyp.StandstillAndManualModes_0 := fun (s : State) (a : Nat) => (a < 48 ∧ (s.axis a).holdStart = none
    ∧ heldFor (s.axis a).stillSince s.now (50 * s.pn (Ax.STANDSTILL_DELAY a)) = true : Prop)
theorem test_StandstillAndManualModes_0 : Hyp.StandstillAndManualModes_0 s33 1 :=
  by decide
abbrev Hyp.StandstillAndManualModes_1 := fun (s : State) (a : Nat) => (a < 48 ∧ heldFor (s.axis a).holdStart s.now 2500 = true
    ∧ (s.axis a).holdDone = false : Prop)
theorem test_StandstillAndManualModes_1 : Hyp.StandstillAndManualModes_1 s34 1 :=
  by decide
abbrev Hyp.StandstillAndManualModes_2 := fun (s : State) (a : Nat) (via : Via) (mode : Nat) => (a < 48 ∧ (fun u =>
    Reaches via (0x3405 + 0x10 * a) 1 mode none s u mode
    ∧ modeChangeOk u a = true) (after (front via (requestClass (0x3405 + 0x10 * a) 1 false) ((0x3405 + 0x10 * a), 1, .num mode, none) s)) : Prop)
theorem test_StandstillAndManualModes_2 : Hyp.StandstillAndManualModes_2 s0 0 Via.mirror 0 :=
  ⟨by decide +kernel, reaches (by decide +kernel), by decide +kernel⟩
abbrev Hyp.StandstillAndManualModes_3 := fun (s : State) (a : Nat) (p : Nat) => (a < 48 ∧ p < 4
    ∧ inputActive s 0 (s.pn (Gl.STEP_DIR_INPUTS (2 * p))) = true ∧ s.boundary.stepSeen.testBit p = false : Prop)
theorem test_StandstillAndManualModes_3 : Hyp.StandstillAndManualModes_3 s0 0 0 :=
  by and_intros <;> decide +kernel
abbrev Hyp.StandstillAndManualModes_4 := fun (s : State) (a : Nat) (via : Via) (n : Int) => (a < 48 ∧ (fun u =>
    Reaches via (0x3405 + 0x10 * a) 4 n none s u n ∧ n ≠ 0 ∧ n ≠ -32768 ∧ configured u (doorOf a) = true ∧ u.pn (Ax.AXIS_MODE a) = 2
    ∧ (u.axis a).jogNext = none) (after (front via (requestClass (0x3405 + 0x10 * a) 4 false) ((0x3405 + 0x10 * a), 4, .num n, none) s)) : Prop)
theorem test_StandstillAndManualModes_4 : Hyp.StandstillAndManualModes_4 s38 0 Via.sdo 1 :=
  ⟨by decide, reaches (by decide), by decide⟩
abbrev Hyp.StandstillAndManualModes_5 := fun (s : State) (a : Nat) (via : Via) => (a < 48 ∧ (fun u => Reaches via (0x3405 + 0x10 * a) 4 0 none s u 0
    ∧ configured u (doorOf a) = true ∧ u.pn (Ax.AXIS_MODE a) = 2) (after (front via (requestClass (0x3405 + 0x10 * a) 4 false) ((0x3405 + 0x10 * a),
    4, .num 0, none) s)) : Prop)
theorem test_StandstillAndManualModes_5 : Hyp.StandstillAndManualModes_5 s38 0 Via.sdo :=
  ⟨by decide, reaches (by decide), by decide⟩
abbrev Hyp.StandstillAndManualModes_6 := fun (s : State) (a : Nat) (i : Instr) => (a < 48 ∧ s.pn (Ax.AXIS_MODE a) = 2 ∧ 0 < s.rd (Ax.JOG_STEPS a)
    ∧ jogDue s a = true ∧ intoSwitch s a true = false ∧ (s.axis a).discarding = false ∧ backlog s a ≤ 64 * coarseNm s a ∧ i ∈ [Instr.jogStep a,
    Instr.coarseStep true a] : Prop)
theorem test_StandstillAndManualModes_6 : Hyp.StandstillAndManualModes_6 s40 0 (Instr.jogStep 0)
    ∧ Hyp.StandstillAndManualModes_6 s40 0 (Instr.coarseStep true 0) :=
  by and_intros <;> decide +kernel
abbrev Hyp.LoopFaultsStopTheAxis_0 := fun (s : State) (a : Nat) (c : Nat → Instr) (cause : Nat) (met : Bool) => (a < 48 ∧ (c, cause,
    met) ∈ [ (Instr.phaseLoss, 3, heldFor (s.axis a).phaseLossSince s.now 1000 || (s.axis a).phase.lost), (Instr.commutation, 5,
    heldFor (s.axis a).commFaultSince s.now 2500), (Instr.stall, 7,
    s.pn (Ax.STALL_TIME a) != 0 && heldFor (s.axis a).stallSince s.now (50 * s.pn (Ax.STALL_TIME a)) && !manual s a), (Instr.saturation, 8,
    s.pn (Ax.SATURATION_TIME a) != 0 && axisMoving s a && decide (50 * s.pn (Ax.SATURATION_TIME a) ≤ (s.axis a).limitedRun))] ∧ met = true
    ∧ s.rd (Ax.LOOP_FAULT_CAUSE a) = 0 : Prop)
theorem test_LoopFaultsStopTheAxis_0 : Hyp.LoopFaultsStopTheAxis_0 s42 0 Instr.phaseLoss 3 true
    ∧ Hyp.LoopFaultsStopTheAxis_0 s42 0 Instr.commutation 5 true ∧ Hyp.LoopFaultsStopTheAxis_0 s42 0 Instr.stall 7 true
    ∧ Hyp.LoopFaultsStopTheAxis_0 s43 0 Instr.saturation 8 true :=
  ⟨⟨by decide, .head _, by decide⟩, ⟨by decide, .tail _ (.head _), by decide⟩, ⟨by decide, .tail _ (.tail _ (.head _)), by decide⟩, ⟨by decide,
    .tail _ (.tail _ (.tail _ (.head _))), by decide⟩⟩
abbrev Hyp.LoopFaultsStopTheAxis_1 := fun (s : State) (a : Nat) => (a < 48 ∧ s.pn (Ax.STALL_TIME a) ≠ 0
    ∧ heldFor (s.axis a).stallSince s.now (50 * s.pn (Ax.STALL_TIME a)) = true ∧ manual s a = true : Prop)
theorem test_LoopFaultsStopTheAxis_1 : Hyp.LoopFaultsStopTheAxis_1 s44 0 :=
  by decide
abbrev Hyp.LoopFaultsStopTheAxis_2 := fun (s : State) (a : Nat) => (a < 48 ∧ s.rd (Ax.LOOP_FAULT_CAUSE a) ≠ 0 ∧ 0 ≤ s.rd (Ax.LOOP_FAULT_CAUSE a)
    ∧ (s.axis a).faultBrake = true ∧ heldFor (s.axis a).faultAt s.now 25000 = true : Prop)
theorem test_LoopFaultsStopTheAxis_2 : Hyp.LoopFaultsStopTheAxis_2 s45 0 :=
  by decide
abbrev Hyp.AlignmentAndMotorData_0 := fun (s : State) (a : Nat) (via : Via) => (a < 48 ∧ (fun u => Reaches via (0x340A + 0x10 * a) 8 1 none s u 1
    ∧ configured u (doorOf a) = true ∧ doorState u (doorOf a) = 4 ∧ released u (doorOf a) = true ∧ zeroSpeed u = true
    ∧ (leavesOf u (doorOf a)).all (awayFromEnds u) = true
    ∧ (axesOf u (doorOf a)).contains a = true) (after (front via (requestClass (0x340A + 0x10 * a) 8 false) ((0x340A + 0x10 * a), 8, .num 1,
    none) s)) : Prop)
theorem test_AlignmentAndMotorData_0 : Hyp.AlignmentAndMotorData_0 s46 0 Via.mirror :=
  ⟨by decide, reaches (by decide), by decide⟩
abbrev Hyp.AlignmentAndMotorData_1 := fun (s : State) (a : Nat) (via : Via) r => (a < 48 ∧ (fun u => Reaches via (0x340A + 0x10 * a) 8 2 none s u 2
    ∧ configured u (doorOf a) = true ∧ (u.axis a).align = some r) (after (front via (requestClass (0x340A + 0x10 * a) 8 false) ((0x340A + 0x10 * a),
    8, .num 2, none) s)) : Prop)
theorem test_AlignmentAndMotorData_1 : Hyp.AlignmentAndMotorData_1 s6 1 Via.mirror { self := true, started := 5, prevState := 1, c0 := some 3, c1 := some 0 } :=
  ⟨by decide, reaches (by decide), by decide⟩
abbrev Hyp.AlignmentAndMotorData_2 := fun (s : State) (a : Nat) (r : Align) c0 c1 => (a < 48 ∧ (s.axis a).align = some r ∧ r.self = false
    ∧ r.c0 = some c0 ∧ r.c1 = some c1 ∧ (fun diff => 299 * 65536 ≤ diff
    ∧ diff ≤ 469 * 65536) ((countAngle s a c1 - countAngle s a c0) % fullTurn) : Prop)
theorem test_AlignmentAndMotorData_2 : Hyp.AlignmentAndMotorData_2 s15 1 { self := false, started := 5, prevState := 1, c0 := some 3, c1 := some 300 } 3 300 :=
  by and_intros <;> decide
abbrev Hyp.AlignmentAndMotorData_3 := fun (s : State) (a : Nat) (r : Align) c0 c1 => (a < 48 ∧ (s.axis a).align = some r ∧ r.self = false
    ∧ r.c0 = some c0 ∧ r.c1 = some c1 ∧ (fun diff => (diff < 299 * 65536 ∨ 469 * 65536 < diff)
    ∧ s.rd (Ax.LOOP_FAULT_CAUSE a) = 0) ((countAngle s a c1 - countAngle s a c0) % fullTurn) : Prop)
theorem test_AlignmentAndMotorData_3 : Hyp.AlignmentAndMotorData_3 s7 1 { self := false, started := 5, prevState := 1, c0 := some 3, c1 := some 0 } 3 0 :=
  by and_intros <;> decide
abbrev Hyp.AlignmentAndMotorData_4 := fun (s : State) (a : Nat) (r : Align) c0 c1 => (a < 48 ∧ (s.axis a).align = some r ∧ r.self = true
    ∧ r.c0 = some c0 ∧ r.c1 = some c1 ∧ (fun moved : Int => 768 * s.pn (Ax.ENCODER_CPR a) ≤ moved
    ∧ moved ≤ 2304 * s.pn (Ax.ENCODER_CPR a)) ((c1 - c0) * (1536 * s.pn (Ax.POLE_PAIRS a) : Nat)) : Prop)
theorem test_AlignmentAndMotorData_4 : Hyp.AlignmentAndMotorData_4 s20 1 { self := true, started := 5, prevState := 1, c0 := some 3, c1 := some 640 } 3 640 :=
  by and_intros <;> decide
abbrev Hyp.AlignmentAndMotorData_5 := fun (s : State) (a : Nat) (r : Align) c0 c1 => (a < 48 ∧ (s.axis a).align = some r ∧ r.self = true
    ∧ r.c0 = some c0 ∧ r.c1 = some c1 ∧ (fun moved : Int => (moved < 768 * s.pn (Ax.ENCODER_CPR a) ∨ 2304 * s.pn (Ax.ENCODER_CPR a) < moved)
    ∧ s.rd (Ax.LOOP_FAULT_CAUSE a) = 0) ((c1 - c0) * (1536 * s.pn (Ax.POLE_PAIRS a) : Nat)) : Prop)
theorem test_AlignmentAndMotorData_5 : Hyp.AlignmentAndMotorData_5 s6 1 { self := true, started := 5, prevState := 1, c0 := some 3, c1 := some 0 } 3 0 :=
  by and_intros <;> decide
abbrev Hyp.AlignmentAndMotorData_6 := fun (s : State) (a : Nat) (via : Via) (v : Nat) => (a < 48 ∧ (fun u =>
    Reaches via (0x3407 + 0x10 * a) 3 v none s u v ∧ (v : Int) ≠ u.rd (Ax.TRAVEL_PER_REV a) ∧ firstOf (axisChecks a 7 3 v u) = none
    ∧ allSto u (doorOf a) = true ∧ u.rdb Gl.WRITE_ENABLE = true) (after (front via (requestClass (0x3407 + 0x10 * a) 3 false) ((0x3407 + 0x10 * a), 3,
    .num v, none) s)) : Prop)
theorem test_AlignmentAndMotorData_6 : Hyp.AlignmentAndMotorData_6 s0 3 Via.mirror 80000000 :=
  ⟨by decide, reaches (by decide), by decide⟩
abbrev Hyp.AlignmentAndMotorData_7 := fun (s : State) (a : Nat) (via : Via) (d : Nat) (n : Nat) => (a < 48 ∧ d < 16 ∧ (fun u =>
    Reaches via (0x3006 + 0x40 * d) 1 n none s u n ∧ n ≤ 1 ∧ (n = 1 → (axesOf u d).any (fun b => u.pn (Ax.MOTOR_TYPE b) == 1) = false)
    ∧ allSto u d = true) (after (front via (requestClass (0x3006 + 0x40 * d) 1 false) ((0x3006 + 0x40 * d), 1, .num n, none) s)) : Prop)
theorem test_AlignmentAndMotorData_7 : Hyp.AlignmentAndMotorData_7 s0 0 Via.mirror 1 0 :=
  ⟨by decide, by decide, reaches (by decide), by decide⟩
end Motion

/-! ### Obstruction -/
namespace Mantis
def base0 : State := (cfgs on [(Gl.SET_DOORWAY_TYPE 0, 2), (Gl.SET_DOORWAY_TYPE 3, 3), (Gl.SET_DOORWAY_SIDE 3, 1), (Ax.STROKE 0, 700000),
    (Ax.STROKE 1, 700000), (Ax.STROKE 9, 700000), (Ax.STROKE 11, 700000)])
def base := wrs base0 [(Gl.LEFT_RELEASED,1),(Gl.RIGHT_RELEASED,1),(Gl.ZERO_SPEED,1), (Dr.STATE 0, 4), (Dr.STATE 3, 4), (Gl.DOMAINS_ON, 255),
    (Lk.LINK_STATE 0, 5), (Lk.LINK_STATE 3, 5), (Dr.TABLE_STATE 0, 2), (Dr.TABLE_STATE 3, 2), (Gl.WRITE_ENABLE, 1), (Gl.ENV_SELECT, 257)]
def px : List Nat := List.replicate 3072 (10*4096 + 500)
def bg : List (Option Nat) := List.replicate 3072 (some (256*1000))
def sen (s : State) (n : Nat) (f : Sensor → Sensor) : State := s.setSensor n (f (s.sensor n))
def by1 : List ByteN := List.replicate 1024 3
def s0 : State := base
def s5 : State := base.setLeaf 1 {close := [(1,2)], opn := [(5,6)], offset := 7, commitBy := some 9}
def s7 : State := sen base 3 (fun x => {x with bg := bg, commitBy := some 5})
def s9 : State := {sen base 3 (fun x => {x with bg := bg}) with depthQueue := [{n := 3, arrived := 50, pixels := px}]}
def s11 : State := cfg base (Sn.DEPTH_ENABLE 0) 1

abbrev Hyp.EnvelopesAndBackgrounds_0 := fun (s : State) (via : Via) (bs : List ByteN) => ((fun u => ReachesBytes via 0x3900 2 bs s u
    ∧ bs.length = 1024 ∧ isLeaf u (envSelected u).1 = true
    ∧ windowOpen u (doorOf (envSelected u).1) = true) (after (front via (requestClass 0x3900 2 false) (0x3900, 2, .bytes bs, none) s)) : Prop)
theorem test_EnvelopesAndBackgrounds_0 : Hyp.EnvelopesAndBackgrounds_0 s0 Via.mirror by1 :=
  ⟨reachesBytes (by decide +kernel), by decide +kernel⟩
abbrev Hyp.EnvelopesAndBackgrounds_1 := fun (s : State) (via : Via) => ((fun u => Reaches via 0x3900 3 1 none s u 1
    ∧ isLeaf u (envSelected u).1 = true ∧ windowOpen u (doorOf (envSelected u).1) = true) (after (front via (requestClass 0x3900 3 false) (0x3900, 3,
    .num 1, none) s)) : Prop)
theorem test_EnvelopesAndBackgrounds_1 : Hyp.EnvelopesAndBackgrounds_1 s0 Via.mirror :=
  ⟨reaches (by decide), by decide⟩
abbrev Hyp.EnvelopesAndBackgrounds_2 := fun (s : State) (via : Via) => ((fun u => Reaches via 0x3900 3 2 none s u 2
    ∧ isLeaf u (envSelected u).1 = true ∧ windowOpen u (doorOf (envSelected u).1) = true) (after (front via (requestClass 0x3900 3 false) (0x3900, 3,
    .num 2, none) s)) : Prop)
theorem test_EnvelopesAndBackgrounds_2 : Hyp.EnvelopesAndBackgrounds_2 s0 Via.mirror :=
  ⟨reaches (by decide), by decide⟩
abbrev Hyp.EnvelopesAndBackgrounds_3 := fun (s : State) (a : Nat) => (a < 48 ∧ (s.leaf a).commitBy.isSome = true : Prop)
theorem test_EnvelopesAndBackgrounds_3 : Hyp.EnvelopesAndBackgrounds_3 s5 1 :=
  by decide
abbrev Hyp.EnvelopesAndBackgrounds_4 := fun (s : State) (n : Nat) => (n < 32 ∧ (s.sensor n).commitBy.isSome = true : Prop)
theorem test_EnvelopesAndBackgrounds_4 : Hyp.EnvelopesAndBackgrounds_4 s7 3 :=
  by decide
abbrev Hyp.EnvelopesAndBackgrounds_5 := fun (s : State) f => (nextFrame s = some f : Prop)
theorem test_EnvelopesAndBackgrounds_5 : Hyp.EnvelopesAndBackgrounds_5 s9 { n := 3, arrived := 50, pixels := (List.replicate 3072 41460) } :=
  by decide +kernel
abbrev Hyp.EnvelopesAndBackgrounds_6 := fun (s : State) (n : Nat) (cond : Nat) => (n < 32 ∧ sensorEnabled s n = true ∧ sensorFailed s n = false
    ∧ depthCondition s n cond = true : Prop)
theorem test_EnvelopesAndBackgrounds_6 : Hyp.EnvelopesAndBackgrounds_6 s11 0 1 :=
  by decide
abbrev Hyp.EnvelopesAndBackgrounds_7 := fun (s : State) (via : Via) (n : Nat) => (n < 32 ∧ (fun u => Reaches via (0x3820 + n) 1 1 none s u 1 ∧ [1, 4,
    9, 10].contains (doorState u (sensorDoor n)) = true) (after (front via (requestClass (0x3820 + n) 1 false) ((0x3820 + n), 1, .num 1,
    none) s)) : Prop)
theorem test_EnvelopesAndBackgrounds_7 : Hyp.EnvelopesAndBackgrounds_7 s0 Via.mirror 0 :=
  ⟨by decide, reaches (by decide), by decide⟩
abbrev Hyp.EnvelopesAndBackgrounds_8 := fun (s : State) (n : Nat) (fs : List (List Nat)) (bg : List (Option Nat)) =>
  (n < 32 ∧ (s.sensor n).learning = some fs ∧ 64 ≤ fs.length ∧ bg = learntBg (s.pn (Sn.MIN_CONFIDENCE n)) fs
    ∧ (missingBg s n bg).2.1 * 10 ≤ (missingBg s n bg).2.2 : Prop)
def learnt (hi : Int) (f : List Nat) : State := sen (cfgs on [(Sn.BOX_COL_HI 0, hi), (Sn.BOX_ROW_HI 0, 0)]) 0 (fun x =>
    { x with learning := some (List.replicate 64 f) })
theorem test_EnvelopesAndBackgrounds_8 : Hyp.EnvelopesAndBackgrounds_8 (learnt 0 [41460]) 0 (List.replicate 64 [41460])
    (learntBg ((learnt 0 [41460]).pn (Sn.MIN_CONFIDENCE 0)) (List.replicate 64 [41460])) :=
  ⟨by decide, by decide +kernel, by decide +kernel, rfl, by decide +kernel⟩
abbrev Hyp.EnvelopesAndBackgrounds_9 := fun (s : State) (n : Nat) (fs : List (List Nat)) (bg : List (Option Nat)) =>
  (n < 32 ∧ (s.sensor n).learning = some fs ∧ 64 ≤ fs.length ∧ bg = learntBg (s.pn (Sn.MIN_CONFIDENCE n)) fs
    ∧ (missingBg s n bg).2.2 < (missingBg s n bg).2.1 * 10 : Prop)
theorem test_EnvelopesAndBackgrounds_9 : Hyp.EnvelopesAndBackgrounds_9 (learnt 0 []) 0 (List.replicate 64 [])
    (learntBg ((learnt 0 []).pn (Sn.MIN_CONFIDENCE 0)) (List.replicate 64 [])) :=
  ⟨by decide, by decide +kernel, by decide +kernel, rfl, by decide +kernel⟩
end Mantis

/-! ### The power node -/
namespace Node
def nd (n : Node) : State := on.setNode 2 {n with portA := {n.portA with lastSof := some 0}, portB := {n.portB with lastSof := some 0}}
def w1 : Nat := 100 * 2^21 + 2*64 + 500 * 512
def fr (seq : Nat) (hold shadow resume : Bool) : DownFrame := sealDown {ok := true, sof := 500, seq, hold, shadow, resume, safeStoA := 9, safeRunB := 14, outputs := 33, words := [w1, 0, w1]}
def dv1 : DownFrame := fr 3 true false true
def dv2 : DownFrame := fr 5 true false false
def dv3 : DownFrame := fr 4 false true false
def df1 : Option DownFrame := some dv1
def df2 : Option DownFrame := some dv2
def df3 : Option DownFrame := some dv3
def mm0 : NodeMeas := {}
def s0 : State := on
def s1 : State := nd {state := 2, lastSeq := 65535, missed := 3, words := [5,6,7], trip := 2, config := [3,0,0,0,0,0,0,0], tableValid := true, table := [1,2]}
def s4 : State := nd {state := 1, run := 4, prevSeq := 2, tableValid := true, config := [7,0,0,0,0,0,0,0], bothHold := true}
def s6 : State := nd {respA := {tag := 9}, respB := {tag := 9}}

abbrev Hyp.NodeAppliesFrames_0 := fun (s : State) (d : Nat) (fa : Option DownFrame) (fb : Option DownFrame) (_m : NodeMeas) =>
    ((s.node d).stopped = false ∧ ((s.node d).valid 0 fa).any (·.hold) = true ∧ ((s.node d).valid 1 fb).any (·.hold) = true : Prop)
theorem test_NodeAppliesFrames_0 : Hyp.NodeAppliesFrames_0 s1 2 df1 df1 mm0 :=
  ⟨by decide, anySealed (by decide) (by decide) (by decide), anySealed (by decide) (by decide) (by decide)⟩
abbrev Hyp.NodeAppliesFrames_1 := fun (s : State) (d : Nat) (fa : Option DownFrame) (fb : Option DownFrame) (_m : NodeMeas) (port : Nat) x =>
    (port ≤ 1 ∧ (s.node d).valid port (if port = 0 then fa else fb) = some x ∧ x.hold = true ∧ newer (s.node d) x.seq = true
    ∧ (s.node d).stopped = false ∧ ((s.node d).valid (1 - port) (if port = 0 then fb else fa)).any (·.hold) = false : Prop)
theorem test_NodeAppliesFrames_1 : Hyp.NodeAppliesFrames_1 s1 2 none df1 mm0 1 dv1 :=
  ⟨by decide, validSealed (by decide) (by decide), by decide⟩
abbrev Hyp.NodeAppliesFrames_2 := fun (s : State) (d : Nat) (fa : Option DownFrame) (fb : Option DownFrame) (_m : NodeMeas) (port : Nat) x =>
    (port ≤ 1 ∧ (s.node d).valid port (if port = 0 then fa else fb) = some x ∧ x.hold = false ∧ x.shadow = true ∧ newer (s.node d) x.seq = true
    ∧ (s.node d).stopped = false ∧ ((s.node d).valid (1 - port) (if port = 0 then fb else fa)).any (fun y =>
    (y.hold || y.shadow) && newer (s.node d) y.seq) = false : Prop)
theorem test_NodeAppliesFrames_2 : Hyp.NodeAppliesFrames_2 s1 2 none df3 mm0 1 dv3 :=
  ⟨by decide, validSealed (by decide) (by decide), by decide⟩
abbrev Hyp.NodeAppliesFrames_3 := fun (s : State) (d : Nat) (fa : Option DownFrame) (fb : Option DownFrame) (_m : NodeMeas) =>
    ((s.node d).stopped = false ∧ ((s.node d).valid 0 fa).any (fun y => (y.hold || y.shadow) && newer (s.node d) y.seq) = false
    ∧ ((s.node d).valid 1 fb).any (fun y => (y.hold || y.shadow) && newer (s.node d) y.seq) = false
    ∧ (((s.node d).valid 0 fa).any (·.hold) && ((s.node d).valid 1 fb).any (·.hold)) = false : Prop)
theorem test_NodeAppliesFrames_3 : Hyp.NodeAppliesFrames_3 s1 2 none none mm0 :=
  by decide
abbrev Hyp.NodeAppliesFrames_4 := fun (s : State) (d : Nat) (fa : Option DownFrame) (fb : Option DownFrame) (_m : NodeMeas) (port : Nat) => (port ≤ 1
    ∧ (((s.node d).port port).train = none ∨ ((s.node d).valid port (if port = 0 then fa else fb)).isSome = true) : Prop)
theorem test_NodeAppliesFrames_4 : Hyp.NodeAppliesFrames_4 s0 0 none none mm0 0 :=
  by decide
abbrev Hyp.NodeResumes_0 := fun (s : State) (d : Nat) (fa : Option DownFrame) (fb : Option DownFrame) (port : Nat) x => (port ≤ 1
    ∧ (s.node d).valid port (if port = 0 then fa else fb) = some x ∧ (s.node d).stopped = true ∧ x.hold = true
    ∧ ((s.node d).valid (1 - port) (if port = 0 then fb else fa)).any (·.hold) = false ∧ (fun run => x.resume = true ∧ 5 ≤ run
    ∧ (s.node d).tableValid = true ∧ (s.node d).config ≠ [] ∧ (s.node d).pathFail = 0) ((if 0 < (s.node d).run
    ∧ x.seq = ((s.node d).prevSeq + 1) % 65536 then (s.node d).run + 1 else 1)) : Prop)
theorem test_NodeResumes_0 : Hyp.NodeResumes_0 s4 2 none df1 1 dv1 :=
  ⟨by decide, validSealed (by decide) (by decide), by and_intros <;> decide⟩
abbrev Hyp.NodeResumes_1 := fun (s : State) (d : Nat) (fa : Option DownFrame) (fb : Option DownFrame) (port : Nat) x => (port ≤ 1
    ∧ (s.node d).valid port (if port = 0 then fa else fb) = some x ∧ (s.node d).stopped = true ∧ x.hold = true
    ∧ ((s.node d).valid (1 - port) (if port = 0 then fb else fa)).any (·.hold) = false ∧ (fun run => ¬ (x.resume = true ∧ 5 ≤ run
    ∧ (s.node d).tableValid = true ∧ (s.node d).config ≠ [] ∧ (s.node d).pathFail = 0)) ((if 0 < (s.node d).run
    ∧ x.seq = ((s.node d).prevSeq + 1) % 65536 then (s.node d).run + 1 else 1)) : Prop)
theorem test_NodeResumes_1 : Hyp.NodeResumes_1 s4 2 none df2 1 dv2 :=
  ⟨by decide, validSealed (by decide) (by decide), by and_intros <;> decide⟩
abbrev Hyp.NodeResumes_2 := fun (s : State) (d : Nat) (fa : Option DownFrame) (fb : Option DownFrame) => ((s.node d).stopped = true
    ∧ ((s.node d).valid 0 fa).any (·.hold) = ((s.node d).valid 1 fb).any (·.hold) : Prop)
theorem test_NodeResumes_2 : Hyp.NodeResumes_2 s0 0 none none :=
  by decide
abbrev Hyp.NodeResumes_3 := fun (s : State) (d : Nat) (_fa : Option DownFrame) (_fb : Option DownFrame) (_m : NodeMeas) =>
    ((s.node d).stopped = true : Prop)
theorem test_NodeResumes_3 : Hyp.NodeResumes_3 s0 0 none none mm0 :=
  by decide
abbrev Hyp.NodeResumes_4 := fun (s : State) (d : Nat) (_fa : Option DownFrame) (_fb : Option DownFrame) => ((s.node d).stopped = false : Prop)
theorem test_NodeResumes_4 : Hyp.NodeResumes_4 s1 2 none none :=
  by decide
abbrev Hyp.NodeExecutesMessages_0 := fun (s : State) (d : Nat) (m : Mgmt) => (0 < m.tag ∧ m.tag ≤ 255 ∧ ((s.node d).resp m.port).tag ≠ m.tag
    ∧ m.addr = 0 ∧ m.data = [] : Prop)
theorem test_NodeExecutesMessages_0 : Hyp.NodeExecutesMessages_0 s0 0 { port := 0, tag := 9, hold := true, addr := 0, data := [] } :=
  by decide
abbrev Hyp.NodeExecutesMessages_1 := fun (s : State) (d : Nat) (m : Mgmt) => (0 < m.tag ∧ m.tag ≤ 255 ∧ ((s.node d).resp m.port).tag ≠ m.tag
    ∧ m.addr ≤ 3 ∧ m.data = [] : Prop)
theorem test_NodeExecutesMessages_1 : Hyp.NodeExecutesMessages_1 s0 0 { port := 0, tag := 9, hold := true, addr := 0, data := [] } :=
  by decide
abbrev Hyp.NodeExecutesMessages_2 := fun (s : State) (d : Nat) (m : Mgmt) => (0 < m.tag ∧ m.tag ≤ 255 ∧ ((s.node d).resp m.port).tag ≠ m.tag
    ∧ m.hold = true ∧ bridgesOff (s.node d) = true ∧ 1 ≤ m.data.length ∧ m.data.length ≤ 384 ∧ m.addr + m.data.length ≤ 3072 : Prop)
theorem test_NodeExecutesMessages_2 : Hyp.NodeExecutesMessages_2 s0 0 { port := 0, tag := 9, hold := true, addr := 0, data := [1, 2, 3, 300] } :=
  by decide
abbrev Hyp.NodeExecutesMessages_3 := fun (s : State) (d : Nat) (m : Mgmt) => (0 < m.tag ∧ m.tag ≤ 255 ∧ ((s.node d).resp m.port).tag ≠ m.tag
    ∧ m.hold = true ∧ bridgesOff (s.node d) = true ∧ m.data.length = 4 : Prop)
theorem test_NodeExecutesMessages_3 : Hyp.NodeExecutesMessages_3 s0 0 { port := 0, tag := 9, hold := true, addr := 0, data := [1, 2, 3, 300] } :=
  by decide
abbrev Hyp.NodeExecutesMessages_4 := fun (s : State) (d : Nat) (m : Mgmt) => (0 < m.tag ∧ m.tag ≤ 255 ∧ ((s.node d).resp m.port).tag ≠ m.tag
    ∧ m.addr = 0 ∧ m.data = [] ∧ (s.node d).tableValid = true ∧ (s.node d).config ≠ [] : Prop)
theorem test_NodeExecutesMessages_4 : Hyp.NodeExecutesMessages_4 s1 2 { port := 0, tag := 9, hold := true, addr := 0, data := [] } :=
  by decide
abbrev Hyp.NodeExecutesMessages_5 := fun (s : State) (d : Nat) (m : Mgmt) => (0 < m.tag ∧ m.tag ≤ 255 ∧ ((s.node d).resp m.port).tag ≠ m.tag
    ∧ m.addr = 0 ∧ m.data = [] ∧ (s.node d).tableValid = true ∧ (s.node d).config ≠ [] : Prop)
theorem test_NodeExecutesMessages_5 : Hyp.NodeExecutesMessages_5 s1 2 { port := 0, tag := 9, hold := true, addr := 0, data := [] } :=
  by decide
abbrev Hyp.NodeExecutesMessages_6 := fun (s : State) (d : Nat) (m : Mgmt) => (0 < m.tag ∧ m.tag ≤ 255 ∧ ((s.node d).resp m.port).tag ≠ m.tag
    ∧ m.hold = true ∧ bridgesOff (s.node d) = true ∧ m.addr = 0 ∧ m.data.length = 8 ∧ (∀ k : Nat,
    k < 3 → (m.data.getD 0 0).testBit k = true → nodeHasAxis d k = true) ∧ (∀ i : Nat,
    i < 2 → (m.data.getD 2 0).testBit i = true → i < nodeSensors d) : Prop)
theorem test_NodeExecutesMessages_6 : Hyp.NodeExecutesMessages_6 s0 0 { port := 0, tag := 9, hold := true, addr := 0, data := (List.replicate 8 0) } :=
  by decide
abbrev Hyp.NodeExecutesMessages_7 := fun (s : State) (d : Nat) (m : Mgmt) => (0 < m.tag ∧ m.tag ≤ 255 ∧ ((s.node d).resp m.port).tag ≠ m.tag
    ∧ m.addr < 2 ∧ m.data = [] : Prop)
theorem test_NodeExecutesMessages_7 : Hyp.NodeExecutesMessages_7 s0 0 { port := 0, tag := 9, hold := true, addr := 0, data := [] } :=
  by decide
abbrev Hyp.NodeExecutesMessages_8 := fun (s : State) (d : Nat) (m : Mgmt) => (0 < m.tag ∧ m.tag ≤ 255 ∧ ((s.node d).resp m.port).tag ≠ m.tag
    ∧ m.addr < 2 ∧ m.hold = true ∧ 1 ≤ m.data.length ∧ m.data.length ≤ 384 : Prop)
theorem test_NodeExecutesMessages_8 : Hyp.NodeExecutesMessages_8 s0 0 { port := 0, tag := 9, hold := true, addr := 0, data := [1, 2, 3, 300] } :=
  by decide
abbrev Hyp.NodeExecutesMessages_9 := fun (s : State) (d : Nat) (m : Mgmt) => (0 < m.tag ∧ m.tag ≤ 255 ∧ ((s.node d).resp m.port).tag ≠ m.tag
    ∧ m.data.length = 2 ∧ beVal m.data ≤ 400 : Prop)
theorem test_NodeExecutesMessages_9 : Hyp.NodeExecutesMessages_9 s0 0 { port := 0, tag := 9, hold := true, addr := 5, data := [1, 2] } :=
  by decide
abbrev Hyp.NodeExecutesMessages_10 := fun (s : State) (d : Nat) (m : Mgmt) => (0 < m.tag ∧ m.tag ≤ 255 ∧ ((s.node d).resp m.port).tag ≠ m.tag
    ∧ m.data.length ≤ 384 : Prop)
theorem test_NodeExecutesMessages_10 : Hyp.NodeExecutesMessages_10 s0 0 { port := 0, tag := 9, hold := true, addr := 0, data := [] } :=
  by decide
abbrev Hyp.NodeExecutesMessages_11 := fun (s : State) (d : Nat) (m : Mgmt) (c : Nat → Mgmt → Instr) (lo : Nat) (hi : Nat) => (0 < m.tag ∧ m.tag ≤ 255
    ∧ (c, lo, hi) ∈ [(Instr.tableWrite, 1, 384), (Instr.tableCommit, 4, 4)] ∧ ((s.node d).resp m.port).tag ≠ m.tag ∧ lo ≤ m.data.length
    ∧ m.data.length ≤ hi ∧ m.addr + m.data.length ≤ 3072 ∧ (m.hold = false ∨ bridgesOff (s.node d) = false) : Prop)
theorem test_NodeExecutesMessages_11 : Hyp.NodeExecutesMessages_11 s0 0 { port := 1, tag := 8, hold := false, addr := 0, data := [1, 2, 3, 4] } Instr.tableWrite 1 384 ∧ Hyp.NodeExecutesMessages_11 s0 0 { port := 1, tag := 8, hold := false, addr := 0, data := [1, 2, 3, 4] } Instr.tableCommit 4 4 :=
  ⟨⟨by decide, by decide, .head _, by decide⟩, ⟨by decide, by decide, .tail _ (.head _), by decide⟩⟩
abbrev Hyp.NodeExecutesMessages_12 := fun (s : State) (d : Nat) (m : Mgmt) (c : Nat → Mgmt → Instr) => (0 < m.tag ∧ m.tag ≤ 255 ∧ c ∈ [Instr.identify,
    Instr.readCaps, Instr.tableWrite, Instr.tableCommit, Instr.tableCheck, Instr.configWrite, Instr.configRead, Instr.sensorWrite, Instr.sensorRead,
    Instr.setTiming, Instr.echo] ∧ ((s.node d).resp m.port).tag = m.tag : Prop)
theorem test_NodeExecutesMessages_12 : Hyp.NodeExecutesMessages_12 s6 2 { port := 0, tag := 9, hold := true, addr := 0, data := [] } Instr.identify :=
  ⟨by decide, by decide, .head _, by decide⟩
end Node

/-! ### Links -/
namespace Link
def base0 : State := (cfgs on [(Gl.SET_DOORWAY_TYPE 0, 2), (Gl.SET_DOORWAY_TYPE 3, 3), (Gl.SET_DOORWAY_SIDE 3, 1), (Ax.STROKE 0, 700000),
    (Ax.STROKE 1, 700000), (Ax.STROKE 9, 700000), (Ax.STROKE 11, 700000)])
def base := wrs base0 [(Gl.BOOT_MODE,0),(Dr.STATE 0, 4), (Dr.STATE 3, 4), (Gl.DOMAINS_ON, 255), (Lk.LINK_STATE 0, 5), (Lk.LINK_STATE 3, 5),
    (Dr.TABLE_STATE 0, 2), (Dr.TABLE_STATE 3, 1), (Gl.WRITE_ENABLE, 1)]
def hold (s : State) : State := {s with duplex := {s.duplex with driving := true}}
def ls (s : State) (st : Int) (f : Link → Link) : State := (s.wr (Lk.LINK_STATE 0) st).setLink 0 (f (s.link 0))
def msg : Via := .msg {source := 2, session := 5, counter := 3}
def tr (n c : Nat) (sum : Nat := 0) : Train := {started := 1000, step := n, count := c, delaySum := sum}
def pr (s : State) (st : Int) (f : Duplex → Duplex) : State := {(s.wr Gl.PARTNER_STATE st) with duplex := f s.duplex, net := {s.net with frozen := putD 0 s.net.frozen Gl.DUPLEX_CONFIG 1}}
def ax (s : State) : State := s.setAxis 0 {shadow := some 3}
def withSof (s : State) : State := let s := (s.setLink 0 {s.link 0 with lastSof := some 0}).setLink 3 {s.link 3 with lastSof := some 0}
  {s with duplex := {s.duplex with lastSof := some 0}}
def tf0 : TrainFrame := sealTrain {sof := 500, step := 1, reqLevel := 2, rxErrors := 0, delayNs := 100}
def uf0 : UpFrame := {codeOk := false, sof := 501}
def uf2 : UpFrame := sealUp {sof := 500, seq := 5, status := 2*64}
def uf3 : UpFrame := sealUp {sof := 500, seq := 9, status := 32768 + 2*64, late := true, axes := [{encErr := true}, {s0 := 2^500 - 2^250, comm := 3, count := 77}], inputsA := 0x35, inputsBInv := 0xCA, dcCurrent := 55, outputsRb := 18, nodeTemp := -4, dcVoltage := 900}
def s0 : State := withSof (base)
def s1 : State := withSof (ls base 6 (fun x => {x with retrainAt := some 50}))
def s2 : State := withSof (ls base 1 id)
def s3 : State := withSof (ls base 2 (fun x => {x with train := some (tr 1 63)}))
def s6 : State := withSof (ls base 2 (fun x => {x with train := some (tr 2 1023)}))
def s8 : State := withSof (ls base 2 (fun x => {x with train := some (tr 4 64 20000)}))
def s9 : State := withSof (ls base 2 (fun x => {x with train := some (tr 4 64 40000)}))
def s12 : State := withSof (ls base 5 (fun x => {x with missing := 8, echoRun := 2}))
def s14 : State := withSof (ls base 5 (fun x => {x with status := 64}))
def s15 : State := withSof (ls base 3 (fun x =>
    {x with exUntil := some 500, out := some {tag := 3, msg := {op := 1}, sentAt := 6, due := false, tries := 3}}))
def s16 : State := withSof (ls base 3 (fun x => {x with out := some {tag := 3, msg := {op := 1}, sentAt := 6, due := false, tries := 2}}))
def s17 : State := withSof (ls base 4 (fun x => {x with resumed := some 17}))
def s42 : State := withSof (hold (pr base 1 id))
def s43 : State := withSof (hold (pr base 1 (fun x => {x with retrainAt := some 5, charLock := true})))
def s44 : State := withSof (hold (pr base 2 (fun x => {x with train := some (tr 1 63)})))
def s45 : State := withSof (hold (pr base 2 (fun x => {x with train := some (tr 4 64 6400)})))
def s46 : State := withSof (hold (pr base 2 (fun x => {x with train := some (tr 4 64 64000)})))
def s47 : State := withSof (hold (ax (pr base 4 (fun x =>
    {x with missing := 3, outbox := [{tag := 1, type := 7, data := [1], sentAt := 5, firstAt := 5, item := some (3,0)}]}))))
def s49 : State := withSof (hold (pr base 1 (fun x => {x with lostAt := some 5})))

abbrev Hyp.DoorwayLinkTraining_0 := fun (s : State) (d : Nat) => (d < 16 ∧ linkState s d = lDown : Prop)
theorem test_DoorwayLinkTraining_0 : Hyp.DoorwayLinkTraining_0 s2 0 :=
  by decide
abbrev Hyp.DoorwayLinkTraining_1 := fun (s : State) (d : Nat) => (d < 16 ∧ linkState s d = lLost : Prop)
theorem test_DoorwayLinkTraining_1 : Hyp.DoorwayLinkTraining_1 s1 0 :=
  by decide
abbrev Hyp.DoorwayLinkTraining_2 := fun (s : State) (d : Nat) => (d < 16 ∧ linkState s d = lLost ∧ due (s.link d).retrainAt s.now = true : Prop)
theorem test_DoorwayLinkTraining_2 : Hyp.DoorwayLinkTraining_2 s1 0 :=
  by decide
abbrev Hyp.DoorwayLinkTraining_3 := fun (s : State) (d : Nat) => (d < 16 ∧ 2 ≤ linkState s d ∧ linkState s d ≠ lLost : Prop)
theorem test_DoorwayLinkTraining_3 : Hyp.DoorwayLinkTraining_3 s0 0 :=
  by decide
abbrev Hyp.DoorwayLinkTraining_4 := fun (s : State) (d : Nat) r (f : TrainFrame) ok => (d < 16 ∧ linkState s d = lTraining
    ∧ (s.link d).train = some r ∧ f.port = none ∧ trainOk (s.link d).lastSof f = ok ∧ (r.step ≠ 2 ∨ r.count < 1023) : Prop)
theorem test_DoorwayLinkTraining_4 : Hyp.DoorwayLinkTraining_4 s3 0 { started := 1000, step := 1, count := 63, bad := [], delaySum := 0, request := 0, errors := 0, asked := 0 } tf0 true :=
  ⟨by decide, by decide, by decide, by decide, trainSealed (by decide), by decide⟩
abbrev Hyp.DoorwayLinkTraining_5 := fun (s : State) (d : Nat) r (f : TrainFrame) ok => (d < 16 ∧ linkState s d = lTraining
    ∧ (s.link d).train = some r ∧ f.port = none ∧ trainOk (s.link d).lastSof f = ok ∧ r.step = 2 ∧ r.count = 1023 : Prop)
theorem test_DoorwayLinkTraining_5 : Hyp.DoorwayLinkTraining_5 s6 0 { started := 1000, step := 2, count := 1023, bad := [], delaySum := 0, request := 0, errors := 0, asked := 0 } tf0 true :=
  ⟨by decide, by decide, by decide, by decide, trainSealed (by decide), by decide⟩
abbrev Hyp.DoorwayLinkTraining_6 := fun (s : State) (d : Nat) r => (d < 16 ∧ linkState s d = lTraining ∧ (s.link d).train = some r ∧ r.step = 4
    ∧ r.delay ≤ 400 : Prop)
theorem test_DoorwayLinkTraining_6 : Hyp.DoorwayLinkTraining_6 s8 0 { started := 1000, step := 4, count := 64, bad := [], delaySum := 20000, request := 0, errors := 0, asked := 0 } :=
  by decide
abbrev Hyp.DoorwayLinkTraining_7 := fun (s : State) (d : Nat) r => (d < 16 ∧ linkState s d = lTraining ∧ (s.link d).train = some r ∧ r.step = 4
    ∧ 400 < r.delay : Prop)
theorem test_DoorwayLinkTraining_7 : Hyp.DoorwayLinkTraining_7 s9 0 { started := 1000, step := 4, count := 64, bad := [], delaySum := 40000, request := 0, errors := 0, asked := 0 } :=
  by decide
abbrev Hyp.DoorwayLinkTraining_8 := fun (s : State) (d : Nat) r => (d < 16 ∧ linkState s d = lTraining ∧ (s.link d).train = some r
    ∧ r.started + 5000 ≤ s.now : Prop)
theorem test_DoorwayLinkTraining_8 : Hyp.DoorwayLinkTraining_8 s3 0 { started := 1000, step := 1, count := 63, bad := [], delaySum := 0, request := 0, errors := 0, asked := 0 } :=
  by decide
abbrev Hyp.DoorwayLinkLosses_0 := fun (s : State) (d : Nat) => (d < 16 ∧ 8 ≤ (s.link d).missing
    ∧ (linkState s d = lUp ∨ linkState s d = lListen) : Prop)
theorem test_DoorwayLinkLosses_0 : Hyp.DoorwayLinkLosses_0 s12 0 :=
  by decide
abbrev Hyp.DoorwayLinkLosses_1 := fun (s : State) (d : Nat) => (d < 16 ∧ 2 ≤ (s.link d).echoRun ∧ linkState s d = lUp : Prop)
theorem test_DoorwayLinkLosses_1 : Hyp.DoorwayLinkLosses_1 s12 0 :=
  by decide
abbrev Hyp.DoorwayLinkLosses_2 := fun (s : State) (d : Nat) => (d < 16 ∧ (s.link d).status / 64 % 8 = 1 ∧ (s.link d).missing = 0
    ∧ linkState s d = lUp : Prop)
theorem test_DoorwayLinkLosses_2 : Hyp.DoorwayLinkLosses_2 s14 0 :=
  by decide
abbrev Hyp.DoorwayLinkLosses_3 := fun (s : State) (d : Nat) => (d < 16 ∧ due (s.link d).exUntil s.now = true : Prop)
theorem test_DoorwayLinkLosses_3 : Hyp.DoorwayLinkLosses_3 s15 0 :=
  by decide
abbrev Hyp.DoorwayLinkLosses_4 := fun (s : State) (d : Nat) o => (d < 16 ∧ (s.link d).out = some o ∧ o.busy = false ∧ o.due = false
    ∧ o.sentAt + 50 ≤ s.now ∧ (s.link d).exRetries ≤ o.tries : Prop)
theorem test_DoorwayLinkLosses_4 : Hyp.DoorwayLinkLosses_4 s15 0 { tag := 3, msg := { op := 1, addr := 0, data := [] }, tries := 3, sentAt := 6, busy := false, due := false } :=
  by decide
abbrev Hyp.DoorwayLinkLosses_5 := fun (s : State) (d : Nat) n => (d < 16 ∧ (s.link d).resumed = some n ∧ linkState s d = lReady ∧ 16 ≤ n : Prop)
theorem test_DoorwayLinkLosses_5 : Hyp.DoorwayLinkLosses_5 s17 0 17 :=
  by decide
abbrev Hyp.DoorwayLinkLosses_6 := fun (s : State) (d : Nat) o => (d < 16 ∧ (s.link d).out = some o ∧ o.busy = false ∧ o.due = false
    ∧ o.sentAt + 50 ≤ s.now ∧ o.tries < (s.link d).exRetries : Prop)
theorem test_DoorwayLinkLosses_6 : Hyp.DoorwayLinkLosses_6 s16 0 { tag := 3, msg := { op := 1, addr := 0, data := [] }, tries := 2, sentAt := 6, busy := false, due := false } :=
  by decide
abbrev Hyp.DoorwayLinkLosses_7 := fun (s : State) (d : Nat) (via : Via) => (d < 16 ∧ (fun u =>
    Reaches via (0x3A05 + 0x10 * d) 1 1 none s u 1) (after (front via (requestClass (0x3A05 + 0x10 * d) 1 false) ((0x3A05 + 0x10 * d), 1, .num 1,
    none) s)) : Prop)
theorem test_DoorwayLinkLosses_7 : Hyp.DoorwayLinkLosses_7 s0 0 Via.mirror :=
  ⟨by decide, reaches (by decide)⟩
abbrev Hyp.UplinkFrames_0 := fun (s : State) (d : Nat) (f : UpFrame) => (d < 16 ∧ s.operating = true ∧ lConfig ≤ linkState s d
    ∧ upIntact (s.link d).lastSof f = false : Prop)
theorem test_UplinkFrames_0 : Hyp.UplinkFrames_0 s0 0 uf0 :=
  by decide
abbrev Hyp.UplinkFrames_1 := fun (s : State) (d : Nat) (f : UpFrame) => (d < 16 ∧ s.operating = true ∧ lConfig ≤ linkState s d
    ∧ upIntact (s.link d).lastSof f = true ∧ f.status / 32768 % 2 ≠ s.rdn Gl.ROLE : Prop)
theorem test_UplinkFrames_1 : Hyp.UplinkFrames_1 s0 0 uf3 :=
  ⟨by decide, by decide, by decide, upIntactSealed (by decide), by decide⟩
abbrev Hyp.UplinkFrames_2 := fun (s : State) (d : Nat) (f : UpFrame) => (d < 16 ∧ s.operating = true ∧ lConfig ≤ linkState s d
    ∧ upIntact (s.link d).lastSof f = true ∧ f.status / 32768 % 2 = s.rdn Gl.ROLE ∧ f.chunk = none ∧ (s.link d).out = none : Prop)
theorem test_UplinkFrames_2 : Hyp.UplinkFrames_2 s0 0 uf2 :=
  ⟨by decide, by decide, by decide, upIntactSealed (by decide), by decide⟩
abbrev Hyp.PartnerLinkTraining_0 := fun (s : State) => (isPair s = true ∧ s.running = true ∧ s.rd Gl.PARTNER_STATE = 1
    ∧ s.duplex.retrainAt = none : Prop)
theorem test_PartnerLinkTraining_0 : Hyp.PartnerLinkTraining_0 s42 :=
  by decide
abbrev Hyp.PartnerLinkTraining_1 := fun (s : State) => (s.running = true ∧ isPair s = true ∧ s.rd Gl.PARTNER_STATE = 1
    ∧ due s.duplex.retrainAt s.now = true ∧ s.duplex.charLock = true : Prop)
theorem test_PartnerLinkTraining_1 : Hyp.PartnerLinkTraining_1 s43 :=
  by decide
abbrev Hyp.PartnerLinkTraining_2 := fun (s : State) r (f : TrainFrame) (ok : Bool) => (s.rd Gl.PARTNER_STATE = 2 ∧ s.duplex.train = some r
    ∧ f.port = none ∧ trainOk s.duplex.lastSof f = ok ∧ (s.rdn Gl.ROLE = 1 ∨ r.step ≠ 2) : Prop)
theorem test_PartnerLinkTraining_2 : Hyp.PartnerLinkTraining_2 s44 { started := 1000, step := 1, count := 63, bad := [], delaySum := 0, request := 0, errors := 0, asked := 0 } tf0 true :=
  ⟨by decide, by decide, by decide, trainSealed (by decide), by decide⟩
abbrev Hyp.PartnerLinkTraining_3 := fun (s : State) r => (s.rd Gl.PARTNER_STATE = 2 ∧ s.duplex.train = some r ∧ r.step = 4 ∧ r.delay ≤ 200 : Prop)
theorem test_PartnerLinkTraining_3 : Hyp.PartnerLinkTraining_3 s45 { started := 1000, step := 4, count := 64, bad := [], delaySum := 6400, request := 0, errors := 0, asked := 0 } :=
  by decide
abbrev Hyp.PartnerLinkTraining_4 := fun (s : State) r => (s.rd Gl.PARTNER_STATE = 2 ∧ s.duplex.train = some r ∧ r.step = 4 ∧ 200 < r.delay : Prop)
theorem test_PartnerLinkTraining_4 : Hyp.PartnerLinkTraining_4 s46 { started := 1000, step := 4, count := 64, bad := [], delaySum := 64000, request := 0, errors := 0, asked := 0 } :=
  by decide
abbrev Hyp.PartnerLinkTraining_5 := fun (s : State) r => (s.rd Gl.PARTNER_STATE = 2 ∧ s.duplex.train = some r ∧ r.started + 5000 ≤ s.now : Prop)
theorem test_PartnerLinkTraining_5 : Hyp.PartnerLinkTraining_5 s44 { started := 1000, step := 1, count := 63, bad := [], delaySum := 0, request := 0, errors := 0, asked := 0 } :=
  by decide
abbrev Hyp.PartnerLinkTraining_6 := fun (s : State) => (isPair s = true ∧ s.paired = true : Prop)
theorem test_PartnerLinkTraining_6 : Hyp.PartnerLinkTraining_6 s47 :=
  by decide
abbrev Hyp.PartnerLinkTraining_7 := fun (s : State) => (s.paired = true ∧ 3 ≤ s.duplex.missing : Prop)
theorem test_PartnerLinkTraining_7 : Hyp.PartnerLinkTraining_7 s47 :=
  by decide
abbrev Hyp.PartnerLinkTraining_8 := fun (s : State) => (s.paired = false ∧ heldFor s.duplex.lostAt s.now 10 = true : Prop)
theorem test_PartnerLinkTraining_8 : Hyp.PartnerLinkTraining_8 s49 :=
  by decide
end Link

/-! ### Safe network layer -/
namespace Nsl
def base0 : State := cfgs on [(Ns.CONN_ENABLE 3, 1), (Ns.IDENTITY 3, 77), (Ns.PORTS 3, 15), (Ns.WATCHDOG_TIME 3, 100), (Ns.MAX_DELAY 3, 30),
    (Gl.CAB_CONNECTION, 32), (Gl.SUMMARY_CONNECTION, 5), (Ns.CONN_ENABLE 5, 1), (Ns.DIRECTION 5, 1), (Ns.PORTS 5, 5)]
def base : State := { wrs base0 [(Gl.BOOT_MODE,0),(Gl.FAST_TICK_COUNT, 50*1000), (Ns.ERROR_BUDGET_LEFT 3, 3), (Gl.SET_STATE, 1)] with net := {base0.net with frozen := [(Cb.ENABLE 0, 1), (Cb.ENABLE 1, 1), (Et.ENABLE 0, 1), (Et.ENABLE 1, 1)].foldl (fun m x => putD 2 m x.1 x.2) base0.net.frozen}}
def c3 (s : State) (st sq bud : Int) (f : Conn → Conn := id) : State := (wrs s [(Ns.CONN_STATE 3, st), (Ns.LAST_SEQ 3, sq), (Ns.ERROR_BUDGET_LEFT 3,
    bud)]).setConn 3 (f {(s.conn 3) with accepted := some 999000, base := 995})
def hold (s : State) : State := {s with duplex := {s.duplex with driving := true}}
def nf (port seq ts : Nat) (l : List Nat) : NslFrame := {port, canId := base.pn (Ns.CAN_ID 3), bytes := nslContainer port (nslFrame 77 seq ts l) |> (fun b => if port < 2 then b else b.drop 2), latencyUs := 100}
def nslf0 : NslFrame := {nf 2 16 980 [1,2,3,4] with fragment := true}
def nslf1 : NslFrame := {nf 0 16 5 [1,2,3,4] with latencyUs := 251}
def nslf4 : NslFrame := nf 0 16 5 [1,2,3,4]
def nslf7 : NslFrame := {nf 0 16 5 [3,5,3,0] with canId := 2000}
def nslf9 : NslFrame := nf 2 17 990 [0,0,9,0]
def nslf11 : NslFrame := {nf 0 16 5 [1] with classic := true}
def s0 : State := c3 base 1 0 3
def s1 : State := c3 base 3 16 3
def s2 : State := c3 base 3 15 0
def s4 : State := c3 base 3 15 1 (fun x => {x with bucket := some (10, 999990)})
def s5 : State := c3 base 3 15 3 (fun x => {x with accepted := some 5})
def s10 : State := c3 base 4 15 0 (fun x => {x with refillFrom := some 3}) |> (fun s => {s with now := 70000000})
def s13 : State := hold (base.setConn 5 {seq := some 65535, sentAt := some 5})

abbrev Hyp.NslConsumerTakesFrames_0 := fun (s : State) (f : NslFrame) => (s.operating = true ∧ f.port < 4 ∧ portOn s f.port = true
    ∧ fragmented f = true : Prop)
theorem test_NslConsumerTakesFrames_0 : Hyp.NslConsumerTakesFrames_0 s0 nslf0 :=
  by decide
abbrev Hyp.NslConsumerTakesFrames_1 := fun (s : State) (f : NslFrame) => (s.operating = true ∧ f.port < 4 ∧ portOn s f.port = true
    ∧ fragmented f = false ∧ f.latencyUs ≤ 250 ∧ connOf s f = none : Prop)
theorem test_NslConsumerTakesFrames_1 : Hyp.NslConsumerTakesFrames_1 s0 nslf7 :=
  by and_intros <;> decide
abbrev Hyp.NslConsumerTakesFrames_2 := fun (s : State) (f : NslFrame) (n : Nat) => (s.operating = true ∧ f.port < 4 ∧ portOn s f.port = true
    ∧ fragmented f = false ∧ f.latencyUs ≤ 250 ∧ connOf s f = some n ∧ (takeBucket (s.conn n) s.now).1 = false : Prop)
theorem test_NslConsumerTakesFrames_2 : Hyp.NslConsumerTakesFrames_2 s4 nslf4 3 :=
  by and_intros <;> decide
abbrev Hyp.NslConsumerTakesFrames_3 := fun (s : State) (f : NslFrame) (n : Nat) => (s.operating = true ∧ f.port < 4 ∧ portOn s f.port = true
    ∧ fragmented f = false ∧ f.latencyUs ≤ 250 ∧ connOf s f = some n ∧ (takeBucket (s.conn n) s.now).1 = true
    ∧ nslOk (s.pn (Ns.IDENTITY n)) f = false ∧ 0 < s.rdn (Ns.ERROR_BUDGET_LEFT n) : Prop)
theorem test_NslConsumerTakesFrames_3 : Hyp.NslConsumerTakesFrames_3 s0 nslf11 3 :=
  by and_intros <;> decide +kernel
abbrev Hyp.NslConsumerTakesFrames_4 := fun (s : State) (f : NslFrame) (n : Nat) => (s.operating = true ∧ f.port < 4 ∧ portOn s f.port = true
    ∧ fragmented f = false ∧ f.latencyUs ≤ 250 ∧ connOf s f = some n ∧ (takeBucket (s.conn n) s.now).1 = true
    ∧ nslOk (s.pn (Ns.IDENTITY n)) f = false ∧ s.rdn (Ns.ERROR_BUDGET_LEFT n) = 0 ∧ connState s n ≠ 4 : Prop)
theorem test_NslConsumerTakesFrames_4 : Hyp.NslConsumerTakesFrames_4 s2 nslf11 3 :=
  by and_intros <;> decide +kernel
abbrev Hyp.NslConsumerTakesFrames_5 := fun (s : State) (f : NslFrame) (n : Nat) => (s.operating = true ∧ f.port < 4 ∧ portOn s f.port = true
    ∧ fragmented f = false ∧ f.latencyUs ≤ 250 ∧ connOf s f = some n ∧ (takeBucket (s.conn n) s.now).1 = true
    ∧ nslOk (s.pn (Ns.IDENTITY n)) f = false ∧ s.rdn (Ns.ERROR_BUDGET_LEFT n) = 0 ∧ connState s n = 4 : Prop)
theorem test_NslConsumerTakesFrames_5 : Hyp.NslConsumerTakesFrames_5 s10 nslf11 3 :=
  by and_intros <;> decide +kernel
abbrev Hyp.NslConsumerTakesFrames_6 := fun (s : State) (f : NslFrame) (n : Nat) => (s.operating = true ∧ f.port < 4 ∧ portOn s f.port = true
    ∧ fragmented f = false ∧ f.latencyUs ≤ 250 ∧ connOf s f = some n ∧ (fun x => (takeBucket (s.conn n) s.now).1 = true
    ∧ nslOk (s.pn (Ns.IDENTITY n)) f = true ∧ (connState s n = 1 ∨ connState s n = 2
    ∧ (heldFor x.accepted s.now (50 * s.pn (Ns.WATCHDOG_TIME n) + 1) = true ∨ x.accepted = none))) ((takeBucket (s.conn n) s.now).2) : Prop)
theorem test_NslConsumerTakesFrames_6 : Hyp.NslConsumerTakesFrames_6 s0 nslf4 3 :=
  by and_intros <;> decide +kernel
abbrev Hyp.NslConsumerTakesFrames_7 := fun (s : State) (f : NslFrame) (n : Nat) (reg : Nat) (met : Bool) => (s.operating = true ∧ f.port < 4
    ∧ portOn s f.port = true ∧ fragmented f = false ∧ f.latencyUs ≤ 250 ∧ connOf s f = some n ∧ (fun p => (fun x =>
    (takeBucket (s.conn n) s.now).1 = true ∧ nslOk (s.pn (Ns.IDENTITY n)) f = true ∧ (connState s n = 3 ∨ connState s n = 2
    ∧ heldFor x.accepted s.now (50 * s.pn (Ns.WATCHDOG_TIME n) + 1) = false ∧ x.accepted ≠ none) ∧ (fun gap => (fun offset => (fun delay => (reg,
    met) ∈ [(Ns.DUPLICATES n, gap == 0), (Ns.OUT_OF_WINDOW n, decide (33 ≤ gap) && decide (gap ≤ 65503)), (Ns.LATE n, decide (65504 ≤ gap)),
    (Ns.DELAYED n, decide (1 ≤ gap) && decide (gap ≤ 32) && decide (min (s.pn (Ns.MAX_DELAY n)) (s.pn (Ns.WATCHDOG_TIME n)) < delay) && decide (delay < 32768))] ∧ met = true) ((offset + 65536 - x.base) % 65536)) ((s.rdn Gl.FAST_TICK_COUNT / 50 + 65536 - p.ts % 65536) % 65536)) ((p.seq + 65536 - s.rdn (Ns.LAST_SEQ n)) % 65536)) ((takeBucket (s.conn n) s.now).2)) (nslParts f.bytes) : Prop)
theorem test_NslConsumerTakesFrames_7 : Hyp.NslConsumerTakesFrames_7 s1 nslf4 3 5374740 true :=
  by and_intros <;> decide +kernel
abbrev Hyp.NslConsumerTakesFrames_8 := fun (s : State) (f : NslFrame) (n : Nat) => (s.operating = true ∧ f.port < 4 ∧ portOn s f.port = true
    ∧ fragmented f = false ∧ f.latencyUs ≤ 250 ∧ connOf s f = some n ∧ (fun p => (fun x => (takeBucket (s.conn n) s.now).1 = true
    ∧ nslOk (s.pn (Ns.IDENTITY n)) f = true ∧ (connState s n = 3 ∨ connState s n = 2
    ∧ heldFor x.accepted s.now (50 * s.pn (Ns.WATCHDOG_TIME n) + 1) = false ∧ x.accepted ≠ none) ∧ (fun gap => (fun offset => (fun delay => 1 ≤ gap
    ∧ gap ≤ 32 ∧ (delay ≤ min (s.pn (Ns.MAX_DELAY n)) (s.pn (Ns.WATCHDOG_TIME n)) ∨ 32768 ≤ delay)) ((offset + 65536 - x.base) % 65536)) ((s.rdn Gl.FAST_TICK_COUNT / 50 + 65536 - p.ts % 65536) % 65536)) ((p.seq + 65536 - s.rdn (Ns.LAST_SEQ n)) % 65536)) ((takeBucket (s.conn n) s.now).2)) (nslParts f.bytes) : Prop)
theorem test_NslConsumerTakesFrames_8 : Hyp.NslConsumerTakesFrames_8 s1 nslf9 3 :=
  by and_intros <;> decide +kernel
abbrev Hyp.NslSupervision_0 := fun (s : State) (n : Nat) => (n < 32 ∧ isConsumer s n = true ∧ (connState s n = 2 ∨ connState s n = 3)
    ∧ heldFor (s.conn n).accepted s.now (50 * s.pn (Ns.WATCHDOG_TIME n)) = true : Prop)
theorem test_NslSupervision_0 : Hyp.NslSupervision_0 s5 3 :=
  by decide
abbrev Hyp.NslSupervision_1 := fun (s : State) (n : Nat) since => (n < 32 ∧ (s.conn n).refillFrom = some since ∧ since + 60000000 ≤ s.now : Prop)
theorem test_NslSupervision_1 : Hyp.NslSupervision_1 s10 3 3 :=
  by decide
abbrev Hyp.NslSupervision_2 := fun (s : State) (n : Nat) => (n < 32 ∧ (connState s n = 2 ∨ connState s n = 3)
    ∧ (s.conn n).baseAt + 500000 ≤ s.now : Prop)
theorem test_NslSupervision_2 : Hyp.NslSupervision_2 s1 3 :=
  by decide
abbrev Hyp.NslSupervision_3 := fun (s : State) (q : Nat) (sent : Nat) => ((fun n => (s.conn n).seq = some q ∧ (s.conn n).sentAt = some sent
    ∧ s.operating = true ∧ n < 32 ∧ isProducer s n = true ∧ s.holds = true ∧ sent + 500 * max (connPorts s n).length 1 ≤ s.now
    ∧ (s.summary.due = true ∨ sent + 50 * s.pn Gl.SUMMARY_PERIOD ≤ s.now)) (s.pn Gl.SUMMARY_CONNECTION) : Prop)
theorem test_NslSupervision_3 : Hyp.NslSupervision_3 s13 65535 5 :=
  by and_intros <;> decide
abbrev Hyp.NslSupervision_4 := fun (s : State) (via : Via) => ((fun u =>
    Reaches via 0x5280 1 1 none s u 1) (after (front via (requestClass 0x5280 1 false) (0x5280, 1, .num 1, none) s)) : Prop)
theorem test_NslSupervision_4 : Hyp.NslSupervision_4 s0 Via.mirror :=
  reaches (by decide)
abbrev Hyp.LateFrameEntersTheSafeState_0 := fun (s : State) (f : NslFrame) => (s.operating = true ∧ f.port < 4 ∧ portOn s f.port = true
    ∧ fragmented f = false ∧ 250 < f.latencyUs : Prop)
theorem test_LateFrameEntersTheSafeState_0 : Hyp.LateFrameEntersTheSafeState_0 s0 nslf1 :=
  by decide
abbrev Hyp.LateFrameEntersTheSafeState_1 := fun (s : State) (f : NslFrame) => (s.operating = true ∧ f.port < 4 ∧ portOn s f.port = true
    ∧ fragmented f = false ∧ 250 < f.latencyUs ∧ s.rdn Gl.SAFE_STATE_CAUSE = 0 : Prop)
theorem test_LateFrameEntersTheSafeState_1 : Hyp.LateFrameEntersTheSafeState_1 s0 nslf1 :=
  by decide
end Nsl

/-! ### The pair -/
namespace Duplex
def base0 : State := (cfgs on [(Gl.SET_DOORWAY_TYPE 0, 2), (Gl.SET_DOORWAY_TYPE 3, 3), (Gl.SET_DOORWAY_SIDE 3, 1), (Ax.STROKE 0, 700000),
    (Ax.STROKE 1, 700000), (Ax.STROKE 9, 700000), (Ax.STROKE 11, 700000)])
def base := wrs base0 [(Gl.BOOT_MODE,0),(Gl.SET_STATE,1),(Dr.STATE 0, 4), (Dr.STATE 3, 4), (Gl.DOMAINS_ON, 255), (Lk.LINK_STATE 0, 7),
    (Lk.LINK_STATE 3, 3), (Gl.WRITE_ENABLE, 1), (Gl.SAFE_STATE_CAUSE, 0), (Gl.SECURITY_STATE, 1)]
def pr (s : State) (st : Int) (f : Duplex → Duplex) : State := {(s.wr Gl.PARTNER_STATE st) with duplex := f s.duplex, net := {s.net with frozen := putD 0 s.net.frozen Gl.DUPLEX_CONFIG 1}}
def hold (s : State) : State := {s with duplex := {s.duplex with driving := true}}
def authed (s : State) : State := {s with sessions := [{num := 5, level := .commissioner, anchor := 0, counter := 0, lastValid := 0, source := 2}]}
def by1 : List ByteN := List.replicate 1024 3
def pf0 : PFrame := {sof := 499, pseq := 0, pstatus := 0, tickCount := 0, checkValue := 0}
def pf1 : PFrame := sealPartner {sof := 500, pseq := 4, pstatus := 0, tickCount := 0, checkValue := 7}
def pf2 : PFrame := sealPartner {sof := 500, pseq := 4, pstatus := 16384, tickCount := 99, checkValue := 7, phaseNs := 500}
def pf5 : PFrame := sealPartner {sof := 500, pseq := 4, pstatus := 0, tickCount := 9, checkValue := 7, seg := {len := 30}}
def px1 : List (Option Nat) := List.replicate 3000 (some 8) ++ List.replicate 72 none
def s0 : State := (fun s : State => {s with duplex := {s.duplex with lastSof := some 0}}) (base)
def s2 : State := (fun s : State => {s with duplex := {s.duplex with lastSof := some 0}}) (pr base 4 id)
def s3 : State := (fun s : State => {s with duplex := {s.duplex with lastSof := some 0}}) (pr base 4 (fun x => {x with wasPartner := true}))
def s4 : State := (fun s : State => {s with duplex := {s.duplex with lastSof := some 0}}) ((pr base 4 (fun x =>
    {x with wasPartner := true})).wr Gl.ROLE 1)
def s5 : State := (fun s : State => {s with duplex := {s.duplex with lastSof := some 0}}) (hold base)
def s9 : State := (fun s : State => {s with duplex := {s.duplex with lastSof := some 0}}) (authed (hold (wrs (pr base 4 (fun x =>
    {x with pStatus := 8192+4096})) [(Gl.DUPLEX_MODE, 2), (Gl.DUPLEX_STATUS, 32)])))
def s10 : State := (fun s : State => {s with duplex := {s.duplex with lastSof := some 0}}) (authed (pr base 4 (fun x =>
    {x with expect := [(0,2),(0,3),(1,0),(1,3),(2,0),(2,3),(3,0)], outbox := [{tag := 1, type := 7, data := [1], sentAt := 5, firstAt := 5, item := some (3,0)}, {tag := 9, type := 7, data := [4], sentAt := 5, firstAt := 5}]})))
def s12 : State := (fun s : State => {s with duplex := {s.duplex with lastSof := some 0}}) ((fun s =>
    {s with duplex := {s.duplex with keepFrom := some 5}}) (hold base))
def s14 : State := pr base 4 (fun x => {x with outbox := [{tag := 1, type := 7, data := [1], sentAt := 5, firstAt := 5, next := 1}]})

abbrev Hyp.DriveToken_0 := fun (s : State) (us : Nat) => (fit s = true ∧ mayHold s = true ∧ s.holds = false ∧ s.duplex.wasPartner = false ∧ 20 ≤ us
    ∧ (isPair s = false ∨ s.rdn Gl.ROLE = 0 ∨ heldFor s.power.bootedAt s.now 250000 = true ∧ 5000000 ≤ us) : Prop)
theorem test_DriveToken_0 : Hyp.DriveToken_0 s0 12295 :=
  by decide
abbrev Hyp.DriveToken_1 := fun (s : State) (us : Nat) => (fit s = true ∧ mayHold s = true ∧ s.holds = false ∧ s.duplex.wasPartner = true
    ∧ 20 ≤ us : Prop)
theorem test_DriveToken_1 : Hyp.DriveToken_1 s3 12295 :=
  by decide
abbrev Hyp.DriveToken_2 := fun (s : State) => (s.operating = true ∧ s.holds = false ∧ isPair s = true : Prop)
theorem test_DriveToken_2 : Hyp.DriveToken_2 s2 :=
  by decide
abbrev Hyp.DriveToken_3 := fun (s : State) (us : Nat) => (fit s = true ∧ s.holds = false ∧ isPair s = true ∧ s.rdn Gl.ROLE = 1 ∧ 20 ≤ us
    ∧ (s.duplex.wasPartner = true ∨ heldFor s.power.bootedAt s.now 250000 = true ∧ 5000000 ≤ us) : Prop)
theorem test_DriveToken_3 : Hyp.DriveToken_3 s4 12295 :=
  by decide
abbrev Hyp.DriveToken_4 := fun (s : State) => (s.holds = true : Prop)
theorem test_DriveToken_4 : Hyp.DriveToken_4 s5 :=
  by decide
abbrev Hyp.DriveToken_5 := fun (s : State) (stuckLow : Bool) => (s.operating = true ∧ s.holds = !stuckLow : Prop)
theorem test_DriveToken_5 : Hyp.DriveToken_5 s0 true :=
  by decide
abbrev Hyp.DriveToken_6 := fun (s : State) => (s.holds = true ∧ s.duplex.lapsed = false ∧ heldFor s.duplex.keepFrom s.now 50 = true : Prop)
theorem test_DriveToken_6 : Hyp.DriveToken_6 s12 :=
  by decide
abbrev Hyp.DriveToken_7 := fun (s : State) (via : Via) => ((fun u => Reaches via 0x2600 7 1 none s u 1 ∧ mayHold s = true ∧ s.holds = true
    ∧ s.rdn Gl.PARTNER_STATE = 4 ∧ s.duplex.pStatus.testBit 13 = true ∧ s.duplex.pStatus.testBit 12 = true ∧ s.bit Gl.DUPLEX_STATUS 5 = true
    ∧ s.rdn Gl.DUPLEX_MODE = 2 ∧ (∀ d, d ∈ allDoors s → ¬ (doorState s d = 3 ∨ doorState s d = 5 ∨ doorState s d = 6)) ∧ (∀ a,
    a ∈ allAxes s → manual s a = false)) (after (front via (requestClass 0x2600 7 false) (0x2600, 7, .num 1, none) s)) : Prop)
theorem test_DriveToken_7 : Hyp.DriveToken_7 s9 Via.mirror :=
  ⟨reaches (by decide), by decide⟩
abbrev Hyp.PartnerFramesAndInventory_0 := fun (s : State) (f : PFrame) (reg : Nat) (met : Bool) => (s.paired = true ∧ (reg, met) ∈ [(Gl.PL_CRC_ERRORS,
    f.crc != crc32 (partnerBytes f)), (Gl.MIRROR_DISCARDS, partnerIntact s.duplex.lastSof f && decide (29 < f.seg.len))] ∧ met = true : Prop)
theorem test_PartnerFramesAndInventory_0 : Hyp.PartnerFramesAndInventory_0 s2 pf0 Gl.PL_CRC_ERRORS (pf0.crc != crc32 (partnerBytes pf0))
    ∧ Hyp.PartnerFramesAndInventory_0 s2 pf5 Gl.MIRROR_DISCARDS (partnerIntact s2.duplex.lastSof pf5 && decide (29 < pf5.seg.len)) :=
  ⟨⟨by decide, .head _, badCrc (by decide +kernel)⟩, ⟨by decide, .tail _ (.head _), by rw [Bool.and_eq_true]; exact ⟨partnerIntactSealed (by decide),
    by decide⟩⟩⟩
abbrev Hyp.PartnerFramesAndInventory_1 := fun (s : State) (f : PFrame) => (s.paired = true ∧ partnerIntact s.duplex.lastSof f = true ∧ f.seg.len ≤ 29
    ∧ f.pstatus / 16384 % 2 = s.rdn Gl.ROLE : Prop)
theorem test_PartnerFramesAndInventory_1 : Hyp.PartnerFramesAndInventory_1 s2 pf1 :=
  ⟨by decide, partnerIntactSealed (by decide), by decide⟩
abbrev Hyp.PartnerFramesAndInventory_2 := fun (s : State) (f : PFrame) => (s.paired = true ∧ partnerIntact s.duplex.lastSof f = true ∧ f.seg.len ≤ 29
    ∧ f.pstatus / 16384 % 2 ≠ s.rdn Gl.ROLE : Prop)
theorem test_PartnerFramesAndInventory_2 : Hyp.PartnerFramesAndInventory_2 s2 pf2 :=
  ⟨by decide, partnerIntactSealed (by decide), by decide⟩
abbrev Hyp.PartnerFramesAndInventory_3 := fun (s : State) (m : InvMsg) => (s.paired = true
    ∧ (m.productCode ≠ s.rdn Gl.PRODUCT_CODE ∨ m.role = s.rdn Gl.ROLE) : Prop)
theorem test_PartnerFramesAndInventory_3 : Hyp.PartnerFramesAndInventory_3 s2 { productCode := 5, revision := 3, serial := 7, role := 1, configDigest := 9, items := [] } :=
  by decide
abbrev Hyp.PartnerFramesAndInventory_4 := fun (s : State) (m : InvMsg) => (s.paired = true ∧ m.productCode = s.rdn Gl.PRODUCT_CODE
    ∧ m.role ≠ s.rdn Gl.ROLE : Prop)
theorem test_PartnerFramesAndInventory_4 : Hyp.PartnerFramesAndInventory_4 s2 { productCode := 219545601, revision := 3, serial := 7, role := 1, configDigest := 0, items := [(0, 2, 5, true), (0, 3, 0, false), (1, 0, 4, false), (2, 0, 7, true), (3, 0, 9, false)] } :=
  by decide
abbrev Hyp.MirrorMessages_0 := fun (s : State) (n : Nat) (_seq : Nat) (_ts : Nat) (_payload : List ByteN) => (s.paired = true ∧ s.holds = false
    ∧ n < 32 ∧ (isProducer s n = false ∨ n ≠ s.pn Gl.SUMMARY_CONNECTION) : Prop)
theorem test_MirrorMessages_0 : Hyp.MirrorMessages_0 s2 0 0 0 [] :=
  by decide
abbrev Hyp.MirrorMessages_1 := fun (s : State) (x : SnapDoor) => (s.paired = true ∧ s.holds = false ∧ x.d < s.doorways : Prop)
theorem test_MirrorMessages_1 : Hyp.MirrorMessages_1 s2 { d := 0, state := 5, faultCause := 3, retryCount := 1, status := 9, warnLeft := 0, dwellLeft := 0, autoLeft := 0 } :=
  by decide
abbrev Hyp.MirrorMessages_2 := fun (s : State) (m : MoveMsg) => (s.paired = true ∧ s.holds = false ∧ m.d < 16 : Prop)
theorem test_MirrorMessages_2 : Hyp.MirrorMessages_2 s2 { d := 3, moveId := 5, starts := [], targets := [6], start := 0, limits := [] } :=
  by decide
abbrev Hyp.MirrorMessages_3 := fun (s : State) (seconds : Nat) => (s.paired = true ∧ s.holds = false ∧ seconds ≤ max32 : Prop)
theorem test_MirrorMessages_3 : Hyp.MirrorMessages_3 s2 0 :=
  by decide
abbrev Hyp.MirrorMessages_4 := fun (s : State) (a : Nat) (dir : Nat) (state : Nat) (_cycles : Nat) (_offset : Int) (bs : List ByteN) =>
    (s.paired = true ∧ a < 48 ∧ isLeaf s a = true ∧ dir ≤ 1 ∧ bs.length = 1024 ∧ 1 ≤ state ∧ state ≤ 4 : Prop)
theorem test_MirrorMessages_4 : Hyp.MirrorMessages_4 s2 0 0 1 0 0 by1 :=
  by decide +kernel
abbrev Hyp.MirrorMessages_5 := fun (s : State) (n : Nat) (px : List (Option Nat)) => (s.paired = true ∧ n < 32 ∧ px.length = 3072 : Prop)
theorem test_MirrorMessages_5 : Hyp.MirrorMessages_5 s2 0 px1 :=
  by decide +kernel
abbrev Hyp.MirrorMessages_6 := fun (s : State) (d : Nat) (_strokes : List Int) (_pos : List Int) (_peakOpen : Nat) (_peakClose : Nat) (_serial : Nat) =>
    (s.paired = true ∧ d < s.doorways : Prop)
theorem test_MirrorMessages_6 : Hyp.MirrorMessages_6 s2 0 [] [] 0 0 0 :=
  by decide
abbrev Hyp.MirrorMessages_7 := fun (s : State) (index : Nat) (sub : Nat) (v : Int) (generation : Nat) => (s.paired = true
    ∧ mirrored s (key index sub) = true ∧ keepsOwn s (key index sub) generation = false ∧ (fun w =>
    w.answer = some 0) (writeEntry .mirror index sub (.num v) none s) : Prop)
theorem test_MirrorMessages_7 : Hyp.MirrorMessages_7 s2 12295 1 0 0 :=
  by and_intros <;> decide
abbrev Hyp.MirrorMessages_8 := fun (s : State) (index : Nat) (sub : Nat) (v : Int) (generation : Nat) => (s.paired = true
    ∧ mirrored s (key index sub) = true ∧ keepsOwn s (key index sub) generation = false ∧ (fun w =>
    w.answer ≠ some 0) (writeEntry .mirror index sub (.num v) none s) : Prop)
theorem test_MirrorMessages_8 : Hyp.MirrorMessages_8 s2 12295 1 3 0 :=
  by and_intros <;> decide
abbrev Hyp.MirrorMessages_9 := fun (s : State) (tag : Nat) m => (s.paired = true ∧ s.duplex.outbox.find? (fun m => m.tag == tag) = some m
    ∧ m.tries < 3 ∧ unsent m = false ∧ m.sentAt + 100 ≤ s.now : Prop)
theorem test_MirrorMessages_9 : Hyp.MirrorMessages_9 s14 1 { tag := 1, type := 7, data := [1], next := 1, tries := 0, sentAt := 5, firstAt := 5, timeout := 50, item := none } :=
  by decide
abbrev Hyp.MirrorMessages_10 := fun (s : State) (tag : Nat) m => (s.paired = true ∧ s.duplex.outbox.find? (fun m => m.tag == tag) = some m
    ∧ m.firstAt + 50 * m.timeout ≤ s.now : Prop)
theorem test_MirrorMessages_10 : Hyp.MirrorMessages_10 s10 1 { tag := 1, type := 7, data := [1], next := 0, tries := 0, sentAt := 5, firstAt := 5, timeout := 50, item := some (3, 0) } :=
  by decide
abbrev Hyp.MirrorMessages_11 := fun (s : State) (via : Via) => (s.paired = true ∧ (fun u =>
    Reaches via 0x2601 10 1 none s u 1) (after (front via (requestClass 0x2601 10 false) (0x2601, 10, .num 1, none) s)) : Prop)
theorem test_MirrorMessages_11 : Hyp.MirrorMessages_11 s2 Via.mirror :=
  ⟨by decide, reaches (by decide)⟩
end Duplex

/-! ### Networks and the dictionary -/
namespace Network
def authed (s : State) : State := {s with sessions := [{num := 5, level := .commissioner, anchor := 0, counter := 0, lastValid := 0, source := 2}]}
def base0 : State := wrs (cfgs on [(Gl.SET_DOORWAY_TYPE 0, 2)]) [(Gl.BOOT_MODE,0),(Gl.SET_STATE, 1), (Gl.SECURITY_STATE, 1), (Gl.DOMAINS_ON, 255)]
def base : State := { base0 with net := {base0.net with nmt := 5, frozen := [(Cb.ENABLE 0, 1), (Cb.ENABLE 1, 1), (Et.ENABLE 0, 1), (Et.ENABLE 1, 1)].foldl (fun m x => putD 2 m x.1 x.2) base0.net.frozen}}
def nt (s : State) (f : Net → Net) : State := {s with net := f s.net}
def pdo (s : State) (rx : Bool) (ty tm : Int) : State := wrs s [(key (pdoComm rx 1) 1, 0x181), (key (pdoComm rx 1) 2, ty), (key (pdoComm rx 1) 5, tm),
    (key (pdoMap rx 1) 0, 1), (key (pdoMap rx 1) 1, 0x30010108)]
def s0 : State := authed base
def s5 : State := {nt base (fun x => {x with segs := [(0, {index := 0x3006, sub := 2, bytes := [1], last := 5}), (3, {index := 0x3006, sub := 2, bytes := [1], last := 5})], kept := [{source := 1, reqId := 3, counter := 0, content := (1,2,.num 3,none), abort := 0, at_ := 5}], bulk := [(0, {next := 1, bytes := [4], last := 999999}), (1, {next := 0, bytes := [], last := 3})], syncSeen := some 5}) with now := 40000000}
def s6 : State := nt (wrs base [(Gl.SYNC_PERIOD, 1000), (Gl.PRODUCER_HEARTBEAT, 10), (Gl.CONSUMER_HEARTBEAT 1, 0x50064)]) (fun x =>
    {x with syncSeen := some 5, bulk := [(0, {next := 1, bytes := [4], last := 999999}), (1, {next := 1, bytes := [4], last := 3})]})
def s7 : State := pdo base true 255 0
def s8 : State := pdo base true 1 0
def s9 : State := nt (pdo base true 255 10) (fun x => {x with rpdoSeen := [(1, 5)]})
def s10 : State := pdo base false 255 0
def s14 : State := base.wr Gl.C1_RESERVED 112
def s15 : State := nt ((pdo base true 255 0).wr Gl.C1_RESERVED 0) (fun x => {x with rpdoHeld := (List.range 104).map (fun i => (i, []))})

abbrev Hyp.DictionaryWrites_0 := fun (s : State) (via : Via) (index : Nat) (sub : Nat) (v : Int) => ((fun u => Reaches via index sub v none s u v
    ∧ (index, sub) ∈ [(0x1006, 0), (0x2400, 8), (0x2430, 1), (0x2600, 15), (0x340C, 2), (0x3800, 2), (0x3800, 4), (0x3A01, 3), (0x3A11, 1), (0x6004,
    1)]) (after (front via (requestClass index sub false) (index, sub, .num v, none) s)) : Prop)
theorem test_DictionaryWrites_0 : Hyp.DictionaryWrites_0 s0 Via.mirror 4102 0 0 :=
  ⟨reaches (by decide), by decide⟩
abbrev Hyp.DictionaryWrites_1 := fun (s : State) (via : Via) (index : Nat) (sub : Nat) (v : Int) (ab : Nat) => ((fun u =>
    front via (requestClass index sub false) (index, sub, .num v, none) s = .go u ∧ via ≠ .pdo ∧ (∀ r, rowOf index sub = some r → r.ty ≠ .domain)
    ∧ checkNum via index sub (.num v) none (levelsFor index sub) u = .error ab) (after (front via (requestClass index sub false) (index, sub, .num v,
    none) s)) : Prop)
theorem test_DictionaryWrites_1 : Hyp.DictionaryWrites_1 s0 Via.sdo 4102 0 0 150994960 :=
  ⟨goes (by decide), by decide, ofRow (by decide), errs (by decide)⟩
abbrev Hyp.DictionaryWrites_2 := fun (s : State) (via : Via) (index : Nat) (sub : Nat) (v : Int) => ((fun u =>
    front via (requestClass index sub false) (index, sub, .num v, none) s = .go u ∧ via ≠ .pdo ∧ (rowsOf index).any (fun r =>
    r.hasIndex index) = false) (after (front via (requestClass index sub false) (index, sub, .num v, none) s)) : Prop)
theorem test_DictionaryWrites_2 : Hyp.DictionaryWrites_2 s0 Via.sdo 30583 1 0 :=
  ⟨goes (by decide), by decide⟩
abbrev Hyp.DictionaryWrites_3 := fun (s : State) (via : Via) (index : Nat) (sub : Nat) (v : Int) r => ((fun u =>
    front via (requestClass index sub false) (index, sub, .num v, none) s = .go u ∧ via ≠ .pdo ∧ rowOf index sub = some r ∧ r.ty ≠ .domain
    ∧ r.doorway index sub = none ∧ via ≠ .mirror ∧ (levelsFor index sub).isNone = true
    ∧ levelMayWrite r.acc (levelOf via u) = false) (after (front via (requestClass index sub false) (index, sub, .num v, none) s)) : Prop)
theorem test_DictionaryWrites_3 : Hyp.DictionaryWrites_3 s0 Via.sdo 4102 0 0 { base := 4102, stride := 1, count := 1, subLo := 0, subHi := 0, ty := Ty.u32, acc := Acc.rwm, persist := true, dflt := 0, ranges := [(0, 0), (1000, 1000000)], unit := true, inst := Inst.none } :=
  ⟨goes (by decide), by decide⟩
abbrev Hyp.DictionaryWrites_4 := fun (s : State) (via : Via) (index : Nat) (sub : Nat) (v : Int) r => ((fun u =>
    front via (requestClass index sub false) (index, sub, .num v, none) s = .go u ∧ via ≠ .pdo ∧ rowOf index sub = some r ∧ r.ty ≠ .domain
    ∧ r.doorway index sub = none ∧ via ≠ .mirror ∧ (r.acc = .ro ∨ r.acc = .const)
    ∧ (levelsFor index sub).isNone = true) (after (front via (requestClass index sub false) (index, sub, .num v, none) s)) : Prop)
theorem test_DictionaryWrites_4 : Hyp.DictionaryWrites_4 s0 Via.sdo 8464 1 0 { base := 8464, stride := 1, count := 1, subLo := 1, subHi := 1, ty := Ty.u32, acc := Acc.ro, persist := false, dflt := 0, ranges := [], unit := true, inst := Inst.none } :=
  ⟨goes (by decide), by decide⟩
abbrev Hyp.NetworkTimersAndFrames_0 := fun (s : State) (source : Nat) w => (lookup (source + 1) s.net.segs = some w ∧ w.timedOut = false
    ∧ w.last + 50000 < s.now : Prop)
theorem test_NetworkTimersAndFrames_0 : Hyp.NetworkTimersAndFrames_0 s5 2 { index := 12294, sub := 2, bytes := [1], last := 5, timedOut := false } :=
  by decide
abbrev Hyp.NetworkTimersAndFrames_1 := fun (s : State) w => (lookup 0 s.net.segs = some w ∧ w.last + 25000 ≤ s.now : Prop)
theorem test_NetworkTimersAndFrames_1 : Hyp.NetworkTimersAndFrames_1 s5 { index := 12294, sub := 2, bytes := [1], last := 5, timedOut := false } :=
  by decide
abbrev Hyp.NetworkTimersAndFrames_4 := fun (s : State) (port : Nat) (header : Nat) (_bs : List ByteN) => ((fun x => s.running = true ∧ port < 2
    ∧ portOn s port = true ∧ header < 17 ∧ header = x.next ∧ header ≠ 0 ∧ s.now < x.last + 5000) (getD {} s.net.bulk port) : Prop)
theorem test_NetworkTimersAndFrames_4 : Hyp.NetworkTimersAndFrames_4 s6 0 1 [] :=
  by and_intros <;> decide
abbrev Hyp.NetworkTimersAndFrames_5 := fun (s : State) (port : Nat) (header : Nat) (bs : List ByteN) (cls : Nat) (further : Bool) => ((fun x =>
    s.running = true ∧ port < 2 ∧ portOn s port = true ∧ header = 0 ∧ x.next = 0 ∧ bulkPending s port = false ∧ bulkClass port bs s = (cls, further)
    ∧ (further = true ∨ slotFree cls s = true)) (getD {} s.net.bulk port) : Prop)
theorem test_NetworkTimersAndFrames_5 : Hyp.NetworkTimersAndFrames_5 s0 0 0 [] 2 false :=
  by and_intros <;> decide
abbrev Hyp.NetworkTimersAndFrames_6 := fun (s : State) (port : Nat) (header : Nat) (bs : List ByteN) (cls : Nat) (further : Bool) => ((fun x =>
    s.running = true ∧ port < 2 ∧ portOn s port = true ∧ header = 0 ∧ x.next = 0 ∧ bulkPending s port = false ∧ bulkClass port bs s = (cls, further)
    ∧ further = false ∧ slotFree cls s = false) (getD {} s.net.bulk port) : Prop)
theorem test_NetworkTimersAndFrames_6 : Hyp.NetworkTimersAndFrames_6 s14 0 0 [] 2 false :=
  by and_intros <;> decide
abbrev Hyp.NetworkTimersAndFrames_7 := fun (s : State) (port : Nat) (header : Nat) (_bs : List ByteN) => ((fun x => s.running = true ∧ port < 2
    ∧ portOn s port = true ∧ header % 128 ≠ x.next) (getD {} s.net.bulk port) : Prop)
theorem test_NetworkTimersAndFrames_7 : Hyp.NetworkTimersAndFrames_7 s0 0 1 [] :=
  by and_intros <;> decide
abbrev Hyp.NetworkTimersAndFrames_8 := fun (s : State) (port : Nat) x => (lookup port s.net.bulk = some x ∧ x.last + 5000 ≤ s.now : Prop)
theorem test_NetworkTimersAndFrames_8 : Hyp.NetworkTimersAndFrames_8 s5 0 { next := 1, bytes := [4], last := 999999, cls := 2, slot := true } :=
  by decide
abbrev Hyp.NetworkTimersAndFrames_9 := fun (s : State) (port : Nat) => (ethOn s port = true ∧ ((getD [] s.net.icmp port).filter (fun t =>
    decide (s.now < t + 50000))).length < 10 : Prop)
theorem test_NetworkTimersAndFrames_9 : Hyp.NetworkTimersAndFrames_9 s0 0 :=
  by decide
abbrev Hyp.NetworkTimersAndFrames_10 := fun (s : State) (port : Nat) (_ip : Nat) (_mac : Nat) => (ethOn s port = true : Prop)
theorem test_NetworkTimersAndFrames_10 : Hyp.NetworkTimersAndFrames_10 s0 0 0 0 :=
  by decide
abbrev Hyp.NetworkTimersAndFrames_11 := fun (s : State) (port : Nat) (_speed : Nat) (_up : Bool) => (ethOn s port = true : Prop)
theorem test_NetworkTimersAndFrames_11 : Hyp.NetworkTimersAndFrames_11 s0 0 0 true :=
  by decide
abbrev Hyp.NetworkTimersAndFrames_12 := fun (s : State) (port : Nat) => (s.running = true ∧ port < 2 ∧ portOn s port = true : Prop)
theorem test_NetworkTimersAndFrames_12 : Hyp.NetworkTimersAndFrames_12 s0 0 :=
  by decide
abbrev Hyp.NetworkTimersAndFrames_13 := fun (s : State) (via : Via) => ((fun u =>
    Reaches via 0x2430 7 1 none s u 1) (after (front via (requestClass 0x2430 7 false) (0x2430, 7, .num 1, none) s)) : Prop)
theorem test_NetworkTimersAndFrames_13 : Hyp.NetworkTimersAndFrames_13 s0 Via.mirror :=
  reaches (by decide)
abbrev Hyp.CanopenServices_0 := fun (s : State) (code : Nat) (state : Nat) => (canopen s = true ∧ (code, state) ∈ [(1, 5), (2, 4), (128, 127)] : Prop)
theorem test_CanopenServices_0 : Hyp.CanopenServices_0 s0 1 5 :=
  by decide
abbrev Hyp.CanopenServices_1 := fun (s : State) (code : Nat) => (canopen s = true ∧ (code = 129 ∨ code = 130) : Prop)
theorem test_CanopenServices_1 : Hyp.CanopenServices_1 s0 129 :=
  by decide
abbrev Hyp.CanopenServices_2 := fun (s : State) => (canopen s = true ∧ s.net.nmt ≠ 4 ∧ s.net.rpdoHeld = [] : Prop)
theorem test_CanopenServices_2 : Hyp.CanopenServices_2 s0 :=
  by decide
abbrev Hyp.CanopenServices_3 := fun (s : State) last => (canopen s = true ∧ s.net.syncSeen = some last ∧ s.rdn Gl.SYNC_PERIOD ≠ 0
    ∧ 20 * last + s.rdn Gl.SYNC_PERIOD < 20 * s.now : Prop)
theorem test_CanopenServices_3 : Hyp.CanopenServices_3 s6 5 :=
  by decide
abbrev Hyp.CanopenServices_4 := fun (s : State) (i : Nat) => (canopen s = true ∧ i < 4 ∧ s.rdn (Gl.CONSUMER_HEARTBEAT i) / 65536 % 128 ≠ 0
    ∧ s.rdn (Gl.CONSUMER_HEARTBEAT i) % 65536 ≠ 0 : Prop)
theorem test_CanopenServices_4 : Hyp.CanopenServices_4 s6 1 :=
  by decide
abbrev Hyp.CanopenServices_5 := fun (s : State) (n : Nat) (_bs : List ByteN) => (canopen s = true ∧ pdoOn s true n = true
    ∧ slotFree 1 s = false : Prop)
theorem test_CanopenServices_5 : Hyp.CanopenServices_5 s15 1 [] :=
  by decide
abbrev Hyp.CanopenServices_6 := fun (s : State) (n : Nat) (bs : List ByteN) => (canopen s = true ∧ pdoOn s true n = true
    ∧ bs.length ≠ pdoLen s true n ∧ slotFree 1 s = true : Prop)
theorem test_CanopenServices_6 : Hyp.CanopenServices_6 s7 1 [] :=
  by decide
abbrev Hyp.CanopenServices_7 := fun (s : State) (n : Nat) (bs : List ByteN) => (canopen s = true ∧ pdoOn s true n = true
    ∧ bs.length = pdoLen s true n ∧ slotFree 1 s = true ∧ pdoType s true n ≤ 240 : Prop)
theorem test_CanopenServices_7 : Hyp.CanopenServices_7 s8 1 [1] :=
  by decide
abbrev Hyp.CanopenServices_8 := fun (s : State) (n : Nat) (bs : List ByteN) (index : Nat) (sub : Nat) (bytes : Nat) => (canopen s = true
    ∧ pdoOn s true n = true ∧ pdoEntries s true n = [(index, sub, bytes)] ∧ bs.length = bytes ∧ 240 < pdoType s true n ∧ pdoTimer s true n = 0
    ∧ slotFree 1 s = true : Prop)
theorem test_CanopenServices_8 : Hyp.CanopenServices_8 s7 1 [1] 12289 1 1 :=
  by and_intros <;> decide
abbrev Hyp.CanopenServices_9 := fun (s : State) (n : Nat) last => (canopen s = true ∧ pdoOn s true n = true ∧ pdoTimer s true n ≠ 0
    ∧ lookup n s.net.rpdoSeen = some last ∧ last + 50 * pdoTimer s true n ≤ s.now : Prop)
theorem test_CanopenServices_9 : Hyp.CanopenServices_9 s9 1 5 :=
  by decide
abbrev Hyp.CanopenServices_10 := fun (s : State) (n : Nat) => (canopen s = true ∧ pdoOn s false n = true ∧ pdoCount s false n ≠ 0
    ∧ tpdoDue s n = true : Prop)
theorem test_CanopenServices_10 : Hyp.CanopenServices_10 s10 1 :=
  by decide
abbrev Hyp.CanopenServices_11 := fun (s : State) => (canopen s = true ∧ s.rdn Gl.PRODUCER_HEARTBEAT ≠ 0
    ∧ s.net.hbSent + 50 * s.rdn Gl.PRODUCER_HEARTBEAT ≤ s.now : Prop)
theorem test_CanopenServices_11 : Hyp.CanopenServices_11 s0 :=
  by decide
end Network

/-! ### Recorder -/
namespace Recorder
def msg : Via := .msg {source := 2, session := 5, counter := 3}
def authed (s : State) : State := {s with sessions := [{num := 5, level := .commissioner, anchor := 0, counter := 0, lastValid := 0, source := 2}]}
def base : State := wrs (cfgs on [(Gl.SET_DOORWAY_TYPE 0, 2)]) [(Gl.BOOT_MODE,0),(Gl.SET_STATE, 1), (Gl.SECURITY_STATE, 1), (Gl.DOMAINS_ON, 255),
    (Gl.OPERATING_SECONDS, 59)]
def rc (s : State) (f : Recorder → Recorder) : State := {s with recd := f s.recd}
def ev (c i : Nat) : Event := {code := c, inst := i, datum := 5, secs := 9, cycles := 1}
def s0 : State := authed base
def s1 : State := rc base (fun r => {r with intake := [ev 0x1043 2, ev 0x3001 0]})
def s2 : State := rc base (fun r => {r with intake := [ev 0x1043 2], log := [⟨ev 0x1043 2, false⟩]})
def s4 : State := rc base (fun r => {r with samples := [{area := 1, hist := 9, value := -5}], minuteMax := [4,5,6]})
def s6 : State := rc (authed base) (fun r =>
    {r with contexts := [{source := 2, area := 1, cursor := 3, bulkLeft := 20, lastUse := 3999999}, {source := 1, area := 7, cursor := 2, bulkLeft := 20, lastUse := 5}, {source := 0, area := 1, cursor := 256, bulkLeft := 0, lastUse := 1500000}]}) |> (fun s => {s with now := 4000000})

abbrev Hyp.RecorderIntake_0 := fun (s : State) (e : Event) (rest : List Event) => (s.recd.intake = e :: rest ∧ s.recd.accepting = true
    ∧ (s.recd.sampleTurn = false ∨ s.recd.samples = []) ∧ s.rdn Gl.FIRST_LOG_COUNT < 16383 ∧ (s.recd.log.any (fun x =>
    x.ev.code == e.code && x.ev.inst == e.inst) = false ∨ alwaysLog e.code = true) : Prop)
theorem test_RecorderIntake_0 : Hyp.RecorderIntake_0 s1 { code := 4163, inst := 2, datum := 5, secs := 9, cycles := 1 } [{ code := 12289, inst := 0, datum := 5, secs := 9, cycles := 1 }] :=
  by decide
abbrev Hyp.RecorderIntake_1 := fun (s : State) (e : Event) (rest : List Event) => (s.recd.intake = e :: rest ∧ s.recd.accepting = true
    ∧ (s.recd.sampleTurn = false ∨ s.recd.samples = []) ∧ s.rdn Gl.FIRST_LOG_COUNT < 16383 ∧ s.recd.log.any (fun x =>
    x.ev.code == e.code && x.ev.inst == e.inst) = true ∧ alwaysLog e.code = false : Prop)
theorem test_RecorderIntake_1 : Hyp.RecorderIntake_1 s2 { code := 4163, inst := 2, datum := 5, secs := 9, cycles := 1 } [] :=
  by decide
abbrev Hyp.RecorderIntake_2 := fun (s : State) (x : Sample) (rest : List Sample) => (s.recd.samples = x :: rest ∧ s.recd.accepting = true
    ∧ (s.recd.sampleTurn = true ∨ s.recd.intake = []) ∧ (x.area = 1 ∨ x.area = 2) : Prop)
theorem test_RecorderIntake_2 : Hyp.RecorderIntake_2 s4 { area := 1, hist := 9, value := -5 } [] :=
  by decide
abbrev Hyp.RecorderIntake_3 := fun (s : State) => (s.rdn Gl.POWER_STATE ≤ 1 : Prop)
theorem test_RecorderIntake_3 : Hyp.RecorderIntake_3 s0 :=
  by decide
abbrev Hyp.RecorderAccess_0 := fun (s : State) (source : Nat) c => (readArrives source 0x6000 2 s = true ∧ ctxOf s source = some c
    ∧ c.cursor < areaRecords s c.area : Prop)
theorem test_RecorderAccess_0 : Hyp.RecorderAccess_0 s0 0 { source := 0, area := 0, cursor := 0, bulkLeft := 0, bulkCount := 0, changeSeq := 0, lastUse := 0, data := [] } :=
  by decide
abbrev Hyp.RecorderAccess_1 := fun (s : State) (source : Nat) c => (readArrives source 0x6000 2 s = true ∧ ctxOf s source = some c
    ∧ areaRecords s c.area ≤ c.cursor : Prop)
theorem test_RecorderAccess_1 : Hyp.RecorderAccess_1 s6 0 { source := 0, area := 1, cursor := 256, bulkLeft := 0, bulkCount := 0, changeSeq := 0, lastUse := 1500000, data := [] } :=
  by decide
abbrev Hyp.RecorderAccess_2 := fun (s : State) (source : Nat) c => (readArrives source 0x6000 7 s = true ∧ ctxOf s source = some c : Prop)
theorem test_RecorderAccess_2 : Hyp.RecorderAccess_2 s0 0 { source := 0, area := 0, cursor := 0, bulkLeft := 0, bulkCount := 0, changeSeq := 0, lastUse := 0, data := [] } :=
  by decide
abbrev Hyp.RecorderAccess_3 := fun (s : State) (source : Nat) (v : Int) c => ((fun u => Reaches (viaOf source) 0x6000 4 v none s u v
    ∧ ctxOf u source = some c) (after (front (viaOf source) (requestClass 0x6000 4 false) (0x6000, 4, .num v, none) s)) : Prop)
theorem test_RecorderAccess_3 : Hyp.RecorderAccess_3 s0 0 0 { source := 0, area := 0, cursor := 0, bulkLeft := 0, bulkCount := 0, changeSeq := 0, lastUse := 0, data := [] } :=
  ⟨reaches (by decide), by decide⟩
abbrev Hyp.RecorderAccess_4 := fun (s : State) (source : Nat) (v : Int) c => ((fun u => Reaches (viaOf source) 0x6000 5 v none s u v
    ∧ ctxOf u source = some c) (after (front (viaOf source) (requestClass 0x6000 5 false) (0x6000, 5, .num v, none) s)) : Prop)
theorem test_RecorderAccess_4 : Hyp.RecorderAccess_4 s0 0 0 { source := 0, area := 0, cursor := 0, bulkLeft := 0, bulkCount := 0, changeSeq := 0, lastUse := 0, data := [] } :=
  ⟨reaches (by decide), by decide⟩
abbrev Hyp.RecorderAccess_6 := fun (s : State) (_source : Nat) (via : Via) (n : Nat) => ((fun u => Reaches via 0x6002 1 n none s u n
    ∧ n ≠ 0) (after (front via (requestClass 0x6002 1 false) (0x6002, 1, .num n, none) s)) : Prop)
theorem test_RecorderAccess_6 : Hyp.RecorderAccess_6 s0 0 (Via.msg { source := 2, session := 5, reqId := 0, counter := 3, tagOk := true }) 1 :=
  ⟨reaches (by decide), by decide⟩
abbrev Hyp.RecorderAccess_7 := fun (s : State) (_source : Nat) (via : Via) (index : Nat) (sub : Nat) (v : Int) => (isHistLimit index = true ∧ (fun u =>
    Reaches via index sub v none s u v ∧ (histPair index sub v u).1 + 30 * (histPair index sub v u).2 ≤ 0x7FFFFFFF) (after (front via (requestClass index sub false) (index, sub, .num v, none) s)) : Prop)
theorem test_RecorderAccess_7 : Hyp.RecorderAccess_7 s0 0 (Via.msg { source := 2, session := 5, reqId := 0, counter := 3, tagOk := true }) 24581 1 0 :=
  ⟨by decide, reaches (by decide), by decide⟩
abbrev Hyp.RecorderAccess_8 := fun (s : State) (_source : Nat) (via : Via) (n : Nat) (sub : Nat) (v : Nat) => (n < 32 ∧ 1 ≤ sub ∧ sub ≤ 4 ∧ (fun u =>
    Reaches via (0x2500 + n) sub v none s u v ∧ (fun g => ecValid u (g 1) (g 2) (g 3) (g 4) = true) ((fun i =>
    if sub = i then v else u.rdn (key (0x2500 + n) i)))) (after (front via (requestClass (0x2500 + n) sub false) ((0x2500 + n), sub, .num v,
    none) s)) : Prop)
theorem test_RecorderAccess_8 : Hyp.RecorderAccess_8 s0 0 (Via.msg { source := 2, session := 5, reqId := 0, counter := 3, tagOk := true }) 0 1 0 :=
  ⟨by decide, by decide, by decide, reaches (by decide), by decide⟩
abbrev Hyp.RecorderAccess_9 := fun (s : State) (_source : Nat) (via : Via) (n : Nat) => (n < 32 ∧ (fun u =>
    Reaches via (0x2500 + n) 7 1 none s u 1) (after (front via (requestClass (0x2500 + n) 7 false) ((0x2500 + n), 7, .num 1, none) s)) : Prop)
theorem test_RecorderAccess_9 : Hyp.RecorderAccess_9 s0 0 (Via.msg { source := 2, session := 5, reqId := 0, counter := 3, tagOk := true }) 0 :=
  ⟨by decide, reaches (by decide)⟩
end Recorder

/-! ### Power and wake -/
namespace Power
def authed (s : State) : State := {s with sessions := [{num := 5, level := .commissioner, anchor := 0, counter := 0, lastValid := 0, source := 2}]}
def base : State := wrs (cfgs on [(Gl.SET_DOORWAY_TYPE 0, 2), (Gl.SET_DOORWAY_TYPE 3, 3), (Gl.LEARN_FLOOR, 77)]) [(Gl.BOOT_MODE,0),(Gl.SET_STATE, 1),
    (Gl.SECURITY_STATE, 1), (Gl.DOMAINS_ON, 255), (Gl.VID_CODE, 5), (Dr.STATE 0, 1), (Dr.STATE 3, 9), (Gl.WAKE_ENABLE, 7), (Lk.LINK_STATE 0, 5),
    (Gl.LEARN_FLOOR, 77)]
def pw (s : State) (f : Power → Power) : State := {s with power := f s.power}
def hold (s : State) : State := {s with duplex := {s.duplex with driving := true}}
def st (f : Power → Power) : State := pw base (fun p => f {p with phase := .stabled})
def s0 : State := authed base
def s2 : State := wrs (st (fun p => {p with committedAt := some 999990})) [(Gl.RTC_TIME, 9), (Gl.RTC_ALARM, 9)]
def s3 : State := st id
def s7 : State := wrs (st id) [(Gl.RTC_TIME, 9), (Gl.RTC_ALARM, 9), (Gl.WAKE_IN_EDGE, 2)]
def s9 : State := (st (fun p => {p with committedAt := some 5, latched := some 2}))
def s10 : State := pw base (fun p => {p with phase := .w1, stepAt := 999990})
def s11 : State := pw base (fun p => {p with phase := .w2, stepAt := 999990})
def s12 : State := pw base (fun p => {p with phase := .w3, stepAt := 999995, source := 3})
def s13 : State := pw base (fun p => {p with phase := .w1, stepAt := 9990})
def s14 : State := pw base (fun p => {p with phase := .w3, stepAt := 9990, retried := true})
def s15 : State := pw base (fun p => {p with phase := .pause, stepAt := 9990})
def s16 : State := hold (pw (authed base) (fun p => {p with sleepFrom := some 5}))
def s17 : State := pw (base.wr (Dr.STATE 3) 3) (fun p => {p with sleepFrom := some 5})
def s22 : State := pw (base.wr Gl.POWER_STATE 1) (fun p => {p with motionIdle := some 5, senseIdle := some 5})
def s23 : State := base.wr Gl.DOMAINS_ON 0
def s24 : State := pw base (fun p => {p with hotSince := some 5})

abbrev Hyp.WakeSequence_0 := fun (s : State) (c : Instr) (src : Nat) (met : Bool) => ((c, src, met) ∈ [ (Instr.wake (.ofCmd 1), 1,
    s.bit Gl.WAKE_ENABLE 0 && decide (s.rdn Gl.FAILED_WAKES < 3)), (Instr.wakeInEdge true, 2,
    s.bit Gl.WAKE_ENABLE 1 && decide (s.rdn Gl.FAILED_WAKES < 3) && (s.rdn Gl.WAKE_IN_EDGE == 1 || s.rdn Gl.WAKE_IN_EDGE == 2)),
    (Instr.wakeInEdge false, 2, s.bit Gl.WAKE_ENABLE 1 && decide (s.rdn Gl.FAILED_WAKES < 3) && (s.rdn Gl.WAKE_IN_EDGE == 0 || s.rdn Gl.WAKE_IN_EDGE == 2)), (Instr.rtcAlarm, 3, s.bit Gl.WAKE_ENABLE 2 && decide (s.rdn Gl.FAILED_WAKES < 3) && s.rdn Gl.RTC_ALARM != 0 && s.rdn Gl.RTC_TIME == s.rdn Gl.RTC_ALARM), (Instr.forceWake (.ofCmd 2), 4, true)] ∧ met = true ∧ s.power.phase = .stabled ∧ s.power.latched = none ∧ (s.power.committedAt = none ∨ heldFor s.power.committedAt s.now 1000 = true) : Prop)
theorem test_WakeSequence_0 : Hyp.WakeSequence_0 s3 (Instr.wake { read := false, restart := false, bytes := [1, 254] }) 1 true
    ∧ Hyp.WakeSequence_0 s3 (Instr.wakeInEdge false) 2 true
    ∧ Hyp.WakeSequence_0 s3 (Instr.forceWake { read := false, restart := false, bytes := [2, 253] }) 4 true
    ∧ Hyp.WakeSequence_0 s7 Instr.rtcAlarm 3 true :=
  by and_intros <;> decide
abbrev Hyp.WakeSequence_1 := fun (s : State) (c : Instr) (src : Nat) (met : Bool) => ((c, src, met) ∈ [ (Instr.wake (.ofCmd 1), 1,
    s.bit Gl.WAKE_ENABLE 0 && decide (s.rdn Gl.FAILED_WAKES < 3)), (Instr.wakeInEdge true, 2,
    s.bit Gl.WAKE_ENABLE 1 && decide (s.rdn Gl.FAILED_WAKES < 3) && (s.rdn Gl.WAKE_IN_EDGE == 1 || s.rdn Gl.WAKE_IN_EDGE == 2)),
    (Instr.wakeInEdge false, 2, s.bit Gl.WAKE_ENABLE 1 && decide (s.rdn Gl.FAILED_WAKES < 3) && (s.rdn Gl.WAKE_IN_EDGE == 0 || s.rdn Gl.WAKE_IN_EDGE == 2)), (Instr.rtcAlarm, 3, s.bit Gl.WAKE_ENABLE 2 && decide (s.rdn Gl.FAILED_WAKES < 3) && s.rdn Gl.RTC_ALARM != 0 && s.rdn Gl.RTC_TIME == s.rdn Gl.RTC_ALARM), (Instr.forceWake (.ofCmd 2), 4, true)] ∧ met = true ∧ s.power.phase = .stabled ∧ s.power.latched = none ∧ s.power.committedAt ≠ none ∧ heldFor s.power.committedAt s.now 1000 = false : Prop)
theorem test_WakeSequence_1 : Hyp.WakeSequence_1 s2 (Instr.wake { read := false, restart := false, bytes := [1, 254] }) 1 true
    ∧ Hyp.WakeSequence_1 s2 (Instr.wakeInEdge false) 2 true ∧ Hyp.WakeSequence_1 s2 Instr.rtcAlarm 3 true
    ∧ Hyp.WakeSequence_1 s2 (Instr.forceWake { read := false, restart := false, bytes := [2, 253] }) 4 true :=
  by and_intros <;> decide
abbrev Hyp.WakeSequence_2 := fun (_s : State) (x : WakeTransfer) (c : Instr) (cmd : Nat) => ((c, cmd) ∈ [(Instr.wake x, 1), (Instr.forceWake x, 2)]
    ∧ x ≠ .ofCmd cmd : Prop)
theorem test_WakeSequence_2 : Hyp.WakeSequence_2 s0 { read := false, restart := false, bytes := [1, 254] } (Instr.forceWake { read := false, restart := false, bytes := [1, 254] }) 2 ∧ Hyp.WakeSequence_2 s0 { read := false, restart := false, bytes := [2, 253] } (Instr.wake { read := false, restart := false, bytes := [2, 253] }) 1 :=
  by and_intros <;> decide
abbrev Hyp.WakeSequence_3 := fun (s : State) src => (s.power.phase = .stabled ∧ s.power.latched = some src : Prop)
theorem test_WakeSequence_3 : Hyp.WakeSequence_3 s9 2 :=
  by decide
abbrev Hyp.WakeSequence_4 := fun (s : State) => (s.power.phase = .w1 ∧ s.now ≤ s.power.stepAt + 1000 : Prop)
theorem test_WakeSequence_4 : Hyp.WakeSequence_4 s10 :=
  by decide
abbrev Hyp.WakeSequence_5 := fun (s : State) => (s.power.phase = .w2 ∧ s.now ≤ s.power.stepAt + 500 : Prop)
theorem test_WakeSequence_5 : Hyp.WakeSequence_5 s11 :=
  by decide
abbrev Hyp.WakeSequence_6 := fun (s : State) (_elapsed : Nat) (_stabled : Nat) => (s.power.phase = .w3 ∧ s.now ≤ s.power.stepAt + 10
    ∧ s.power.source ≠ 0 : Prop)
theorem test_WakeSequence_6 : Hyp.WakeSequence_6 s12 0 0 :=
  by decide
abbrev Hyp.WakeSequence_7 := fun (s : State) cause => (wakeTimeout s = some cause ∧ s.power.retried = false : Prop)
theorem test_WakeSequence_7 : Hyp.WakeSequence_7 s13 1 :=
  by decide
abbrev Hyp.WakeSequence_8 := fun (s : State) cause => (wakeTimeout s = some cause ∧ s.power.retried = true : Prop)
theorem test_WakeSequence_8 : Hyp.WakeSequence_8 s14 3 :=
  by decide
abbrev Hyp.WakeSequence_9 := fun (s : State) => (s.power.phase = .pause ∧ s.power.stepAt + 5000 ≤ s.now : Prop)
theorem test_WakeSequence_9 : Hyp.WakeSequence_9 s15 :=
  by decide
abbrev Hyp.PowerCommandsAndSleep_0 := fun (s : State) (via : Via) => ((fun u =>
    Reaches via 0x2100 2 0 none s u 0) (after (front via (requestClass 0x2100 2 false) (0x2100, 2, .num 0, none) s)) : Prop)
theorem test_PowerCommandsAndSleep_0 : Hyp.PowerCommandsAndSleep_0 s0 Via.sdo :=
  reaches (by decide)
abbrev Hyp.PowerCommandsAndSleep_1 := fun (s : State) (via : Via) => ((fun u => Reaches via 0x2100 2 1 none s u 1 ∧ s.rdn Gl.DEBUG_LEVEL ≠ 2
    ∧ s.safety.debugSafe = false) (after (front via (requestClass 0x2100 2 false) (0x2100, 2, .num 1, none) s)) : Prop)
theorem test_PowerCommandsAndSleep_1 : Hyp.PowerCommandsAndSleep_1 s0 Via.sdo :=
  ⟨reaches (by decide), by decide⟩
abbrev Hyp.PowerCommandsAndSleep_2 := fun (s : State) (via : Via) => ((fun u => Reaches via 0x2100 2 2 none s u 2 ∧ s.rdn Gl.DEBUG_LEVEL ≠ 2
    ∧ s.safety.debugSafe = false ∧ doorsQuiet s = true ∧ learning s = false ∧ (allAxes s).any (fun a =>
    (s.axis a).align.isSome || manual s a) = false ∧ s.rdn Gl.WAKE_ENABLE ≠ 0 ∧ (s.rdn Gl.RTC_ALARM = 0 ∨ s.rdn Gl.RTC_TIME + 2 ≤ s.rdn Gl.RTC_ALARM
    ∧ s.bit Gl.WAKE_ENABLE 2 = true)) (after (front via (requestClass 0x2100 2 false) (0x2100, 2, .num 2, none) s)) : Prop)
theorem test_PowerCommandsAndSleep_2 : Hyp.PowerCommandsAndSleep_2 s0 Via.sdo :=
  ⟨reaches (by decide), by decide⟩
abbrev Hyp.PowerCommandsAndSleep_3 := fun (s : State) => (s.running = true ∧ heldFor s.power.sleepFrom s.now 205 = true ∧ doorsQuiet s = true : Prop)
theorem test_PowerCommandsAndSleep_3 : Hyp.PowerCommandsAndSleep_3 s16 :=
  by decide
abbrev Hyp.PowerCommandsAndSleep_4 := fun (s : State) (c : Instr) (status : Nat) (met : Bool) => ((c, status, met) ∈ [ (Instr.sleepCommit, 4,
    heldFor s.power.sleepFrom s.now 205 && !doorsQuiet s), (Instr.sleepAborted none, 4, s.power.sleepFrom.isSome && !doorsQuiet s),
    (Instr.sleepAborted (some .cicada), 3, s.bit Gl.WAKE_ENABLE 0 && s.power.sleepFrom.isSome), (Instr.sleepAborted (some .wakeIn), 3,
    s.bit Gl.WAKE_ENABLE 1 && s.power.sleepFrom.isSome), (Instr.sleepAborted (some .rtc), 3, s.bit Gl.WAKE_ENABLE 2 && s.power.sleepFrom.isSome),
    (Instr.sleepAborted (some .forceWake), 3, s.power.sleepFrom.isSome)] ∧ met = true ∧ s.running = true : Prop)
theorem test_PowerCommandsAndSleep_4 : Hyp.PowerCommandsAndSleep_4 s16 (Instr.sleepAborted (some (WakeSource.cicada))) 3 true
    ∧ Hyp.PowerCommandsAndSleep_4 s17 Instr.sleepCommit 4 true :=
  by and_intros <;> decide
abbrev Hyp.SuppliesAndDomains_0 := fun (s : State) (src : WarnSource) (mv : Nat) => (s.running = true ∧ (src = .io ∧ mv < 3050
    ∧ s.power.warnIo = false ∨ src = .core ∧ mv < coreLimit s ∧ s.power.warnCore = false ∨ src = .ball ∧ s.power.warnBall = false
    ∧ s.power.warnIo = false ∧ s.power.warnCore = false) : Prop)
theorem test_SuppliesAndDomains_0 : Hyp.SuppliesAndDomains_0 s0 WarnSource.io 0 :=
  by decide
abbrev Hyp.SuppliesAndDomains_1 := fun (s : State) (_src : WarnSource) => (s.running = true : Prop)
theorem test_SuppliesAndDomains_1 : Hyp.SuppliesAndDomains_1 s0 WarnSource.io :=
  by decide
abbrev Hyp.SuppliesAndDomains_2 := fun (s : State) (code : Nat) => (s.running = true ∧ code < 16 ∧ s.rdn Gl.VID_CODE < code : Prop)
theorem test_SuppliesAndDomains_2 : Hyp.SuppliesAndDomains_2 s0 6 :=
  by decide
abbrev Hyp.SuppliesAndDomains_3 := fun (s : State) (code : Nat) => (s.running = true ∧ code < 16 ∧ code + 1 = s.rdn Gl.VID_CODE
    ∧ (s.power.vidLowered = none ∨ heldFor s.power.vidLowered s.now 500 = true) : Prop)
theorem test_SuppliesAndDomains_3 : Hyp.SuppliesAndDomains_3 s0 4 :=
  by decide
abbrev Hyp.SuppliesAndDomains_4 := fun (s : State) (i : Nat) => (s.running = true ∧ (i = 4 ∨ i = 7) ∧ s.rdn Gl.POWER_STATE = 1
    ∧ s.bit Gl.DOMAINS_ON i = true ∧ maySleep s i = true ∧ heldFor (if i = 4 then s.power.motionIdle else s.power.senseIdle) s.now 5000 = true : Prop)
theorem test_SuppliesAndDomains_4 : Hyp.SuppliesAndDomains_4 s22 4 :=
  by decide
abbrev Hyp.SuppliesAndDomains_5 := fun (s : State) (i : Nat) (stall : Nat) => (s.running = true ∧ (i = 4 ∨ i = 7) ∧ s.bit Gl.DOMAINS_ON i = false
    ∧ stall ≤ 2000 : Prop)
theorem test_SuppliesAndDomains_5 : Hyp.SuppliesAndDomains_5 s23 4 0 :=
  by decide
abbrev Hyp.SuppliesAndDomains_6 := fun (s : State) (i : Nat) (_via : Option Via) => (s.running = true ∧ (i = 4 ∨ i = 7)
    ∧ s.bit Gl.DOMAINS_ON i = false : Prop)
theorem test_SuppliesAndDomains_6 : Hyp.SuppliesAndDomains_6 s23 4 none :=
  by decide
abbrev Hyp.SuppliesAndDomains_7 := fun (s : State) (temp : Int) => (s.running = true ∧ 1200 < temp ∧ s.power.hotRaised = false
    ∧ heldFor s.power.hotSince s.now 50000 = true : Prop)
theorem test_SuppliesAndDomains_7 : Hyp.SuppliesAndDomains_7 s24 3000 :=
  by decide
abbrev Hyp.SuppliesAndDomains_8 := fun (s : State) (_src : BrownSource) => ((s.power.phase = .run ∨ s.power.phase = .reset) : Prop)
theorem test_SuppliesAndDomains_8 : Hyp.SuppliesAndDomains_8 s0 BrownSource.io :=
  by decide
end Power

/-! ### Resets and boot -/
namespace Reset
def authed (s : State) : State := {s with sessions := [{num := 5, level := .commissioner, anchor := 0, counter := 0, lastValid := 0, source := 2}]}
def base : State := wrs (cfgs on [(Gl.SET_DOORWAY_TYPE 0, 2), (Gl.SET_DOORWAY_TYPE 3, 3), (Gl.LEARN_FLOOR, 77)]) [(Gl.BOOT_MODE,0),(Gl.SET_STATE, 1),
    (Gl.SECURITY_STATE, 1), (Gl.DOMAINS_ON, 255), (Gl.VID_CODE, 5), (Dr.STATE 0, 1), (Dr.STATE 3, 9), (Gl.WAKE_ENABLE, 7), (Lk.LINK_STATE 0, 5),
    (Gl.LEARN_FLOOR, 77), (Gl.CONFIRM, 5), (Gl.WRITE_ENABLE, 1), (Gl.ZERO_SPEED, 1)]
def pw (s : State) (f : Power → Power) : State := {s with power := f s.power}
def hold (s : State) : State := {s with duplex := {s.duplex with driving := true}}
def zs (s : State) : State := {s with safety := {s.safety with relA := 4, relB := 4}}
def s0 : State := (authed base).wr Gl.ZERO_SPEED 0
def s1 : State := zs (authed (hold base))
def s4 : State := pw base (fun p => {p with planned := some (5, 128)})
def s6 : State := State.reset

abbrev Hyp.Resets_0 := fun (s : State) (c : Instr) (cause : Nat) (keep : Bool) (met : Bool) => ((c, cause, keep, met) ∈ [ (Instr.nreset 0x35, 2,
    false, s.power.phase == .run || s.power.phase == .reset), (Instr.watchdog, 32, true, s.running && !inRecoveryMode s), (Instr.internalReset 128,
    128, true, s.running && s.power.planned.any (fun x => x.2 == 128 && decide (x.1 ≤ s.now))), (Instr.internalReset 64, 64, true,
    s.running && s.power.planned.any (fun x => x.2 == 64 && decide (x.1 ≤ s.now)))] ∧ met = true : Prop)
theorem test_Resets_0 : Hyp.Resets_0 s0 (Instr.nreset 53) 2 false true ∧ Hyp.Resets_0 s0 Instr.watchdog 32 true true
    ∧ Hyp.Resets_0 s4 (Instr.internalReset 128) 128 true true :=
  by and_intros <;> decide
abbrev Hyp.Resets_2 := fun (s : State) => (s.running = true ∧ inRecoveryMode s = false : Prop)
theorem test_Resets_2 : Hyp.Resets_2 s0 :=
  by decide
abbrev Hyp.Resets_3 := fun (s : State) (via : Via) => ((fun u => Reaches via 0x2204 6 1 none s u 1 ∧ doorsQuiet s = true
    ∧ zeroSpeed s = true) (after (front via (requestClass 0x2204 6 false) (0x2204, 6, .num 1, none) s)) : Prop)
theorem test_Resets_3 : Hyp.Resets_3 s1 Via.mirror :=
  ⟨reaches (by decide), by decide⟩
abbrev Hyp.BootAndRestore_0 := fun (s : State) (_appOk : List Bool) (_safetyOk : List Bool) (_bad : List Nat) => (s.power.phase = .reset
    ∧ s.power.brown = false ∧ s.power.held = [] : Prop)
theorem test_BootAndRestore_0 : Hyp.BootAndRestore_0 s6 [] [] [] :=
  by and_intros <;> decide
abbrev Hyp.BootAndRestore_1 := fun (s : State) (via : Via) (index : Nat) (sub : Nat) (v : Int) => ((index, sub) ∈ [(0x5020, 1), (0x5050, 8), (0x5050,
    9)] ∧ (fun u => Reaches via index sub v none s u v ∧ (setChecks index sub v u).any (·.1) = false
    ∧ s.rdb Gl.WRITE_ENABLE = true) (after (front via (requestClass index sub false) (index, sub, .num v, none) s)) : Prop)
theorem test_BootAndRestore_1 : Hyp.BootAndRestore_1 s0 Via.mirror 20512 1 1600 :=
  ⟨by decide, reaches (by decide), by decide⟩
abbrev Hyp.BootAndRestore_2 := fun (s : State) (via : Via) => ((fun u =>
    Reaches via 0x1011 1 0x64616F6C none s u 0x64616F6C) (after (front via (requestClass 0x1011 1 false) (0x1011, 1, .num 0x64616F6C,
    none) s)) : Prop)
theorem test_BootAndRestore_2 : Hyp.BootAndRestore_2 s0 Via.mirror :=
  reaches (by decide)
abbrev Hyp.BootAndRestore_3 := fun (s : State) (via : Via) => ((fun u => Reaches via 0x1011 2 0x64616F6C none s u 0x64616F6C
    ∧ s.rdb Gl.WRITE_ENABLE = true) (after (front via (requestClass 0x1011 2 false) (0x1011, 2, .num 0x64616F6C, none) s)) : Prop)
theorem test_BootAndRestore_3 : Hyp.BootAndRestore_3 s0 Via.mirror :=
  ⟨reaches (by decide), by decide⟩
abbrev Hyp.DeviceReset_0 := fun (s : State) (via : Via) => ((fun u => Reaches via 0x2204 6 1 none s u 1 ∧ doorsQuiet s = true ∧ zeroSpeed s = true
    ∧ s.power.planned = none) (after (front via (requestClass 0x2204 6 false) (0x2204, 6, .num 1, none) s)) : Prop)
theorem test_DeviceReset_0 : Hyp.DeviceReset_0 s1 Via.mirror :=
  ⟨reaches (by decide), by decide⟩
abbrev Hyp.DeviceReset_1 := fun (s : State) (via : Via) => ((fun u => Reaches via 0x2204 6 1 none s u 1
    ∧ (doorsQuiet s = false ∨ zeroSpeed s = false)) (after (front via (requestClass 0x2204 6 false) (0x2204, 6, .num 1, none) s)) : Prop)
theorem test_DeviceReset_1 : Hyp.DeviceReset_1 s0 Via.mirror :=
  ⟨reaches (by decide), by decide⟩
abbrev Hyp.DeviceReset_2 := fun (s : State) (via : Via) (v : Int) => ((fun u => front via 3 (0x2204, 6, .num v, none) s = .go u ∧ 1 < v ∧ v ≤ 255
    ∧ (via = .mirror ∨ levelMayWrite .rwm (levelOf via u) = true) ∧ s.rdn Gl.SECURITY_STATE ≠ 3) (after (front via 3 (0x2204, 6, .num v,
    none) s)) : Prop)
theorem test_DeviceReset_2 : Hyp.DeviceReset_2 s0 Via.mirror 4 :=
  ⟨goes (by decide), by decide⟩
abbrev Hyp.DeviceReset_3 := fun (s : State) (via : Via) (v : Int) => ((fun u => front via 3 (0x2204, 6, .num v, none) s = .go u ∧ via ≠ .mirror
    ∧ levelMayWrite .rwm (levelOf via u) = false) (after (front via 3 (0x2204, 6, .num v, none) s)) : Prop)
theorem test_DeviceReset_3 : Hyp.DeviceReset_3 s0 Via.sdo 0 :=
  ⟨goes (by decide), by decide⟩
abbrev Hyp.DeviceReset_4 := fun (s : State) (_via : Via) (at_ : Nat) => (s.running = true ∧ s.power.planned = some (at_, 128) ∧ at_ ≤ s.now : Prop)
theorem test_DeviceReset_4 : Hyp.DeviceReset_4 s4 Via.sdo 5 :=
  by decide
end Reset

/-! ### Identity and firmware -/
namespace Security
def msg : Via := .msg {source := 2, session := 5, counter := 3}
def authed (s : State) : State := {s with sessions := [{num := 5, level := .commissioner, anchor := 0, counter := 0, lastValid := 0, source := 2},{num := 6, level := .vendor, anchor := 255, counter := 0, lastValid := 0, source := 3}]}
def base : State := authed (wrs (cfgs on [(Gl.SET_DOORWAY_TYPE 0, 2), (Gl.SET_DOORWAY_TYPE 3, 3)]) [(Gl.BOOT_MODE,0),(Gl.SET_STATE, 1),
    (Gl.SECURITY_STATE, 1), (Gl.DOMAINS_ON, 255), (Dr.STATE 0, 1), (Dr.STATE 3, 9),(An.ANCHOR_MAX_LEVEL 0, 2), (Gl.LEARN_FLOOR,
    77),(Gl.ZERO_SPEED,1)])
def sh (s : State) (h : Handshake) : State := {s with sec := {s.sec with handshakes := [(2, h),(7,{})]}}
def h1 : Handshake := {credential := [1,2], level := 2, num := 9, asked := some 999990}
def by1 : List ByteN := List.replicate 324 0
def by3 : List ByteN := List.replicate 32 7
def by4 : List ByteN := List.replicate 57 5
def by6 : List ByteN := List.replicate 90 0
def by8 : List ByteN := [0,2,1] ++ List.replicate 178 0
def by9 : List ByteN := List.replicate 114 1
def by10 : List ByteN := List.replicate 150 0
def s0 : State := ({base with sec := {base.sec with nonce := List.replicate 32 0}}).commitAll
def s4 : State := base.wr Gl.SECURITY_STATE 0
def s6 : State := sh base h1
def s7 : State := sh base {h1 with asked := some 5}
def s11 : State := {base with sec := {base.sec with lockUntil := some 5, refused := [1]}}
def s16 : State := wrs base [(Gl.SLOT_STATE 1, 1), (Gl.SLOT_STATE 3, 1)]
def s19 : State := wrs base [(Gl.BOOT_STATE, 1), (Gl.SLOT_SECURITY_VERSION 0, 5),(Gl.SECURITY_STATUS, 8)]

abbrev Hyp.SessionHandshake_0 := fun (s : State) (source : Nat) (bs : List ByteN) => ((fun u => ReachesBytes (viaOf source) 0x2320 1 bs s u
    ∧ 1 ≤ bs.length ∧ bs.length ≤ 2048) (after (front (viaOf source) (requestClass 0x2320 1 false) (0x2320, 1, .bytes bs, none) s)) : Prop)
theorem test_SessionHandshake_0 : Hyp.SessionHandshake_0 s0 0 by1 :=
  ⟨reachesBytes (by decide +kernel), by decide +kernel⟩
abbrev Hyp.SessionHandshake_1 := fun (s : State) (source : Nat) (bs : List ByteN) => ((fun u => ReachesBytes (viaOf source) 0x2320 2 bs s u
    ∧ bs.length = 90) (after (front (viaOf source) (requestClass 0x2320 2 false) (0x2320, 2, .bytes bs, none) s)) : Prop)
theorem test_SessionHandshake_1 : Hyp.SessionHandshake_1 s0 0 by6 :=
  ⟨reachesBytes (by decide +kernel), by decide +kernel⟩
abbrev Hyp.SessionHandshake_2 := fun (s : State) (source : Nat) h => (readArrives source 0x2320 3 s = true ∧ s.shake source = some h : Prop)
theorem test_SessionHandshake_2 : Hyp.SessionHandshake_2 s6 2 { credential := [1, 2], level := 2, anchor := 0, toolKey := [], toolNonce := [], num := 9, deviceScalar := [], deviceKey := [], deviceNonce := [], asked := some 999990 } :=
  by decide
abbrev Hyp.SessionHandshake_3 := fun (s : State) (source : Nat) (bs : List ByteN) h at_ => ((fun u => ReachesBytes (viaOf source) 0x2320 4 bs s u
    ∧ bs.length = 114 ∧ s.shake source = some h ∧ h.asked = some at_
    ∧ s.now < at_ + 500000) (after (front (viaOf source) (requestClass 0x2320 4 false) (0x2320, 4, .bytes bs, none) s)) : Prop)
theorem test_SessionHandshake_3 : Hyp.SessionHandshake_3 s6 2 by9 { credential := [1, 2], level := 2, anchor := 0, toolKey := [], toolNonce := [], num := 9, deviceScalar := [], deviceKey := [], deviceNonce := [], asked := some 999990 } 999990 :=
  ⟨reachesBytes (by decide), by decide⟩
abbrev Hyp.SessionHandshake_4 := fun (s : State) (source : Nat) (bs : List ByteN) h => ((fun u => ReachesBytes (viaOf source) 0x2320 4 bs s u
    ∧ bs.length = 114 ∧ s.shake source = some h
    ∧ (h.asked = none ∨ heldFor h.asked s.now 500000 = true)) (after (front (viaOf source) (requestClass 0x2320 4 false) (0x2320, 4, .bytes bs,
    none) s)) : Prop)
theorem test_SessionHandshake_4 : Hyp.SessionHandshake_4 s6 7 by9 { credential := [], level := 0, anchor := 0, toolKey := [], toolNonce := [], num := 0, deviceScalar := [], deviceKey := [], deviceNonce := [], asked := none } :=
  ⟨reachesBytes (by decide), by decide⟩
abbrev Hyp.SessionHandshake_5 := fun (s : State) (source : Nat) h => (s.shake source = some h ∧ heldFor h.asked s.now 500000 = true : Prop)
theorem test_SessionHandshake_5 : Hyp.SessionHandshake_5 s7 2 { credential := [1, 2], level := 2, anchor := 0, toolKey := [], toolNonce := [], num := 9, deviceScalar := [], deviceKey := [], deviceNonce := [], asked := some 5 } :=
  by decide
abbrev Hyp.SessionHandshake_6 := fun (s : State) => (due s.sec.lockUntil s.now = true : Prop)
theorem test_SessionHandshake_6 : Hyp.SessionHandshake_6 s11 :=
  by decide
abbrev Hyp.SessionHandshake_7 := fun (s : State) (m : Msg) (v : Int) => ((fun u => Reaches (.msg m) 0x2320 5 v none s u v ∧ m.session ≠ 0
    ∧ v = m.session) (after (front (.msg m) (requestClass 0x2320 5 false) (0x2320, 5, .num v, none) s)) : Prop)
theorem test_SessionHandshake_7 : Hyp.SessionHandshake_7 s0 { source := 2, session := 5, reqId := 0, counter := 3, tagOk := true } 5 :=
  ⟨reaches (by decide +kernel), by decide +kernel⟩
abbrev Hyp.SessionHandshake_8 := fun (s : State) (m : Msg) (v : Int) => ((fun u => Reaches (.msg m) 0x2320 5 v none s u v ∧ m.session ≠ 0
    ∧ v ≠ m.session) (after (front (.msg m) (requestClass 0x2320 5 false) (0x2320, 5, .num v, none) s)) : Prop)
theorem test_SessionHandshake_8 : Hyp.SessionHandshake_8 s0 { source := 2, session := 5, reqId := 0, counter := 3, tagOk := true } 1 :=
  ⟨reaches (by decide +kernel), by decide +kernel⟩
abbrev Hyp.IdentityAndDebug_0 := fun (s : State) (via : Via) (bs : List ByteN) => ((fun u => ReachesBytes via 0x2330 1 bs s u
    ∧ bs.length = 32) (after (front via (requestClass 0x2330 1 false) (0x2330, 1, .bytes bs, none) s)) : Prop)
theorem test_IdentityAndDebug_0 : Hyp.IdentityAndDebug_0 s0 Via.sdo by3 :=
  ⟨reachesBytes (by decide +kernel), by decide +kernel⟩
abbrev Hyp.IdentityAndDebug_1 := fun (s : State) (via : Via) (bs : List ByteN) => ((fun u => ReachesBytes via 0x2330 1 bs s u
    ∧ bs.length ≠ 32) (after (front via (requestClass 0x2330 1 false) (0x2330, 1, .bytes bs, none) s)) : Prop)
theorem test_IdentityAndDebug_1 : Hyp.IdentityAndDebug_1 s0 Via.sdo [] :=
  ⟨reachesBytes (by decide +kernel), by decide +kernel⟩
abbrev Hyp.IdentityAndDebug_2 := fun (s : State) (via : Via) (bs : List ByteN) => ((fun u => ReachesBytes via 0x2318 1 bs s u
    ∧ bs.length = 181) (after (front via (requestClass 0x2318 1 false) (0x2318, 1, .bytes bs, none) s)) : Prop)
theorem test_IdentityAndDebug_2 : Hyp.IdentityAndDebug_2 s0 Via.sdo by8 :=
  ⟨reachesBytes (by decide +kernel), by decide +kernel⟩
abbrev Hyp.IdentityAndDebug_3 := fun (s : State) (via : Via) (key_ : List ByteN) => ((fun u => ReachesBytes via 0x2319 1 key_ s u ∧ key_.length = 57
    ∧ (via = .mirror ∨ levelOf via u = .commissioner)
    ∧ (key_.all (· == 0) = false ∨ s.rdn Gl.COSIGN_POLICY ≠ 1)) (after (front via (requestClass 0x2319 1 false) (0x2319, 1, .bytes key_,
    none) s)) : Prop)
theorem test_IdentityAndDebug_3 : Hyp.IdentityAndDebug_3 s0 Via.mirror by4 :=
  ⟨reachesBytes (by decide +kernel), by decide +kernel⟩
abbrev Hyp.IdentityAndDebug_4 := fun (s : State) (via : Via) (v : Int) => ((fun u => Reaches via 0x2319 2 v (some (fun l =>
    l == .commissioner)) s u v ∧ (v = 0 ∨ v = 1
    ∧ (s.blob Gl.COSIGN_KEY).all (· == 0) = false)) (after (front via (requestClass 0x2319 2 false) (0x2319, 2, .num v, none) s)) : Prop)
theorem test_IdentityAndDebug_4 : Hyp.IdentityAndDebug_4 s0 Via.mirror 0 :=
  ⟨reaches (by decide +kernel), by decide +kernel⟩
abbrev Hyp.IdentityAndDebug_5 := fun (s : State) (c : Instr) (level : Int) => ((c, level) ∈ [(Instr.debugUnlockObserve .sdo, 1),
    (Instr.debugUnlockHalt .sdo, 2)] ∧ (fun u => front .sdo 3 (0x2300, 3, .num level, none) s = .go u) (after (front .sdo 3 (0x2300, 3, .num level,
    none) s)) : Prop)
theorem test_IdentityAndDebug_5 : Hyp.IdentityAndDebug_5 s0 (Instr.debugUnlockObserve (Via.sdo)) 1
    ∧ Hyp.IdentityAndDebug_5 s0 (Instr.debugUnlockHalt (Via.sdo)) 2 :=
  ⟨⟨by decide +kernel, goes (by decide +kernel)⟩, ⟨by decide +kernel, goes (by decide +kernel)⟩⟩
abbrev Hyp.IdentityAndDebug_6 := fun (s : State) (via : Via) => ((s.rdn Gl.SECURITY_STATE = 1 ∨ s.rdn Gl.SECURITY_STATE = 2) ∧ doorsQuiet s = true
    ∧ zeroSpeed s = true ∧ (fun u => Reaches via 0x2300 3 1 (some (fun l => l == .commissioner || l == .vendor)) s u 1
    ∧ s.rdn Gl.DEBUG_LEVEL = 0) (after (front via (requestClass 0x2300 3 false) (0x2300, 3, .num 1, none) s)) : Prop)
theorem test_IdentityAndDebug_6 : Hyp.IdentityAndDebug_6 s0 Via.mirror :=
  ⟨by decide +kernel, by decide +kernel, by decide +kernel, reaches (by decide +kernel), by decide +kernel⟩
abbrev Hyp.IdentityAndDebug_7 := fun (s : State) (via : Via) => ((s.rdn Gl.SECURITY_STATE = 1 ∨ s.rdn Gl.SECURITY_STATE = 2) ∧ doorsQuiet s = true
    ∧ zeroSpeed s = true ∧ (fun u => Reaches via 0x2300 3 2 (some (fun l => l == .commissioner || l == .vendor)) s u 2
    ∧ s.rdn Gl.DEBUG_LEVEL ≤ 1) (after (front via (requestClass 0x2300 3 false) (0x2300, 3, .num 2, none) s)) : Prop)
theorem test_IdentityAndDebug_7 : Hyp.IdentityAndDebug_7 s0 Via.mirror :=
  ⟨by decide +kernel, by decide +kernel, by decide +kernel, reaches (by decide +kernel), by decide +kernel⟩
abbrev Hyp.IdentityAndDebug_8 := fun (s : State) => (s.rdn Gl.SECURITY_STATE = 0 : Prop)
theorem test_IdentityAndDebug_8 : Hyp.IdentityAndDebug_8 s4 :=
  by decide
abbrev Hyp.IdentityAndDebug_9 := fun (s : State) (via : Via) (bs : List ByteN) => ((fun u => ReachesBytes via 0x2340 1 bs s u
    ∧ (via = .mirror ∨ levelOf via u = .vendor) ∧ bs.length = 150) (after (front via (requestClass 0x2340 1 false) (0x2340, 1, .bytes bs,
    none) s)) : Prop)
theorem test_IdentityAndDebug_9 : Hyp.IdentityAndDebug_9 s0 Via.mirror by10 :=
  ⟨reachesBytes (by decide +kernel), by decide +kernel⟩
abbrev Hyp.FirmwareUpdate_0 := fun (s : State) (via : Via) (offset : Nat) (len : Nat) (bs : List ByteN) (final : Option FwVerdict) => ((fun u =>
    front via 3 (fwContent offset bs final) s = .go u ∧ levelMayWrite .rwm (levelOf via u) = true ∧ s.rdn Gl.SECURITY_STATE ≠ 3 ∧ bs.length = len
    ∧ len ≤ 1024 ∧ offset + len ≤ (if s.rdn Gl.FW_TARGET = 1 then 3145728 else 524288) ∧ s.sec.activated = none ∧ s.rdn Gl.BOOT_STATE ≠ 1
    ∧ s.bit Gl.SECURITY_STATUS 0 = false ∧ s.net.segs.any (fun x =>
    x.1 != segSource via && x.2.index == 0x2201 && x.2.sub == 2 && !x.2.timedOut) = false ∧ (s.rdn Gl.FW_TARGET = 1 ∨ s.rdn Gl.FW_TARGET = 2)
    ∧ s.rdn Gl.APP_ACTIVE_SLOT ≤ 1 ∧ s.rdn Gl.SAFETY_ACTIVE_SLOT ≤ 1 ∧ (offset = 0 ∨ ∃ w ∈ lookup (segSource via) s.net.segs, w.index = 0x2201
    ∧ w.sub = 2 ∧ w.timedOut = false ∧ s.now ≤ w.last + segPause (segSource via) ∧ offset = s.sec.received)
    ∧ final = none) (after (front via 3 (fwContent offset bs final) s)) : Prop)
theorem test_FirmwareUpdate_0 : Hyp.FirmwareUpdate_0 s0 Via.mirror 0 0 [] none :=
  ⟨goes (by decide +kernel), by and_intros <;> decide +kernel⟩
abbrev Hyp.FirmwareUpdate_1 := fun (s : State) (via : Via) (offset : Nat) (len : Nat) (bs : List ByteN) (final : Option FwVerdict) v => ((fun u =>
    front via 3 (fwContent offset bs final) s = .go u ∧ levelMayWrite .rwm (levelOf via u) = true ∧ s.rdn Gl.SECURITY_STATE ≠ 3 ∧ bs.length = len
    ∧ len ≤ 1024 ∧ offset + len ≤ (if s.rdn Gl.FW_TARGET = 1 then 3145728 else 524288) ∧ s.sec.activated = none ∧ s.rdn Gl.BOOT_STATE ≠ 1
    ∧ s.bit Gl.SECURITY_STATUS 0 = false ∧ s.net.segs.any (fun x =>
    x.1 != segSource via && x.2.index == 0x2201 && x.2.sub == 2 && !x.2.timedOut) = false ∧ (s.rdn Gl.FW_TARGET = 1 ∨ s.rdn Gl.FW_TARGET = 2)
    ∧ s.rdn Gl.APP_ACTIVE_SLOT ≤ 1 ∧ s.rdn Gl.SAFETY_ACTIVE_SLOT ≤ 1 ∧ (offset = 0 ∨ ∃ w ∈ lookup (segSource via) s.net.segs, w.index = 0x2201
    ∧ w.sub = 2 ∧ w.timedOut = false ∧ s.now ≤ w.last + segPause (segSource via) ∧ offset = s.sec.received)
    ∧ final = some v) (after (front via 3 (fwContent offset bs final) s)) : Prop)
theorem test_FirmwareUpdate_1 : Hyp.FirmwareUpdate_1 s0 Via.mirror 0 0 [] (some { vendorSigOk := true, cosigOk := true, digestOk := true }) { vendorSigOk := true, cosigOk := true, digestOk := true } :=
  ⟨goes (by decide +kernel), by and_intros <;> decide +kernel⟩
abbrev Hyp.FirmwareUpdate_2 := fun (s : State) (via : Via) => ((fun u => Reaches via 0x2201 4 1 none s u 1 ∧ s.bit Gl.SECURITY_STATUS 0 = false
    ∧ s.rdn (Gl.SLOT_STATE (targetSlot s (s.rdn Gl.FW_TARGET))) = 1 ∧ s.rdn Gl.BOOT_STATE = 0
    ∧ (s.rdn Gl.BOOT_MODE = 1 ∨ s.rdn Gl.BOOT_MODE = 2 ∨ doorsQuiet s = true
    ∧ zeroSpeed s = true)) (after (front via (requestClass 0x2201 4 false) (0x2201, 4, .num 1, none) s)) : Prop)
theorem test_FirmwareUpdate_2 : Hyp.FirmwareUpdate_2 s16 Via.mirror :=
  ⟨reaches (by decide), by decide⟩
abbrev Hyp.FirmwareUpdate_3 := fun (s : State) (via : Via) => ((fun u => Reaches via 0x2201 5 1 none s u 1 ∧ s.bit Gl.SECURITY_STATUS 0 = false
    ∧ s.rdn Gl.BOOT_STATE = 1) (after (front via (requestClass 0x2201 5 false) (0x2201, 5, .num 1, none) s)) : Prop)
theorem test_FirmwareUpdate_3 : Hyp.FirmwareUpdate_3 s19 Via.mirror :=
  ⟨reaches (by decide), by and_intros <;> decide⟩
end Security

/-! ### Ticks -/
namespace Ticks
def base0 : State := (cfgs on [(Gl.SET_DOORWAY_TYPE 0, 2), (Gl.SET_DOORWAY_TYPE 3, 3), (Gl.SET_DOORWAY_SIDE 3, 1), (Ax.STROKE 0, 700000),
    (Ax.STROKE 1, 700000), (Ax.STROKE 9, 700000), (Ax.STROKE 11, 700000)])
def base := wrs base0 [(Gl.LEFT_RELEASED,1),(Gl.RIGHT_RELEASED,1),(Gl.ZERO_SPEED,1), (Dr.STATE 0, 4), (Dr.STATE 3, 4), (Gl.DOMAINS_ON, 255),
    (Lk.LINK_STATE 0, 5), (Lk.LINK_STATE 3, 5), (Dr.TABLE_STATE 0, 2), (Dr.TABLE_STATE 3, 2), (Gl.WRITE_ENABLE, 1), (Ax.ANGLE_STATE 0, 1),
    (Ax.ANGLE_STATE 1, 1), (Ax.ANGLE_STATE 9, 1)]
def ma (s : State) (a : Nat) (f : Axis → Axis) : State := s.setAxis a (f (s.axis a))
def ev (s : State) (l : List Egress) : State := {s with egress := l}
def lk (s : State) : State := {s with safety := {s.safety with linkSto := true}}
def s0 : State := State.reset
def s2 : State := base
def s3 : State := base.wr Gl.BOOT_MODE 1
def s8 : State := lk (ma (ma base 0 (fun x => {x with setNm := 5000000, posNm := 777777})) 1 (fun x =>
    {x with posNm := 300000000, setNm := 5, iqDemand := 9, intV := 5}))
def s10 : State := ev ((base.wr Gl.BOOT_MODE 1).wr Gl.FAST_TICK_COUNT 4095999999) []

abbrev Hyp.Ticks_0 := fun (s : State) => (s.running = false : Prop)
theorem test_Ticks_0 : Hyp.Ticks_0 s0 :=
  by decide
abbrev Hyp.Ticks_1 := fun (s : State) => (s.running = true ∧ s.operating = false ∧ s.power.sleepFrom = none ∧ s.net.emcyWait = [] : Prop)
theorem test_Ticks_1 : Hyp.Ticks_1 s3 :=
  by decide
abbrev Hyp.Ticks_2 := fun (s : State) => ((s.operating = false ∨ s.bit Gl.DOMAINS_ON 4 = false) ∧ motionDue s = true : Prop)
theorem test_Ticks_2 : Hyp.Ticks_2 s0 :=
  by decide
abbrev Hyp.Ticks_3 := fun (s : State) => (motionDue s = false : Prop)
theorem test_Ticks_3 : Hyp.Ticks_3 s10 :=
  by decide
abbrev Hyp.Ticks_4 := fun (s : State) a => (motionDue s = true ∧ s.operating = true ∧ s.bit Gl.DOMAINS_ON 4 = true ∧ s.safety.linkSto = true
    ∧ a ∈ allAxes s : Prop)
theorem test_Ticks_4 : Hyp.Ticks_4 s8 0 :=
  by decide
abbrev Hyp.Ticks_5 := fun (s : State) (_rep : DoorReport) => (doorDue s = false : Prop)
theorem test_Ticks_5 : Hyp.Ticks_5 s10 { chans := [], inputCurrents := [], lineRefs := none, soLoads := [], otherPower := 0, supplies := none, vfield := none, temps := none, exchange := { a := { lost := false, flips := [] }, b := { lost := false, flips := [] } }, stalls := { aliveA := false, aliveB := false, portA := false, portB := false, byteA := false, byteB := false, copyA := 0, copyB := 0, loops := false, ac0 := false, handed := 0 } } :=
  by decide
abbrev Hyp.Ticks_6 := fun (s : State) (_rep : DoorReport) => (s.running = false ∧ doorDue s = true : Prop)
theorem test_Ticks_6 : Hyp.Ticks_6 s0 { chans := [], inputCurrents := [], lineRefs := none, soLoads := [], otherPower := 0, supplies := none, vfield := none, temps := none, exchange := { a := { lost := false, flips := [] }, b := { lost := false, flips := [] } }, stalls := { aliveA := false, aliveB := false, portA := false, portB := false, byteA := false, byteB := false, copyA := 0, copyB := 0, loops := false, ac0 := false, handed := 0 } } :=
  by decide
abbrev Hyp.Ticks_7 := fun (s : State) (_rep : DoorReport) => (doorDue s = true ∧ s.running = true : Prop)
theorem test_Ticks_7 : Hyp.Ticks_7 s2 { chans := [], inputCurrents := [], lineRefs := none, soLoads := [], otherPower := 0, supplies := none, vfield := none, temps := none, exchange := { a := { lost := false, flips := [] }, b := { lost := false, flips := [] } }, stalls := { aliveA := false, aliveB := false, portA := false, portB := false, byteA := false, byteB := false, copyA := 0, copyB := 0, loops := false, ac0 := false, handed := 0 } } :=
  by decide
abbrev Hyp.Ticks_8 := fun (s : State) (_rep : DoorReport) => (doorDue s = true ∧ s.running = true ∧ s.operating = false : Prop)
theorem test_Ticks_8 : Hyp.Ticks_8 s3 { chans := [], inputCurrents := [], lineRefs := none, soLoads := [], otherPower := 0, supplies := none, vfield := none, temps := none, exchange := { a := { lost := false, flips := [] }, b := { lost := false, flips := [] } }, stalls := { aliveA := false, aliveB := false, portA := false, portB := false, byteA := false, byteB := false, copyA := 0, copyB := 0, loops := false, ac0 := false, handed := 0 } } :=
  by decide
abbrev Hyp.FastTickCounts_0 := fun (s : State) => (s.running = true : Prop)
theorem test_FastTickCounts_0 : Hyp.FastTickCounts_0 s2 :=
  by decide
abbrev Hyp.FastTickCounts_1 := fun (s : State) => (s.running = true : Prop)
theorem test_FastTickCounts_1 : Hyp.FastTickCounts_1 s2 :=
  by decide
abbrev Hyp.FastTickCounts_2 := fun (s : State) (_rep : DoorReport) => (s.running = true : Prop)
theorem test_FastTickCounts_2 : Hyp.FastTickCounts_2 s2 { chans := [], inputCurrents := [], lineRefs := none, soLoads := [], otherPower := 0, supplies := none, vfield := none, temps := none, exchange := { a := { lost := false, flips := [] }, b := { lost := false, flips := [] } }, stalls := { aliveA := false, aliveB := false, portA := false, portB := false, byteA := false, byteB := false, copyA := 0, copyB := 0, loops := false, ac0 := false, handed := 0 } } :=
  by decide
end Ticks

end Sys2Proof.Tests
end

namespace Sys2Proof.Machine

/-! ### The next state of a command -/

/-- The state in which a command ends is its meaning's, settled. -/
theorem eq_settle_of_done {s u t : State} (h : done s u = .next t) : t = u.settle s.pending := by
  injection h with h
  exact h.symm

/-! ### Frames of another PROTOCOL on Ethernet (R430) -/

/-- A UDP payload of another PROTOCOL is no NSL frame (R430): it is counted on its port and in DM_FORMAT_ERRORS, and nothing else follows. -/
theorem exec_nslFrameReceived_foreign {s : State} {f : NslFrame} (hop : s.operating = true) (hport : f.port < 4) (hon : portOn s f.port = true)
    (hwhole : fragmented f = false) (heth : 2 ≤ f.port) (hhead : f.head.1 ≠ 0x4E) :
    exec (.nslFrameReceived f) s = done s ((s.portRx f.port).count Gl.DM_FORMAT_ERRORS) := by
  have hin : ¬ (s.operating = false ∨ 4 ≤ f.port ∨ portOn s f.port = false) := by simp [hop, hon, hport]
  show execNslFrameReceived f s = _
  rw [execNslFrameReceived, if_neg hin, if_neg (by simp [hwhole]), if_pos ⟨heth, hhead⟩]

/-- An operating module with ETH0 enabled. -/
def ethernetOn : State :=
  { State.reset with power := { phase := .run }, net := { frozen := [(Et.ENABLE 0, 1)] } }.wr Gl.BOOT_MODE 0

/-- A UDP payload on ETH0 whose PROTOCOL is 0, processed `us` after its ingress. -/
def foreignFrame (us : Nat) : NslFrame := { port := 2, bytes := [], head := (0, 0), latencyUs := us }

/-- What the foreign frame leaves on the module. -/
theorem exec_foreignFrame (us : Nat) : exec (.nslFrameReceived (foreignFrame us)) ethernetOn
    = done ethernetOn ((ethernetOn.portRx 2).count Gl.DM_FORMAT_ERRORS) :=
  exec_nslFrameReceived_foreign (by decide) (by decide : (2 : Nat) < 4) (by decide : portOn ethernetOn 2 = true) rfl (Nat.le_refl 2) (by decide : (0 : Nat) ≠ 0x4E)

/-- Neither C0_DEADLINE_MISSES nor UNKNOWN_IDENTITY counts a foreign frame. -/
theorem rdn_foreignFrame {k : Nat} (hk : k ∈ [Gl.C0_DEADLINE_MISSES, Gl.UNKNOWN_IDENTITY]) :
    (((ethernetOn.portRx 2).count Gl.DM_FORMAT_ERRORS).settle ethernetOn.pending).rdn k = 0 := by
  rw [rdn_settle (by revert k; decide)]
  revert k
  decide

/-- Refutes O41: the statement names no PROTOCOL. A late UDP payload of another PROTOCOL on a port that takes frames is no C0 frame (R430);
it is counted in DM_FORMAT_ERRORS, and C0_DEADLINE_MISSES stays 0. -/
theorem not_lateFrameEntersTheSafeState : ¬ Obligations.LateFrameEntersTheSafeState := by
  unfold Obligations.LateFrameEntersTheSafeState
  intro h
  obtain ⟨⟨t, ht, hmiss, -⟩, -⟩ := h ethernetOn (foreignFrame 251) (by decide) (by decide) (by decide) rfl (by decide)
  rw [exec_foreignFrame] at ht
  rw [eq_settle_of_done ht, rdn_foreignFrame (by simp)] at hmiss
  exact absurd hmiss (by decide)

/-- Refutes O39: a frame that belongs to no consumer of its port is claimed to count in UNKNOWN_IDENTITY whatever its PROTOCOL is; one of
another PROTOCOL counts in DM_FORMAT_ERRORS instead (R430). -/
theorem not_nslConsumerTakesFrames : ¬ Obligations.NslConsumerTakesFrames := by
  unfold Obligations.NslConsumerTakesFrames
  intro h
  obtain ⟨-, hwhole⟩ := h ethernetOn (foreignFrame 0) (by decide) (by decide) (by decide)
  obtain ⟨hunknown, -⟩ := hwhole rfl (Nat.zero_le _) _ rfl
  obtain ⟨t, ht, hcount, -⟩ := hunknown _ rfl (by decide)
  rw [exec_foreignFrame] at ht
  rw [eq_settle_of_done ht, if_neg (by decide), rdn_foreignFrame (by simp)] at hcount
  exact absurd hcount (by decide)

/-! ### A session that has lapsed without its timeout's command (R433) -/

/-- A door tick in which nothing was measured. -/
def quietReport : DoorReport :=
  { chans := [], inputCurrents := [], lineRefs := none, soLoads := [], otherPower := 0, supplies := none, vfield := none, temps := none,
    exchange := { a := { lost := false, flips := [] }, b := { lost := false, flips := [] } },
    stalls := { aliveA := false, aliveB := false, portA := false, portB := false, byteA := false, byteB := false, copyA := 0, copyB := 0,
                loops := false, ac0 := false, handed := 0 } }

/-- A running module in recovery, 2000 s after its start: session 1 had no valid request since then, and session 2 opens. -/
def lapsedSession : State :=
  { State.reset with
    now := 100000000, power := { phase := .run }
    sessions := [{ num := 1, level := .maintainer, anchor := 1 }]
    sec := { opening := [{ num := 2, level := .maintainer, anchor := 1, lastValid := 100000000 }] } }.wr Gl.BOOT_MODE 1

/-- That module after its door tick. -/
def lapsedSessionTicked : State := { lapsedSession with boundary := { lapsedSession.boundary with doorAt := some lapsedSession.now } }.doorTick quietReport

theorem exec_doorTick_lapsedSession : exec (.doorTick quietReport) lapsedSession = done lapsedSession lapsedSessionTicked := by
  show execDoorTick quietReport lapsedSession = _
  rw [execDoorTick, if_neg (by decide), lapsedSessionTicked]

/-- SESSIONS_OPEN shows the one session that is live; the lapsed one stands beside it until its SESSION_TIMEOUT. -/
theorem lapsedSessionTicked_sessions : lapsedSessionTicked.rdn Gl.SESSIONS_OPEN = 1 ∧ lapsedSessionTicked.sessions.length = 2 := by
  decide +kernel

/-- Refutes O59: after a door tick that opened a session, SESSIONS_OPEN is claimed to be the number of sessions kept. It is the number of those that
are live (R433): a session whose 600 s have run out is not counted, and stays in the list until its SESSION_TIMEOUT comes. -/
theorem not_ticks : ¬ Obligations.Ticks := by
  unfold Obligations.Ticks
  intro h
  obtain ⟨-, -, -, -, -, -, -, -, hrecovery⟩ := h lapsedSession
  obtain ⟨t, ht, -, -, -, -, -, -, hopen, -⟩ := hrecovery quietReport (by decide) (by decide) (by decide)
  rw [exec_doorTick_lapsedSession] at ht
  have hshown := hopen (by decide)
  rw [eq_settle_of_done ht, rdn_settle (by decide), settle_blind (f := State.sessions) (fun _ _ _ _ _ => rfl)] at hshown
  obtain ⟨hone, htwo⟩ := lapsedSessionTicked_sessions
  omega

end Sys2Proof.Machine

namespace Sys2Proof.Machine

/-! ### Folds over the instances -/

/-- What every step of a fold keeps, the fold keeps. -/
theorem foldl_keeps {σ α β : Type} (f : σ → α) {g : σ → β → σ} (h : ∀ s b, f (g s b) = f s) (l : List β) (s : σ) : f (l.foldl g s) = f s :=
  List.foldlRecOn l g (motive := fun t => f t = f s) rfl fun t ht b _ => (h t b).trans ht

/-! ### The inputs of a die without supply (R375) -/

theorem stampContact_blind {α : Type} {f : State → α} (h : ∀ (s : State) (c : Store Contacts), f { s with contacts := c } = f s) (s : State) (d c : Nat) :
    f (s.stampContact d c) = f s := h s _

theorem stampDie_blind {α : Type} {f : State → α}
    (h : ∀ (s : State) (p : Pairs) (c : Store Contacts), f { s with pairs := p, contacts := c } = f s) (s : State) : f s.stampDie = f s := by
  have contacts : ∀ (s : State) (c : Store Contacts), f { s with contacts := c } = f s := fun s c => h s s.pairs c
  refine foldl_keeps f (fun s p => ?_) _ s
  refine (foldl_keeps f (fun s d => foldl_keeps f (fun s i => ?_) _ s) _ _).trans (h s _ s.contacts)
  split
  · exact stampContact_blind contacts s d _
  · rfl

theorem stepInactive_blind {α : Type} {f : State → α}
    (h : ∀ (s : State) (n : Nat), f { s with boundary := { s.boundary with stepSeen := n } } = f s) (s : State) (n : Nat) (v : Bool) :
    f (s.stepInactive n v) = f s := by
  refine foldl_keeps f (fun s p => ?_) _ s
  split
  · exact h s _
  · rfl

/-- One input of a die taken as inactive. -/
def State.inputInactive (s : State) (n : Nat) : State :=
  (((s.setB Gl.INPUT_STATE n false).wr (In.FILTERED n) 0).setEdge n false).stepInactive n false

theorem dieInactive_eq (s : State) (die : Nat) :
    s.dieInactive die = ((List.range 24).foldl (fun (s : State) i => s.inputInactive (24 * die + i)) s).stampDie := rfl

theorem inputInactive_blind {α : Type} {f : State → α} (hr : RegBlind f)
    (hb : ∀ (s : State) (e n : Nat), f { s with boundary := { s.boundary with edgeIn := e, stepSeen := n } } = f s) (s : State) (n : Nat) :
    f (s.inputInactive n) = f s :=
  (stepInactive_blind (fun s m => hb s s.boundary.edgeIn m) _ n false).trans
    ((hb _ _ _).trans ((wr_blind hr _ _ _).trans (setB_blind hr s _ n false)))

theorem dieInactive_blind {α : Type} {f : State → α} (hr : RegBlind f)
    (hb : ∀ (s : State) (e n : Nat), f { s with boundary := { s.boundary with edgeIn := e, stepSeen := n } } = f s)
    (hp : ∀ (s : State) (p : Pairs) (c : Store Contacts), f { s with pairs := p, contacts := c } = f s) (s : State) (die : Nat) :
    f (s.dieInactive die) = f s := by
  rw [dieInactive_eq, stampDie_blind hp]
  exact foldl_keeps f (fun s i => inputInactive_blind hr hb s _) _ s

theorem dict_stampDie (s : State) : s.stampDie.dict = s.dict := stampDie_blind (f := State.dict) (fun _ _ _ => rfl) s

/-- The registers that an input taken as inactive writes: its bit and its own entry. -/
theorem dict_inputInactive (s : State) (n : Nat) : (s.inputInactive n).dict = ((s.setB Gl.INPUT_STATE n false).wr (In.FILTERED n) 0).dict :=
  stepInactive_blind (f := State.dict) (fun _ _ => rfl) _ n false

theorem rd_inputInactive {k : Nat} (hi : k ≠ Gl.INPUT_STATE) (s : State) (n : Nat) (hf : k ≠ In.FILTERED n) : (s.inputInactive n).rd k = s.rd k := by
  rw [rd_of_dict (dict_inputInactive s n), rd_wr_ne hf, State.setB, rd_wr_ne hi]

theorem filtered_ne_inputState (n : Nat) : Gl.INPUT_STATE ≠ In.FILTERED n := by
  simp only [Gl.INPUT_STATE, In.FILTERED, key]
  omega

theorem bit_inputState_inputInactive (s : State) (n m : Nat) :
    (s.inputInactive n).bit Gl.INPUT_STATE m = if m = n then false else s.bit Gl.INPUT_STATE m := by
  have h : (s.inputInactive n).bit Gl.INPUT_STATE m = (s.setB Gl.INPUT_STATE n false).bit Gl.INPUT_STATE m := by
    rw [State.bit, rd_of_dict (dict_inputInactive s n), rd_wr_ne (filtered_ne_inputState n), State.bit]
  rw [h, bit_setB]
  simp

/-- After `c` inputs of a die: those read inactive, all others as before. -/
theorem bit_inputState_foldl (s : State) (die c m : Nat) :
    ((List.range c).foldl (fun (s : State) i => s.inputInactive (24 * die + i)) s).bit Gl.INPUT_STATE m
      = (s.bit Gl.INPUT_STATE m && !(decide (24 * die ≤ m) && decide (m < 24 * die + c))) := by
  induction c with
  | zero => simp; omega
  | succ c ih =>
    rw [List.range_succ, List.foldl_append, List.foldl_cons, List.foldl_nil, bit_inputState_inputInactive, ih]
    split
    · next e => simp [e]
    · next e =>
      have : decide (m < 24 * die + (c + 1)) = decide (m < 24 * die + c) := by simp only [decide_eq_decide]; omega
      rw [this]

/-- Every input of the die reads inactive, and no other input changes (R375). -/
theorem bit_inputState_dieInactive (s : State) (die n : Nat) :
    (s.dieInactive die).bit Gl.INPUT_STATE n = (s.bit Gl.INPUT_STATE n && dieOf n != die) := by
  have hd : (s.dieInactive die).bit Gl.INPUT_STATE n
      = ((List.range 24).foldl (fun (s : State) i => s.inputInactive (24 * die + i)) s).bit Gl.INPUT_STATE n := by
    rw [dieInactive_eq, State.bit, rd_of_dict (dict_stampDie _), State.bit]
  rw [hd, bit_inputState_foldl]
  congr 1
  rw [Bool.eq_iff_iff]
  simp [dieOf]
  omega

theorem rd_dieInactive {k : Nat} (hi : k ≠ Gl.INPUT_STATE) (hf : ∀ n, k ≠ In.FILTERED n) (s : State) (die : Nat) : (s.dieInactive die).rd k = s.rd k := by
  rw [dieInactive_eq, rd_of_dict (dict_stampDie _)]
  exact foldl_keeps (fun t : State => t.rd k) (fun s i => rd_inputInactive hi s _ (hf _)) _ s

/-! ### The safe outputs (R17, R18, R248) -/

theorem setOut_blind {α : Type} {f : State → α} (h : ∀ (s : State) (x : Safety), f { s with safety := x } = f s) (s : State) (k : Nat) (x : SafeOut) :
    f (s.setOut k x) = f s := h s _

theorem showSwitches_blind {α : Type} {f : State → α} (h : RegBlind f) (s : State) (k : Nat) : f (s.showSwitches k) = f s := by
  unfold State.showSwitches
  split
  · rw [setB_blind h, setB_blind h]
  · rfl

/-- An output whose energy does not change: its record is written, and its switch bits while it is open. -/
def State.outSteady (s : State) (k : Nat) (x : SafeOut) (on hs ls : Bool) : State :=
  if on then s.setOut k x else ((s.setOut k x).setB (Gl.SO_STATUS k) 0 hs).setB (Gl.SO_STATUS k) 1 ls

/-- An output that closes. -/
def State.outCloses (s : State) (k : Nat) (x y : SafeOut) : State :=
  ((((s.setOut k x).setB (Gl.SO_STATUS k) 2 true).setB Gl.SO_STATE k true).setOut k y).showSwitches k

/-- An output that opens, before the sample of its time. -/
def State.outOpens (s : State) (k : Nat) (x y : SafeOut) (hs ls : Bool) : State :=
  (((((s.setOut k x).setB (Gl.SO_STATUS k) 2 false).setB Gl.SO_STATE k false).setOut k y).setB (Gl.SO_STATUS k) 0 hs).setB (Gl.SO_STATUS k) 1 ls

/-- What carrying out the demands of a safe output can do (R17). -/
theorem driveOut_cases (s : State) (k : Nat) :
    (∃ x hs ls, energised s k = (switchOn s k .hs && switchOn s k .ls) ∧ s.driveOut k = s.outSteady k x (switchOn s k .hs && switchOn s k .ls) hs ls)
    ∨ (∃ x y, (switchOn s k .hs && switchOn s k .ls) = true ∧ s.driveOut k = s.outCloses k x y)
    ∨ (∃ x y hs ls, s.driveOut k = s.outOpens k x y hs ls)
    ∨ (∃ x y hs ls n v, s.driveOut k = (s.outOpens k x y hs ls).sample 3 n v) := by
  unfold State.driveOut
  extract_lets x dem hs ls x' s' was now
  split
  · next same => exact .inl ⟨x', _, _, same.symm, rfl⟩
  · split
    · next on => exact .inr (.inl ⟨x', _, on, rfl⟩)
    · split
      · exact .inr (.inr (.inr ⟨x', _, _, _, _, _, rfl⟩))
      · exact .inr (.inr (.inl ⟨x', _, _, _, rfl⟩))

theorem driveOut_blind {α : Type} {f : State → α} (hr : RegBlind f) (hs : ∀ (s : State) (x : Safety), f { s with safety := x } = f s)
    (hx : ∀ (s : State) (n : Nat) (v : Int), f (s.sample 3 n v) = f s) (s : State) (k : Nat) : f (s.driveOut k) = f s := by
  have opens : ∀ x y hs ls, f (s.outOpens k x y hs ls) = f s := fun x y a b => by
    rw [State.outOpens, setB_blind hr, setB_blind hr, setOut_blind hs, setB_blind hr, setB_blind hr, setOut_blind hs]
  rcases driveOut_cases s k with ⟨x, a, b, _, e⟩ | ⟨x, y, _, e⟩ | ⟨x, y, a, b, e⟩ | ⟨x, y, a, b, n, v, e⟩ <;> rw [e]
  · unfold State.outSteady
    split
    · exact setOut_blind hs s k x
    · rw [setB_blind hr, setB_blind hr, setOut_blind hs]
  · rw [State.outCloses, showSwitches_blind hr, setOut_blind hs, setB_blind hr, setB_blind hr, setOut_blind hs]
  · exact opens x y a b
  · rw [hx, opens]

theorem driveOuts_blind {α : Type} {f : State → α} (hr : RegBlind f) (hs : ∀ (s : State) (x : Safety), f { s with safety := x } = f s)
    (hx : ∀ (s : State) (n : Nat) (v : Int), f (s.sample 3 n v) = f s) (s : State) : f s.driveOuts = f s :=
  foldl_keeps f (fun s k => driveOut_blind hr hs hx s k) _ s

theorem code_sample (s : State) (a n : Nat) (v : Int) (c : Nat) : (s.sample a n v).code c = s.code c := by
  unfold State.sample
  split
  · rfl
  · rw [code_latch, code_count]

theorem code_driveOuts (s : State) (c : Nat) : s.driveOuts.code c = s.code c :=
  driveOuts_blind (f := (State.code · c)) (fun _ _ => rfl) (fun _ _ => rfl) (fun s n v => code_sample s 3 n v c) s

theorem rd_setOut (s : State) (k : Nat) (x : SafeOut) (j : Nat) : (s.setOut k x).rd j = s.rd j := rfl

theorem rd_showSwitches {k j : Nat} (h : j ≠ Gl.SO_STATUS k) (s : State) : (s.showSwitches k).rd j = s.rd j := by
  unfold State.showSwitches State.setB
  split
  · rw [rd_wr_ne h, rd_wr_ne h]
  · rfl

theorem rd_outOpens {k j : Nat} (hstat : j ≠ Gl.SO_STATUS k) (hstate : j ≠ Gl.SO_STATE) (s : State) (x y : SafeOut) (hs ls : Bool) :
    (s.outOpens k x y hs ls).rd j = s.rd j := by
  simp only [State.outOpens, State.setB, rd_wr_ne hstat, rd_wr_ne hstate, rd_setOut]

/-- What a safe output does to a register that is none of its own. -/
theorem rd_driveOut {k j : Nat} (hstat : j ≠ Gl.SO_STATUS k) (hstate : j ≠ Gl.SO_STATE) (hsample : j ∉ sampleRegs) (s : State) :
    (s.driveOut k).rd j = s.rd j := by
  rcases driveOut_cases s k with ⟨x, a, b, _, e⟩ | ⟨x, y, _, e⟩ | ⟨x, y, a, b, e⟩ | ⟨x, y, a, b, n, v, e⟩ <;> rw [e]
  · unfold State.outSteady
    split
    · exact rd_setOut s k x j
    · rw [State.setB, State.setB, rd_wr_ne hstat, rd_wr_ne hstat, rd_setOut]
  · simp only [State.outCloses, rd_showSwitches hstat, State.setB, rd_wr_ne hstat, rd_wr_ne hstate, rd_setOut]
  · exact rd_outOpens hstat hstate s x y a b
  · rw [rd_sample hsample, rd_outOpens hstat hstate]

theorem soStatus_ne_soState (k : Nat) : Gl.SO_STATUS k ≠ Gl.SO_STATE := by
  simp only [Gl.SO_STATUS, Gl.SO_STATE, key]
  omega

theorem soStatus_inj {j k : Nat} (h : Gl.SO_STATUS j = Gl.SO_STATUS k) : j = k := by
  simp only [Gl.SO_STATUS, key] at h
  omega

theorem soStatus_not_sampleRegs {k : Nat} (hk : k < 6) : Gl.SO_STATUS k ∉ sampleRegs := by
  intro h
  simp only [sampleRegs, List.mem_cons, List.not_mem_nil, or_false, Gl.SO_STATUS, Gl.SAMPLES_LOST, Gl.RECORDER_STATUS, Gl.RECORDER_REPEATS, key] at h
  omega

theorem energised_driveOut_ne {j k : Nat} (hj : j < 6) (h : j ≠ k) (s : State) : energised (s.driveOut k) j = energised s j := by
  rw [energised, State.bit, rd_driveOut (fun e => h (soStatus_inj e)) (soStatus_ne_soState j) (soStatus_not_sampleRegs hj), energised, State.bit]

theorem energised_outOpens (s : State) (k : Nat) (x y : SafeOut) (hs ls : Bool) : energised (s.outOpens k x y hs ls) k = false := by
  rw [energised, State.outOpens, bit_setB_bit_ne (by decide), bit_setB_bit_ne (by decide), State.bit, rd_setOut, ← State.bit,
    bit_setB_ne (soStatus_ne_soState k), bit_setB_same]

/-- Without the supply of a die, one of the two switches of every output is open (R18). -/
theorem switchOn_supplyMissing {s : State} (h : supplyMissing s = true) (k : Nat) : (switchOn s k .hs && switchOn s k .ls) = false := by
  simp only [supplyMissing, Bool.or_eq_true] at h
  rcases h with h | h <;> simp [switchOn, dieOpen, h]

theorem energised_driveOut_supplyMissing {s : State} (h : supplyMissing s = true) {k : Nat} (hk : k < 6) : energised (s.driveOut k) k = false := by
  have off := switchOn_supplyMissing h k
  rcases driveOut_cases s k with ⟨x, a, b, same, e⟩ | ⟨x, y, on, _⟩ | ⟨x, y, a, b, e⟩ | ⟨x, y, a, b, n, v, e⟩
  · rw [e, energised, off, State.outSteady, if_neg Bool.false_ne_true, bit_setB_bit_ne (by decide), bit_setB_bit_ne (by decide)]
    exact same.trans off
  · rw [off] at on
    exact absurd on Bool.false_ne_true
  · rw [e, energised_outOpens]
  · rw [e, energised, State.bit, rd_sample (soStatus_not_sampleRegs hk)]
    exact energised_outOpens s k x y a b

theorem fieldStatus_not_sampleRegs : Gl.FIELD_STATUS ∉ sampleRegs := by decide

theorem fieldStatus_ne_soStatus (k : Nat) : Gl.FIELD_STATUS ≠ Gl.SO_STATUS k := by
  simp only [Gl.FIELD_STATUS, Gl.SO_STATUS, key]
  omega

theorem rd_fieldStatus_driveOut (s : State) (k : Nat) : (s.driveOut k).rd Gl.FIELD_STATUS = s.rd Gl.FIELD_STATUS :=
  rd_driveOut (fieldStatus_ne_soStatus k) (by decide) fieldStatus_not_sampleRegs s

theorem rd_fieldStatus_driveOuts (s : State) : s.driveOuts.rd Gl.FIELD_STATUS = s.rd Gl.FIELD_STATUS :=
  foldl_keeps (State.rd · Gl.FIELD_STATUS) rd_fieldStatus_driveOut _ s

theorem supplyMissing_driveOut (s : State) (k : Nat) : supplyMissing (s.driveOut k) = supplyMissing s := by
  simp only [supplyMissing, State.bit, rd_fieldStatus_driveOut]

/-- With a supply missing, every safe output opens (R18). -/
theorem energised_driveOuts_supplyMissing {s : State} (h : supplyMissing s = true) {k : Nat} (hk : k < 6) : energised s.driveOuts k = false := by
  have opened : ∀ c, c ≤ 6 → supplyMissing ((List.range c).foldl (fun s k => s.driveOut k) s) = true
      ∧ ∀ k, k < c → energised ((List.range c).foldl (fun s k => s.driveOut k) s) k = false := by
    intro c
    induction c with
    | zero => exact fun _ => ⟨h, fun k hk => absurd hk (Nat.not_lt_zero k)⟩
    | succ c ih =>
      intro hc
      obtain ⟨missing, before⟩ := ih (Nat.le_of_succ_le hc)
      rw [List.range_succ, List.foldl_append, List.foldl_cons, List.foldl_nil]
      refine ⟨(supplyMissing_driveOut _ c).trans missing, fun k hk => ?_⟩
      rcases Nat.lt_succ_iff_lt_or_eq.mp hk with lt | rfl
      · rw [energised_driveOut_ne (Nat.lt_of_lt_of_le hk hc) (Nat.ne_of_lt lt)]
        exact before k lt
      · exact energised_driveOut_supplyMissing missing hc
  exact (opened 6 (Nat.le_refl 6)).2 k hk

/-! ### A field supply that fails (R374) -/

/-- What a failing supply shows and raises, before its die's inputs and the safe outputs follow. -/
def State.supplyLost (s : State) (die mv : Nat) : State :=
  ((((s.showSupply die mv).setB Gl.FIELD_STATUS (2 * die + 1) true).latch Gl.FIELD_STATUS (8 + (2 * die + 1)) (Gl.FIELD_REPEATS (2 * die + 1))).raise
    0x0442 die mv)

theorem exec_vfieldMissing_enter {s : State} {die mv : Nat} (hd : die < 2) (hmv : mv < 9000) (off : s.bit Gl.FIELD_STATUS (2 * die + 1) = false) :
    exec (.vfieldMissing die true mv) s = done s ((s.supplyLost die mv).dieInactive die).driveOuts := by
  show execVfieldMissing die true mv s = _
  unfold execVfieldMissing
  exact congrArg (done s) (if_pos ⟨hd, rfl, hmv, off⟩)

theorem exec_vfieldMissing_leave {s : State} {die mv : Nat} (hd : die < 2) (hmv : 10000 < mv) (on : s.bit Gl.FIELD_STATUS (2 * die + 1) = true) :
    exec (.vfieldMissing die false mv) s = done s ((s.showSupply die mv).setB Gl.FIELD_STATUS (2 * die + 1) false) := by
  show execVfieldMissing die false mv s = _
  unfold execVfieldMissing
  refine congrArg (done s) ((if_neg fun h => ?_).trans (if_pos ⟨hd, rfl, hmv, on⟩))
  exact Bool.false_ne_true h.2.1

theorem fieldStatus_ne_fieldRepeats (i : Nat) : Gl.FIELD_STATUS ≠ Gl.FIELD_REPEATS i := by
  simp only [Gl.FIELD_STATUS, Gl.FIELD_REPEATS, key]
  omega

theorem fieldStatus_not_eventRegs : Gl.FIELD_STATUS ∉ eventRegs := by decide

theorem fieldStatus_not_wiredRegs : Gl.FIELD_STATUS ∉ wiredRegs := by decide

theorem fieldStatus_ne_filtered (n : Nat) : Gl.FIELD_STATUS ≠ In.FILTERED n := by
  simp only [Gl.FIELD_STATUS, In.FILTERED, key]
  omega

theorem bit_latch_bit_ne {w r i j : Nat} (hr : w ≠ r) (h : j ≠ i) (s : State) : (s.latch w i r).bit w j = s.bit w j := by
  unfold State.latch State.addSat
  split
  · exact bit_wr_ne hr s j _
  · split
    · rw [bit_setB_bit_ne h, bit_wr_ne hr]
    · exact bit_setB_bit_ne h s w true

theorem bit_missing_supplyLost (s : State) (die mv : Nat) : (s.supplyLost die mv).bit Gl.FIELD_STATUS (2 * die + 1) = true := by
  rw [State.supplyLost, bit_raise fieldStatus_not_eventRegs, bit_latch_bit_ne (fieldStatus_ne_fieldRepeats _) (by omega), bit_setB_same]

theorem bit_latched_supplyLost (s : State) (die mv : Nat) : (s.supplyLost die mv).bit Gl.FIELD_STATUS (9 + 2 * die) = true := by
  rw [show 9 + 2 * die = 8 + (2 * die + 1) by omega, State.supplyLost, bit_raise fieldStatus_not_eventRegs,
    bit_latch_same (fieldStatus_ne_fieldRepeats _)]

theorem counted_supplyLost (s : State) (die mv : Nat) : Counted 0x0442 s (s.supplyLost die mv) := by
  have same : ∀ t : State, t.recd = s.recd → Counted 0x0442 s (t.raise 0x0442 die mv) := fun t e => by
    have h := counted_raise t 0x0442 die mv
    rwa [Counted, code_of_recd e] at h
  exact same _ (latch_blind (f := State.recd) (fun _ _ => rfl) _ _ _ _)

theorem inputState_ne_vfield (die : Nat) : Gl.INPUT_STATE ≠ if die = 0 then Gl.VFIELD_A else Gl.VFIELD_B := by
  split <;> decide

theorem rd_inputState_supplyLost (s : State) (die mv : Nat) : (s.supplyLost die mv).rd Gl.INPUT_STATE = s.rd Gl.INPUT_STATE := by
  have repeats : Gl.INPUT_STATE ≠ Gl.FIELD_REPEATS (2 * die + 1) := by
    simp only [Gl.INPUT_STATE, Gl.FIELD_REPEATS, key]
    omega
  rw [State.supplyLost, rd_raise (by decide), rd_latch_ne (by decide) repeats, State.setB, rd_wr_ne (by decide), State.showSupply, State.wrn,
    rd_wr_ne (inputState_ne_vfield die)]

theorem supplyMissing_of_bit {s : State} {die : Nat} (hd : die < 2) (h : s.bit Gl.FIELD_STATUS (2 * die + 1) = true) : supplyMissing s = true := by
  obtain rfl | rfl : die = 0 ∨ die = 1 := by omega
  · simp [supplyMissing, h]
  · simp [supplyMissing, h]

/-- The state without what a failing supply touches beside registers and events: the readings of the pairs and the contacts, the safe
outputs, the edges of the inputs. -/
def State.sansInputs (s : State) : State :=
  { s.sansEvents with pairs := {}, contacts := [], safety := {}, boundary := { s.boundary with edgeIn := 0, stepSeen := 0 } }

theorem sansInputs_blind : EventBlind State.sansInputs := fun _ _ _ _ _ _ => rfl

theorem sansInputs_supplyLost (s : State) (die mv : Nat) : (s.supplyLost die mv).sansInputs = s.sansInputs := by
  have hr := sansInputs_blind.reg
  rw [State.supplyLost, raise_blind sansInputs_blind, latch_blind hr, setB_blind hr]
  exact wr_blind hr s _ _

theorem sansInputs_dieInactive (s : State) (die : Nat) : (s.dieInactive die).sansInputs = s.sansInputs :=
  dieInactive_blind sansInputs_blind.reg (fun _ _ _ => rfl) (fun _ _ _ => rfl) s die

theorem sansInputs_driveOuts (s : State) : s.driveOuts.sansInputs = s.sansInputs :=
  driveOuts_blind sansInputs_blind.reg (fun _ _ => rfl) (fun s n v => sample_blind sansInputs_blind s 3 n v) s

/-- `s` with those parts of `t`. -/
def State.withInputs (s t : State) : State :=
  { s with pairs := t.pairs, contacts := t.contacts, safety := t.safety,
           boundary := { s.boundary with edgeIn := t.boundary.edgeIn, stepSeen := t.boundary.stepSeen } }

theorem onlyEvents_of_sansInputs {s t : State} (h : t.sansInputs = s.sansInputs) : OnlyEvents (s.withInputs t) t := by
  have back : t.sansEvents = t.sansInputs.withInputs t := rfl
  rw [OnlyEvents, back, h]
  rfl

theorem rd_fieldStatus_dieInactive (s : State) (die : Nat) : (s.dieInactive die).rd Gl.FIELD_STATUS = s.rd Gl.FIELD_STATUS :=
  rd_dieInactive (by decide) fieldStatus_ne_filtered s die

theorem rd_inputState_driveOuts (s : State) : s.driveOuts.rd Gl.INPUT_STATE = s.rd Gl.INPUT_STATE := by
  have own : ∀ k, Gl.INPUT_STATE ≠ Gl.SO_STATUS k := fun k => by
    simp only [Gl.INPUT_STATE, Gl.SO_STATUS, key]
    omega
  exact foldl_keeps (State.rd · Gl.INPUT_STATE) (fun s k => rd_driveOut (own k) (by decide) (by decide) s) _ s

/-- All that a failing supply does, before the end of the command. -/
def State.supplyOff (s : State) (die mv : Nat) : State := ((s.supplyLost die mv).dieInactive die).driveOuts

theorem bit_fieldStatus_supplyOff (s : State) (die mv n : Nat) :
    (s.supplyOff die mv).bit Gl.FIELD_STATUS n = (s.supplyLost die mv).bit Gl.FIELD_STATUS n := by
  rw [State.supplyOff, State.bit, rd_fieldStatus_driveOuts, rd_fieldStatus_dieInactive, State.bit]

theorem energised_supplyOff {die k : Nat} (hd : die < 2) (hk : k < 6) (s : State) (mv : Nat) : energised (s.supplyOff die mv) k = false := by
  refine energised_driveOuts_supplyMissing (supplyMissing_of_bit hd ?_) hk
  rw [State.bit, rd_fieldStatus_dieInactive]
  exact bit_missing_supplyLost s die mv

theorem bit_inputState_supplyOff (s : State) (die mv n : Nat) :
    (s.supplyOff die mv).bit Gl.INPUT_STATE n = (s.bit Gl.INPUT_STATE n && dieOf n != die) := by
  rw [State.supplyOff, State.bit, rd_inputState_driveOuts, ← State.bit, bit_inputState_dieInactive, State.bit, rd_inputState_supplyLost, ← State.bit]

theorem counted_supplyOff (s : State) (die mv : Nat) : Counted 0x0442 s (s.supplyOff die mv) := by
  have inactive : ((s.supplyLost die mv).dieInactive die).recd = (s.supplyLost die mv).recd :=
    dieInactive_blind (f := State.recd) (fun _ _ => rfl) (fun _ _ _ => rfl) (fun _ _ _ => rfl) _ die
  rw [Counted, State.supplyOff, code_driveOuts, code_of_recd inactive]
  exact counted_supplyLost s die mv

theorem sansInputs_supplyOff (s : State) (die mv : Nat) (q : List Instr) :
    ((s.supplyOff die mv).settle q).sansInputs = s.sansInputs := by
  have settled : ∀ t : State, (t.settle q).sansInputs = t.sansInputs := fun t => settle_blind (f := State.sansInputs) (fun _ _ _ _ _ => rfl) t q
  rw [settled, State.supplyOff, sansInputs_driveOuts, sansInputs_dieInactive, sansInputs_supplyLost]

theorem inputState_not_wiredRegs : Gl.INPUT_STATE ∉ wiredRegs := by decide

theorem soStatus_not_wiredRegs (k : Nat) : Gl.SO_STATUS k ∉ wiredRegs := by
  intro h
  simp only [wiredRegs, List.mem_cons, List.not_mem_nil, or_false, Gl.SO_STATUS, Gl.HOLDER, Gl.NFAULT_CAUSES, key] at h
  omega

/-- A supply back above 10 V changes its voltage and its bit only. -/
theorem keepsRegs_supplyBack (s : State) (die mv : Nat) (q : List Instr) :
    KeepsRegs [Gl.FIELD_STATUS, if die = 0 then Gl.VFIELD_A else Gl.VFIELD_B] s
      (((s.showSupply die mv).setB Gl.FIELD_STATUS (2 * die + 1) false).settle q) := by
  refine KeepsRegs.settle q fun k hk => ?_
  simp only [List.mem_cons, List.not_mem_nil, or_false, not_or] at hk
  obtain ⟨hstat, hv⟩ := hk
  rw [State.setB, rd_wr_ne hstat, State.showSupply, State.wrn, rd_wr_ne hv]

/-- Settles O18: the die's MISSING bit keeps one switch of every output off through the whole pass over the outputs, and the pass over the
die's inputs clears exactly their bits. -/
theorem missingSupplyOpensOutputs : Obligations.MissingSupplyOpensOutputs := by
  intro s die hd
  constructor
  · intro mv hmv off
    refine ⟨_, exec_vfieldMissing_enter hd hmv off, ?missing, ?latched, fun k hk => ?opened, fun n _ => ?inactive,
      counted_settle (counted_supplyOff s die mv) _, onlyEvents_of_sansInputs (sansInputs_supplyOff s die mv _)⟩
    case missing => exact (bit_settle fieldStatus_not_wiredRegs _ _ _).trans ((bit_fieldStatus_supplyOff ..).trans (bit_missing_supplyLost ..))
    case latched => exact (bit_settle fieldStatus_not_wiredRegs _ _ _).trans ((bit_fieldStatus_supplyOff ..).trans (bit_latched_supplyLost ..))
    case opened => exact (bit_settle (soStatus_not_wiredRegs k) _ _ _).trans (energised_supplyOff hd hk s mv)
    case inactive => exact (bit_settle inputState_not_wiredRegs _ _ _).trans (bit_inputState_supplyOff s die mv n)
  · intro mv hmv on
    refine ⟨_, exec_vfieldMissing_leave hd hmv on, ?_, keepsRegs_supplyBack s die mv _, ?_⟩
    · rw [bit_settle fieldStatus_not_wiredRegs, bit_setB_same]
    · rw [OnlyRegs, settle_sansRegs, setB_blind sansRegs_blind]
      exact wr_blind sansRegs_blind s _ _

end Sys2Proof.Machine

namespace Sys2Proof.Machine

/-!
The time and FAST_TICK_COUNT through the three ticks (R22, R26). The pair of both is the state's clock. Each function of the model that a tick
reaches leaves the clock as it is: one lemma says so for each, in the order of the model. Only the fast tick itself moves it.
-/

/-- What a dictionary gives for FAST_TICK_COUNT. -/
def tickCount (dict : Store Int) : Int := getD (dictDefault Gl.FAST_TICK_COUNT) dict Gl.FAST_TICK_COUNT

/-- The time and FAST_TICK_COUNT. -/
def State.clock (s : State) : Nat × Int := (s.now, tickCount s.dict)

/-! ### Registers other than FAST_TICK_COUNT -/

/-- A register other than FAST_TICK_COUNT. -/
def NotTick (k : Nat) : Prop := Gl.FAST_TICK_COUNT ≠ k

theorem notTick_key {i : Nat} (j : Nat) (h : 0x2110 < i) : NotTick (key i j) := by
  simp only [NotTick, Gl.FAST_TICK_COUNT, key]
  omega

theorem notTick_key_add {i : Nat} (j n : Nat) (h : 0x2110 < i) : NotTick (key (i + n) j) := notTick_key j (Nat.lt_add_right n h)

@[simp] theorem notTick_ite (c : Prop) [Decidable c] (j k : Nat) :
    NotTick (if c then j else k) ↔ if c then NotTick j else NotTick k := by
  split <;> rfl

@[simp] theorem notTick_anchor (n : Nat) : NotTick (An.ANCHOR_GENERATION n) ∧ NotTick (An.ANCHOR_MAX_LEVEL n) := by
  and_intros <;> exact notTick_key_add _ _ (by decide)

@[simp] theorem notTick_axis (n : Nat) : NotTick (Ax.ACC_DEFERRED_REPEATS n) ∧ NotTick (Ax.ADDRESS_PITCH n) ∧ NotTick (Ax.ANGLE_STATE n) ∧
    NotTick (Ax.AXIS_STATUS n) ∧ NotTick (Ax.BINS_REJECTED n) ∧ NotTick (Ax.CYCLES_REJECTED n) ∧ NotTick (Ax.DECOUPLING n) ∧
    NotTick (Ax.ENV_CYCLES_CLOSE n) ∧ NotTick (Ax.ENV_CYCLES_OPEN n) ∧ NotTick (Ax.ENV_OFFSET n) ∧ NotTick (Ax.ENV_STATE_CLOSE n) ∧
    NotTick (Ax.ENV_STATE_OPEN n) ∧ NotTick (Ax.ENV_THRESHOLD n) ∧ NotTick (Ax.FOLLOWING_ERROR n) ∧ NotTick (Ax.FORCE_PEAK_LAST n) ∧ NotTick (Ax.IQ n)
    ∧ NotTick (Ax.IQ_DEMAND n) ∧ NotTick (Ax.JOG_STEPS n) ∧ NotTick (Ax.KI_I n) ∧ NotTick (Ax.KP_I n) ∧ NotTick (Ax.LEAF_ENERGY n) ∧
    NotTick (Ax.LEAF_FORCE n) ∧ NotTick (Ax.LEARN_HOLDOFF_LEFT_CLOSE n) ∧ NotTick (Ax.LEARN_HOLDOFF_LEFT_OPEN n) ∧ NotTick (Ax.LIMIT_STOP_REPEATS n) ∧
    NotTick (Ax.LOOP_FAULT_CAUSE n) ∧ NotTick (Ax.LOOP_STATUS n) ∧ NotTick (Ax.MISSED_SAMPLES n) ∧ NotTick (Ax.POSITION n) ∧
    NotTick (Ax.POSITION_SETPOINT n) ∧ NotTick (Ax.REFERENCE_JUMP_REPEATS n) ∧ NotTick (Ax.REFERENCE_SHIFT n) ∧ NotTick (Ax.RES_EST n) ∧
    NotTick (Ax.RES_OUT_OF_RANGE_REPEATS n) ∧ NotTick (Ax.SAMPLE_MISSED_REPEATS n) ∧ NotTick (Ax.SATURATED_REPEATS n) ∧ NotTick (Ax.SPEED n) ∧
    NotTick (Ax.STEP_OVERRUN_REPEATS n) ∧ NotTick (Ax.WINDING_TEMP n) := by
  and_intros <;> exact notTick_key_add _ _ (by decide)

@[simp] theorem notTick_canPort (n : Nat) : NotTick (Cb.BUS_STATE n) :=
  notTick_key_add _ _ (by decide)

@[simp] theorem notTick_doorway (n : Nat) : NotTick (Dr.COMMANDS_REFUSED n) ∧ NotTick (Dr.CONTACTS_A n) ∧ NotTick (Dr.CONTACTS_B n) ∧
    NotTick (Dr.CONTACT_STATUS n) ∧ NotTick (Dr.DEPTH_HOLDS n) ∧ NotTick (Dr.FAULT_CAUSE n) ∧ NotTick (Dr.LEARN_STATE n) ∧
    NotTick (Dr.MANTIS_DOOR_STATUS n) ∧ NotTick (Dr.MOVE_TIME_LAST n) ∧ NotTick (Dr.OBSTRUCTIONS n) ∧ NotTick (Dr.OBS_AXIS n) ∧ NotTick (Dr.OBS_BIN n)
    ∧ NotTick (Dr.OBS_CAUSES n) ∧ NotTick (Dr.OBS_FORCE_PEAK n) ∧ NotTick (Dr.OBS_POSITION n) ∧ NotTick (Dr.OPEN_BLOCKED_REPEATS n) ∧
    NotTick (Dr.PATH_S n) ∧ NotTick (Dr.RETRY_COUNT n) ∧ NotTick (Dr.RUN_CURRENT n) ∧ NotTick (Dr.STARTS_FORCED n) ∧ NotTick (Dr.START_PEAK_CLOSE n) ∧
    NotTick (Dr.START_PEAK_OPEN n) ∧ NotTick (Dr.START_WAIT_LAST n) ∧ NotTick (Dr.STATE n) ∧ NotTick (Dr.STATUS n) ∧
    NotTick (Dr.STOP_RAMPS_SHORTENED n) ∧ NotTick (Dr.TABLE_CRC n) ∧ NotTick (Dr.TABLE_STATE n) := by
  and_intros <;> exact notTick_key_add _ _ (by decide)

@[simp] theorem notTick_eventCounter (n : Nat) : NotTick (Ec.EC_RESET_AT n) ∧ NotTick (Ec.EC_VALID n) ∧ NotTick (Ec.EC_VALUE n) := by
  and_intros <;> exact notTick_key_add _ _ (by decide)

@[simp] theorem notTick_ethernetPort (n : Nat) : NotTick (Et.TX_FRAMES n) :=
  notTick_key_add _ _ (by decide)

@[simp] theorem notTick_global : NotTick Gl.CHANNEL_DISCREPANCIES ∧ NotTick Gl.CHECK_VALUE ∧ NotTick Gl.CHECK_VALUE_B ∧ NotTick Gl.COIL_FAULT_MASK ∧
    NotTick Gl.COMMIT_SEQ ∧ NotTick Gl.CONFIG_DIGEST ∧ NotTick Gl.CONFIRM ∧ NotTick Gl.CONFIRMATIONS ∧ NotTick Gl.CONFIRMED_AT ∧
    NotTick Gl.DEBUG_LEVEL ∧ NotTick Gl.DEBUG_UNLOCKS ∧ NotTick Gl.DISSIPATION_ESTIMATE ∧ NotTick Gl.DISSIPATION_PEAK ∧ NotTick Gl.DOMAINS_ON ∧
    NotTick Gl.DOMAIN_WAKES ∧ NotTick Gl.DUPLEX_MODE ∧ NotTick Gl.DUPLEX_STATUS ∧ NotTick Gl.EMERGENCY_MASK ∧ NotTick Gl.ERROR_REGISTER ∧
    NotTick Gl.FAST_TICK_SOURCE ∧ NotTick Gl.FAULT_MASK ∧ NotTick Gl.FIELD_A_TEMP ∧ NotTick Gl.FIELD_B_TEMP ∧ NotTick Gl.HOLDER ∧
    NotTick Gl.INTAKE_LOST ∧ NotTick Gl.ISOLATED_MASK ∧ NotTick Gl.LAMP_FAILED_MASK ∧ NotTick Gl.LEARN_FREEZE ∧ NotTick Gl.LEFT_RELEASED ∧
    NotTick Gl.LINE_REF_CURRENT_A ∧ NotTick Gl.LINE_REF_CURRENT_B ∧ NotTick Gl.LOGIC_TEMP ∧ NotTick Gl.LOOP_OK_MASK ∧ NotTick Gl.MANTIS_STATUS ∧
    NotTick Gl.NFAULT_CAUSES ∧ NotTick Gl.OBSTRUCTED_MASK ∧ NotTick Gl.OPEN_MASK ∧ NotTick Gl.OVER_LIMIT_TIME ∧ NotTick Gl.PAIR_STATE ∧
    NotTick Gl.PARTNER_CONFIG_DIGEST ∧ NotTick Gl.PARTNER_STATE ∧ NotTick Gl.POWER_STATE ∧ NotTick Gl.POWER_STATUS ∧ NotTick Gl.PREDICTED_SUM ∧
    NotTick Gl.PREDICTED_SUM_MAX ∧ NotTick Gl.RECORDER_STATUS ∧ NotTick Gl.RELEASE_SOURCES ∧ NotTick Gl.REVISION ∧ NotTick Gl.RIGHT_RELEASED ∧
    NotTick Gl.RTC_TIME ∧ NotTick Gl.SAFE_LOCKED_MASK ∧ NotTick Gl.SAFE_STATE_CAUSE ∧ NotTick Gl.SAFE_STEP_MASK ∧ NotTick Gl.SAMPLES_LOST ∧
    NotTick Gl.SECURITY_STATE ∧ NotTick Gl.SESSIONS_OPEN ∧ NotTick Gl.SET_STATE ∧ NotTick Gl.SHADOW_SYNC_MASK ∧ NotTick Gl.SLEEP_STATUS ∧
    NotTick Gl.SO_STATE ∧ NotTick Gl.SO_TERMS_A ∧ NotTick Gl.SO_TERMS_B ∧ NotTick Gl.STO_UNCONFIRMED_MASK ∧ NotTick Gl.SYNC_ITEMS_PENDING ∧
    NotTick Gl.VDDA ∧ NotTick Gl.VDD_AON ∧ NotTick Gl.VDD_CORE ∧ NotTick Gl.VDD_IO ∧ NotTick Gl.VFIELD_A ∧ NotTick Gl.VFIELD_B ∧
    NotTick Gl.WRITE_ENABLE ∧ NotTick Gl.ZERO_SPEED := by
  unfold NotTick
  and_intros <;> decide

@[simp] theorem notTick_globalAt (n : Nat) : NotTick (Gl.DUPLEX_REPEATS n) ∧ NotTick (Gl.RECORDER_REPEATS n) ∧ NotTick (Gl.SO_STATUS n) := by
  and_intros <;> exact notTick_key _ (by decide)

@[simp] theorem notTick_input (n : Nat) : NotTick (In.INPUT_CURRENT n) :=
  notTick_key_add _ _ (by decide)

@[simp] theorem notTick_link (n : Nat) : NotTick (Lk.LINK_STATE n) ∧ NotTick (Lk.LINK_STATUS n) := by
  and_intros <;> exact notTick_key_add _ _ (by decide)

@[simp] theorem notTick_connection (n : Nat) : NotTick (Ns.CONN_STATE n) ∧ NotTick (Ns.CONN_STATE_B n) := by
  and_intros <;> exact notTick_key_add _ _ (by decide)

@[simp] theorem notTick_output (n : Nat) : NotTick (Ou.CURRENT n) ∧ NotTick (Ou.DARK_EVENTS n) ∧ NotTick (Ou.DELTA_T n) ∧ NotTick (Ou.DISSIPATION n) ∧
    NotTick (Ou.FAIL_CAUSE n) ∧ NotTick (Ou.GLOW_STATE n) ∧ NotTick (Ou.OUT_STATUS n) ∧ NotTick (Ou.PAUSE_LEFT n) := by
  have index : 0x2110 < chanIndex n := by
    unfold chanIndex
    split <;> omega
  and_intros <;> exact notTick_key _ index

@[simp] theorem notTick_connectionAt (n i : Nat) : NotTick (key (0x5200 + n) i) := notTick_key_add i n (by decide)

/-! ### How a change of the state shows -/

@[simp] theorem clock_mk (pending now free answer dict eff nv blobs egress part boundary doors axes recd net sessions safety contacts pairs cab leaves
    leafCommits sensors depthQueue links nodes conns summary chans dies heat power sec duplex) :
    (State.mk pending now free answer dict eff nv blobs egress part boundary doors axes recd net sessions safety contacts pairs cab leaves
      leafCommits sensors depthQueue links nodes conns summary chans dies heat power sec duplex).clock = (now, tickCount dict) := rfl

@[simp] theorem clock_pair (s : State) : (s.now, tickCount s.dict) = s.clock := rfl

@[simp] theorem clock_ite (c : Prop) [Decidable c] (s t : State) : (if c then s else t).clock = if c then s.clock else t.clock := apply_ite ..

theorem clock_ite_of {c : Prop} [Decidable c] {s t : State} {v : Nat × Int} (hs : s.clock = v) (ht : t.clock = v) :
    (if c then s else t).clock = v := by
  split
  · exact hs
  · exact ht

theorem clock_ite_fst_of {γ : Type} {c : Prop} [Decidable c] {p q : State × γ} {v : Nat × Int} (hp : p.1.clock = v) (hq : q.1.clock = v) :
    (if c then p else q).1.clock = v := by
  split
  · exact hp
  · exact hq

@[simp] theorem clock_ite_fst {γ : Type} (c : Prop) [Decidable c] (p q : State × γ) :
    (if c then p else q).1.clock = if c then p.1.clock else q.1.clock :=
  apply_ite (fun r : State × γ => r.1.clock) ..

@[simp] theorem clock_ite_snd {γ : Type} (c : Prop) [Decidable c] (p q : γ × State) :
    (if c then p else q).2.clock = if c then p.2.clock else q.2.clock :=
  apply_ite (fun r : γ × State => r.2.clock) ..

@[simp] theorem clock_foldl_fst {β γ : Type} {g : State × γ → β → State × γ} (h : ∀ r b, (g r b).1.clock = r.1.clock) (l : List β) (r : State × γ) :
    (l.foldl g r).1.clock = r.1.clock := foldl_keeps (fun r : State × γ => r.1.clock) h l r

@[simp] theorem clock_foldl_snd {β γ : Type} {g : γ × State → β → γ × State} (h : ∀ r b, (g r b).2.clock = r.2.clock) (l : List β) (r : γ × State) :
    (l.foldl g r).2.clock = r.2.clock := foldl_keeps (fun r : γ × State => r.2.clock) h l r

@[simp] theorem clock_foldl {β : Type} {g : State → β → State} (h : ∀ s b, (g s b).clock = s.clock) (l : List β) (s : State) :
    (l.foldl g s).clock = s.clock :=
  foldl_keeps State.clock h l s

@[simp] theorem clock_wr (s : State) {k : Nat} (v : Int) (h : NotTick k) : (s.wr k v).clock = s.clock :=
  Prod.ext rfl (rd_wr_ne h s v)

@[simp] theorem tickCount_wr (s : State) {k : Nat} (v : Int) (h : NotTick k) : tickCount (s.wr k v).dict = tickCount s.dict := rd_wr_ne h s v

@[simp] theorem tickCount_wrn (s : State) {k : Nat} (v : Nat) (h : NotTick k) : tickCount (s.wrn k v).dict = tickCount s.dict := rd_wr_ne h s v

@[simp] theorem tickCount_setB (s : State) {k : Nat} (i : Nat) (b : Bool) (h : NotTick k) : tickCount (s.setB k i b).dict = tickCount s.dict :=
  rd_wr_ne h s _

@[simp] theorem clock_wrn (s : State) {k : Nat} (v : Nat) (h : NotTick k) : (s.wrn k v).clock = s.clock := clock_wr s _ h

@[simp] theorem clock_setB (s : State) {k : Nat} (i : Nat) (b : Bool) (h : NotTick k) : (s.setB k i b).clock = s.clock := clock_wr s _ h

@[simp] theorem clock_addSat (s : State) {k : Nat} (n top : Nat) (h : NotTick k) : (s.addSat k n top).clock = s.clock := clock_wr s _ h

@[simp] theorem clock_count (s : State) {k : Nat} (h : NotTick k) : (s.count k).clock = s.clock := clock_wr s _ h

@[simp] theorem clock_latch (s : State) {w r : Nat} (i : Nat) (hw : NotTick w) (hr : NotTick r) : (s.latch w i r).clock = s.clock :=
  Prod.ext (latch_blind (f := State.now) (fun _ _ => rfl) s w i r) (rd_latch_ne hw hr s i)

@[simp] theorem clock_raiseMax (s : State) {k : Nat} (v : Int) (h : NotTick k) : (s.raiseMax k v).clock = s.clock := by
  unfold State.raiseMax
  split
  · exact clock_wr s v h
  · rfl

@[simp] theorem clock_raise (s : State) (c i : Nat) (v : Int) : (s.raise c i v).clock = s.clock :=
  Prod.ext (raise_blind (f := State.now) (fun _ _ _ _ _ _ => rfl) s c i v) (rd_raise (by decide) s c i v)

@[simp] theorem clock_sample (s : State) (a n : Nat) (v : Int) : (s.sample a n v).clock = s.clock :=
  Prod.ext (sample_blind (f := State.now) (fun _ _ _ _ _ _ => rfl) s a n v) (rd_sample (by decide) s a n v)

@[simp] theorem clock_ecAdd (s : State) (n : Nat) : (s.ecAdd n).clock = s.clock := by
  simp [State.ecAdd]

@[simp] theorem clock_fresh (s : State) : s.fresh.2.clock = s.clock := rfl

@[simp] theorem clock_settle (t : State) (q : List Instr) : (t.settle q).clock = t.clock :=
  Prod.ext (settle_blind (f := State.now) (fun _ _ _ _ _ => rfl) t q) (rd_settle (by decide) t q)

/-! ### State operations and the event router (`Machine/Ops`) -/

@[simp] theorem clock_enforce (s : State) (k : Nat) (v : Int) : (s.enforce k v).clock = s.clock := by
  simp [State.enforce]

@[simp] theorem clock_setBlob (s : State) (k : Nat) (bs : List ByteN) : (s.setBlob k bs).clock = s.clock := by
  simp [State.setBlob]

@[simp] theorem clock_setDoor (s : State) (d : Nat) (x : Door) : (s.setDoor d x).clock = s.clock := by
  simp [State.setDoor]

@[simp] theorem clock_setAxis (s : State) (a : Nat) (x : Axis) : (s.setAxis a x).clock = s.clock := by
  simp [State.setAxis]

@[simp] theorem clock_send (s : State) (e : Egress) : (s.send e).clock = s.clock := by
  simp [State.send]

@[simp] theorem clock_emcyTick (s : State) : s.emcyTick.clock = s.clock := by
  unfold State.emcyTick
  split <;> simp

/-! ### The mirror (`Machine/Mirror`) -/

@[simp] theorem clock_mirrorSend (s : State) (type : Nat) (data : List ByteN) (item : Option (Nat × Nat)) :
    (s.mirrorSend type data item).clock = s.clock := by
  simp [State.mirrorSend]

@[simp] theorem clock_letGo (s : State) : s.letGo.clock = s.clock := by
  simp [State.letGo]

/-! ### Dictionary access (`Machine/Access`) -/

@[simp] theorem clock_showDoze (s : State) : s.showDoze.clock = s.clock := by
  simp [State.showDoze]

@[simp] theorem clock_domainOn (s : State) (i : Nat) : (s.domainOn i).clock = s.clock := by
  simp [State.domainOn]

/-! ### Terms (`Machine/Terms`) -/

@[simp] theorem clock_faultDoor (s : State) (d cause : Nat) : (s.faultDoor d cause).clock = s.clock := by
  simp [State.faultDoor]

/-! ### Position and current loops (`Machine/Loops`) -/

@[simp] theorem clock_gainPTick (s : State) (a : Nat) : (gainPTick s a).clock = s.clock := by
  simp [gainPTick]

@[simp] theorem clock_gainIChange (s : State) (a r : Nat) : (gainIChange s a r).clock = s.clock := by
  simp [gainIChange]

@[simp] theorem clock_gainITick (s : State) (a : Nat) : (gainITick s a).clock = s.clock := by
  simp [gainITick]

@[simp] theorem clock_loopFault (s : State) (a cause : Nat) : (s.loopFault a cause).clock = s.clock := by
  simp [State.loopFault]

@[simp] theorem clock_phaseTick (s : State) (a : Nat) (demand : Bool) : (s.phaseTick a demand).clock = s.clock := by
  cases h : (s.axis a).phase.since <;> simp [State.phaseTick, h]

@[simp] theorem clock_sampleMissed (s : State) (a : Nat) : (s.sampleMissed a).clock = s.clock := by
  simp [State.sampleMissed]

@[simp] theorem clock_showIq (s : State) (a : Nat) (i : Int) : (s.showIq a i).clock = s.clock := by
  simp [State.showIq]

@[simp] theorem clock_idleSlot (s : State) (a m : Nat) : (idleSlot s a m).clock = s.clock := by
  simp [idleSlot]

@[simp] theorem clock_missedSlot (s : State) (a m : Nat) : (missedSlot s a m).clock = s.clock := by
  simp [missedSlot]

@[simp] theorem clock_runSlot (s : State) (a m : Nat) : (runSlot s a m).clock = s.clock := by
  simp [runSlot]

@[simp] theorem clock_loopSlot (s : State) (a : Nat) : (loopSlot s a).clock = s.clock := by
  simp [loopSlot]

@[simp] theorem clock_alignMark (s : State) (a : Nat) : (s.alignMark a).clock = s.clock := by
  unfold State.alignMark
  dsimp only
  split <;> simp

@[simp] theorem clock_fastChecks (s : State) (a : Nat) : (fastChecks s a).clock = s.clock := by
  simp [fastChecks]

@[simp] theorem clock_resUpdate (s : State) (a : Nat) : (resUpdate s a).clock = s.clock := by
  unfold resUpdate
  dsimp only
  split
  · simp
  · split
    · simp
    · split <;> simp

@[simp] theorem clock_loopFlags (s : State) (a : Nat) : (loopFlags s a).clock = s.clock := by
  simp [loopFlags]

@[simp] theorem clock_resInterrupt (s : State) (a : Nat) : (resInterrupt s a).clock = s.clock := by
  simp [resInterrupt]

@[simp] theorem clock_loopEngines (s : State) : (loopEngines s).clock = s.clock := by
  simp [loopEngines]

@[simp] theorem clock_measureAxis (s : State) (a : Nat) : (measureAxis s a).clock = s.clock := by
  simp [measureAxis]

@[simp] theorem clock_positionLoop (s : State) (a : Nat) : (positionLoop s a).clock = s.clock := by
  simp [positionLoop]

@[simp] theorem clock_motionChecks (s : State) (a : Nat) : (motionChecks s a).clock = s.clock := by
  simp [motionChecks]

@[simp] theorem clock_manualStop (s : State) (a : Nat) : (s.manualStop a).clock = s.clock := by
  simp [State.manualStop]

/-! ### Inputs, contacts and pairs (`Machine/Inputs`) -/

@[simp] theorem clock_stampPair (s : State) (p : Nat) : (s.stampPair p).clock = s.clock := by
  simp [State.stampPair]

@[simp] theorem clock_pairsTick (s : State) : s.pairsTick.clock = s.clock := by
  simp [State.pairsTick]

@[simp] theorem clock_setCon (s : State) (d : Nat) (x : Contacts) : (s.setCon d x).clock = s.clock := by
  simp [State.setCon]

@[simp] theorem clock_stampContact (s : State) (d c : Nat) : (s.stampContact d c).clock = s.clock := by
  simp [State.stampContact]

@[simp] theorem clock_contactsTick (s : State) (d : Nat) : (s.contactsTick d).clock = s.clock := by
  simp [State.contactsTick]

@[simp] theorem clock_nodeFilter (s : State) (d : Nat) : (s.nodeFilter d).clock = s.clock := by
  simp [State.nodeFilter]

@[simp] theorem clock_clearDiscrepancy (s : State) (d : Nat) : (s.clearDiscrepancy d).clock = s.clock := by
  simp [State.clearDiscrepancy]

@[simp] theorem clock_showRef (s : State) (die iref : Nat) : (s.showRef die iref).clock = s.clock := by
  simp [State.showRef]

/-! ### Motion (`Machine/Motion`) -/

@[simp] theorem clock_limitStop (s : State) (a : Nat) : (s.limitStop a).clock = s.clock := by
  simp [State.limitStop]

@[simp] theorem clock_leaveHold (s : State) (a : Nat) : (s.leaveHold a).clock = s.clock := by
  simp [State.leaveHold]

@[simp] theorem clock_clearPeaks (s : State) (a : Nat) : (s.clearPeaks a).clock = s.clock := by
  simp [State.clearPeaks]

@[simp] theorem clock_mirrorMove (s : State) (d : Nat) : (s.mirrorMove d).clock = s.clock := by
  unfold State.mirrorMove
  split <;> simp

@[simp] theorem clock_wakeAxis (s : State) (a : Nat) : (s.wakeAxis a).clock = s.clock := by
  simp [State.wakeAxis]

@[simp] theorem clock_startMove (s : State) (d : Nat) (kind : MoveKind) (closing creep : Bool) (targets : List (Nat × Int)) :
    (s.startMove d kind closing creep targets).clock = s.clock := by
  simp [State.startMove]

@[simp] theorem clock_seekStop (s : State) (d : Nat) (axes : List Nat) (k : SeekAxis) : (s.seekStop d axes k).1.clock = s.clock := by
  simp [State.seekStop]

@[simp] theorem clock_seekStops (s : State) (d : Nat) (m : Move) : (s.seekStops d m).1.clock = s.clock := by
  simp [State.seekStops]

@[simp] theorem clock_startSeek (s : State) (d : Nat) (kind : MoveKind) (closing : Bool) (axes : List (Nat × Bool × Nat)) :
    (s.startSeek d kind closing axes).clock = s.clock := by
  simp [State.startSeek]

@[simp] theorem clock_rampStop (s : State) (d : Nat) : (s.rampStop d).clock = s.clock := by
  unfold State.rampStop
  dsimp only
  split <;> simp

@[simp] theorem clock_hardStop (s : State) (d : Nat) : (s.hardStop d).clock = s.clock := by
  unfold State.hardStop
  dsimp only
  split <;> simp

@[simp] theorem clock_enforceMotion (s : State) (a : Nat) : (s.enforceMotion a).1.clock = s.clock := by
  simp [State.enforceMotion]

@[simp] theorem clock_enforceAxes (s : State) : (s.enforceAxes).1.clock = s.clock := by
  simp [State.enforceAxes]

@[simp] theorem clock_placeSetpoints (s : State) (m : Move) (acc : Rat) : (s.placeSetpoints m acc).clock = s.clock := by
  simp [State.placeSetpoints]

@[simp] theorem clock_advanceMove (s : State) (d : Nat) (m : Move) : (s.advanceMove d m).clock = s.clock := by
  simp [State.advanceMove]

@[simp] theorem clock_runSeek (s : State) (k : SeekAxis) : (s.runSeek k).1.clock = s.clock := by
  simp [State.runSeek]

@[simp] theorem clock_seekHit (s : State) (k : SeekAxis) : (s.seekHit k).1.clock = s.clock := by
  simp [State.seekHit]

@[simp] theorem clock_seekTick (s : State) (d : Nat) (m : Move) (k : SeekAxis) (closedSwitch stepRetracted : Bool) :
    (s.seekTick d m k closedSwitch stepRetracted).1.clock = s.clock := by
  unfold State.seekTick
  extract_lets
  split <;> simp

@[simp] theorem clock_refStop (s : State) (d : Nat) (m : Move) : (s.refStop d m).1.clock = s.clock := by
  unfold State.refStop
  split
  · split <;> simp
  · simp

@[simp] theorem clock_advanceSeeks (s : State) (d : Nat) (m : Move) (closedSwitch stepRetracted : Bool) :
    (s.advanceSeeks d m closedSwitch stepRetracted).clock = s.clock := by
  simp [State.advanceSeeks]

@[simp] theorem clock_watchSwitches (s : State) (d : Nat) : (s.watchSwitches d).clock = s.clock := by
  unfold State.watchSwitches
  split <;> simp

@[simp] theorem clock_deferAcc (s : State) (axes : List Nat) : (s.deferAcc axes).clock = s.clock := by
  simp [State.deferAcc]

@[simp] theorem clock_replanTick (s : State) (d : Nat) (lowered : List Nat) : (s.replanTick d lowered).clock = s.clock := by
  unfold State.replanTick
  split <;> simp

@[simp] theorem clock_stopAsked (s : State) (d : Nat) : (s.stopAsked d).clock = s.clock := by
  unfold State.stopAsked
  split <;> simp

@[simp] theorem clock_pathTick (s : State) (d : Nat) (closedSwitch stepRetracted : Bool) (lowered : List Nat) :
    (s.pathTick d closedSwitch stepRetracted lowered).clock = s.clock := by
  unfold State.pathTick
  split <;> simp

@[simp] theorem clock_moveTick (s : State) (d : Nat) (closedSwitch stepRetracted : Bool) (lowered : List Nat) :
    (s.moveTick d closedSwitch stepRetracted lowered).clock = s.clock := by
  simp [State.moveTick]

@[simp] theorem clock_motionFlags (s : State) (a : Nat) : (motionFlags s a).clock = s.clock := by
  simp [motionFlags]

@[simp] theorem clock_standstill (s : State) (a : Nat) : (s.standstill a).clock = s.clock := by
  simp [State.standstill]

@[simp] theorem clock_checkBacklog (s : State) (a : Nat) : (s.checkBacklog a).clock = s.clock := by
  simp [State.checkBacklog]

@[simp] theorem clock_manualRamp (s : State) (a : Nat) : (s.manualRamp a).clock = s.clock := by
  simp [State.manualRamp]

@[simp] theorem clock_interpolate (s : State) (a : Nat) : (s.interpolate a).clock = s.clock := by
  simp [State.interpolate]

@[simp] theorem clock_rampTick (s : State) (a : Nat) (dec : Rat) : (s.rampTick a dec).clock = s.clock := by
  simp [State.rampTick]

@[simp] theorem clock_manualLimit (s : State) (a : Nat) : (s.manualLimit a).clock = s.clock := by
  cases h : (s.axis a).manStop <;> simp [State.manualLimit, h]

@[simp] theorem clock_watchManual (s : State) (a : Nat) (old : Int) : (s.watchManual a old).clock = s.clock := by
  simp [State.watchManual]

@[simp] theorem clock_manualTick (s : State) (a : Nat) : (s.manualTick a).clock = s.clock := by
  cases h : (s.axis a).manStop <;> simp [State.manualTick, h]

/-! ### Mantis (`Machine/Mantis`) -/

@[simp] theorem clock_setLeaf (s : State) (a : Nat) (x : Leaf) : (s.setLeaf a x).clock = s.clock := by
  simp [State.setLeaf]

@[simp] theorem clock_setSensor (s : State) (n : Nat) (x : Sensor) : (s.setSensor n x).clock = s.clock := by
  simp [State.setSensor]

@[simp] theorem clock_mantisMask (s : State) : s.mantisMask.clock = s.clock := by
  simp [State.mantisMask]

@[simp] theorem clock_envDirty (s : State) (a : Nat) : (s.envDirty a).clock = s.clock := by
  simp [State.envDirty]

@[simp] theorem clock_resetEnvelopes (s : State) (a trigger : Nat) (close opn : Bool) : (s.resetEnvelopes a trigger close opn).clock = s.clock := by
  simp [State.resetEnvelopes]

@[simp] theorem clock_remapEnvelopes (s : State) (a : Nat) : (s.remapEnvelopes a).clock = s.clock := by
  simp [State.remapEnvelopes]

@[simp] theorem clock_shiftEnvelopes (s : State) (a : Nat) (shift : Int) : (s.shiftEnvelopes a shift).clock = s.clock := by
  simp [State.shiftEnvelopes]

@[simp] theorem clock_learnLeaf (s : State) (a : Nat) (closing : Bool) : (s.learnLeaf a closing).clock = s.clock := by
  simp [State.learnLeaf]

@[simp] theorem clock_learnCycle (s : State) (d : Nat) (closing : Bool) : (s.learnCycle d closing).clock = s.clock := by
  simp [State.learnCycle]

@[simp] theorem clock_disturb (s : State) (d : Nat) : (s.disturb d).clock = s.clock := by
  simp [State.disturb]

@[simp] theorem clock_applyFreeze (s : State) : s.applyFreeze.clock = s.clock := by
  simp [State.applyFreeze]

@[simp] theorem clock_installEnvelope (s : State) (a : Nat) (closing : Bool) (e : Envelope) : (s.installEnvelope a closing e).clock = s.clock := by
  simp [State.installEnvelope]

@[simp] theorem clock_leafTick (s : State) (a : Nat) : (s.leafTick a).clock = s.clock := by
  unfold State.leafTick
  dsimp only
  rw [clock_remapEnvelopes]
  refine (clock_foldl (fun s w => ?_) _ _).trans (clock_setLeaf ..)
  split
  · exact clock_installEnvelope ..
  · exact clock_resetEnvelopes ..

@[simp] theorem clock_creepEvent (s : State) (d : Nat) : (s.creepEvent d).clock = s.clock := by
  simp [State.creepEvent]

@[simp] theorem clock_forceTick (s : State) (a : Nat) : (s.forceTick a).clock = s.clock := by
  unfold State.forceTick
  dsimp only
  split <;> simp

@[simp] theorem clock_criteriaTick (s : State) (a : Nat) : (s.criteriaTick a).clock = s.clock := by
  simp [State.criteriaTick]

/-! ### The recorder (`Machine/Recorder`) -/

@[simp] theorem clock_commit (s : State) (area record : Nat) : (s.commit area record).clock = s.clock := by
  simp [State.commit]

@[simp] theorem clock_commitCodes (s : State) : s.commitCodes.clock = s.clock := by
  simp [State.commitCodes]

@[simp] theorem clock_applyHistLimits (s : State) : s.applyHistLimits.clock = s.clock := by
  simp [State.applyHistLimits]

@[simp] theorem clock_applyEcResets (s : State) : s.applyEcResets.clock = s.clock := by
  simp [State.applyEcResets]

@[simp] theorem clock_ecSample (s : State) (n : Nat) (v : Int) : (s.ecSample n v).clock = s.clock := by
  simp [State.ecSample]

@[simp] theorem clock_ecDoorTick (s : State) : s.ecDoorTick.clock = s.clock := by
  simp [State.ecDoorTick]

@[simp] theorem clock_ecMotionTick (s : State) : s.ecMotionTick.clock = s.clock := by
  simp [State.ecMotionTick]

/-! ### Safety functions (`Machine/Safe`) -/

@[simp] theorem clock_takeStalls (s : State) (x : Stalls) : (s.takeStalls x).clock = s.clock := by
  simp [State.takeStalls]

@[simp] theorem clock_enforceSet (s : State) : s.enforceSet.clock = s.clock := by
  simp [State.enforceSet]

@[simp] theorem clock_confirmTick (s : State) : s.confirmTick.clock = s.clock := by
  unfold State.confirmTick
  split <;> simp

@[simp] theorem clock_setOut (s : State) (k : Nat) (x : SafeOut) : (s.setOut k x).clock = s.clock := by
  simp [State.setOut]

@[simp] theorem clock_driveOut (s : State) (k : Nat) : (s.driveOut k).clock = s.clock := by
  exact Prod.ext (driveOut_blind (f := State.now) (fun _ _ => rfl) (fun _ _ => rfl) (fun s n v => congrArg Prod.fst (clock_sample s 3 n v)) s k)
    (rd_driveOut (show NotTick (Gl.SO_STATUS k) by simp) (by decide) (by decide) s)

@[simp] theorem clock_driveOuts (s : State) : s.driveOuts.clock = s.clock := by
  simp [State.driveOuts]

@[simp] theorem clock_applyClears (s : State) : s.applyClears.clock = s.clock := by
  simp [State.applyClears]

@[simp] theorem clock_stampSto (s : State) (old : Nat) : (s.stampSto old).clock = s.clock := by
  simp [State.stampSto]

@[simp] theorem clock_stoAll (s : State) : s.stoAll.clock = s.clock := by
  simp [State.stoAll]

@[simp] theorem clock_safeState (s : State) (cause : Nat) : (s.safeState cause).clock = s.clock := by
  simp [State.safeState]

@[simp] theorem clock_channelSignals (s : State) : s.channelSignals.clock = s.clock := by
  simp [State.channelSignals]

@[simp] theorem clock_stoNow (s : State) (axes : List Nat) : (s.stoNow axes).clock = s.clock := by
  simp [State.stoNow]

@[simp] theorem clock_releaseDemands (s : State) : s.releaseDemands.clock = s.clock := by
  simp [State.releaseDemands]

@[simp] theorem clock_endMonitoring (s : State) : s.endMonitoring.clock = s.clock := by
  simp [State.endMonitoring]

@[simp] theorem clock_formTerms (s : State) : s.formTerms.clock = s.clock := by
  simp [State.formTerms]

@[simp] theorem clock_crossCompare (s : State) (x : Exchange) : (s.crossCompare x).1.clock = s.clock := by
  unfold State.crossCompare
  split
  · split <;> simp
  · rfl

@[simp] theorem clock_formRecords (s : State) : s.formRecords.clock = s.clock := by
  simp [State.formRecords]

@[simp] theorem clock_formDemands (s : State) : s.formDemands.clock = s.clock := by
  simp [State.formDemands]

@[simp] theorem clock_countUntested (s : State) : s.countUntested.clock = s.clock := by
  simp [State.countUntested]

@[simp] theorem clock_safetyTick (s : State) (x : Exchange) : (s.safetyTick x).clock = s.clock := by
  simp [State.safetyTick]

@[simp] theorem clock_cabLost (s : State) : s.cabLost.clock = s.clock := by
  simp [State.cabLost]

@[simp] theorem clock_ownCount (s : State) (n : Nat) : (s.ownCount n).clock = s.clock := by
  simp [State.ownCount]

@[simp] theorem clock_sf3Leaf (s : State) (a : Nat) : (s.sf3Leaf a).clock = s.clock := by
  unfold State.sf3Leaf
  split <;> simp

@[simp] theorem clock_backstopTick (s : State) : s.backstopTick.clock = s.clock := by
  simp [State.backstopTick]

@[simp] theorem clock_sf4Axis (s : State) (a : Nat) : (s.sf4Axis a).clock = s.clock := by
  simp [State.sf4Axis]

@[simp] theorem clock_sf7Trip (s : State) (a : Nat) : (s.sf7Trip a).clock = s.clock := by
  simp [State.sf7Trip]

@[simp] theorem clock_sf7Ended (s : State) (a : Nat) : (s.sf7Ended a).clock = s.clock := by
  simp [State.sf7Ended]

@[simp] theorem clock_sf7Axis (s : State) (a : Nat) : (s.sf7Axis a).clock = s.clock := by
  cases hu : ((s.sf7Ended a).axis a).sf7Until <;> cases hr : ((s.sf7Ended a).axis a).sf7Ref <;> simp [State.sf7Axis, hu, hr]

@[simp] theorem clock_safetyMotion (s : State) : s.safetyMotion.clock = s.clock := by
  simp [State.safetyMotion]

/-! ### Doorway links (`Machine/Link`) -/

@[simp] theorem clock_setLink (s : State) (d : Nat) (x : Link) : (s.setLink d x).clock = s.clock := by
  simp [State.setLink]

@[simp] theorem clock_noFrames (s : State) (d : Nat) : (s.noFrames d).clock = s.clock := by
  simp [State.noFrames]

@[simp] theorem clock_toLink (s : State) (d st : Nat) : (s.toLink d st).clock = s.clock := by
  simp [State.toLink]

@[simp] theorem clock_startTraining (s : State) (d : Nat) : (s.startTraining d).clock = s.clock := by
  simp [State.startTraining]

@[simp] theorem clock_nextMgmt (s : State) (d : Nat) : (s.nextMgmt d).clock = s.clock := by
  unfold State.nextMgmt
  dsimp only
  split <;> simp

@[simp] theorem clock_sensorWrites (s : State) (d : Nat) : (s.sensorWrites d).2.clock = s.clock := by
  simp [State.sensorWrites]

@[simp] theorem clock_startExchange (s : State) (d : Nat) (q : List MgmtMsg) : (s.startExchange d q).clock = s.clock := by
  simp [State.startExchange]

@[simp] theorem clock_beginLoad (s : State) (d crc : Nat) : (s.beginLoad d crc).clock = s.clock := by
  simp [State.beginLoad]

@[simp] theorem clock_enterConfig (s : State) (d : Nat) : (s.enterConfig d).clock = s.clock := by
  simp [State.enterConfig]

@[simp] theorem clock_reloadTable (s : State) (d : Nat) : (s.reloadTable d).clock = s.clock := by
  simp [State.reloadTable]

@[simp] theorem clock_sendTraining (s : State) (d : Nat) : (s.sendTraining d).clock = s.clock := by
  simp [State.sendTraining]

@[simp] theorem clock_sendData (s : State) (d : Nat) : (s.sendData d).clock = s.clock := by
  cases h : lookup d s.duplex.taken <;> simp [State.sendData, h]

@[simp] theorem clock_sendDown (s : State) (d : Nat) : (s.sendDown d).clock = s.clock := by
  simp [State.sendDown]

@[simp] theorem clock_countMissing (s : State) (d : Nat) : (s.countMissing d).clock = s.clock := by
  simp [State.countMissing]

@[simp] theorem clock_linkTick (s : State) (d : Nat) : (s.linkTick d).clock = s.clock := by
  simp [State.linkTick]

/-! ### Doorways (`Machine/Doors`) -/

@[simp] theorem clock_modDoor (s : State) (d : Nat) (f : Door → Door) : (s.modDoor d f).clock = s.clock := by
  simp [State.modDoor]

@[simp] theorem clock_rebase (s : State) (a : Nat) (shift : Int) : (s.rebase a shift).clock = s.clock := by
  simp [State.rebase]

@[simp] theorem clock_takeReference (s : State) (a : Nat) : (s.takeReference a).clock = s.clock := by
  simp [State.takeReference]

@[simp] theorem clock_finishMove (s : State) (d : Nat) : (s.finishMove d).clock = s.clock := by
  unfold State.finishMove
  split <;> simp

@[simp] theorem clock_clearBins (s : State) (d : Nat) : (s.clearBins d).clock = s.clock := by
  simp [State.clearBins]

@[simp] theorem clock_launch (s : State) (d : Nat) (k : MoveKind) : (s.launch d k).clock = s.clock := by
  unfold State.launch
  split <;> simp

@[simp] theorem clock_begin (s : State) (d : Nat) (k : MoveKind) : (s.begin_ d k).clock = s.clock := by
  simp [State.begin_]

@[simp] theorem clock_alignTick (s : State) (d : Nat) : (s.alignTick d).clock = s.clock := by
  unfold State.alignTick
  split <;> simp

@[simp] theorem clock_stopMove (s : State) (d : Nat) : (s.stopMove d).clock = s.clock := by
  simp [State.stopMove]

@[simp] theorem clock_redirect (s : State) (d : Nat) (k : MoveKind) : (s.redirect d k).clock = s.clock := by
  simp [State.redirect]

@[simp] theorem clock_enterClosing (s : State) (d : Nat) (reduced : Bool) : (s.enterClosing d reduced).clock = s.clock := by
  simp [State.enterClosing]

@[simp] theorem clock_enterOpening (s : State) (d : Nat) : (s.enterOpening d).clock = s.clock := by
  simp [State.enterOpening]

@[simp] theorem clock_lockStep (s : State) (d : Nat) (redirected : Bool) : (s.lockStep d redirected).clock = s.clock := by
  simp [State.lockStep]

@[simp] theorem clock_enterUnlock (s : State) (d : Nat) : (s.enterUnlock d).clock = s.clock := by
  simp [State.enterUnlock]

@[simp] theorem clock_enterLocked (s : State) (d : Nat) : (s.enterLocked d).clock = s.clock := by
  cases hc : (s.door d).closeAt <;> cases hl : (s.door d).lockAt <;> simp [State.enterLocked, hc, hl]

@[simp] theorem clock_enterOpen (s : State) (d : Nat) (byReach : Bool) : (s.enterOpen d byReach).clock = s.clock := by
  unfold State.enterOpen
  dsimp only
  split <;> split <;> simp

@[simp] theorem clock_abortLearn (s : State) (d : Nat) : (s.abortLearn d).clock = s.clock := by
  simp [State.abortLearn]

@[simp] theorem clock_stopLearn (s : State) (d : Nat) (code : Nat) : (s.stopLearn d code).clock = s.clock := by
  unfold State.stopLearn
  split <;> simp

@[simp] theorem clock_cancelAll (s : State) (d : Nat) : (s.cancelAll d).clock = s.clock := by
  simp [State.cancelAll]

@[simp] theorem clock_recordFault (s : State) (d cause : Nat) : (s.recordFault d cause).clock = s.clock := by
  simp [State.recordFault]

@[simp] theorem clock_enterFault (s : State) (d cause : Nat) : (s.enterFault d cause).clock = s.clock := by
  simp [State.enterFault]

@[simp] theorem clock_clearFault (s : State) (d : Nat) : (s.clearFault d).clock = s.clock := by
  simp [State.clearFault]

@[simp] theorem clock_enterReturn (s : State) (d : Nat) : (s.enterReturn d).clock = s.clock := by
  simp [State.enterReturn]

@[simp] theorem clock_stepFault (s : State) (d : Nat) : (s.stepFault d).clock = s.clock := by
  simp [State.stepFault]

@[simp] theorem clock_stepTick (s : State) (d : Nat) : (s.stepTick d).clock = s.clock := by
  simp [State.stepTick]

@[simp] theorem clock_latchObs (s : State) (d a causes : Nat) : (s.latchObs d a causes).clock = s.clock := by
  simp [State.latchObs]

@[simp] theorem clock_addCauses (s : State) (d causes : Nat) : (s.addCauses d causes).clock = s.clock := by
  simp [State.addCauses]

@[simp] theorem clock_detectObs (s : State) (d : Nat) : (s.detectObs d).clock = s.clock := by
  unfold State.detectObs
  dsimp only
  split
  · simp
  · split
    · simp
    · split <;> simp

@[simp] theorem clock_trackPeak (s : State) (d : Nat) (o : Obs) : (s.trackPeak d o).clock = s.clock := by
  simp [State.trackPeak]

@[simp] theorem clock_startDwell (s : State) (d : Nat) : (s.startDwell d).clock = s.clock := by
  simp [State.startDwell]

@[simp] theorem clock_stepToo (s : State) (d : Nat) (o : Obs) : (s.stepToo d o).clock = s.clock := by
  simp [State.stepToo]

@[simp] theorem clock_reactObs (s : State) (d : Nat) (o : Obs) : (s.reactObs d o).clock = s.clock := by
  unfold State.reactObs
  dsimp only
  refine clock_ite_of (by simp) (clock_ite_of (by simp) (clock_ite_of ?_ (clock_ite_of (by simp) ?_)))
  · split <;> simp
  · split <;> simp

@[simp] theorem clock_refSwitch (s : State) (d : Nat) : (s.refSwitch d).clock = s.clock := by
  unfold State.refSwitch
  split
  · refine clock_ite_of ?_ rfl
    dsimp only
    split <;> simp
  · rfl

@[simp] theorem clock_detectManual (s : State) (a : Nat) : (s.detectManual a).clock = s.clock := by
  simp [State.detectManual]

@[simp] theorem clock_doorMotion (s : State) (lowered : List Nat) (d : Nat) : (s.doorMotion lowered d).clock = s.clock := by
  unfold State.doorMotion
  split <;> simp

/-! ### The door sequencer (`Machine/Sequencer`) -/

@[simp] theorem clock_carTerms (s : State) : s.carTerms.clock = s.clock := by
  simp [State.carTerms]

@[simp] theorem clock_countRefused (s : State) (d : Nat) : (s.countRefused d).clock = s.clock := by
  simp [State.countRefused]

@[simp] theorem clock_requestStart (s : State) (d : Nat) (k : StartKind) : (s.requestStart d k).clock = s.clock := by
  simp [State.requestStart]

@[simp] theorem clock_grant (s : State) (d : Nat) : (s.grant d).clock = s.clock := by
  unfold State.grant
  dsimp only
  split <;> simp

@[simp] theorem clock_grantForced (s : State) (d : Nat) : (s.grantForced d).clock = s.clock := by
  simp [State.grantForced]

@[simp] theorem clock_grantLoop (budget : Nat) (l : List Nat) (sum : Nat) (s : State) : (grantLoop budget l sum s).1.clock = s.clock := by
  induction l generalizing sum s with
  | nil => rfl
  | cons d r ih =>
    unfold grantLoop
    dsimp only
    split
    · rfl
    · rw [ih, clock_grant]

@[simp] theorem clock_schedule (s : State) : s.schedule.clock = s.clock := by
  simp [State.schedule]

@[simp] theorem clock_currentTick (s : State) (d : Nat) : (s.currentTick d).clock = s.clock := by
  unfold State.currentTick
  dsimp only
  split <;> simp

@[simp] theorem clock_measureStart (s : State) (d : Nat) (k : StartKind) : (s.measureStart d k).clock = s.clock := by
  simp [State.measureStart]

@[simp] theorem clock_beginStart (s : State) (d : Nat) (k : StartKind) : (s.beginStart d k).clock = s.clock := by
  cases k <;> simp [State.beginStart]

@[simp] theorem clock_enterObstructed (s : State) (d : Nat) : (s.enterObstructed d).clock = s.clock := by
  simp [State.enterObstructed]

@[simp] theorem clock_transit (s : State) (d : Nat) (t : Trans) : (s.transit d t).clock = s.clock := by
  unfold State.transit
  split <;> simp

@[simp] theorem clock_dropClose (s : State) (d : Nat) : (s.dropClose d).clock = s.clock := by
  simp [State.dropClose]

@[simp] theorem clock_commitHold (s : State) (d : Nat) : (s.commitHold d).clock = s.clock := by
  unfold State.commitHold
  dsimp only
  split <;> simp

@[simp] theorem clock_commitDoor (s : State) (d : Nat) : (s.commitDoor d).clock = s.clock := by
  cases hn : ((s.commitHold d).door d).next <;> cases hg : ((s.commitHold d).door d).granted <;> simp [State.commitDoor, hn, hg]

@[simp] theorem clock_decideOn (s : State) (d : Nat) (t : Trans) : (s.decideOn d t).clock = s.clock := by
  simp [State.decideOn]

@[simp] theorem clock_edgesTick (s : State) (d : Nat) : (s.edgesTick d).clock = s.clock := by
  simp [State.edgesTick]

@[simp] theorem clock_cancelStart (s : State) (d : Nat) : (s.cancelStart d).clock = s.clock := by
  simp [State.cancelStart]

@[simp] theorem clock_dropOpening (s : State) (d : Nat) : (s.dropOpening d).clock = s.clock := by
  unfold State.dropOpening
  split <;> simp

@[simp] theorem clock_rerunStep (s : State) (d : Nat) : (s.rerunStep d).clock = s.clock := by
  cases h : (s.door d).interrupted <;> simp [State.rerunStep, h]

@[simp] theorem clock_closePending (s : State) (d : Nat) : (s.closePending d).clock = s.clock := by
  unfold State.closePending
  dsimp only
  split <;> simp

@[simp] theorem clock_enableTick (s : State) (d : Nat) (cmds : List DoorCmd) : (s.enableTick d cmds).clock = s.clock := by
  simp [State.enableTick]

@[simp] theorem clock_requestLocked (s : State) (d : Nat) (edge : Bool) : (s.requestLocked d edge).1.clock = s.clock := by
  simp [State.requestLocked]

@[simp] theorem clock_learnLocked (s : State) (d : Nat) (l : Learn) : (s.learnLocked d l).clock = s.clock := by
  simp [State.learnLocked]

@[simp] theorem clock_evalLocked (s : State) (d : Nat) (cmds : List DoorCmd) (req : Bool) : (s.evalLocked d cmds req).1.clock = s.clock := by
  unfold State.evalLocked
  dsimp only
  split
  · simp
  · split
    · simp
    · split <;> simp

@[simp] theorem clock_evalUnlocked (s : State) (d : Nat) (cmds : List DoorCmd) : (s.evalUnlocked d cmds).1.clock = s.clock := by
  cases h : (s.door d).unlockAt <;> simp [State.evalUnlocked, h]

@[simp] theorem clock_evalOpening (s : State) (d : Nat) (_cmds : List DoorCmd) : (s.evalOpening d _cmds).1.clock = s.clock := by
  unfold State.evalOpening
  dsimp only
  iterate 7 refine clock_ite_fst_of (by simp) ?_
  split <;> simp

@[simp] theorem clock_beginWarning (s : State) (d : Nat) (o : WarnOrigin) : (s.beginWarning d o).clock = s.clock := by
  simp [State.beginWarning]

@[simp] theorem clock_warningOver (s : State) (d : Nat) : (s.warningOver d).clock = s.clock := by
  simp [State.warningOver]

@[simp] theorem clock_evalOpen (s : State) (d : Nat) (cmds : List DoorCmd) (req : Bool) : (s.evalOpen d cmds req).1.clock = s.clock := by
  simp [State.evalOpen]

@[simp] theorem clock_evalClosing (s : State) (d : Nat) (cmds : List DoorCmd) (req : Bool) : (s.evalClosing d cmds req).1.clock = s.clock := by
  simp [State.evalClosing]

@[simp] theorem clock_evalObstructed (s : State) (d : Nat) : (s.evalObstructed d).clock = s.clock := by
  simp [State.evalObstructed]

@[simp] theorem clock_evalHold (s : State) (d : Nat) (cmds : List DoorCmd) : (s.evalHold d cmds).1.clock = s.clock := by
  simp [State.evalHold]

@[simp] theorem clock_evaluate (s : State) (d : Nat) : (s.evaluate d).clock = s.clock := by
  unfold State.evaluate
  extract_lets +onlyGivenNames s1 x cmds st faults s2
  have h2 : s2.clock = s.clock := by simp [s2, s1]
  split
  next s3 done heq =>
  have h3 : s3.clock = s2.clock := by
    rw [show s3 = _ from (congrArg Prod.fst heq).symm]
    clear heq h2
    clear_value s2 faults st
    refine clock_ite_fst_of ?_ (clock_ite_fst_of ?_ (clock_ite_fst_of ?_ (clock_ite_fst_of ?_ ?_)))
    · cases faults <;> simp
    · cases faults <;> simp
    · cases faults <;> simp
    · simp
    · cases faults with
      | cons c l => simp
      | nil =>
        refine clock_ite_fst_of ?_ (clock_ite_fst_of ?_ (clock_ite_fst_of ?_ ?_))
        · simp
        · simp
        · simp
        · dsimp only
          split <;> simp
  rw [clock_foldl, h3, h2]
  intro s c
  split <;> simp

@[simp] theorem clock_statusTick (s : State) (d : Nat) : (s.statusTick d).clock = s.clock := by
  simp [State.statusTick]

@[simp] theorem clock_maskTick (s : State) : s.maskTick.clock = s.clock := by
  simp [State.maskTick]

@[simp] theorem clock_monitorTick (s : State) (d : Nat) : (s.monitorTick d).clock = s.clock := by
  simp [State.monitorTick]

@[simp] theorem clock_modesInForce (s : State) (old : State) : (s.modesInForce old).clock = s.clock := by
  simp [State.modesInForce]

/-! ### NSL connections (`Machine/Nsl`) -/

@[simp] theorem clock_setConn (s : State) (n : Nat) (x : Conn) : (s.setConn n x).clock = s.clock := by
  simp [State.setConn]

@[simp] theorem clock_toConn (s : State) (n st : Nat) : (s.toConn n st).clock = s.clock := by
  simp [State.toConn]

@[simp] theorem clock_leftRun (s : State) (n : Nat) : (s.leftRun n).clock = s.clock := by
  simp [State.leftRun]

@[simp] theorem clock_connTick (s : State) (n : Nat) : (s.connTick n).clock = s.clock := by
  simp [State.connTick]

@[simp] theorem clock_connsTick (s : State) : s.connsTick.clock = s.clock := by
  simp [State.connsTick]

@[simp] theorem clock_summaryTick (s : State) : s.summaryTick.clock = s.clock := by
  simp [State.summaryTick]

/-! ### The duplex pair (`Machine/Duplex`) -/

@[simp] theorem clock_showDuplex (s : State) : s.showDuplex.clock = s.clock := by
  simp [State.showDuplex]

@[simp] theorem clock_deriveMode (s : State) : s.deriveMode.clock = s.clock := by
  simp [State.deriveMode]

@[simp] theorem clock_linksListen (s : State) : s.linksListen.clock = s.clock := by
  simp [State.linksListen]

@[simp] theorem clock_linksLetGo (s : State) : s.linksLetGo.clock = s.clock := by
  simp [State.linksLetGo]

@[simp] theorem clock_release (s : State) : s.release.clock = s.clock := by
  simp [State.release]

@[simp] theorem clock_keepAlive (s : State) : s.keepAlive.clock = s.clock := by
  simp [State.keepAlive]

@[simp] theorem clock_sendPartner (s : State) : s.sendPartner.clock = s.clock := by
  simp [State.sendPartner]

@[simp] theorem clock_keepSlots (s : State) : s.keepSlots.clock = s.clock := by
  simp [State.keepSlots]

@[simp] theorem clock_setSync (s : State) (new : Nat) : (s.setSync new).clock = s.clock := by
  simp [State.setSync]

@[simp] theorem clock_syncTick (s : State) : s.syncTick.clock = s.clock := by
  simp [State.syncTick]

@[simp] theorem clock_syncMissing (s : State) : s.syncMissing.clock = s.clock := by
  simp [State.syncMissing]

@[simp] theorem clock_sendItem (s : State) (kind inst : Nat) : (s.sendItem kind inst).clock = s.clock := by
  unfold State.sendItem
  split <;> simp

@[simp] theorem clock_readyTick (s : State) : s.readyTick.clock = s.clock := by
  simp [State.readyTick]

@[simp] theorem clock_newCopy (s : State) (kind inst : Nat) : (s.newCopy kind inst).clock = s.clock := by
  simp [State.newCopy]

@[simp] theorem clock_showDigest (s : State) : s.showDigest.clock = s.clock := by
  simp [State.showDigest]

@[simp] theorem clock_adoptDoor (s : State) (x : SnapDoor) : (s.adoptDoor x).clock = s.clock := by
  unfold State.adoptDoor
  split <;> simp

@[simp] theorem clock_adoptTick (s : State) : s.adoptTick.clock = s.clock := by
  cases h : s.duplex.snapAt <;> simp [State.adoptTick, h]

@[simp] theorem clock_pumpItems (n : Nat) (s : State) : (s.pumpItems n).clock = s.clock := by
  induction n generalizing s with
  | zero => rfl
  | succ n ih =>
    unfold State.pumpItems
    split
    · rfl
    · split
      · rfl
      · simp [ih]

@[simp] theorem clock_duplexDoor (s : State) : s.duplexDoor.clock = s.clock := by
  simp [State.duplexDoor]

@[simp] theorem clock_partnerSend (s : State) : s.partnerSend.clock = s.clock := by
  simp [State.partnerSend]

@[simp] theorem clock_duplexFast (s : State) : s.duplexFast.clock = s.clock := by
  simp [State.duplexFast]

/-! ### Outputs (`Machine/Outputs`) -/

@[simp] theorem clock_setChan (s : State) (q : Nat) (x : OutChan) : (s.setChan q x).clock = s.clock := by
  simp [State.setChan]

@[simp] theorem clock_setDie (s : State) (d : Nat) (x : FieldDie) : (s.setDie d x).clock = s.clock := by
  simp [State.setDie]

@[simp] theorem clock_modChan (s : State) (q : Nat) (f : OutChan → OutChan) : (s.modChan q f).clock = s.clock := by
  simp [State.modChan]

@[simp] theorem clock_interruptLearn (s : State) (q : Nat) : (s.interruptLearn q).clock = s.clock := by
  simp [State.interruptLearn]

@[simp] theorem clock_turnOn (s : State) (q : Nat) : (s.turnOn q).clock = s.clock := by
  simp [State.turnOn]

@[simp] theorem clock_turnOff (s : State) (q : Nat) : (s.turnOff q).clock = s.clock := by
  simp [State.turnOff]

@[simp] theorem clock_refresh (s : State) (q : Nat) : (s.refresh q).clock = s.clock := by
  simp [State.refresh]

@[simp] theorem clock_drive (s : State) (q : Nat) (want steady : Bool) (pg phase : Nat) : (s.drive q want steady pg phase).clock = s.clock := by
  cases h : (s.chan q).wantSince <;> simp [State.drive, h]

@[simp] theorem clock_sendDemand (s : State) (q : Nat) : (s.sendDemand q).clock = s.clock := by
  simp [State.sendDemand]

@[simp] theorem clock_faultMasks (s : State) : s.faultMasks.clock = s.clock := by
  simp [State.faultMasks]

@[simp] theorem clock_judgeLamp (s : State) (j : Nat) : (s.judgeLamp j).clock = s.clock := by
  unfold State.judgeLamp
  split <;> simp

@[simp] theorem clock_takeChan (s : State) (r : ChanReport) : (s.takeChan r).clock = s.clock := by
  simp [State.takeChan]

@[simp] theorem clock_heatTick (s : State) (other : Nat) : (s.heatTick other).clock = s.clock := by
  simp [State.heatTick]

@[simp] theorem clock_feedDie (s : State) (die : Nat) : (s.feedDie die).clock = s.clock := by
  simp [State.feedDie]

@[simp] theorem clock_outputsTick (s : State) (rep : DoorReport) : (s.outputsTick rep).clock = s.clock := by
  simp [State.outputsTick]

/-! ### Power and sleep (`Machine/Power`) -/

@[simp] theorem clock_commitNv (s : State) : s.commitNv.clock = s.clock := by
  simp [State.commitNv]

@[simp] theorem clock_domainTick (s : State) : s.domainTick.clock = s.clock := by
  simp [State.domainTick]

@[simp] theorem clock_powerTick (s : State) : s.powerTick.clock = s.clock := by
  unfold State.powerTick
  split <;> simp

@[simp] theorem clock_stableDie (s : State) (die : Nat) : (s.stableDie die).clock = s.clock := by
  simp [State.stableDie]

@[simp] theorem clock_sleepTick (s : State) : s.sleepTick.clock = s.clock := by
  unfold State.sleepTick
  split <;> simp

@[simp] theorem clock_readingsTick (s : State) (rep : DoorReport) : (s.readingsTick rep).clock = s.clock := by
  cases h1 : rep.supplies <;> cases h2 : rep.vfield <;> cases h3 : rep.temps <;> simp [State.readingsTick, h1, h2, h3]

@[simp] theorem clock_rtcTick (s : State) : s.rtcTick.clock = s.clock := by
  have power : ∀ p, State.clock { s with power := p } = s.clock := fun _ => rfl
  unfold State.rtcTick
  extract_lets step n
  split
  · exact (clock_wrn _ _ (by simp)).trans (power _)
  · exact power _

/-! ### Security (`Machine/Security`) -/

@[simp] theorem clock_attestTick (s : State) : s.attestTick.clock = s.clock := by
  simp [State.attestTick]

@[simp] theorem clock_showSessions (s : State) : s.showSessions.clock = s.clock := by
  simp [State.showSessions]

@[simp] theorem clock_setAnchor (s : State) (body : List ByteN) : (s.setAnchor body).clock = s.clock := by
  simp [State.setAnchor]

@[simp] theorem clock_debugSafeState (s : State) : s.debugSafeState.clock = s.clock := by
  simp [State.debugSafeState]

@[simp] theorem clock_debugTick (s : State) : s.debugTick.clock = s.clock := by
  unfold State.debugTick
  split <;> simp

@[simp] theorem clock_securityTick (s : State) : s.securityTick.clock = s.clock := by
  simp [State.securityTick]

/-! ### Networks (`Machine/Network`) -/

@[simp] theorem clock_busRecover (s : State) : s.busRecover.clock = s.clock := by
  simp [State.busRecover]

/-! ### Parts of the ticks (`Machine/Ticks`) -/

@[simp] theorem clock_enforceFast (s : State) (a : Nat) : (s.enforceFast a).clock = s.clock := by
  simp [State.enforceFast]

@[simp] theorem clock_inForce (s : State) : s.inForce.clock = s.clock := by
  simp [State.inForce]

@[simp] theorem clock_refillBuckets (s old : State) : (s.refillBuckets old).clock = s.clock := by
  simp [State.refillBuckets]

@[simp] theorem clock_enforceDoor (s : State) : s.enforceDoor.clock = s.clock := by
  simp [State.enforceDoor]

@[simp] theorem clock_sendOff (s : State) : s.sendOff.clock = s.clock := by
  unfold State.sendOff
  refine clock_foldl (fun s n => ?_) _ s
  split <;> simp

@[simp] theorem clock_latchMotion (s : State) (a : Nat) : (latchMotion s a).clock = s.clock := by
  simp [latchMotion]

@[simp] theorem clock_fastDoors (s : State) : s.fastDoors.clock = s.clock := by
  simp [State.fastDoors]

@[simp] theorem clock_forgetCleared (s : State) : s.forgetCleared.clock = s.clock := by
  simp [State.forgetCleared]

@[simp] theorem clock_motionTick (s : State) : s.motionTick.clock = s.clock := by
  simp [State.motionTick]

@[simp] theorem clock_takeLoads (s : State) (rep : DoorReport) : (s.takeLoads rep).clock = s.clock := by
  unfold State.takeLoads
  split <;> simp

@[simp] theorem clock_commitDoors (s : State) : s.commitDoors.clock = s.clock := by
  simp [State.commitDoors]

@[simp] theorem clock_evaluateDoors (s : State) : s.evaluateDoors.clock = s.clock := by
  simp [State.evaluateDoors]

@[simp] theorem clock_confirmDoor (s : State) : s.confirmDoor.clock = s.clock := by
  simp [State.confirmDoor]

@[simp] theorem clock_doorInputs (s : State) (rep : DoorReport) : (s.doorInputs rep).clock = s.clock := by
  simp [State.doorInputs]

@[simp] theorem clock_doorSequence (s : State) : s.doorSequence.clock = s.clock := by
  simp [State.doorSequence]

@[simp] theorem clock_doorEngines (s : State) : s.doorEngines.clock = s.clock := by
  simp [State.doorEngines]

@[simp] theorem clock_motorChanged (s : State) (a : Nat) : (s.motorChanged a).clock = s.clock := by
  simp [State.motorChanged]

@[simp] theorem clock_motorsTick (s : State) : s.motorsTick.clock = s.clock := by
  simp [State.motorsTick]

@[simp] theorem clock_doorCommon (s : State) : s.doorCommon.clock = s.clock := by
  simp [State.doorCommon]

@[simp] theorem clock_doorTick (s : State) (rep : DoorReport) : (s.doorTick rep).clock = s.clock := by
  simp [State.doorTick]

/-! ### The three ticks (R22, R26) -/

theorem now_of_clock {s t : State} (h : t.clock = s.clock) : t.now = s.now := congrArg Prod.fst h

theorem rd_fastTickCount_of_clock {s t : State} (h : t.clock = s.clock) : t.rd Gl.FAST_TICK_COUNT = s.rd Gl.FAST_TICK_COUNT := congrArg Prod.snd h

theorem running_rtcTick (s : State) : s.rtcTick.running = s.running := by
  have part : ∀ m, State.running { s with power := { s.power with rtcPart := m } } = s.running := fun _ => rfl
  have written : ∀ (t : State) (k v : Nat), (t.wrn k v).running = t.running := fun _ _ _ => rfl
  unfold State.rtcTick
  extract_lets step n
  split
  · exact (written _ _ _).trans (part _)
  · exact part _

theorem rdn_rtcTick_of_clock (s : State) : s.rtcTick.rdn Gl.FAST_TICK_COUNT = s.rdn Gl.FAST_TICK_COUNT :=
  congrArg Int.toNat (rd_fastTickCount_of_clock (clock_rtcTick s))

theorem clock_wrn_fastTickCount (s : State) (n : Nat) : (s.wrn Gl.FAST_TICK_COUNT n).clock = (s.now, (n : Int)) :=
  Prod.ext rfl (rd_wr_same s Gl.FAST_TICK_COUNT n)

/-- On a running module a fast tick moves the time and FAST_TICK_COUNT by one. -/
theorem clock_fastTick {s : State} (h : s.running = true) :
    s.fastTick.clock = (s.now + 1, (((s.rdn Gl.FAST_TICK_COUNT + 1) % 4096000000 : Nat) : Int)) := by
  have run : { s with now := s.now + 1 }.rtcTick.running = true := (running_rtcTick _).trans h
  have time : { s with now := s.now + 1 }.rtcTick.now = s.now + 1 := now_of_clock (clock_rtcTick { s with now := s.now + 1 })
  have count : { s with now := s.now + 1 }.rtcTick.rdn Gl.FAST_TICK_COUNT = s.rdn Gl.FAST_TICK_COUNT := rdn_rtcTick_of_clock { s with now := s.now + 1 }
  simp [State.fastTick, run, time, count, clock_wrn_fastTickCount]

theorem exec_motionTick_clock (s : State) : ∃ t, exec .motionTick s = .next t ∧ t.clock = s.clock := by
  refine ⟨_, show execMotionTick s = _ from rfl, ?_⟩
  simp

theorem exec_doorTick_clock (rep : DoorReport) (s : State) : ∃ t, exec (.doorTick rep) s = .next t ∧ t.clock = s.clock := by
  refine ⟨_, show execDoorTick rep s = _ from rfl, ?_⟩
  simp

/-- Settles O60: every function of the three ticks keeps the time and FAST_TICK_COUNT, but for the fast tick's own two steps. -/
theorem fastTickCounts : Obligations.FastTickCounts := by
  intro s run
  refine ⟨⟨_, show execFastTick s = _ from rfl, ?_⟩, ?_, fun rep => ?_⟩
  · have moved := (clock_settle s.fastTick s.pending).trans (clock_fastTick run)
    exact ⟨congrArg Prod.fst moved, congrArg (fun c : Nat × Int => c.2.toNat) moved⟩
  · obtain ⟨t, ht, kept⟩ := exec_motionTick_clock s
    exact ⟨t, ht, now_of_clock kept, rd_fastTickCount_of_clock kept⟩
  · obtain ⟨t, ht, kept⟩ := exec_doorTick_clock rep s
    exact ⟨t, ht, now_of_clock kept, rd_fastTickCount_of_clock kept⟩

end Sys2Proof.Machine

namespace Sys2Proof.Machine

/-!
A write of an entry, from its arrival to its answer (R36, R37, R429, R433, R439). Beside the entry's own effect it touches the registers of
`accessRegs` and few parts of the state. A function of the state that sees none of these is the same behind the write as behind the effect.
-/

/-! ### What an access leaves alone -/

/-- A function that sees neither the registers of a dictionary access nor the parts of the state that it uses. -/
structure AccessBlind {α : Type} (f : State → α) : Prop where
  wr : ∀ (s : State) {k : Nat} (v : Int), k ∈ accessRegs → f (s.wr k v) = f s
  rest : ∀ (s : State) (answer : Option Nat) (egress : List Egress) (net : Net) (free : Nat) (sessions : List Session) (power : Power)
    (duplex : Duplex), f { s with answer, egress, net, free, sessions, power, duplex } = f s

theorem accessBlind_rd {k : Nat} (h : k ∉ accessRegs) : AccessBlind (State.rd · k) where
  wr s _ v hj := rd_wr_ne (ne_of_mem_of_not_mem hj h).symm s v
  rest _ _ _ _ _ _ _ _ := rfl

theorem accessBlind_doors : AccessBlind State.doors := ⟨fun _ _ _ _ => rfl, fun _ _ _ _ _ _ _ _ => rfl⟩

theorem accessBlind_eff : AccessBlind State.eff := ⟨fun _ _ _ _ => rfl, fun _ _ _ _ _ _ _ _ => rfl⟩

theorem accessBlind_part : AccessBlind State.part := ⟨fun _ _ _ _ => rfl, fun _ _ _ _ _ _ _ _ => rfl⟩

/-! ### Arrival and answer -/

/-- A request counted on its port and in its slot, before its session is looked up. -/
def State.admitted (s : State) (via : Via) (cls : Nat) (content : Nat × Nat × Val × Option Seg) : State :=
  let s := s.countRx via
  let s := s.countSlots (ownsSlot via content.2.2.2 s)
  if cls = 1 then s.c1Latency else s

theorem eq_go_of_free {r : Front} {u : State} (h : r.free = .go u) : r = .go u := by
  cases r with
  | stop s => cases h
  | go s => exact h

/-- A request that goes on to its entry: it was admitted, its session may be marked, and its domain is awake. -/
theorem front_go {via : Via} {cls : Nat} {content : Nat × Nat × Val × Option Seg} {s u : State} (h : front via cls content s = .go u) :
    ∃ sessions, u = State.touch { s.admitted via cls content with sessions } content.1 := by
  unfold front at h
  extract_lets recovery counted turned held admitted at h
  split at h
  · cases h
  split at h
  · cases h
  split at h
  · cases h
  replace h := eq_go_of_free h
  cases via with
  | mirror => exact ⟨_, (Front.go.inj h).symm⟩
  | sdo =>
    simp only at h
    split at h
    · cases h
    · exact ⟨_, (Front.go.inj h).symm⟩
  | pdo =>
    simp only at h
    split at h
    · exact ⟨_, (Front.go.inj h).symm⟩
    · cases h
  | msg m =>
    simp only [frontMsg] at h
    split at h
    · cases h
    split at h
    · cases h
    split at h
    · cases h
    split at h
    · cases h
    · exact ⟨_, (Front.go.inj h).symm⟩

@[simp] theorem answer_reply (via : Via) (cls : Nat) (content : Nat × Nat × Val × Option Seg) (ab : Nat) (s : State) :
    (reply via cls content ab s).answer = some ab := by
  cases via <;> rfl

namespace AccessBlind

variable {α : Type} {f : State → α} (h : AccessBlind f)
include h

theorem count (s : State) {k : Nat} (hk : k ∈ accessRegs) : f (s.count k) = f s := h.wr s _ hk

theorem setB (s : State) {k : Nat} (i : Nat) (b : Bool) (hk : k ∈ accessRegs) : f (s.setB k i b) = f s := h.wr s _ hk

theorem sessions (s : State) (x : List Session) : f { s with sessions := x } = f s :=
  h.rest s s.answer s.egress s.net s.free x s.power s.duplex

theorem power (s : State) (p : Power) : f { s with power := p } = f s := h.rest s s.answer s.egress s.net s.free s.sessions p s.duplex

theorem duplex (s : State) (x : Duplex) : f { s with duplex := x } = f s := h.rest s s.answer s.egress s.net s.free s.sessions s.power x

theorem net (s : State) (x : Net) : f { s with net := x } = f s := h.rest s s.answer s.egress x s.free s.sessions s.power s.duplex

theorem send (s : State) (e : Egress) : f (s.send e) = f s := h.rest s s.answer _ s.net s.free s.sessions s.power s.duplex

theorem countRx (s : State) (via : Via) : f (s.countRx via) = f s := by
  cases via with
  | msg m =>
    simp only [State.countRx]
    split
    · refine h.count s ?_
      rcases Nat.mod_two_eq_zero_or_one m.source with e | e <;> rw [e] <;> decide
    · rfl
  | sdo => exact h.count s (by decide)
  | pdo => rfl
  | mirror => rfl

theorem slotPeak (s : State) : f s.slotPeak = f s := by
  unfold State.slotPeak State.raiseMax
  split
  · exact h.wr s _ (by decide)
  · rfl

theorem countSlots (s : State) (owns : Bool) : f (s.countSlots owns) = f s := by
  unfold State.countSlots
  split
  · rfl
  · rw [h.slotPeak]
    exact h.wr s _ (by decide)

theorem c1Latency (s : State) : f s.c1Latency = f s := h.rest s s.answer s.egress _ (s.free + 1) s.sessions s.power s.duplex

theorem admitted (s : State) (via : Via) (cls : Nat) (content : Nat × Nat × Val × Option Seg) : f (s.admitted via cls content) = f s := by
  have slots := (h.countSlots (s.countRx via) (ownsSlot via content.2.2.2 (s.countRx via))).trans (h.countRx s via)
  unfold State.admitted
  dsimp only
  split
  · exact (h.c1Latency _).trans slots
  · exact slots

theorem domainOn (s : State) (i : Nat) : f (s.domainOn i) = f s := by
  unfold State.domainOn State.showDoze
  rw [h.setB _ _ _ (by decide), h.count _ (by decide), h.setB _ _ _ (by decide)]
  exact h.power s _

theorem touch (s : State) (index : Nat) : f (s.touch index) = f s := by
  unfold State.touch
  dsimp only
  split
  · split
    · exact h.power s _
    · exact h.domainOn s 4
  · split
    · split
      · exact h.power s _
      · exact h.domainOn s 7
    · rfl

theorem showTxn (s : State) : f s.showTxn = f s := h.wr s _ (by decide)

theorem front {via : Via} {cls : Nat} {content : Nat × Nat × Val × Option Seg} {s u : State} (go : front via cls content s = .go u) : f u = f s := by
  obtain ⟨sessions, rfl⟩ := front_go go
  rw [h.touch, h.sessions, h.admitted]

theorem mirrorSend (s : State) (type : Nat) (data : List ByteN) (item : Option (Nat × Nat)) : f (s.mirrorSend type data item) = f s := by
  unfold State.mirrorSend
  split
  · rfl
  · rw [h.send]
    exact h.duplex s _

theorem mirrorWrite (s : State) (via : Via) (k : Nat) (bs : List ByteN) : f (s.mirrorWrite via k bs) = f s := by
  unfold State.mirrorWrite
  split
  · rfl
  · extract_lets _ _ s₁ _ s₂
    have marked : f s₂ = f s := (h.duplex s₁ _).trans (h.wr s _ (by decide))
    split
    · split
      · exact (h.duplex s₂ _).trans marked
      · exact marked
    · exact (h.mirrorSend s₂ _ _ _).trans marked

theorem reply (s : State) (via : Via) (cls : Nat) (content : Nat × Nat × Val × Option Seg) (ab : Nat) :
    f (reply via cls content ab s) = f s := by
  have shown : f { s with answer := some ab }.showTxn = f s :=
    (h.showTxn _).trans (h.rest s _ s.egress s.net s.free s.sessions s.power s.duplex)
  cases via with
  | msg m => exact (h.net _ _).trans ((h.send _ _).trans shown)
  | sdo => exact (h.send _ _).trans shown
  | pdo => exact shown
  | mirror => exact shown

theorem reaches {via : Via} {index sub : Nat} {v n : Int} {lv : Option (Level → Bool)} {s u : State} (reach : Reaches via index sub v lv s u n) :
    f u = f s := h.front reach.1

end AccessBlind

/-! ### A write that reaches its entry -/

section
variable {via : Via} {index sub : Nat} {v n : Int} {lv : Option (Level → Bool)} {s u : State} (reach : Reaches via index sub v lv s u n)
include reach

theorem writeNum_accepted {e : Effect} {w : State} (ok : e n u = .ok w) (refused : State → State) :
    writeNum via index sub (.num v) lv refused e s
      = reply via (requestClass index sub false) (index, sub, .num v, none) 0
          (w.mirrorWrite via (key index sub) (valueBytes (key index sub) n)) := by
  obtain ⟨arrives, checked, inside⟩ := reach
  simp [writeNum, writeSeg, arrives, checked, inside, ok]

theorem writeNum_refused {e : Effect} {ab : Nat} (bad : e n u = .error ab) (path : via ≠ .pdo) (refused : State → State) :
    writeNum via index sub (.num v) lv refused e s = reply via (requestClass index sub false) (index, sub, .num v, none) ab u := by
  obtain ⟨arrives, checked, inside⟩ := reach
  simp [writeNum, writeSeg, arrives, checked, inside, bad, path]

theorem answer_writeNum_accepted {e : Effect} {w : State} (ok : e n u = .ok w) (refused : State → State) :
    (writeNum via index sub (.num v) lv refused e s).answer = some 0 := by
  rw [writeNum_accepted reach ok, answer_reply]

theorem AccessBlind.writeNum_accepted {α : Type} {f : State → α} (h : AccessBlind f) {e : Effect} {w : State} (ok : e n u = .ok w)
    (refused : State → State) : f (writeNum via index sub (.num v) lv refused e s) = f w := by
  rw [Machine.writeNum_accepted reach ok, h.reply, h.mirrorWrite]

theorem answer_writeNum_refused {e : Effect} {ab : Nat} (bad : e n u = .error ab) (path : via ≠ .pdo) (refused : State → State) :
    (writeNum via index sub (.num v) lv refused e s).answer = some ab := by
  rw [writeNum_refused reach bad path, answer_reply]

theorem AccessBlind.writeNum_refused {α : Type} {f : State → α} (h : AccessBlind f) {e : Effect} {ab : Nat} (bad : e n u = .error ab)
    (path : via ≠ .pdo) (refused : State → State) : f (writeNum via index sub (.num v) lv refused e s) = f s := by
  rw [Machine.writeNum_refused reach bad path, h.reply, h.reaches reach]

end

/-! ### The end of a command, for the answer and the doorways -/

@[simp] theorem settle_answer (t : State) (q : List Instr) : (t.settle q).answer = t.answer :=
  settle_blind (f := State.answer) (fun _ _ _ _ _ => rfl) t q

@[simp] theorem settle_doors (t : State) (q : List Instr) : (t.settle q).doors = t.doors :=
  settle_blind (f := State.doors) (fun _ _ _ _ _ => rfl) t q

theorem door_of_doors {s t : State} (h : t.doors = s.doors) (d : Nat) : t.door d = s.door d := by rw [State.door, h, State.door]

@[simp] theorem door_settle (t : State) (q : List Instr) (d : Nat) : (t.settle q).door d = t.door d := door_of_doors (settle_doors t q) d

theorem door_modDoor_same (s : State) (d : Nat) (f : Door → Door) : (s.modDoor d f).door d = f (s.door d) := door_setDoor_same s d _

theorem door_modDoor_ne {d e : Nat} (h : e ≠ d) (s : State) (f : Door → Door) : (s.modDoor d f).door e = s.door e := door_setDoor_ne h s _

/-! ### Registers of the doorways -/

/-- A register of the doorways' entries, 0x3000 to 0x33FF. -/
abbrev DoorReg (k : Nat) : Prop := 256 * 0x3000 ≤ k ∧ k < 256 * 0x3400

theorem DoorReg.not_mem_wiredRegs {k : Nat} (h : DoorReg k) : k ∉ wiredRegs := fun m => (by decide : ∀ j ∈ wiredRegs, ¬ DoorReg j) k m h

theorem DoorReg.not_mem_accessRegs {k : Nat} (h : DoorReg k) : k ∉ accessRegs := fun m => (by decide : ∀ j ∈ accessRegs, ¬ DoorReg j) k m h

theorem DoorReg.not_mem_sampleRegs {k : Nat} (h : DoorReg k) : k ∉ sampleRegs := fun m => (by decide : ∀ j ∈ sampleRegs, ¬ DoorReg j) k m h

theorem doorReg_command {d : Nat} (hd : d < 16) : DoorReg (Dr.COMMAND d) := by
  simp only [DoorReg, Dr.COMMAND, key]
  omega

/-! ### Commands of a doorway (R54, R56) -/

/-- A command of the doorway that shows in COMMAND and waits for the next door tick. -/
def State.commandWaits (s : State) (d n : Nat) : State :=
  (s.wr (Dr.COMMAND d) n).modDoor d fun x => { x with cmds := x.cmds ++ [{ cmd := n, car := false }] }

theorem rd_commandWaits (s : State) (d n k : Nat) : (s.commandWaits d n).rd k = if k = Dr.COMMAND d then (n : Int) else s.rd k :=
  rd_wr s (Dr.COMMAND d) k n

theorem door_commandWaits_same (s : State) (d n : Nat) :
    (s.commandWaits d n).door d = { s.door d with cmds := (s.door d).cmds ++ [{ cmd := n, car := false }] } := door_modDoor_same _ d _

theorem door_commandWaits_ne {d e : Nat} (h : e ≠ d) (s : State) (n : Nat) : (s.commandWaits d n).door e = s.door e := door_modDoor_ne h _ _

theorem commandEffect_accepted {s : State} {d n : Nat} (ok : commandOk s d n = true) (hn : n ≠ 0) :
    commandEffect d n s = .ok (s.commandWaits d n) := by
  simp [commandEffect, State.commandWaits, ok, hn]

theorem commandEffect_refused {s : State} {d n : Nat} (bad : commandOk s d n = false) : commandEffect d n s = .error 0x08000022 := by
  simp [commandEffect, bad, abState]

/-- The commands of a doorway, with the value of COMMAND that each writes (R54). -/
def doorwayCommands : List ((Via → Nat → Instr) × Nat) :=
  [(Instr.open_, 1), (Instr.close, 2), (Instr.holdOpen, 3), (Instr.endHold, 4), (Instr.reset, 5), (Instr.forcedClose, 6)]

theorem exec_doorwayCommand {c : Via → Nat → Instr} {n : Nat} (h : (c, n) ∈ doorwayCommands) (via : Via) (d : Nat) (s : State) :
    exec (c via d) s = done s (doorCommand via d n s) ∧ n ≠ 0 := by
  simp only [doorwayCommands, List.mem_cons, List.not_mem_nil, or_false, Prod.mk.injEq] at h
  rcases h with ⟨rfl, rfl⟩ | ⟨rfl, rfl⟩ | ⟨rfl, rfl⟩ | ⟨rfl, rfl⟩ | ⟨rfl, rfl⟩ | ⟨rfl, rfl⟩ <;> exact ⟨rfl, by decide⟩

/-- Settles O22: the write of COMMAND ends in its answer, and what it leaves of the doorways and of the registers is its effect's. -/
theorem doorwayCommandsWaitForTheDoorTick : Obligations.DoorwayCommandsWaitForTheDoorTick := by
  intro s via d hd
  have reg := doorReg_command hd
  constructor
  · intro c n hc u reach ok
    obtain ⟨run, hn⟩ := exec_doorwayCommand hc via d s
    have effect := commandEffect_accepted ok hn
    have doors : (doorCommand via d n s).doors = (u.commandWaits d n).doors := accessBlind_doors.writeNum_accepted reach effect _
    have before : u.doors = s.doors := accessBlind_doors.reaches reach
    have regs : ∀ k, k ∉ accessRegs → (doorCommand via d n s).rd k = if k = Dr.COMMAND d then (n : Int) else s.rd k := fun k hk => by
      rw [← (accessBlind_rd hk).reaches reach, ← rd_commandWaits]
      exact (accessBlind_rd hk).writeNum_accepted reach effect _
    refine ⟨_, run, ?answer, ?shown, ?waits, fun e he => ?others, KeepsRegs.settle _ fun k hk => ?kept⟩
    case answer => exact (settle_answer _ _).trans (answer_writeNum_accepted reach effect _)
    case shown => rw [rd_settle reg.not_mem_wiredRegs, regs _ reg.not_mem_accessRegs, if_pos rfl]
    case waits => rw [door_settle, door_of_doors doors, door_commandWaits_same, door_of_doors before]
    case others => rw [door_settle, door_of_doors doors, door_commandWaits_ne he, door_of_doors before]
    case kept =>
      obtain ⟨hc, ha⟩ := List.ne_and_not_mem_of_not_mem_cons hk
      rw [regs k ha, if_neg hc]
  · intro c n hc u reach bad path
    obtain ⟨run, -⟩ := exec_doorwayCommand hc via d s
    have effect := commandEffect_refused bad
    refine ⟨_, run, ?answer, ?doors, KeepsRegs.settle _ fun k hk => ?kept⟩
    case answer => exact (settle_answer _ _).trans (answer_writeNum_refused reach effect path _)
    case doors => exact (settle_doors _ _).trans (accessBlind_doors.writeNum_refused reach effect path _)
    case kept => exact (accessBlind_rd hk).writeNum_refused reach effect path _

/-! ### Car commands (R55) -/

/-- A car command as it reaches one doorway, if that is on its side. -/
def State.carOrder (s : State) (cmd : Nat) (side : Option Nat) (d : Nat) : State :=
  if side = none ∨ side = some (doorSide s d) then s.modDoor d (fun x => { x with cmds := x.cmds ++ [{ cmd, car := true }] }) else s

/-- A car command as it reaches doorways one after the other. -/
def State.carOrders (s : State) (cmd : Nat) (side : Option Nat) (l : List Nat) : State := l.foldl (fun s d => s.carOrder cmd side d) s

theorem carOrder_blind {α : Type} {f : State → α} (h : ∀ (s : State) (x : Store Door), f { s with doors := x } = f s) (s : State) (cmd : Nat)
    (side : Option Nat) (d : Nat) : f (s.carOrder cmd side d) = f s := by
  unfold State.carOrder
  split
  · exact h s _
  · rfl

theorem rd_carOrders (s : State) (cmd : Nat) (side : Option Nat) (l : List Nat) (k : Nat) : (s.carOrders cmd side l).rd k = s.rd k :=
  foldl_keeps (State.rd · k) (fun s d => carOrder_blind (f := (State.rd · k)) (fun _ _ => rfl) s cmd side d) l s

theorem door_carOrder_same (s : State) (cmd : Nat) (side : Option Nat) (d : Nat) :
    (s.carOrder cmd side d).door d = if side = none ∨ side = some (doorSide s d) then
      { s.door d with cmds := (s.door d).cmds ++ [{ cmd, car := true }] } else s.door d := by
  unfold State.carOrder
  split
  · exact door_modDoor_same s d _
  · rfl

theorem door_carOrder_ne {d e : Nat} (h : e ≠ d) (s : State) (cmd : Nat) (side : Option Nat) : (s.carOrder cmd side d).door e = s.door e := by
  unfold State.carOrder
  split
  · exact door_modDoor_ne h s _
  · rfl

/-- Of doorways that each stand once in the list, those on the command's side get it, once. -/
theorem door_carOrders {l : List Nat} (once : l.Nodup) (s : State) (cmd : Nat) (side : Option Nat) (d : Nat) :
    (s.carOrders cmd side l).door d = if d ∈ l ∧ (side = none ∨ side = some (doorSide s d)) then
      { s.door d with cmds := (s.door d).cmds ++ [{ cmd, car := true }] } else s.door d := by
  induction l generalizing s with
  | nil => simp [State.carOrders]
  | cons e l ih =>
    obtain ⟨fresh, once⟩ := List.nodup_cons.mp once
    have sides : doorSide (s.carOrder cmd side e) d = doorSide s d := carOrder_blind (f := (doorSide · d)) (fun _ _ => rfl) s cmd side e
    have step : s.carOrders cmd side (e :: l) = (s.carOrder cmd side e).carOrders cmd side l := rfl
    rw [step, ih once, sides]
    by_cases h : d = e
    · subst h
      simp [fresh, door_carOrder_same]
    · simp [h, door_carOrder_ne h]

theorem carCommand_eq {n cmd : Nat} {side : Option Nat} (h : carAction n = some (cmd, side)) (s : State) :
    s.carCommand n = s.carOrders cmd side (allDoors s) := by
  simp only [State.carCommand, h]
  rfl

theorem doorwaysConfigured_le (s : State) : s.doorwaysConfigured ≤ s.doorways := by
  unfold State.doorwaysConfigured State.doorways
  split
  · exact le_rfl
  · split <;> decide

theorem mem_allDoors {s : State} {d : Nat} : d ∈ allDoors s ↔ configured s d = true := by
  simp only [allDoors, List.mem_filter, List.mem_range, and_iff_right_iff_imp]
  intro h
  simp only [configured, Bool.and_eq_true, decide_eq_true_eq] at h
  exact h.1.trans_le (doorwaysConfigured_le s)

theorem nodup_allDoors (s : State) : (allDoors s).Nodup := List.nodup_range.filter _

/-- Which doorways are configured rests on the part, the strap and the types in force (R4, R45). -/
theorem configured_congr {s t : State} (part : t.part = s.part) (eff : t.eff = s.eff) (straps : t.rd Gl.STRAPS = s.rd Gl.STRAPS) (d : Nat) :
    configured t d = configured s d := by
  unfold configured State.doorwaysConfigured State.bit doorType State.pn State.p
  rw [part, eff, straps]

/-- The car commands: the value of CAR_COMMAND, the command that a doorway gets, and its side (R55). -/
def carCommands : List ((Via → Instr) × Nat × Nat × Option Nat) :=
  [(Instr.openLeft, 1, 1, some 0), (Instr.openRight, 2, 1, some 1), (Instr.closeLeft, 3, 2, some 0), (Instr.closeRight, 4, 2, some 1),
    (Instr.closeAll, 5, 2, none), (Instr.holdAll, 6, 3, none), (Instr.endHoldAll, 7, 4, none)]

theorem exec_carCommand {c : Via → Instr} {n cmd : Nat} {side : Option Nat} (h : (c, n, cmd, side) ∈ carCommands) (via : Via) (s : State) :
    exec (c via) s = done s (carWrite via n s) ∧ carAction n = some (cmd, side) := by
  simp only [carCommands, List.mem_cons, List.not_mem_nil, or_false, Prod.mk.injEq] at h
  rcases h with ⟨rfl, rfl, rfl, rfl⟩ | ⟨rfl, rfl, rfl, rfl⟩ | ⟨rfl, rfl, rfl, rfl⟩ | ⟨rfl, rfl, rfl, rfl⟩ | ⟨rfl, rfl, rfl, rfl⟩ |
    ⟨rfl, rfl, rfl, rfl⟩ | ⟨rfl, rfl, rfl, rfl⟩ <;> exact ⟨rfl, rfl⟩

/-- Settles O23: the pass over the configured doorways gives each of the command's side its order once, and what decides who is configured
and on which side is no part of what a write touches. -/
theorem carCommandsReachTheirSide : Obligations.CarCommandsReachTheirSide := by
  intro s via c n cmd side hc u reach
  obtain ⟨run, action⟩ := exec_carCommand hc via s
  set w := u.wr Gl.CAR_COMMAND n with hw
  have effect : carEffect n u = .ok (w.carOrders cmd side (allDoors w)) := by
    rw [← carCommand_eq action]
    rfl
  have doors : (carWrite via n s).doors = (w.carOrders cmd side (allDoors w)).doors := accessBlind_doors.writeNum_accepted reach effect _
  have before : u.doors = s.doors := accessBlind_doors.reaches reach
  have eff : u.eff = s.eff := accessBlind_eff.reaches reach
  have part : u.part = s.part := accessBlind_part.reaches reach
  have strap : w.rd Gl.STRAPS = s.rd Gl.STRAPS :=
    (rd_wr_ne (by decide) u n).trans ((accessBlind_rd (by decide)).reaches reach)
  have regs : ∀ k, k ∉ accessRegs → (carWrite via n s).rd k = if k = Gl.CAR_COMMAND then (n : Int) else s.rd k := fun k hk => by
    rw [← (accessBlind_rd hk).reaches reach, ← rd_wr, ← rd_carOrders w cmd side (allDoors w)]
    exact (accessBlind_rd hk).writeNum_accepted reach effect _
  refine ⟨_, run, ?answer, ?shown, fun d _ => ?reached, KeepsRegs.settle _ fun k hk => ?kept⟩
  case answer => exact (settle_answer _ _).trans (answer_writeNum_accepted reach effect _)
  case shown => rw [rd_settle (by decide), regs _ (by decide), if_pos rfl]
  case reached =>
    have who : configured w d = configured s d := configured_congr (t := w) part eff strap d
    have sides : doorSide w d = doorSide s d := by simp [doorSide, State.pn, State.p, hw, eff]
    have same : w.door d = s.door d := door_of_doors before d
    rw [door_settle, door_of_doors doors, door_carOrders (nodup_allDoors w)]
    exact if_congr (and_congr (by rw [mem_allDoors, who]) (by rw [sides])) (by rw [same]) same
  case kept =>
    obtain ⟨hn, ha⟩ := List.ne_and_not_mem_of_not_mem_cons hk
    rw [regs k ha, if_neg hn]

end Sys2Proof.Machine

namespace Sys2Proof.Machine

/-!
Timers and monitors of a doorway (R50, R56, R61 to R75, R215, R221, R224, R241). Each command writes one doorway's record, by itself or beside
registers and an event.
-/

/-! ### Commands that write one doorway only -/

/-- Of `s`, only the record of doorway `d` differs in `t`. -/
structure OnlyDoor (d : Nat) (s t : State) : Prop where
  others : ∀ e, e ≠ d → t.door e = s.door e
  rest : t = { s with doors := t.doors }

theorem onlyRegs_of_doors {s t : State} (doors : Store Door) (h : t.sansRegs = State.sansRegs { s with doors }) :
    OnlyRegs { s with doors := t.doors } t := by
  have same : t.doors = doors := congrArg State.doors h
  rw [OnlyRegs, same, h]

theorem onlyEvents_of_doors {s t : State} (doors : Store Door) (h : t.sansEvents = State.sansEvents { s with doors }) :
    OnlyEvents { s with doors := t.doors } t := by
  have same : t.doors = doors := congrArg State.doors h
  rw [OnlyEvents, same, h]

namespace OnlyDoor

variable {d : Nat} {s t : State}

theorem refl (d : Nat) (s : State) : OnlyDoor d s s := ⟨fun _ _ => rfl, rfl⟩

theorem setDoor (h : OnlyDoor d s t) (x : Door) : OnlyDoor d s (t.setDoor d x) where
  others e he := (door_setDoor_ne he t x).trans (h.others e he)
  rest := congrArg (fun u : State => { u with doors := putD {} t.doors d x }) h.rest

theorem faultDoor (h : OnlyDoor d s t) (cause : Nat) : OnlyDoor d s (t.faultDoor d cause) := h.setDoor _

/-- What such a command leaves alone, once it has ended. -/
theorem settled (h : OnlyDoor d s t) (q : List Instr) :
    (∀ e, e ≠ d → (t.settle q).door e = s.door e) ∧ KeepsRegs [] s (t.settle q) ∧ OnlyRegs { s with doors := (t.settle q).doors } (t.settle q) := by
  refine ⟨fun e he => (door_settle t q e).trans (h.others e he), KeepsRegs.settle q fun k _ => ?_, onlyRegs_of_doors t.doors ?_⟩
  · rw [h.rest]
    rfl
  · rw [settle_sansRegs, ← h.rest]

end OnlyDoor

/-- A command that gives a doorway a new record, and does nothing else. -/
theorem settled_setDoor (s : State) (d : Nat) (x : Door) (q : List Instr) :
    ((s.setDoor d x).settle q).door d = x ∧ (∀ e, e ≠ d → ((s.setDoor d x).settle q).door e = s.door e)
      ∧ KeepsRegs [] s ((s.setDoor d x).settle q)
      ∧ OnlyRegs { s with doors := ((s.setDoor d x).settle q).doors } ((s.setDoor d x).settle q) :=
  ⟨(door_settle _ q d).trans (door_setDoor_same s d x), ((OnlyDoor.refl d s).setDoor x).settled q⟩

/-! ### Reported fault causes (R49, R53) -/

theorem mem_faults_faultDoor (s : State) (d cause : Nat) : cause ∈ ((s.faultDoor d cause).door d).faults := by
  rw [State.faultDoor, door_setDoor_same]
  split
  · next known => simpa using known
  · simp

/-- A report changes a doorway's list of causes only. -/
theorem door_faultDoor (s : State) (d cause : Nat) :
    (s.faultDoor d cause).door d = { s.door d with faults := ((s.faultDoor d cause).door d).faults } := by
  simp only [State.faultDoor, door_setDoor_same]

/-! ### The timers' commands -/

theorem exec_closeWarningEnd {s : State} {d : Nat} (h : due (s.door d).warnUntil s.now = true) (unmarked : (s.door d).warnEnded = false)
    (idle : (s.door d).closePend = none) (isOpen : doorState s d = 4) (unasked : (s.door d).startWait = none) (ungranted : (s.door d).granted = none) :
    exec (.closeWarningEnd d) s = done s (s.setDoor d { s.door d with warnEnded := true }) := by
  show execCloseWarningEnd d s = _
  exact congrArg (done s) (if_pos ⟨h, unmarked, by rw [idle]; rfl, isOpen, by rw [unasked]; rfl, by rw [ungranted]; rfl⟩)

theorem exec_autoCloseExpiry {s : State} {d : Nat} (h : due (s.door d).autoUntil s.now = true) :
    exec (.autoCloseExpiry d) s = done s (s.setDoor d { s.door d with autoUntil := none, autoEnded := true }) := by
  show execAutoCloseExpiry d s = _
  exact congrArg (done s) (if_pos h)

theorem exec_preselectTimeExpiry {s : State} {d : Nat} (h : due (s.door d).preselUntil s.now = true) :
    exec (.preselectTimeExpiry d) s = done s (s.setDoor d { s.door d with preselUntil := none }) := by
  show execPreselectTimeExpiry d s = _
  exact congrArg (done s) (if_pos h)

theorem exec_dwellEnd {s : State} {d : Nat} (h : due (s.door d).dwellUntil s.now = true) :
    exec (.dwellEnd d) s = done s (s.setDoor d { s.door d with dwellUntil := none, dwellEnded := true }) := by
  show execDwellEnd d s = _
  exact congrArg (done s) (if_pos h)

theorem exec_openDwellEnd {s : State} {d : Nat} (h : due (s.door d).openDwellUntil s.now = true) :
    exec (.openDwellEnd d) s = done s (s.setDoor d { s.door d with openDwellUntil := none, openDwellEnded := true }) := by
  show execOpenDwellEnd d s = _
  exact congrArg (done s) (if_pos h)

theorem exec_unlockTimeout {s : State} {d : Nat} (h : due (s.door d).unlockUntil s.now = true) (unlocked : doorState s d = 2)
    (opening : (s.door d).opening = true) (missed : (s.door d).next ≠ some .opening) :
    exec (.unlockTimeout d) s = done s ((s.setDoor d { s.door d with unlockUntil := none, lockOn := false }).faultDoor d 2) := by
  show execUnlockTimeout d s = _
  exact congrArg (done s) (if_pos ⟨h, unlocked, opening, missed⟩)

theorem exec_lockTimeout {s : State} {d : Nat} (h : due (s.door d).lockUntil s.now = true) (unlocked : doorState s d = 2)
    (closing : (s.door d).opening = false) (missed : (s.door d).next ≠ some .locked) :
    exec (.lockTimeout d) s = done s ((s.setDoor d { s.door d with lockUntil := none }).faultDoor d 3) := by
  show execLockTimeout d s = _
  exact congrArg (done s) (if_pos ⟨h, unlocked, closing, missed⟩)

/-- Settles O24: each timer that has run out gives its doorway one new record, a missed lock or unlock with its fault cause in it. -/
theorem sequenceTimersEnd : Obligations.SequenceTimersEnd := by
  intro s d
  refine ⟨fun h unmarked idle isOpen unasked ungranted => ?warning, fun h => ?auto, fun h => ?preselect, fun h => ?dwell, fun h => ?openDwell,
    fun h unlocked opening missed => ?unlock, fun h unlocked closing missed => ?lock⟩
  case warning => exact ⟨_, exec_closeWarningEnd h unmarked idle isOpen unasked ungranted, settled_setDoor s d _ _⟩
  case auto => exact ⟨_, exec_autoCloseExpiry h, settled_setDoor s d _ _⟩
  case preselect => exact ⟨_, exec_preselectTimeExpiry h, settled_setDoor s d _ _⟩
  case dwell => exact ⟨_, exec_dwellEnd h, settled_setDoor s d _ _⟩
  case openDwell => exact ⟨_, exec_openDwellEnd h, settled_setDoor s d _ _⟩
  case unlock =>
    refine ⟨_, exec_unlockTimeout h unlocked opening missed, ?_, ?_, ?_, (((OnlyDoor.refl d s).setDoor _).faultDoor 2).settled _⟩ <;> rw [door_settle]
    · exact mem_faults_faultDoor ..
    · rw [door_faultDoor, door_setDoor_same]
    · rw [door_faultDoor, door_setDoor_same]
  case lock =>
    refine ⟨_, exec_lockTimeout h unlocked closing missed, ?_, ?_, (((OnlyDoor.refl d s).setDoor _).faultDoor 3).settled _⟩ <;> rw [door_settle]
    · exact mem_faults_faultDoor ..
    · rw [door_faultDoor, door_setDoor_same]

/-! ### Registers of the monitors -/

theorem doorReg_status {d : Nat} (hd : d < 16) : DoorReg (Dr.STATUS d) := by
  simp only [DoorReg, Dr.STATUS, key]
  omega

theorem doorReg_startsForced {d : Nat} (hd : d < 16) : DoorReg (Dr.STARTS_FORCED d) := by
  simp only [DoorReg, Dr.STARTS_FORCED, key]
  omega

theorem doorReg_startWaitLast {d : Nat} (hd : d < 16) : DoorReg (Dr.START_WAIT_LAST d) := by
  simp only [DoorReg, Dr.START_WAIT_LAST, key]
  omega

theorem doorReg_contactStatus {d : Nat} (hd : d < 16) : DoorReg (Dr.CONTACT_STATUS d) := by
  simp only [DoorReg, Dr.CONTACT_STATUS, key]
  omega

theorem status_ne_startsForced (d : Nat) : Dr.STATUS d ≠ Dr.STARTS_FORCED d := by
  simp only [Dr.STATUS, Dr.STARTS_FORCED, key]
  omega

theorem status_ne_startWaitLast (d : Nat) : Dr.STATUS d ≠ Dr.START_WAIT_LAST d := by
  simp only [Dr.STATUS, Dr.START_WAIT_LAST, key]
  omega

theorem startsForced_ne_startWaitLast (d : Nat) : Dr.STARTS_FORCED d ≠ Dr.START_WAIT_LAST d := by
  simp only [Dr.STARTS_FORCED, Dr.START_WAIT_LAST, key]
  omega

theorem contactStatus_ne_repeats (d : Nat) : Dr.CONTACT_STATUS d ≠ Dr.LOCK_PAIR_DISAGREE_REPEATS d := by
  simp only [Dr.CONTACT_STATUS, Dr.LOCK_PAIR_DISAGREE_REPEATS, key]
  omega

/-! ### Requests (R61) -/

theorem exec_passengerRequest {s : State} {d : Nat} (conf : configured s d = true)
    (on : inputActive s d (s.pn (Dr.REQUEST_INPUT_INSIDE d)) = true ∨ inputActive s d (s.pn (Dr.REQUEST_INPUT_OUTSIDE d)) = true) :
    exec (.passengerRequest d) s = done s (s.setDoor d { s.door d with request := true }) := by
  show execPassengerRequest d s = _
  exact congrArg (done s) (if_pos ⟨conf, on⟩)

/-! ### Starts that waited (R74, R485) -/

theorem exec_startForced {s : State} {d : Nat} {w : StartWait} (wait : (s.door d).startWait = some w) (long : w.since + 20000 ≤ s.now)
    (acts : sequencing s = true) : exec (.startForced d) s = done s (s.grantForced d) := by
  show execStartForced d s = _
  refine congrArg (done s) (if_pos ?_)
  simp [waitedLong, wait, long, acts]

/-- A waiting start that is granted: its record, START_WAIT_LAST and its sample. -/
theorem grant_of_wait {s : State} {d : Nat} {w : StartWait} (wait : (s.door d).startWait = some w) :
    s.grant d = ((s.setDoor d { s.door d with startWait := none, granted := some w.kind, lastGrant := some (predictedPeak s d (startOpens w.kind), s.now) }).wrn
      (Dr.START_WAIT_LAST d) (min 400 ((s.now - w.since) / 50))).sample 1 (8 * d + 6) ((s.now - w.since) / 50 : Nat) := by
  simp only [State.grant, wait]

theorem rd_grant_ne {d k : Nat} (hlast : k ≠ Dr.START_WAIT_LAST d) (hsample : k ∉ sampleRegs) (s : State) : (s.grant d).rd k = s.rd k := by
  cases wait : (s.door d).startWait with
  | none => simp only [State.grant, wait]
  | some w =>
    rw [grant_of_wait wait, rd_sample hsample, State.wrn, rd_wr_ne hlast]
    rfl

theorem rd_startWaitLast_grant {s : State} {d : Nat} (hd : d < 16) {w : StartWait} (wait : (s.door d).startWait = some w)
    (long : w.since + 20000 ≤ s.now) : (s.grant d).rd (Dr.START_WAIT_LAST d) = 400 := by
  have most : min 400 ((s.now - w.since) / 50) = 400 := by omega
  rw [grant_of_wait wait, rd_sample (doorReg_startWaitLast hd).not_mem_sampleRegs, State.wrn, rd_wr_same, most]
  rfl

theorem door_grant {s : State} {d : Nat} {w : StartWait} (wait : (s.door d).startWait = some w) :
    (s.grant d).door d
      = { s.door d with startWait := none, granted := some w.kind, lastGrant := some (predictedPeak s d (startOpens w.kind), s.now) } := by
  rw [grant_of_wait wait, door_of_doors (sample_blind (f := State.doors) (fun _ _ _ _ _ _ => rfl) _ _ _ _)]
  exact door_setDoor_same s d _

theorem sansEvents_grant (s : State) (d : Nat) : ∃ doors, (s.grant d).sansEvents = State.sansEvents { s with doors } := by
  cases wait : (s.door d).startWait with
  | none => exact ⟨s.doors, by simp only [State.grant, wait]⟩
  | some w =>
    rw [grant_of_wait wait, sample_blind sansEvents_blind]
    exact ⟨_, rfl⟩

/-- A forced start, flagged and counted before it is granted. -/
def State.forcedFlag (s : State) (d : Nat) : State := (s.setB (Dr.STATUS d) 21 true).count (Dr.STARTS_FORCED d)

theorem grantForced_of_ready {s : State} (ready : domainsReady s = true) (d : Nat) : s.grantForced d = (s.forcedFlag d).grant d :=
  if_neg (by simp [ready])

/-- A start that waited too long for a domain, cancelled with its fault cause. -/
def State.startCancelled (s : State) (d : Nat) : State :=
  ((s.setDoor d { s.door d with startWait := none }).wr (Dr.START_WAIT_LAST d) 400).faultDoor d 6

theorem grantForced_of_asleep {s : State} (asleep : domainsReady s = false) (d : Nat) : s.grantForced d = s.startCancelled d := if_pos asleep

theorem door_startCancelled (s : State) (d : Nat) :
    (s.startCancelled d).door d = { s.door d with startWait := none, faults := ((s.startCancelled d).door d).faults } := by
  have record : ((s.setDoor d { s.door d with startWait := none }).wr (Dr.START_WAIT_LAST d) 400).door d = { s.door d with startWait := none } :=
    door_setDoor_same s d _
  rw [State.startCancelled, door_faultDoor, record]

theorem rd_startCancelled (s : State) (d k : Nat) : (s.startCancelled d).rd k = if k = Dr.START_WAIT_LAST d then 400 else s.rd k :=
  rd_wr (s.setDoor d { s.door d with startWait := none }) _ k 400

theorem sansRegs_startCancelled (s : State) (d : Nat) :
    (s.startCancelled d).sansRegs = State.sansRegs { s with doors := (s.startCancelled d).doors } :=
  wr_blind (f := fun u : State => State.sansRegs { u with doors := (s.startCancelled d).doors }) (fun _ _ => rfl) _ _ 400

/-! ### Steps that miss their time (R67) -/

/-- The set-points of an axis frozen where it is (R96). -/
def State.freezeAxis (s : State) (a : Nat) : State := s.setAxis a { s.axis a with setNm := (s.axis a).posNm, setVel := 0, setAcc := 0 }

theorem foldl_freezeAxis (l : List Nat) (s : State) : ∃ axes, l.foldl State.freezeAxis s = { s with axes } := by
  induction l generalizing s with
  | nil => exact ⟨s.axes, rfl⟩
  | cons a l ih =>
    obtain ⟨axes, h⟩ := ih (s.freezeAxis a)
    exact ⟨axes, h⟩

/-- A hard stop writes the set-points of axes and the doorway's move. -/
theorem hardStop_cases (s : State) (d : Nat) :
    s.hardStop d = s ∨ ∃ axes m, s.hardStop d = State.setDoor { s with axes } d { s.door d with move := some m } := by
  cases moving : (s.door d).move with
  | none => exact .inl (by simp only [State.hardStop, moving])
  | some m =>
    obtain ⟨axes, frozen⟩ := foldl_freezeAxis (m.axes.map (·.a) ++ m.seeks.map (·.a)) s
    refine .inr ⟨axes, { m with ended := true, stopping := true, v := 0, segs := [], elapsed := 0, reached := false, hard := true }, ?_⟩
    simp only [State.hardStop, moving]
    exact congrArg (State.setDoor · d _) frozen

theorem dict_hardStop (s : State) (d : Nat) : (s.hardStop d).dict = s.dict := by
  rcases hardStop_cases s d with h | ⟨axes, m, h⟩ <;> rw [h]
  rfl

theorem door_hardStop_ne {d e : Nat} (he : e ≠ d) (s : State) : (s.hardStop d).door e = s.door e := by
  rcases hardStop_cases s d with h | ⟨axes, m, h⟩ <;> rw [h]
  exact door_setDoor_ne he _ _

theorem stepExtending_hardStop (s : State) (d : Nat) : ((s.hardStop d).door d).stepExtending = (s.door d).stepExtending := by
  rcases hardStop_cases s d with h | ⟨axes, m, h⟩ <;> rw [h]
  rw [door_setDoor_same]

/-- A step fault: the flag, a hard stop of what moves with the step, and the doorway's record. -/
theorem stepFault_cases (s : State) (d : Nat) : ∃ u f, s.stepFault d = State.modDoor u d f
    ∧ (u = (s.setB (Dr.STATUS d) 19 true).hardStop d ∨ u = s.setB (Dr.STATUS d) 19 true)
    ∧ ∀ x, (f x).stepSto = true ∧ (f x).interrupted = some x.stepExtending ∧ (f x).stepUntil = none := by
  unfold State.stepFault
  extract_lets
  exact ⟨_, _, rfl, ite_eq_or_eq .., fun x => ⟨rfl, rfl, rfl⟩⟩

theorem bit_stepFault (s : State) (d : Nat) : (s.stepFault d).bit (Dr.STATUS d) 19 = true := by
  obtain ⟨u, f, fault, rfl | rfl, -⟩ := stepFault_cases s d <;> rw [fault]
  · show ((s.setB (Dr.STATUS d) 19 true).hardStop d).bit (Dr.STATUS d) 19 = true
    rw [State.bit, rd_of_dict (dict_hardStop _ d), ← State.bit, bit_setB_same]
  · exact bit_setB_same ..

theorem door_stepFault (s : State) (d : Nat) : ((s.stepFault d).door d).stepSto = true
    ∧ ((s.stepFault d).door d).stepUntil = none ∧ ((s.stepFault d).door d).interrupted = some (s.door d).stepExtending := by
  obtain ⟨u, f, fault, stopped, record⟩ := stepFault_cases s d
  have extending : (u.door d).stepExtending = (s.door d).stepExtending := by
    rcases stopped with rfl | rfl
    · exact stepExtending_hardStop _ d
    · rfl
  obtain ⟨sto, interrupted, ended⟩ := record (u.door d)
  rw [fault, door_modDoor_same]
  exact ⟨sto, ended, interrupted.trans (congrArg some extending)⟩

theorem door_stepFault_ne {d e : Nat} (he : e ≠ d) (s : State) : (s.stepFault d).door e = s.door e := by
  obtain ⟨u, f, fault, rfl | rfl, -⟩ := stepFault_cases s d <;> rw [fault, door_modDoor_ne he]
  · exact door_hardStop_ne he _
  · rfl

theorem exec_stepTimeout {s : State} {d : Nat} (h : due (s.door d).stepUntil s.now = true) : exec (.stepTimeout d) s = done s (s.stepFault d) := by
  show execStepTimeout d s = _
  exact congrArg (done s) (if_pos h)

/-! ### Monitors (R69, R215, R241) -/

/-- The sequencer's view that differs from the channels', reported. -/
def State.viewReported (s : State) (d : Nat) : State :=
  ((s.setDoor d { s.door d with viewRaised := true }).count Gl.LOOP_VIEW_DISAGREEMENTS).raise 0x01C3 d (b2i (s.bit (Dr.STATUS d) 5))

/-- Two locks that disagree, reported. -/
def State.locksReported (s : State) (d : Nat) : State :=
  ((s.setDoor d { s.door d with lockPairRaised := true, pairFault := true }).latch (Dr.CONTACT_STATUS d) 9 (Dr.LOCK_PAIR_DISAGREE_REPEATS d)).faultDoor d 5

/-- A long depth hold, reported. -/
def State.holdReported (s : State) (d : Nat) : State :=
  (s.setDoor d { s.door d with holdRaised := true }).raise 0x1382 d (s.pn (Dr.DEPTH_HOLD_MAX d))

theorem exec_loopViewDisagreement {s : State} {d : Nat} (long : heldFor (s.door d).viewSince s.now 1001 = true)
    (fresh : (s.door d).viewRaised = false) : exec (.loopViewDisagreement d) s = done s (s.viewReported d) := by
  show execLoopViewDisagreement d s = _
  exact congrArg (done s) (if_pos ⟨long, fresh⟩)

theorem exec_lockPairDisagree {s : State} {d : Nat} (long : heldFor (s.door d).lockPairSince s.now (50 * s.pn (Dr.LOCK_PAIR_TIME d) + 1) = true)
    (fresh : (s.door d).lockPairRaised = false) : exec (.lockPairDisagree d) s = done s (s.locksReported d) := by
  show execLockPairDisagree d s = _
  exact congrArg (done s) (if_pos ⟨long, fresh⟩)

theorem exec_depthHoldLong {s : State} {d : Nat} (long : heldFor (s.door d).holdSince s.now (50 * s.pn (Dr.DEPTH_HOLD_MAX d)) = true)
    (fresh : (s.door d).holdRaised = false) : exec (.depthHoldLong d) s = done s (s.holdReported d) := by
  show execDepthHoldLong d s = _
  exact congrArg (done s) (if_pos ⟨long, fresh⟩)

theorem door_raise (s : State) (c i : Nat) (v : Int) (d : Nat) : (s.raise c i v).door d = s.door d :=
  door_of_doors (raise_blind (f := State.doors) (fun _ _ _ _ _ _ => rfl) s c i v) d

theorem door_latch (s : State) (w i r d : Nat) : (s.latch w i r).door d = s.door d :=
  door_of_doors (latch_blind (f := State.doors) (fun _ _ => rfl) s w i r) d

theorem counted_raise_of_recd {s t : State} (h : t.recd = s.recd) (c i : Nat) (v : Int) : Counted c s (t.raise c i v) := by
  have counted := counted_raise t c i v
  rwa [Counted, code_of_recd h] at counted

theorem door_viewReported (s : State) (d : Nat) : (s.viewReported d).door d = { s.door d with viewRaised := true } :=
  (door_raise _ _ _ _ d).trans (door_setDoor_same s d _)

theorem rd_viewReported {k : Nat} (h : k ∉ eventRegs) (s : State) (d : Nat) : (s.viewReported d).rd k
    = if k = Gl.LOOP_VIEW_DISAGREEMENTS then ((min (s.rdn Gl.LOOP_VIEW_DISAGREEMENTS + 1) max32 : Nat) : Int) else s.rd k :=
  (rd_raise h _ _ _ _).trans (rd_count _ _ k)

theorem counted_viewReported (s : State) (d : Nat) : Counted 0x01C3 s (s.viewReported d) :=
  counted_raise_of_recd (t := (s.setDoor d { s.door d with viewRaised := true }).count Gl.LOOP_VIEW_DISAGREEMENTS) rfl _ _ _

theorem sansEvents_viewReported (s : State) (d : Nat) : ∃ doors, (s.viewReported d).sansEvents = State.sansEvents { s with doors } :=
  ⟨_, raise_blind sansEvents_blind _ _ _ _⟩

theorem door_locksReported (s : State) (d : Nat) : (s.locksReported d).door d
    = { s.door d with lockPairRaised := true, pairFault := true, faults := ((s.locksReported d).door d).faults } := by
  rw [State.locksReported, door_faultDoor, door_latch, door_setDoor_same]

theorem bit_locksReported (s : State) (d : Nat) : (s.locksReported d).bit (Dr.CONTACT_STATUS d) 9 = true :=
  bit_latch_same (contactStatus_ne_repeats d) _ 9

theorem rd_locksReported {d k : Nat} (hword : k ≠ Dr.CONTACT_STATUS d) (hrep : k ≠ Dr.LOCK_PAIR_DISAGREE_REPEATS d) (s : State) :
    (s.locksReported d).rd k = s.rd k :=
  rd_latch_ne hword hrep (s.setDoor d { s.door d with lockPairRaised := true, pairFault := true }) 9

theorem sansRegs_locksReported (s : State) (d : Nat) :
    (s.locksReported d).sansRegs = State.sansRegs { s with doors := (s.locksReported d).doors } :=
  latch_blind (f := fun u : State => State.sansRegs { u with doors := (s.locksReported d).doors }) (fun _ _ => rfl) _ _ _ _

theorem door_holdReported (s : State) (d : Nat) : (s.holdReported d).door d = { s.door d with holdRaised := true } :=
  (door_raise _ _ _ _ d).trans (door_setDoor_same s d _)

theorem counted_holdReported (s : State) (d : Nat) : Counted 0x1382 s (s.holdReported d) :=
  counted_raise_of_recd (t := s.setDoor d { s.door d with holdRaised := true }) rfl _ _ _

theorem sansEvents_holdReported (s : State) (d : Nat) : ∃ doors, (s.holdReported d).sansEvents = State.sansEvents { s with doors } :=
  ⟨_, raise_blind sansEvents_blind _ _ _ _⟩

/-- What a forced start that is granted leaves in the registers. -/
theorem rd_forcedFlag_grant {d k : Nat} (hstatus : k ≠ Dr.STATUS d) (hforced : k ≠ Dr.STARTS_FORCED d) (hlast : k ≠ Dr.START_WAIT_LAST d)
    (hsample : k ∉ sampleRegs) (s : State) : ((s.forcedFlag d).grant d).rd k = s.rd k := by
  rw [rd_grant_ne hlast hsample, State.forcedFlag, State.count, State.addSat, rd_wr_ne hforced, State.setB, rd_wr_ne hstatus]

theorem bit_forcedFlag_grant {d : Nat} (hd : d < 16) (s : State) : ((s.forcedFlag d).grant d).bit (Dr.STATUS d) 21 = true := by
  rw [State.bit, rd_grant_ne (status_ne_startWaitLast d) (doorReg_status hd).not_mem_sampleRegs, ← State.bit, State.forcedFlag, State.count,
    State.addSat, bit_wr_ne (status_ne_startsForced d), bit_setB_same]

theorem rdn_startsForced_grant {d : Nat} (hd : d < 16) (s : State) :
    ((s.forcedFlag d).grant d).rdn (Dr.STARTS_FORCED d) = min (s.rdn (Dr.STARTS_FORCED d) + 1) max32 := by
  rw [State.rdn, rd_grant_ne (startsForced_ne_startWaitLast d) (doorReg_startsForced hd).not_mem_sampleRegs, State.forcedFlag, rd_count, if_pos rfl,
    Int.toNat_natCast, State.rdn, State.setB, rd_wr_ne (status_ne_startsForced d).symm, State.rdn]

/-- Settles O25: each monitor that has something to report gives its doorway a new record and writes its flag, counter or event; a forced start
keeps its doorway's flag through the grant, and a step fault through the hard stop. -/
theorem doorwayMonitors : Obligations.DoorwayMonitors := by
  intro s d hd
  have status := doorReg_status hd
  have waited := doorReg_startWaitLast hd
  have contacts := doorReg_contactStatus hd
  refine ⟨fun conf on => ?request, fun w wait long acts => ⟨fun ready => ?granted, fun asleep => ?cancelled⟩, fun h => ?step,
    fun long fresh => ?view, fun long fresh => ?pair, fun long fresh => ?hold⟩
  case request => exact ⟨_, exec_passengerRequest conf on, settled_setDoor s d _ _⟩
  case granted =>
    have run := exec_startForced wait long acts
    rw [grantForced_of_ready ready] at run
    have flagged : ((s.forcedFlag d).door d).startWait = some w := wait
    refine ⟨_, run, ?_, ?_, ?_, ?_, ?_, KeepsRegs.settle _ fun k hk => ?_, ?_⟩
    · rw [door_settle, door_grant flagged]
    · rw [door_settle, door_grant flagged]
    · rw [bit_settle status.not_mem_wiredRegs, bit_forcedFlag_grant hd]
    · rw [rdn_settle (doorReg_startsForced hd).not_mem_wiredRegs, rdn_startsForced_grant hd]
    · rw [rd_settle waited.not_mem_wiredRegs, rd_startWaitLast_grant hd flagged long]
    · simp only [List.mem_append, List.mem_cons, List.not_mem_nil, or_false, not_or] at hk
      obtain ⟨⟨hstatus, hforced, hlast⟩, hsample⟩ := hk
      exact rd_forcedFlag_grant hstatus hforced hlast hsample s
    · obtain ⟨doors, same⟩ := sansEvents_grant (s.forcedFlag d) d
      exact onlyEvents_of_doors doors ((settle_sansEvents _ _).trans same)
  case cancelled =>
    have run := exec_startForced wait long acts
    rw [grantForced_of_asleep asleep] at run
    refine ⟨_, run, ?_, ?_, ?_, ?_, KeepsRegs.settle _ fun k hk => ?_,
      onlyRegs_of_doors _ ((settle_sansRegs _ _).trans (sansRegs_startCancelled s d))⟩
    · rw [door_settle, door_startCancelled]
    · rw [door_settle, door_startCancelled]
    · rw [door_settle]
      exact mem_faults_faultDoor ..
    · rw [rd_settle waited.not_mem_wiredRegs, rd_startCancelled, if_pos rfl]
    · rw [rd_startCancelled, if_neg (List.mem_singleton.not.mp hk)]
  case step =>
    obtain ⟨sto, ended, interrupted⟩ := door_stepFault s d
    refine ⟨_, exec_stepTimeout h, (bit_settle status.not_mem_wiredRegs _ _ _).trans (bit_stepFault s d), ?_, ?_, ?_, fun e he => ?_⟩ <;>
      rw [door_settle]
    · exact sto
    · exact ended
    · exact interrupted
    · exact door_stepFault_ne he s
  case view =>
    obtain ⟨doors, same⟩ := sansEvents_viewReported s d
    refine ⟨_, exec_loopViewDisagreement long fresh, ?_, ?_, counted_settle (counted_viewReported s d) _, KeepsRegs.settle _ fun k hk => ?_,
      onlyEvents_of_doors doors ((settle_sansEvents _ _).trans same)⟩
    · rw [door_settle, door_viewReported]
    · rw [rdn_settle (by decide), State.rdn, rd_viewReported (by decide), if_pos rfl, Int.toNat_natCast]
    · obtain ⟨hcount, hevent⟩ := List.ne_and_not_mem_of_not_mem_cons hk
      rw [rd_viewReported hevent, if_neg hcount]
  case pair =>
    refine ⟨_, exec_lockPairDisagree long fresh, ?_, ?_, ?_, KeepsRegs.settle _ fun k hk => ?_,
      onlyRegs_of_doors _ ((settle_sansRegs _ _).trans (sansRegs_locksReported s d))⟩
    · rw [door_settle, ← door_locksReported]
    · rw [bit_settle contacts.not_mem_wiredRegs, bit_locksReported]
    · rw [door_settle]
      exact mem_faults_faultDoor ..
    · simp only [List.mem_cons, List.not_mem_nil, or_false, not_or] at hk
      obtain ⟨hword, hrep⟩ := hk
      exact rd_locksReported hword hrep s
  case hold =>
    obtain ⟨doors, same⟩ := sansEvents_holdReported s d
    refine ⟨_, exec_depthHoldLong long fresh, ?_, counted_settle (counted_holdReported s d) _, KeepsRegs.settle _ fun k hk => ?_,
      onlyEvents_of_doors doors ((settle_sansEvents _ _).trans same)⟩
    · rw [door_settle, door_holdReported]
    · exact rd_raise hk ..

end Sys2Proof.Machine

namespace Sys2Proof.Machine

/-!
The end of a move (R85, R89, R99, R103, R221, R451): what the recorder takes from it, what it reports, and the move that waited behind it.
-/

/-! ### Axes of a doorway (R44) -/

theorem axis_of_mem_axesOf {s : State} {d a : Nat} (h : a ∈ axesOf s d) : d < 16 ∧ doorOf a = d := by
  have member : configured s d = true ∧ (a = 3 * d ∨ a = 3 * d + 1 ∨ a = 3 * d + 2) := by
    unfold axesOf leavesOf at h
    split at h
    · next conf =>
      refine ⟨conf, ?_⟩
      split at h <;> split at h <;> simp only [List.mem_append, List.mem_cons, List.not_mem_nil, or_false, false_or] at h <;> omega
    · cases h
  obtain ⟨conf, place⟩ := member
  simp only [configured, Bool.and_eq_true, decide_eq_true_eq] at conf
  have part : s.doorways ≤ 16 := by
    unfold State.doorways
    split <;> decide
  exact ⟨(conf.1.trans_le (doorwaysConfigured_le s)).trans_le part, by unfold doorOf; omega⟩

theorem lt_of_mem_axesOf {s : State} {d a : Nat} (h : a ∈ axesOf s d) : a < 48 := by
  obtain ⟨hd, ha⟩ := axis_of_mem_axesOf h
  unfold doorOf at ha
  omega

theorem lt_of_isLeaf {s : State} {a : Nat} (h : isLeaf s a = true) : a < 48 := by
  simp only [isLeaf, Bool.and_eq_true, List.contains_iff_mem] at h
  exact lt_of_mem_axesOf h.2

theorem isLeaf_stepAxis (s : State) (d : Nat) : isLeaf s (stepAxis d) = false := by
  have role : roleOf (stepAxis d) = 2 := by
    unfold roleOf stepAxis
    omega
  simp [isLeaf, role]

theorem doorOf_stepAxis (d : Nat) : doorOf (stepAxis d) = d := by
  unfold doorOf stepAxis
  omega

/-! ### What the recorder takes from a move (R451) -/

/-- The samples of one axis of a move that has ended, and a leaf's force peak. -/
def State.axisSamples (s : State) (a : Nat) : State :=
  let x := s.axis a
  let s := s.sample 2 (4 * a) (s.rd (Ax.WINDING_TEMP a))
  let s := s.sample 2 (4 * a + 1) (x.iqPeak / (10 * max (s.pn (Ax.RUN_CURRENT a)) 1 : Nat))
  let s := s.sample 2 (4 * a + 2) x.followPeak
  let s := s.sample 2 (4 * a + 3) (x.speedPeak / (10000 * max (s.pn (Ax.MAX_SPEED a)) 1 : Nat))
  if isLeaf s a then s.wr (Ax.FORCE_PEAK_LAST a) (max (-100000) (min 100000 (divRound x.forcePeak 100))) else s

/-- The samples of a doorway from a move that has ended. -/
def State.doorSamples (s : State) (d : Nat) (m : Move) : State :=
  let leaves := m.ids.filter (fun a => roleOf a != 2)
  let s := if m.closing ∧ leaves ≠ [] then
      s.sample 1 (8 * d + 2) (leaves.foldl (fun p a => max p (s.rd (Ax.FORCE_PEAK_LAST a))) (-100000))
    else s
  if m.kind == .stepExtend || m.kind == .stepRetract then s.sample 1 (8 * d + 7) ((s.now - m.started) / 50 : Nat) else s

/-- All samples of a move that has ended. -/
def State.moveSamples (s : State) (d : Nat) (m : Move) : State := (m.ids.foldl State.axisSamples s).doorSamples d m

theorem finishMove_of_move {s : State} {d : Nat} {m : Move} (h : (s.door d).move = some m) :
    s.finishMove d = (s.moveSamples d m).modDoor d fun x => { x with move := none, lastEnd := some (m.kind, m.reached) } := by
  simp only [State.finishMove, h]
  rfl

theorem finishMove_of_none {s : State} {d : Nat} (h : (s.door d).move = none) : s.finishMove d = s := by
  simp only [State.finishMove, h]

theorem axisSamples_blind {α : Type} {f : State → α} (h : EventBlind f) (s : State) (a : Nat) : f (s.axisSamples a) = f s := by
  unfold State.axisSamples
  dsimp only
  split
  · rw [wr_blind h.reg]
    simp only [sample_blind h]
  · simp only [sample_blind h]

theorem doorSamples_blind {α : Type} {f : State → α} (h : EventBlind f) (s : State) (d : Nat) (m : Move) : f (s.doorSamples d m) = f s := by
  unfold State.doorSamples
  dsimp only
  split <;> split <;> simp only [sample_blind h]

theorem moveSamples_blind {α : Type} {f : State → α} (h : EventBlind f) (s : State) (d : Nat) (m : Move) : f (s.moveSamples d m) = f s :=
  (doorSamples_blind h _ d m).trans (foldl_keeps f (axisSamples_blind h) m.ids s)

theorem doors_moveSamples (s : State) (d : Nat) (m : Move) : (s.moveSamples d m).doors = s.doors :=
  moveSamples_blind (f := State.doors) (fun _ _ _ _ _ _ => rfl) s d m

/-- The registers that a move's end may write: the leaves' force peaks, and the counts of samples that were lost. -/
abbrev moveEndRegs : List Nat := (List.range 48).map Ax.FORCE_PEAK_LAST ++ sampleRegs

theorem rd_axisSamples {k : Nat} (h : k ∉ moveEndRegs) (s : State) (a : Nat) : (s.axisSamples a).rd k = s.rd k := by
  obtain ⟨peaks, lost⟩ := not_or.mp (List.mem_append.not.mp h)
  unfold State.axisSamples
  dsimp only
  split
  · next leaf =>
    have other : k ≠ Ax.FORCE_PEAK_LAST a := fun e => peaks (List.mem_map.mpr ⟨a, List.mem_range.mpr (lt_of_isLeaf leaf), e.symm⟩)
    rw [rd_wr_ne other]
    simp only [rd_sample lost]
  · simp only [rd_sample lost]

theorem rd_doorSamples {k : Nat} (h : k ∉ sampleRegs) (s : State) (d : Nat) (m : Move) : (s.doorSamples d m).rd k = s.rd k := by
  unfold State.doorSamples
  dsimp only
  split <;> split <;> simp only [rd_sample h]

theorem rd_finishMove {k : Nat} (h : k ∉ moveEndRegs) (s : State) (d : Nat) : (s.finishMove d).rd k = s.rd k := by
  cases moving : (s.door d).move with
  | none => rw [finishMove_of_none moving]
  | some m =>
    rw [finishMove_of_move moving]
    exact (rd_doorSamples (fun lost => h (List.mem_append_right _ lost)) _ d m).trans (foldl_keeps (State.rd · k) (rd_axisSamples h) m.ids s)

/-- What sees neither doorways nor what events write does not see that a move is over. -/
theorem finishMove_blind {α : Type} {f : State → α} (h : EventBlind f) (hd : ∀ (s : State) (x : Store Door), f { s with doors := x } = f s) (s : State)
    (d : Nat) : f (s.finishMove d) = f s := by
  cases moving : (s.door d).move with
  | none => rw [finishMove_of_none moving]
  | some m =>
    rw [finishMove_of_move moving]
    exact (hd _ _).trans (moveSamples_blind h s d m)

theorem door_finishMove_same {s : State} {d : Nat} {m : Move} (h : (s.door d).move = some m) :
    (s.finishMove d).door d = { s.door d with move := none, lastEnd := some (m.kind, m.reached) } := by
  rw [finishMove_of_move h, door_modDoor_same, door_of_doors (doors_moveSamples s d m)]

theorem door_finishMove_ne {d e : Nat} (he : e ≠ d) (s : State) : (s.finishMove d).door e = s.door e := by
  cases moving : (s.door d).move with
  | none => rw [finishMove_of_none moving]
  | some m => rw [finishMove_of_move moving, door_modDoor_ne he, door_of_doors (doors_moveSamples s d m)]

/-! ### The parts of a move's end -/

/-- A learn run's seek (R103). -/
def MoveKind.seeks : MoveKind → Bool
  | .seekOpen | .seekClose | .seekStepOut | .seekStepIn => true
  | _ => false

theorem MoveKind.seeks_eq_false {k : MoveKind} :
    k.seeks = false ↔ k ≠ .seekOpen ∧ k ≠ .seekClose ∧ k ≠ .seekStepOut ∧ k ≠ .seekStepIn := by
  cases k <;> decide

/-- The fault cause of a move that ended at a limit switch (R99), or of a reference close that found no switch. -/
def State.reportStop (s : State) (d : Nat) (m : Move) : State :=
  if m.limitStopped && !m.kind.seeks then s.faultDoor d 6
  else if m.kind == .refClose && m.stopping = false && doorState s d == 5 then s.faultDoor d 6 else s

/-- What a learn run takes from its seek (R103). -/
def State.learnSeek (s : State) (d : Nat) (m : Move) : State := if m.kind.seeks then s.seekEnded d m else s

/-- The dwell behind a reversal or a relief (R221). -/
def State.dwellBehind (s : State) (d : Nat) (k : MoveKind) : State := if k == .reverse || k == .relief then s.startDwell d else s

/-- A move that is over, with all it leaves behind. -/
def State.moveOver (s : State) (d : Nat) (m : Move) : State := (((s.finishMove d).reportStop d m).learnSeek d m).dwellBehind d m.kind

/-- The move that waited behind another begins (R89). -/
def State.moveOn (s : State) (d : Nat) : Option MoveKind → State
  | some k => (s.modDoor d fun x => { x with thenMove := none }).begin_ d k
  | none => s

theorem exec_moveEnd {s : State} {d : Nat} {m : Move} (moving : (s.door d).move = some m) (ended : m.ended = true) (free : (s.door d).obs = none) :
    exec (.moveEnd d) s = done s ((s.moveOver d m).moveOn d (s.door d).thenMove) := by
  show execMoveEnd d s = _
  simp only [execMoveEnd, moving, ended, free, Option.isSome_none, Bool.true_eq_false, Bool.false_eq_true, or_self, if_false]
  cases (s.door d).thenMove <;> rfl

theorem exec_moveEnd_early {s : State} {d : Nat} (early : ∀ m, (s.door d).move = some m → m.ended = false ∨ (s.door d).obs ≠ none) :
    exec (.moveEnd d) s = done s s := by
  show execMoveEnd d s = _
  cases moving : (s.door d).move with
  | none => simp only [execMoveEnd, moving]
  | some m =>
    have waits : m.ended = false ∨ (s.door d).obs.isSome = true := by
      rw [Option.isSome_iff_ne_none]
      exact early m moving
    simp only [execMoveEnd, moving, if_pos waits]

/-! ### The doorway's record at a move's end -/

theorem door_rebase {s : State} {a : Nat} (h : (s.door (doorOf a)).move = none) (shift : Int) (e : Nat) : (s.rebase a shift).door e = s.door e := by
  unfold State.rebase
  dsimp only
  by_cases he : e = doorOf a
  · subst he
    rw [door_modDoor_same]
    show ({ s.door (doorOf a) with move := Option.map _ (s.door (doorOf a)).move } : Door) = s.door (doorOf a)
    rw [h, Option.map_none, ← h]
  · rw [door_modDoor_ne he]
    rfl

/-- A step takes its reference behind its move: no doorway's record changes. -/
theorem door_takeReference_step {s : State} {d : Nat} (h : (s.door d).move = none) (e : Nat) :
    (s.takeReference (stepAxis d)).door e = s.door e := by
  have rest : ∀ (v p : Int) (x : Axis), (((s.wr (Ax.REFERENCE_SHIFT (stepAxis d)) v).rebase (stepAxis d) p).setAxis (stepAxis d) x).door e = s.door e :=
    fun v p x => door_rebase (s := s.wr (Ax.REFERENCE_SHIFT (stepAxis d)) v) (by rw [doorOf_stepAxis]; exact h) p e
  unfold State.takeReference
  simp only [isLeaf_stepAxis, Bool.false_eq_true, if_false]
  split
  · rw [door_raise, door_latch, rest]
  · rw [rest]

/-- A learn run's seek leaves its results in the run, and nowhere else among the doorways. -/
theorem door_seekEnded {s : State} {d : Nat} (h : (s.door d).move = none) (m : Move) :
    (∃ learn, (s.seekEnded d m).door d = { s.door d with learn }) ∧ ∀ e, e ≠ d → (s.seekEnded d m).door e = s.door e := by
  cases running : (s.door d).learn with
  | none =>
    simp only [State.seekEnded, running]
    exact ⟨⟨(s.door d).learn, rfl⟩, fun _ _ => trivial⟩
  | some l =>
    simp only [State.seekEnded, running]
    split
    · rw [door_modDoor_same, door_takeReference_step h]
      exact ⟨⟨_, rfl⟩, fun e he => (door_modDoor_ne he _ _).trans (door_takeReference_step h e)⟩
    · exact ⟨⟨_, door_modDoor_same s d _⟩, fun e he => door_modDoor_ne he s _⟩

theorem reportStop_cases (s : State) (d : Nat) (m : Move) :
    s.reportStop d m = s.faultDoor d 6 ∨ s.reportStop d m = s ∧ (m.limitStopped = false ∨ m.kind.seeks = true) := by
  unfold State.reportStop
  split
  · exact .inl rfl
  · next quiet =>
    split
    · exact .inl rfl
    · exact .inr ⟨rfl, by simpa [Decidable.imp_iff_not_or] using quiet⟩

theorem door_reportStop (s : State) (d : Nat) (m : Move) :
    (∃ faults, (s.reportStop d m).door d = { s.door d with faults }) ∧ ∀ e, e ≠ d → (s.reportStop d m).door e = s.door e := by
  rcases reportStop_cases s d m with told | ⟨quiet, -⟩
  · rw [told]
    exact ⟨⟨_, door_faultDoor s d 6⟩, fun e he => door_setDoor_ne he s _⟩
  · rw [quiet]
    exact ⟨⟨_, rfl⟩, fun _ _ => rfl⟩

theorem door_learnSeek {s : State} {d : Nat} (h : (s.door d).move = none) (m : Move) :
    (∃ learn, (s.learnSeek d m).door d = { s.door d with learn }) ∧ ∀ e, e ≠ d → (s.learnSeek d m).door e = s.door e := by
  unfold State.learnSeek
  split
  · exact door_seekEnded h m
  · exact ⟨⟨_, rfl⟩, fun _ _ => rfl⟩

theorem dwellBehind_of_reversal {k : MoveKind} (h : k = .reverse ∨ k = .relief) (s : State) (d : Nat) : s.dwellBehind d k = s.startDwell d :=
  if_pos (by simpa using h)

theorem dwellBehind_of_other {k : MoveKind} (h : ¬ (k = .reverse ∨ k = .relief)) (s : State) (d : Nat) : s.dwellBehind d k = s :=
  if_neg (by simpa using h)

theorem door_dwellBehind (s : State) (d : Nat) (k : MoveKind) :
    (∃ dwellUntil dwellEnded, (s.dwellBehind d k).door d = { s.door d with dwellUntil, dwellEnded })
      ∧ ∀ e, e ≠ d → (s.dwellBehind d k).door e = s.door e := by
  by_cases h : k = .reverse ∨ k = .relief
  · rw [dwellBehind_of_reversal h]
    exact ⟨⟨_, _, door_modDoor_same s d _⟩, fun e he => door_modDoor_ne he s _⟩
  · rw [dwellBehind_of_other h]
    exact ⟨⟨_, _, rfl⟩, fun _ _ => rfl⟩

theorem learnSeek_of_other {m : Move} (h : m.kind.seeks = false) (s : State) (d : Nat) : s.learnSeek d m = s := by
  simp [State.learnSeek, h]

/-- What a move that is over leaves of its doorway's record, and that it leaves the other doorways alone. -/
theorem door_moveOver {s : State} {d : Nat} {m : Move} (moving : (s.door d).move = some m) :
    (∃ faults learn dwellUntil dwellEnded, (s.moveOver d m).door d
      = { s.door d with move := none, lastEnd := some (m.kind, m.reached), faults, learn, dwellUntil, dwellEnded })
      ∧ ∀ e, e ≠ d → (s.moveOver d m).door e = s.door e := by
  have finished := door_finishMove_same moving
  obtain ⟨⟨faults, told⟩, toldOthers⟩ := door_reportStop (s.finishMove d) d m
  obtain ⟨⟨learn, learnt⟩, learntOthers⟩ := door_learnSeek (s := (s.finishMove d).reportStop d m) (d := d) (by rw [told, finished]) m
  obtain ⟨⟨dwellUntil, dwellEnded, dwells⟩, dwellsOthers⟩ := door_dwellBehind (((s.finishMove d).reportStop d m).learnSeek d m) d m.kind
  refine ⟨⟨faults, learn, dwellUntil, dwellEnded, ?_⟩, fun e he => ?_⟩
  · rw [State.moveOver, dwells, learnt, told, finished]
  · rw [State.moveOver, dwellsOthers e he, learntOthers e he, toldOthers e he, door_finishMove_ne he]

theorem mem_faults_moveOver {m : Move} (s : State) (d : Nat) (stopped : m.limitStopped = true) (kind : m.kind.seeks = false) :
    6 ∈ ((s.moveOver d m).door d).faults := by
  rcases reportStop_cases (s.finishMove d) d m with told | ⟨-, free | seek⟩
  · obtain ⟨⟨_, _, dwells⟩, -⟩ := door_dwellBehind ((s.finishMove d).faultDoor d 6) d m.kind
    rw [State.moveOver, learnSeek_of_other kind, told, dwells]
    exact mem_faults_faultDoor ..
  · rw [free] at stopped
    cases stopped
  · rw [seek] at kind
    cases kind

theorem dwellUntil_moveOver {m : Move} (s : State) (d : Nat) (h : m.kind = .reverse ∨ m.kind = .relief) :
    ((s.moveOver d m).door d).dwellUntil = s.after (s.pn (Dr.DWELL_TIME d)) := by
  have kind : m.kind.seeks = false := by rcases h with e | e <;> rw [e] <;> rfl
  have finished : (s.finishMove d).after ((s.finishMove d).pn (Dr.DWELL_TIME d)) = s.after (s.pn (Dr.DWELL_TIME d)) :=
    finishMove_blind (f := fun u => u.after (u.pn (Dr.DWELL_TIME d))) (fun _ _ _ _ _ _ => rfl) (fun _ _ => rfl) s d
  rw [State.moveOver, learnSeek_of_other kind, dwellBehind_of_reversal h, State.startDwell, door_modDoor_same, ← finished]
  rcases reportStop_cases (s.finishMove d) d m with told | ⟨quiet, -⟩
  · rw [told]
    rfl
  · rw [quiet]

/-! ### The begin of a move, for the doorways -/

/-- A doorway's record without what the begin of a move writes in it. -/
def Door.sansMove (x : Door) : Door :=
  { x with move := none, moveCount := 0, lastEnd := none, unlockUntil := none, unlockAt := none, stepUntil := none, stepExtending := false, alignFor := none }

/-- Of the doorways, only the record of `d` differs in `t`, in what the begin of a move writes. -/
structure MoveBegins (d : Nat) (s t : State) : Prop where
  others : ∀ e, e ≠ d → t.door e = s.door e
  record : (t.door d).sansMove = (s.door d).sansMove

namespace MoveBegins

variable {d : Nat} {s t u : State}

theorem of_doors (h : t.doors = s.doors) : MoveBegins d s t := ⟨fun e _ => door_of_doors h e, congrArg Door.sansMove (door_of_doors h d)⟩

theorem trans (h : MoveBegins d s t) (g : MoveBegins d t u) : MoveBegins d s u :=
  ⟨fun e he => (g.others e he).trans (h.others e he), g.record.trans h.record⟩

theorem modDoor (h : MoveBegins d s t) {f : Door → Door} (hf : ∀ x, (f x).sansMove = x.sansMove) : MoveBegins d s (t.modDoor d f) :=
  ⟨fun e he => (door_modDoor_ne he t f).trans (h.others e he), by rw [door_modDoor_same, hf, h.record]⟩

theorem ite {c : Prop} [Decidable c] (ht : MoveBegins d s t) (hu : MoveBegins d s u) : MoveBegins d s (if c then t else u) := by
  split
  · exact ht
  · exact hu

end MoveBegins

theorem doors_mirrorSend (s : State) (type : Nat) (data : List ByteN) (item : Option (Nat × Nat)) : (s.mirrorSend type data item).doors = s.doors :=
  accessBlind_doors.mirrorSend s type data item

theorem doors_mirrorMove (s : State) (d : Nat) : (s.mirrorMove d).doors = s.doors := by
  unfold State.mirrorMove
  split
  · split
    · rfl
    · exact doors_mirrorSend ..
  · rfl

theorem doors_limitStop (s : State) (a : Nat) : (s.limitStop a).doors = s.doors := latch_blind (f := State.doors) (fun _ _ => rfl) s _ _ _

theorem doors_axisAwake (s : State) (a : Nat) : ((s.wakeAxis a).clearPeaks a).doors = s.doors := rfl

theorem moveBegins_startMove (s : State) (d : Nat) (kind : MoveKind) (closing creep : Bool) (targets : List (Nat × Int)) :
    MoveBegins d s (s.startMove d kind closing creep targets) := by
  unfold State.startMove
  extract_lets axes x m lim blocked s₁ s₂ m₂ s₃
  have held : s₁.doors = s.doors := 
    foldl_keeps State.doors (g := fun (s : State) (y : MoveAxis) => s.limitStop y.a) (fun u y => doors_limitStop u y.a) blocked s
  have doors : s₂.doors = s.doors :=
    (foldl_keeps State.doors (g := fun (s : State) (y : MoveAxis) => (s.wakeAxis y.a).clearPeaks y.a) (fun u y => doors_axisAwake u y.a) axes s₁).trans held
  have set : MoveBegins d s (s₂.setDoor d { x with move := some m₂, moveCount := x.moveCount + 1 }) :=
    ⟨fun e he => (door_setDoor_ne he s₂ _).trans (door_of_doors doors e), by rw [door_setDoor_same]; rfl⟩
  have begun : MoveBegins d s s₃ := set.trans (.of_doors (doors_mirrorMove _ d))
  exact .ite (begun.trans (.of_doors rfl)) begun

theorem moveBegins_startSeek (s : State) (d : Nat) (kind : MoveKind) (closing : Bool) (axes : List (Nat × Bool × Nat)) :
    MoveBegins d s (s.startSeek d kind closing axes) := by
  unfold State.startSeek
  extract_lets x sk none_ fin s₁ s₂ sk₂
  have held : s₁.doors = s.doors := 
    foldl_keeps State.doors (g := fun (s : State) (k : SeekAxis) => s.limitStop k.a) (fun u k => doors_limitStop u k.a) _ s
  have doors : s₂.doors = s.doors :=
    (foldl_keeps State.doors (g := fun (s : State) (t : Nat × Bool × Nat) => (s.wakeAxis t.1).clearPeaks t.1) (fun u t => doors_axisAwake u t.1) axes
      s₁).trans held
  refine MoveBegins.trans ⟨fun e he => (door_setDoor_ne he s₂ _).trans (door_of_doors doors e), ?_⟩ (.of_doors (doors_mirrorMove _ d))
  rw [door_setDoor_same]
  rfl

theorem moveBegins_finishMove (s : State) (d : Nat) : MoveBegins d s (s.finishMove d) := by
  refine ⟨fun e he => door_finishMove_ne he s, ?_⟩
  cases moving : (s.door d).move with
  | none => rw [finishMove_of_none moving]
  | some m =>
    rw [door_finishMove_same moving]
    rfl

theorem moveBegins_launch (s : State) (d : Nat) (k : MoveKind) : MoveBegins d s (s.launch d k) := by
  unfold State.launch
  extract_lets s₁ leaves step creep stepTime group speed toOpen toZero withStep
  have finished : MoveBegins d s s₁ := moveBegins_finishMove s d
  have move : ∀ {kind closing creep targets}, MoveBegins d s (s₁.startMove d kind closing creep targets) := finished.trans (moveBegins_startMove ..)
  have seek : ∀ {kind closing axes}, MoveBegins d s (s₁.startSeek d kind closing axes) := finished.trans (moveBegins_startSeek ..)
  cases k with
  | unlock | stepExtend | stepRetract => exact move.modDoor fun _ => rfl
  | openGroup | closeGroup | refFinal => exact .ite (move.modDoor fun _ => rfl) move
  | openLeaves | closeLeaves | driveLock | reclose | reverse | relief => exact move
  | refClose | seekOpen | seekClose | seekStepOut | seekStepIn => exact seek

theorem moveBegins_begin (s : State) (d : Nat) (k : MoveKind) : MoveBegins d s (s.begin_ d k) := by
  unfold State.begin_
  refine .ite (.of_doors rfl) (.ite (moveBegins_launch s d k) ?_)
  extract_lets aligning
  have doors : aligning.doors = s.doors := by
    refine foldl_keeps State.doors (fun u a => ?_) _ s
    rfl
  exact (MoveBegins.of_doors doors).modDoor fun _ => rfl

/-- The move behind another takes itself off the waiting place, and begins. -/
theorem door_moveOn (s : State) (d : Nat) (k : Option MoveKind) :
    (∀ e, e ≠ d → (s.moveOn d k).door e = s.door e)
      ∧ ((s.moveOn d k).door d).faults = (s.door d).faults ∧ ((s.moveOn d k).door d).dwellUntil = (s.door d).dwellUntil
      ∧ (k ≠ none → ((s.moveOn d k).door d).thenMove = none) := by
  cases k with
  | none => exact ⟨fun _ _ => rfl, rfl, rfl, fun h => absurd rfl h⟩
  | some k =>
    obtain ⟨others, record⟩ := moveBegins_begin (s.modDoor d fun x => { x with thenMove := none }) d k
    rw [door_modDoor_same] at record
    exact ⟨fun e he => (others e he).trans (door_modDoor_ne he s _), (congrArg Door.faults record :),
      (congrArg Door.dwellUntil record :),
      fun _ => (congrArg Door.thenMove record :)⟩

/-! ### A move that ends without a report -/

section
variable {s : State} {d : Nat} {m : Move} (free : m.limitStopped = false) (found : m.kind ≠ .refClose) (kind : m.kind.seeks = false)
include free found kind

theorem moveOver_plain : s.moveOver d m = (s.finishMove d).dwellBehind d m.kind := by
  have quiet : (s.finishMove d).reportStop d m = s.finishMove d := by simp [State.reportStop, free, found]
  rw [State.moveOver, quiet, learnSeek_of_other kind]

theorem rd_moveOver_plain {k : Nat} (h : k ∉ moveEndRegs) : (s.moveOver d m).rd k = s.rd k := by
  rw [moveOver_plain free found kind]
  refine Eq.trans ?_ (rd_finishMove h s d)
  unfold State.dwellBehind
  split <;> rfl

theorem sansEvents_moveOver_plain : (s.moveOver d m).sansEvents = State.sansEvents { s with doors := (s.moveOver d m).doors } := by
  generalize doors : (s.moveOver d m).doors = x
  have same : State.sansEvents { s.moveOver d m with doors := x } = State.sansEvents { s.finishMove d with doors := x } := by
    rw [moveOver_plain free found kind, State.dwellBehind]
    split <;> rfl
  subst doors
  exact same.trans (finishMove_blind (f := fun u => State.sansEvents { u with doors := (s.moveOver d m).doors }) (fun _ _ _ _ _ _ => rfl)
    (fun _ _ => rfl) s d)

theorem door_moveOver_plain (moving : (s.door d).move = some m) :
    ((s.moveOver d m).door d).faults = (s.door d).faults
      ∧ ((s.moveOver d m).door d).dwellUntil
        = if m.kind = .reverse ∨ m.kind = .relief then s.after (s.pn (Dr.DWELL_TIME d)) else (s.door d).dwellUntil := by
  split
  · next h =>
    refine ⟨?_, dwellUntil_moveOver s d h⟩
    rw [moveOver_plain free found kind, dwellBehind_of_reversal h, State.startDwell, door_modDoor_same, door_finishMove_same moving]
  · next h =>
    rw [moveOver_plain free found kind, dwellBehind_of_other h, door_finishMove_same moving]
    exact ⟨rfl, rfl⟩

end

/-- Settles O26: the move is over in its doorway's record, with its fault cause and its dwell; the begin of the move that waited leaves both,
and a move that ends without a report writes samples and force peaks beside. -/
theorem moveEndFreesTheDoorway : Obligations.MoveEndFreesTheDoorway := by
  intro s d _
  refine ⟨fun m moving ended free => ?finished, fun early => ?early, fun m moving ended free alone unstopped _ found open_ close out in_ => ?plain⟩
  case finished =>
    obtain ⟨⟨faults, learn, dwellUntil, dwellEnded, record⟩, others⟩ := door_moveOver moving
    obtain ⟨onOthers, onFaults, onDwell, onWaits⟩ := door_moveOn (s.moveOver d m) d (s.door d).thenMove
    refine ⟨_, exec_moveEnd moving ended free, fun alone => ?_, fun waits => ?_, fun stopped open_ close out in_ => ?_, fun reversal => ?_,
      fun e he => ?_⟩ <;> rw [door_settle]
    · rw [alone, State.moveOn, record]
      exact ⟨rfl, rfl⟩
    · exact onWaits waits
    · rw [onFaults]
      exact mem_faults_moveOver s d stopped (MoveKind.seeks_eq_false.mpr ⟨open_, close, out, in_⟩)
    · rw [onDwell, dwellUntil_moveOver s d reversal]
    · rw [onOthers e he, others e he]
  case early =>
    exact ⟨_, exec_moveEnd_early early, KeepsRegs.settle _ fun _ _ => rfl, settle_sansRegs s _⟩
  case plain =>
    have kind : m.kind.seeks = false := MoveKind.seeks_eq_false.mpr ⟨open_, close, out, in_⟩
    obtain ⟨⟨faults, learn, dwellUntil, dwellEnded, record⟩, others⟩ := door_moveOver moving
    obtain ⟨kept, dwells⟩ := door_moveOver_plain unstopped found kind moving
    have run := exec_moveEnd moving ended free
    rw [alone, State.moveOn] at run
    refine ⟨_, run, ?_, ?_, ?_, ?_, fun e he => ?_, KeepsRegs.settle _ fun k hk => rd_moveOver_plain unstopped found kind hk,
      onlyEvents_of_doors _ ((settle_sansEvents _ _).trans (sansEvents_moveOver_plain unstopped found kind))⟩ <;> rw [door_settle]
    · rw [record]
    · rw [record]
    · exact dwells
    · exact kept
    · exact others e he

end Sys2Proof.Machine

namespace Sys2Proof.Machine

/-!
The stroke learn run (R103, R104): the writes of LEARN_COMMAND, and what a finished run leaves.
-/

/-! ### What an accepted write leaves -/

theorem accessBlind_axes : AccessBlind State.axes := ⟨fun _ _ _ _ => rfl, fun _ _ _ _ _ _ _ _ => rfl⟩

theorem accessBlind_now : AccessBlind State.now := ⟨fun _ _ _ _ => rfl, fun _ _ _ _ _ _ _ _ => rfl⟩

theorem axis_of_axes {s t : State} (h : t.axes = s.axes) (a : Nat) : t.axis a = s.axis a := by rw [State.axis, h, State.axis]

theorem p_of_eff {s t : State} (h : t.eff = s.eff) (k : Nat) : t.p k = s.p k := by rw [State.p, h, State.p]

/-- `t` is left by an accepted write whose effect left `w`. -/
structure Written (w t : State) : Prop where
  answer : t.answer = some 0
  doors : t.doors = w.doors
  axes : t.axes = w.axes
  eff : t.eff = w.eff
  rd : ∀ k, k ∉ accessRegs → k ∉ wiredRegs → t.rd k = w.rd k

theorem written_settle {via : Via} {index sub : Nat} {v n : Int} {lv : Option (Level → Bool)} {s u w : State} (reach : Reaches via index sub v lv s u n)
    {e : Effect} (ok : e n u = .ok w) (refused : State → State) (q : List Instr) :
    Written w ((writeNum via index sub (.num v) lv refused e s).settle q) where
  answer := (settle_answer _ q).trans (answer_writeNum_accepted reach ok refused)
  doors := (settle_doors _ q).trans (accessBlind_doors.writeNum_accepted reach ok refused)
  axes := (settle_blind (f := State.axes) (fun _ _ _ _ _ => rfl) _ q).trans (accessBlind_axes.writeNum_accepted reach ok refused)
  eff := (settle_blind (f := State.eff) (fun _ _ _ _ _ => rfl) _ q).trans (accessBlind_eff.writeNum_accepted reach ok refused)
  rd _ ha hw := (rd_settle hw _ q).trans ((accessBlind_rd ha).writeNum_accepted reach ok refused)

/-- Behind an accepted write, the registers outside the effect's and the access's read as before. -/
theorem Written.keepsRegs {via : Via} {index sub : Nat} {v n : Int} {lv : Option (Level → Bool)} {s u w t : State} (h : Written w t)
    (reach : Reaches via index sub v lv s u n) {ks : List Nat} (effect : ∀ k, k ∉ ks → w.rd k = u.rd k) : KeepsRegs (ks ++ accessRegs) s t := by
  intro k hk hw
  obtain ⟨own, access⟩ := not_or.mp (List.mem_append.not.mp hk)
  rw [h.rd k access hw, effect k own, (accessBlind_rd access).reaches reach]

theorem DoorReg.written {w t : State} (h : Written w t) {k : Nat} (hk : DoorReg k) : t.rd k = w.rd k :=
  h.rd k hk.not_mem_accessRegs hk.not_mem_wiredRegs

/-! ### Registers of the run -/

/-- Entries of different sub-indices are different, whatever their indices are. -/
theorem key_ne_of_sub {i j m n : Nat} (h : m % 256 ≠ n % 256) : key i m ≠ key j n := by
  unfold key
  omega

theorem doorReg_learnCommand {d : Nat} (hd : d < 16) : DoorReg (Dr.LEARN_COMMAND d) := by
  simp only [DoorReg, Dr.LEARN_COMMAND, key]
  omega

theorem doorReg_learnState {d : Nat} (hd : d < 16) : DoorReg (Dr.LEARN_STATE d) := by
  simp only [DoorReg, Dr.LEARN_STATE, key]
  omega

theorem learnCommand_ne_learnState (d : Nat) : Dr.LEARN_COMMAND d ≠ Dr.LEARN_STATE d := key_ne_of_sub (by decide)

theorem learnState_ne_rampsShortened (d : Nat) : Dr.LEARN_STATE d ≠ Dr.STOP_RAMPS_SHORTENED d := key_ne_of_sub (by decide)

theorem DoorReg.ne_stroke {k : Nat} (h : DoorReg k) (a : Nat) : k ≠ Ax.STROKE a := by
  simp only [DoorReg] at h
  simp only [Ax.STROKE, key]
  omega

theorem DoorReg.ne_closedSwitchPos {k : Nat} (h : DoorReg k) (a : Nat) : k ≠ Ax.CLOSED_SWITCH_POS a := by
  simp only [DoorReg] at h
  simp only [Ax.CLOSED_SWITCH_POS, key]
  omega

theorem stroke_inj {a b : Nat} : Ax.STROKE a = Ax.STROKE b ↔ a = b := by
  simp only [Ax.STROKE, key]
  omega

theorem closedSwitchPos_inj {a b : Nat} : Ax.CLOSED_SWITCH_POS a = Ax.CLOSED_SWITCH_POS b ↔ a = b := by
  simp only [Ax.CLOSED_SWITCH_POS, key]
  omega

theorem stroke_ne_closedSwitchPos (a b : Nat) : Ax.STROKE a ≠ Ax.CLOSED_SWITCH_POS b := key_ne_of_sub (by decide)

/-- A register of the axes' entries, 0x3400 to 0x36FF. -/
abbrev AxisReg (k : Nat) : Prop := 256 * 0x3400 ≤ k ∧ k < 256 * 0x3700

theorem AxisReg.not_mem_wiredRegs {k : Nat} (h : AxisReg k) : k ∉ wiredRegs := fun m => (by decide : ∀ j ∈ wiredRegs, ¬ AxisReg j) k m h

theorem axisReg_stroke {a : Nat} (ha : a < 48) : AxisReg (Ax.STROKE a) := by
  simp only [AxisReg, Ax.STROKE, key]
  omega

theorem axisReg_closedSwitchPos {a : Nat} (ha : a < 48) : AxisReg (Ax.CLOSED_SWITCH_POS a) := by
  simp only [AxisReg, Ax.CLOSED_SWITCH_POS, key]
  omega

/-! ### The stop ramp of a doorway's move (R96, R97) -/

theorem seekStop_cases (s : State) (d : Nat) (axes : List Nat) (k : SeekAxis) :
    (s.seekStop d axes k).1 = s.count (Dr.STOP_RAMPS_SHORTENED d) ∨ (s.seekStop d axes k).1 = s := ite_eq_or_eq ..

theorem seekStops_keeps {α : Type} {f : State → α} {d : Nat} (h : ∀ s : State, f (s.count (Dr.STOP_RAMPS_SHORTENED d)) = f s) (s : State) (m : Move) :
    f (s.seekStops d m).1 = f s := by
  refine foldl_keeps (fun r : State × List SeekAxis => f r.1) (fun r k => ?_) m.seeks (s, [])
  dsimp only
  split
  · rfl
  · rcases seekStop_cases r.1 d (m.seeks.map (·.a)) k with e | e
    · exact (congrArg f e).trans (h r.1)
    · exact congrArg f e

theorem rd_countIf {k j : Nat} (h : k ≠ j) (c : Prop) [Decidable c] (s : State) : (if c then s.count j else s).rd k = s.rd k := by
  split
  · exact rd_wr_ne h s _
  · rfl

/-- A stop ramp counts the ramps that R97 shortened, and writes the doorway's move. -/
theorem rampStop_cases (s : State) (d : Nat) :
    s.rampStop d = s ∨ ∃ (u : State) (move : Option Move), s.rampStop d = u.setDoor d { s.door d with move } ∧ u.doors = s.doors
      ∧ ∀ k, k ≠ Dr.STOP_RAMPS_SHORTENED d → u.rd k = s.rd k := by
  unfold State.rampStop
  dsimp only
  split
  · exact .inl rfl
  next m _ =>
    split
    · exact .inl rfl
    split
    · exact .inr ⟨s, _, rfl, rfl, fun _ _ => rfl⟩
    split
    · have doors : (s.seekStops d m).1.doors = s.doors := seekStops_keeps (f := State.doors) (fun _ => rfl) s m
      refine .inr ⟨(s.seekStops d m).1, some { m with stopping := true, seeks := (s.seekStops d m).2 }, ?_, doors, fun k hk => ?_⟩
      · rw [← door_of_doors doors]
      · exact seekStops_keeps (f := (State.rd · k)) (fun t => rd_wr_ne hk t _) s m
    split
    · exact .inr ⟨s, _, rfl, rfl, fun _ _ => rfl⟩
    · refine .inr ⟨_, _, rfl, ?_, fun k hk => rd_countIf hk _ s⟩
      split <;> rfl

theorem rd_rampStop {d k : Nat} (h : k ≠ Dr.STOP_RAMPS_SHORTENED d) (s : State) : (s.rampStop d).rd k = s.rd k := by
  rcases rampStop_cases s d with e | ⟨u, move, e, -, regs⟩
  · rw [e]
  · rw [e]
    exact regs k h

/-! ### LEARN_COMMAND -/

/-- A learn run that begins (R103). -/
def State.learnBegun (s : State) (d : Nat) : State :=
  ((s.wr (Dr.LEARN_COMMAND d) 1).wr (Dr.LEARN_STATE d) 1).modDoor d fun x => { x with learn := some {}, lastEnd := none }

theorem learnEffect_start {s : State} {d : Nat} (conf : configured s d = true) (locked : doorState s d = 1) (rel : released s d = true)
    (zero : zeroSpeed s = true) (auto : doorManual s d = false) (idle : (s.door d).learn = none) :
    learnEffect d 1 s = .ok (s.learnBegun d) := by
  simp [learnEffect, State.learnBegun, conf, locked, rel, zero, auto, idle]

theorem rd_learnBegun (s : State) (d k : Nat) :
    (s.learnBegun d).rd k = if k = Dr.LEARN_STATE d then 1 else if k = Dr.LEARN_COMMAND d then 1 else s.rd k := by
  rw [← rd_wr, ← rd_wr]
  rfl

theorem door_learnBegun (s : State) (d : Nat) : (s.learnBegun d).door d = { s.door d with learn := some {}, lastEnd := none } :=
  door_modDoor_same _ d _

/-- A learn run that is cancelled (R104). -/
def State.learnCancelled (s : State) (d : Nat) : State := (s.wr (Dr.LEARN_COMMAND d) 2).stopLearn d 5

theorem learnEffect_cancel {s : State} {d : Nat} (conf : configured s d = true) : learnEffect d 2 s = .ok (s.learnCancelled d) := by
  simp [learnEffect, State.learnCancelled, conf]

section
variable {s : State} {d : Nat} {l : Learn} (running : (s.door d).learn = some l)
include running

theorem learnCancelled_of_running : s.learnCancelled d
    = (((s.wr (Dr.LEARN_COMMAND d) 2).wrn (Dr.LEARN_STATE d) 5).rampStop d).modDoor d fun x => { x with learn := some { l with aborted := true } } := by
  have same : ((s.wr (Dr.LEARN_COMMAND d) 2).door d).learn = some l := running
  simp only [State.learnCancelled, State.stopLearn, same]

theorem learn_learnCancelled : ((s.learnCancelled d).door d).learn = some { l with aborted := true } := by
  rw [learnCancelled_of_running running, door_modDoor_same]

theorem rd_learnCancelled {k : Nat} (hramp : k ≠ Dr.STOP_RAMPS_SHORTENED d) :
    (s.learnCancelled d).rd k = if k = Dr.LEARN_STATE d then 5 else if k = Dr.LEARN_COMMAND d then 2 else s.rd k := by
  rw [learnCancelled_of_running running, ← rd_wr, ← rd_wr]
  exact rd_rampStop hramp _

end

/-! ### The end of the run (R104) -/

/-- STROKE of an axis, from the ends of both passes. -/
def learntStroke (s : State) (l : Learn) (a : Nat) : Int := min (getD 0 l.e1 a) (getD 0 l.e2 a) - s.p (Ax.OPEN_BACKOFF a)

/-- CLOSED_SWITCH_POS of an axis, from the switch positions of both passes. -/
def learntSwitch (l : Learn) (a : Nat) : Int := max 0 (min 100000 ((getD 0 l.c1 a + getD 0 l.c2 a) / 2))

/-- What a successful run writes for one axis. -/
def State.learnAxis (l : Learn) (s : State) (a : Nat) : State :=
  (s.wr (Ax.STROKE a) (learntStroke s l a)).wr (Ax.CLOSED_SWITCH_POS a) (learntSwitch l a)

/-- The outcome of a run, shown, and the run gone from its doorway. -/
def State.learnShown (s : State) (d : Nat) (l : Learn) : State :=
  (s.wrn (Dr.LEARN_STATE d) (learnOutcome s d l)).modDoor d fun x => { x with learn := none }

/-- A finished run with all it writes. -/
def State.learnOver (s : State) (d : Nat) (l : Learn) : State :=
  if learnOutcome s d l = 2 then (axesOf (s.learnShown d l) d).foldl (State.learnAxis l) (s.learnShown d l) else s.learnShown d l

theorem exec_learnRunEnd {s : State} {d : Nat} {l : Learn} (running : (s.door d).learn = some l) (finished : l.finished = true)
    (whole : l.aborted = false) : exec (.learnRunEnd d) s = done s (s.learnOver d l) := by
  show execLearnRunEnd d s = _
  simp only [execLearnRunEnd, running, finished, whole, Bool.true_eq_false, Bool.false_eq_true, or_self, if_false]
  rfl

theorem axesOf_congr {s t : State} (part : t.part = s.part) (eff : t.eff = s.eff) (straps : t.rd Gl.STRAPS = s.rd Gl.STRAPS) (d : Nat) :
    axesOf t d = axesOf s d := by
  have type : doorType t d = doorType s d := by unfold doorType State.pn; rw [p_of_eff eff]
  unfold axesOf leavesOf hasStep
  rw [configured_congr part eff straps, type]

theorem axesOf_learnShown {d : Nat} (hd : d < 16) (s : State) (l : Learn) : axesOf (s.learnShown d l) d = axesOf s d := by
  have strap : Gl.STRAPS ≠ Dr.LEARN_STATE d := fun e => (by decide : ¬ DoorReg Gl.STRAPS) (e ▸ doorReg_learnState hd)
  exact axesOf_congr (s := s) (t := s.learnShown d l) rfl rfl (rd_wr_ne strap s _) d

theorem rd_stroke_learnAxes (l : Learn) (axes : List Nat) (s : State) (a : Nat) :
    (axes.foldl (State.learnAxis l) s).rd (Ax.STROKE a) = if a ∈ axes then learntStroke s l a else s.rd (Ax.STROKE a) := by
  induction axes generalizing s with
  | nil => simp
  | cons b axes ih =>
    have one : (s.learnAxis l b).rd (Ax.STROKE a) = if a = b then learntStroke s l a else s.rd (Ax.STROKE a) := by
      rw [State.learnAxis, rd_wr_ne (stroke_ne_closedSwitchPos a b), rd_wr, if_congr stroke_inj rfl rfl]
      split
      · next e => rw [e]
      · rfl
    have same : learntStroke (s.learnAxis l b) l a = learntStroke s l a := rfl
    rw [List.foldl_cons, ih, one, same]
    by_cases h : a = b <;> simp [h]

theorem rd_closedSwitchPos_learnAxes (l : Learn) (axes : List Nat) (s : State) (a : Nat) :
    (axes.foldl (State.learnAxis l) s).rd (Ax.CLOSED_SWITCH_POS a) = if a ∈ axes then learntSwitch l a else s.rd (Ax.CLOSED_SWITCH_POS a) := by
  induction axes generalizing s with
  | nil => simp
  | cons b axes ih =>
    have one : (s.learnAxis l b).rd (Ax.CLOSED_SWITCH_POS a) = if a = b then learntSwitch l a else s.rd (Ax.CLOSED_SWITCH_POS a) := by
      rw [State.learnAxis, rd_wr, rd_wr_ne (stroke_ne_closedSwitchPos b a).symm, if_congr closedSwitchPos_inj rfl rfl]
      split
      · next e => rw [e]
      · rfl
    rw [List.foldl_cons, ih, one]
    by_cases h : a = b <;> simp [h]

theorem rd_learnAxes {k : Nat} (h : DoorReg k) (l : Learn) (axes : List Nat) (s : State) : (axes.foldl (State.learnAxis l) s).rd k = s.rd k :=
  foldl_keeps (State.rd · k) (fun s a => (rd_wr_ne (h.ne_closedSwitchPos a) _ _).trans (rd_wr_ne (h.ne_stroke a) s _)) axes s

theorem learnOver_keeps {α : Type} {f : State → α} (h : RegBlind f) (s : State) (d : Nat) (l : Learn) : f (s.learnOver d l) = f (s.learnShown d l) := by
  unfold State.learnOver
  split
  · exact foldl_keeps f (fun s a => (wr_blind h _ _ _).trans (wr_blind h s _ _)) _ _
  · rfl

theorem rd_learnState_learnOver {d : Nat} (hd : d < 16) (s : State) (l : Learn) : (s.learnOver d l).rd (Dr.LEARN_STATE d) = learnOutcome s d l := by
  have shown : (s.learnShown d l).rd (Dr.LEARN_STATE d) = learnOutcome s d l := rd_wr_same s _ _
  unfold State.learnOver
  split
  · rw [rd_learnAxes (doorReg_learnState hd), shown]
  · exact shown

theorem rd_learnt_learnOver {s : State} {d : Nat} (hd : d < 16) {l : Learn} (good : learnOutcome s d l = 2) {a : Nat} (ha : a ∈ axesOf s d) :
    (s.learnOver d l).rd (Ax.STROKE a) = learntStroke s l a ∧ (s.learnOver d l).rd (Ax.CLOSED_SWITCH_POS a) = learntSwitch l a := by
  have member : a ∈ axesOf (s.learnShown d l) d := by rwa [axesOf_learnShown hd]
  rw [State.learnOver, if_pos good, rd_stroke_learnAxes, rd_closedSwitchPos_learnAxes, if_pos member, if_pos member]
  exact ⟨rfl, rfl⟩

theorem rd_learnOver_failed {s : State} {d : Nat} {l : Learn} (bad : learnOutcome s d l ≠ 2) {k : Nat} (hk : k ≠ Dr.LEARN_STATE d) :
    (s.learnOver d l).rd k = s.rd k := by
  rw [State.learnOver, if_neg bad]
  exact rd_wr_ne hk s _

/-- Settles O27: start and cancel are accepted writes of LEARN_COMMAND; a finished run shows its outcome, and on success its pass over the
doorway's axes writes each axis's two results once. -/
theorem strokeLearnRun : Obligations.StrokeLearnRun := by
  intro s via d hd
  have command := doorReg_learnCommand hd
  have state := doorReg_learnState hd
  refine ⟨fun u reach conf locked rel zero auto idle => ?start, fun u reach conf l running => ?cancel, fun l running finished whole => ?finish⟩
  case start =>
    have wrote := written_settle reach (learnEffect_start conf locked rel zero auto idle) id s.pending
    have before : u.doors = s.doors := accessBlind_doors.reaches reach
    refine ⟨_, rfl, wrote.answer, ?_, ?_, ?_, wrote.keepsRegs reach fun k hk => ?_⟩
    · rw [command.written wrote, rd_learnBegun, if_neg (learnCommand_ne_learnState d), if_pos rfl]
    · rw [state.written wrote, rd_learnBegun, if_pos rfl]
    · rw [door_of_doors wrote.doors, door_learnBegun, door_of_doors before]
    · simp only [List.mem_cons, List.not_mem_nil, or_false, not_or] at hk
      rw [rd_learnBegun, if_neg hk.2, if_neg hk.1]
  case cancel =>
    have wrote := written_settle reach (learnEffect_cancel conf) id s.pending
    refine ⟨_, rfl, wrote.answer, ?_, ?_, wrote.keepsRegs reach fun k hk => ?_⟩
    · rw [state.written wrote, rd_learnCancelled running (learnState_ne_rampsShortened d), if_pos rfl]
    · rw [door_of_doors wrote.doors, learn_learnCancelled running]
    · simp only [List.mem_cons, List.not_mem_nil, or_false, not_or] at hk
      obtain ⟨hcommand, hstate, hramp⟩ := hk
      rw [rd_learnCancelled running hramp, if_neg hstate, if_neg hcommand]
  case finish =>
    have shown : (s.learnOver d l).doors = (s.learnShown d l).doors := learnOver_keeps (f := State.doors) (fun _ _ => rfl) s d l
    refine ⟨_, exec_learnRunEnd running finished whole, ?_, ?_, fun good a ha => ?_, fun bad => KeepsRegs.settle _ fun k hk => ?_,
      onlyRegs_of_doors (s.learnShown d l).doors ?_⟩
    · rw [rd_settle state.not_mem_wiredRegs, rd_learnState_learnOver hd]
    · rw [door_settle, door_of_doors shown, State.learnShown, door_modDoor_same]
      rfl
    · obtain ⟨stroke, switch⟩ := rd_learnt_learnOver hd good ha
      have small := lt_of_mem_axesOf ha
      rw [rd_settle (axisReg_stroke small).not_mem_wiredRegs, rd_settle (axisReg_closedSwitchPos small).not_mem_wiredRegs]
      exact ⟨stroke, switch⟩
    · exact rd_learnOver_failed bad (List.mem_singleton.not.mp hk)
    · exact (settle_sansRegs _ _).trans (learnOver_keeps sansRegs_blind s d l)

end Sys2Proof.Machine

namespace Sys2Proof.Machine

/-!
Standstill and manual modes (R106 to R114). A coarse step writes one axis and a few registers of it, so the steps of one STEP edge do not
see each other.
-/

/-! ### Registers of the axes -/

theorem AxisReg.not_mem_accessRegs {k : Nat} (h : AxisReg k) : k ∉ accessRegs := fun m => (by decide : ∀ j ∈ accessRegs, ¬ AxisReg j) k m h

theorem AxisReg.written {w t : State} (h : Written w t) {k : Nat} (hk : AxisReg k) : t.rd k = w.rd k :=
  h.rd k hk.not_mem_accessRegs hk.not_mem_wiredRegs

theorem axisReg_axisMode {a : Nat} (ha : a < 48) : AxisReg (Ax.AXIS_MODE a) := by
  simp only [AxisReg, Ax.AXIS_MODE, key]
  omega

theorem axisReg_jogSteps {a : Nat} (ha : a < 48) : AxisReg (Ax.JOG_STEPS a) := by
  simp only [AxisReg, Ax.JOG_STEPS, key]
  omega

theorem doorReg_rampsShortened {a : Nat} (ha : a < 48) : DoorReg (Dr.STOP_RAMPS_SHORTENED (doorOf a)) := by
  simp only [DoorReg, Dr.STOP_RAMPS_SHORTENED, key, doorOf]
  omega

theorem jogSteps_ne_rampsShortened (a : Nat) : Ax.JOG_STEPS a ≠ Dr.STOP_RAMPS_SHORTENED (doorOf a) := key_ne_of_sub (by decide)

/-- The registers that a coarse step may write. -/
def stepRegs (a : Nat) : List Nat :=
  [Ax.STEPS_DISCARDED a, Ax.STEP_INTERVAL_LAST a, Ax.AXIS_STATUS a, Ax.LIMIT_STOP_REPEATS a, Ax.STEP_OVERRUN_REPEATS a]

/-- The axis of such a register shows in its index. -/
theorem axis_of_stepReg {a k : Nat} (h : k ∈ stepRegs a) : (k / 256 - 0x3405) / 16 = a := by
  simp only [stepRegs, Ax.STEPS_DISCARDED, Ax.STEP_INTERVAL_LAST, Ax.AXIS_STATUS, Ax.LIMIT_STOP_REPEATS, Ax.STEP_OVERRUN_REPEATS, key, List.mem_cons,
    List.not_mem_nil, or_false] at h
  omega

theorem axisReg_of_stepReg {a k : Nat} (ha : a < 48) (h : k ∈ stepRegs a) : AxisReg k := by
  simp only [stepRegs, Ax.STEPS_DISCARDED, Ax.STEP_INTERVAL_LAST, Ax.AXIS_STATUS, Ax.LIMIT_STOP_REPEATS, Ax.STEP_OVERRUN_REPEATS, key, List.mem_cons,
    List.not_mem_nil, or_false] at h
  simp only [AxisReg]
  omega

theorem stepReg_foreign {a k : Nat} (h : k ∈ stepRegs a) {l : List Nat} (ha : a ∉ l) : k ∉ l.flatMap stepRegs := by
  intro m
  obtain ⟨b, hb, hk⟩ := List.mem_flatMap.mp m
  exact ha ((axis_of_stepReg h).symm.trans (axis_of_stepReg hk) ▸ hb)

theorem not_stepReg_of_not_axisReg {k : Nat} (h : ¬ AxisReg k) {l : List Nat} (hl : ∀ b ∈ l, b < 48) : k ∉ l.flatMap stepRegs := by
  intro m
  obtain ⟨b, hb, hk⟩ := List.mem_flatMap.mp m
  exact h (axisReg_of_stepReg (hl b hb) hk)

theorem stepsDiscarded_mem (a : Nat) : Ax.STEPS_DISCARDED a ∈ stepRegs a := by simp [stepRegs]

theorem stepIntervalLast_mem (a : Nat) : Ax.STEP_INTERVAL_LAST a ∈ stepRegs a := by simp [stepRegs]

theorem axisStatus_mem (a : Nat) : Ax.AXIS_STATUS a ∈ stepRegs a := by simp [stepRegs]

theorem limitStopRepeats_mem (a : Nat) : Ax.LIMIT_STOP_REPEATS a ∈ stepRegs a := by simp [stepRegs]

theorem stepOverrunRepeats_mem (a : Nat) : Ax.STEP_OVERRUN_REPEATS a ∈ stepRegs a := by simp [stepRegs]

theorem stepsDiscarded_ne_axisStatus (a : Nat) : Ax.STEPS_DISCARDED a ≠ Ax.AXIS_STATUS a := key_ne_of_sub (by decide)

theorem stepsDiscarded_ne_limitStopRepeats (a : Nat) : Ax.STEPS_DISCARDED a ≠ Ax.LIMIT_STOP_REPEATS a := key_ne_of_sub (by decide)

theorem stepsDiscarded_ne_stepOverrunRepeats (a : Nat) : Ax.STEPS_DISCARDED a ≠ Ax.STEP_OVERRUN_REPEATS a := key_ne_of_sub (by decide)

theorem stepIntervalLast_ne_axisStatus (a : Nat) : Ax.STEP_INTERVAL_LAST a ≠ Ax.AXIS_STATUS a := key_ne_of_sub (by decide)

theorem axisStatus_ne_limitStopRepeats (a : Nat) : Ax.AXIS_STATUS a ≠ Ax.LIMIT_STOP_REPEATS a := key_ne_of_sub (by decide)

theorem jogSteps_ne_stepIntervalLast (a : Nat) : Ax.JOG_STEPS a ≠ Ax.STEP_INTERVAL_LAST a := key_ne_of_sub (by decide)

theorem jogSteps_ne_axisStatus (a : Nat) : Ax.JOG_STEPS a ≠ Ax.AXIS_STATUS a := key_ne_of_sub (by decide)

/-! ### Commands that write one axis -/

theorem onlyRegs_of_axes {s t : State} (axes : Store Axis) (h : t.sansRegs = State.sansRegs { s with axes }) : OnlyRegs { s with axes := t.axes } t := by
  have same : t.axes = axes := congrArg State.axes h
  rw [OnlyRegs, same, h]

@[simp] theorem settle_axes (t : State) (q : List Instr) : (t.settle q).axes = t.axes :=
  settle_blind (f := State.axes) (fun _ _ _ _ _ => rfl) t q

@[simp] theorem axis_settle (t : State) (q : List Instr) (a : Nat) : (t.settle q).axis a = t.axis a := axis_of_axes (settle_axes t q) a

/-! ### Standstill (R106 to R108) -/

theorem exec_standstillDelayExpiry {s : State} {a : Nat} (fresh : (s.axis a).holdStart = none)
    (long : heldFor (s.axis a).stillSince s.now (50 * s.pn (Ax.STANDSTILL_DELAY a)) = true) :
    exec (.standstillDelayExpiry a) s = done s (s.setAxis a { s.axis a with holdStart := some s.now, holdDone := false, frozen := true }) := by
  show execStandstillDelayExpiry a s = _
  exact congrArg (done s) (if_pos ⟨by rw [fresh]; rfl, long⟩)

theorem exec_holdRampEnd {s : State} {a : Nat} (long : heldFor (s.axis a).holdStart s.now 2500 = true) (fresh : (s.axis a).holdDone = false) :
    exec (.holdRampEnd a) s = done s ((s.setAxis a { s.axis a with holdDone := true }).setB (Ax.AXIS_STATUS a) 3 true) := by
  show execHoldRampEnd a s = _
  exact congrArg (done s) (if_pos ⟨long, fresh⟩)

/-! ### Steps leave other axes alone -/

/-- Of `s`, only the axes of `l` and their step registers differ in `t`. -/
structure StepsOnly (l : List Nat) (s t : State) : Prop where
  others : ∀ b, b ∉ l → t.axis b = s.axis b
  rd : ∀ k, k ∉ l.flatMap stepRegs → t.rd k = s.rd k
  rest : t = { s with dict := t.dict, axes := t.axes }

namespace StepsOnly

variable {l : List Nat} {s t u : State} {a k : Nat}

theorem refl (l : List Nat) (s : State) : StepsOnly l s s := ⟨fun _ _ => rfl, fun _ _ => rfl, rfl⟩

theorem trans {m : List Nat} (h : StepsOnly l s t) (g : StepsOnly m t u) : StepsOnly (l ++ m) s u where
  others b hb := by
    obtain ⟨hl, hm⟩ := not_or.mp (List.mem_append.not.mp hb)
    exact (g.others b hm).trans (h.others b hl)
  rd k hk := by
    rw [List.flatMap_append] at hk
    obtain ⟨hl, hm⟩ := not_or.mp (List.mem_append.not.mp hk)
    exact (g.rd k hm).trans (h.rd k hl)
  rest := g.rest.trans (congrArg (fun v : State => { v with dict := u.dict, axes := u.axes }) h.rest)

theorem wr (h : StepsOnly [a] s t) (hk : k ∈ stepRegs a) (v : Int) : StepsOnly [a] s (t.wr k v) where
  others := h.others
  rd j hj := (rd_wr_ne (fun e => hj (by simpa [e] using hk)) t v).trans (h.rd j hj)
  rest := congrArg (fun x : State => x.wr k v) h.rest

theorem setAxis (h : StepsOnly [a] s t) (x : Axis) : StepsOnly [a] s (t.setAxis a x) where
  others b hb := (axis_setAxis_ne (fun e => hb (by simp [e])) t x).trans (h.others b hb)
  rd := h.rd
  rest := congrArg (fun y : State => y.setAxis a x) h.rest

theorem latch {r : Nat} (h : StepsOnly [a] s t) (hk : k ∈ stepRegs a) (hr : r ∈ stepRegs a) (i : Nat) : StepsOnly [a] s (t.latch k i r) := by
  unfold State.latch
  split
  · exact h.wr hr _
  · split
    · exact (h.wr hr _).wr hk _
    · exact h.wr hk _

/-- What does not look at the axes and the registers is unchanged. -/
theorem keeps {α : Type} {f : State → α} (hf : ∀ (s : State) (dict : Store Int) (axes : Store Axis), f { s with dict, axes } = f s)
    (h : StepsOnly l s t) : f t = f s := by
  rw [h.rest]
  exact hf s _ _

theorem inputActive (h : StepsOnly l s t) (hl : ∀ b ∈ l, b < 48) (d c : Nat) : inputActive t d c = inputActive s d c := by
  have same : ∀ k, ¬ AxisReg k → t.rd k = s.rd k := fun k hk => h.rd k (not_stepReg_of_not_axisReg hk hl)
  have state := same Gl.INPUT_STATE (by decide)
  have broken := same Gl.WIRE_BREAK_MASK (by decide)
  have field := same Gl.FIELD_STATUS (by decide)
  have classes : ∀ n, classOf t n = classOf s n := fun n => h.keeps (f := (classOf · n)) fun _ _ _ => rfl
  have contacts : t.contacts = s.contacts := h.keeps fun _ _ _ => rfl
  simp only [Machine.inputActive, inputReads, State.bit, state, broken, field, classes, contacts]

theorem intoSwitch (h : StepsOnly l s t) (hl : ∀ b ∈ l, b < 48) (a : Nat) (opening : Bool) : intoSwitch t a opening = intoSwitch s a opening := by
  have params : ∀ k, t.pn k = s.pn k := fun k => h.keeps (f := (State.pn · k)) fun _ _ _ => rfl
  simp only [Machine.intoSwitch, params, h.inputActive hl]

theorem coarseNm (h : StepsOnly l s t) (a : Nat) : coarseNm t a = coarseNm s a := h.keeps (f := (Machine.coarseNm · a)) fun _ _ _ => rfl

end StepsOnly

/-! ### One coarse step (R112, R113) -/

theorem stepsOnly_checkBacklog (s : State) (a : Nat) : StepsOnly [a] s (s.checkBacklog a) := by
  unfold State.checkBacklog
  dsimp only
  split
  · split
    · exact (StepsOnly.refl _ s).setAxis _
    · exact StepsOnly.refl _ s
  · split
    · exact ((StepsOnly.refl _ s).setAxis _).latch (axisStatus_mem a) (stepOverrunRepeats_mem a) 11
    · exact StepsOnly.refl _ s

theorem checkBacklog_near {s : State} {a : Nat} (taking : (s.axis a).discarding = false) (near : backlog s a ≤ 64 * coarseNm s a) :
    s.checkBacklog a = s := by
  simp [State.checkBacklog, taking, not_lt.mpr near]

/-- A step that is discarded at a limit switch. -/
def State.stepRefused (s : State) (a : Nat) : State := ((s.checkBacklog a).count (Ax.STEPS_DISCARDED a)).limitStop a

/-- An accepted step. -/
def State.stepTaken (s : State) (a : Nat) (opening : Bool) (interval : Rat) : State :=
  let s := (s.wrn (Ax.STEP_INTERVAL_LAST a) (min 50000 (20 * interval).floor.toNat)).wakeAxis a
  let x := s.axis a
  let c := coarseNm s a
  s.setAxis a { x with
    demandNm := x.demandNm + x.remaining, remaining := if opening then c else -c, rate := c * 5 / max interval 1, lastStep := some s.now }

theorem coarse_eq (s : State) (a : Nat) (opening : Bool) (interval : Rat) :
    s.coarse a opening interval =
      if intoSwitch (s.checkBacklog a) a opening then s.stepRefused a
      else if ((s.checkBacklog a).axis a).discarding then (s.checkBacklog a).count (Ax.STEPS_DISCARDED a)
      else (s.checkBacklog a).stepTaken a opening interval := rfl

theorem stepsOnly_stepTaken {s t : State} {a : Nat} (h : StepsOnly [a] s t) (opening : Bool) (interval : Rat) :
    StepsOnly [a] s (t.stepTaken a opening interval) :=
  ((((h.wr (stepIntervalLast_mem a) _).setAxis _).wr (axisStatus_mem a) _).setAxis _).setAxis _

theorem stepsOnly_coarse (s : State) (a : Nat) (opening : Bool) (interval : Rat) : StepsOnly [a] s (s.coarse a opening interval) := by
  have checked := stepsOnly_checkBacklog s a
  have counted := checked.wr (stepsDiscarded_mem a) (min ((s.checkBacklog a).rdn (Ax.STEPS_DISCARDED a) + 1) max32 : Nat)
  rw [coarse_eq]
  split
  · exact counted.latch (axisStatus_mem a) (limitStopRepeats_mem a) 9
  · split
    · exact counted
    · exact stepsOnly_stepTaken checked opening interval

theorem coarse_accepted {s : State} {a : Nat} {opening : Bool} (clear : intoSwitch s a opening = false) (taking : (s.axis a).discarding = false)
    (near : backlog s a ≤ 64 * coarseNm s a) (interval : Rat) : s.coarse a opening interval = s.stepTaken a opening interval := by
  simp only [coarse_eq, checkBacklog_near taking near, clear, taking, Bool.false_eq_true, if_false]

theorem coarse_refused {s : State} {a : Nat} (ha : a < 48) {opening : Bool} (into : intoSwitch s a opening = true) (interval : Rat) :
    s.coarse a opening interval = s.stepRefused a := by
  have seen : intoSwitch (s.checkBacklog a) a opening = true := by
    rw [(stepsOnly_checkBacklog s a).intoSwitch (by simpa using ha), into]
  rw [coarse_eq, if_pos seen]

theorem rd_stepTaken {a k : Nat} (hi : k ≠ Ax.STEP_INTERVAL_LAST a) (hs : k ≠ Ax.AXIS_STATUS a) (s : State) (opening : Bool) (interval : Rat) :
    (s.stepTaken a opening interval).rd k = s.rd k :=
  (rd_wr_ne hs _ _).trans (rd_wr_ne hi s _)

theorem rdn_stepIntervalLast_stepTaken (s : State) (a : Nat) (opening : Bool) (interval : Rat) :
    (s.stepTaken a opening interval).rdn (Ax.STEP_INTERVAL_LAST a) = min 50000 (20 * interval).floor.toNat := by
  have shown : (s.stepTaken a opening interval).rd (Ax.STEP_INTERVAL_LAST a) = (min 50000 (20 * interval).floor.toNat : Nat) :=
    (rd_wr_ne (stepIntervalLast_ne_axisStatus a) _ _).trans (rd_wr_same s _ _)
  rw [State.rdn, shown, Int.toNat_natCast]

/-- An accepted step: the rest of the last one goes to the demand, the hold ramp ends, and the new one is to come. -/
theorem axis_stepTaken (s : State) (a : Nat) (opening : Bool) (interval : Rat) :
    (s.stepTaken a opening interval).axis a
      = { s.axis a with
          holdStart := none, holdDone := false, stillSince := none, frozen := false, demandNm := (s.axis a).demandNm + (s.axis a).remaining,
          remaining := if opening then coarseNm s a else -coarseNm s a, rate := coarseNm s a * 5 / max interval 1, lastStep := some s.now } := by
  have awake : ∀ u : State, (u.wakeAxis a).axis a = { u.axis a with holdStart := none, holdDone := false, stillSince := none, frozen := false } := by
    intro u
    have left : (u.leaveHold a).axis a = { u.axis a with holdStart := none, holdDone := false, stillSince := none } := axis_setAxis_same u a _
    rw [State.wakeAxis, axis_setAxis_same, left]
  rw [State.stepTaken, axis_setAxis_same, awake]
  rfl

theorem rdn_stepsDiscarded_stepRefused (s : State) (a : Nat) :
    (s.stepRefused a).rdn (Ax.STEPS_DISCARDED a) = min (s.rdn (Ax.STEPS_DISCARDED a) + 1) max32 := by
  have checked : (s.checkBacklog a).rd (Ax.STEPS_DISCARDED a) = s.rd (Ax.STEPS_DISCARDED a) := by
    unfold State.checkBacklog
    dsimp only
    split <;> split
    · rfl
    · rfl
    · exact rd_latch_ne (stepsDiscarded_ne_axisStatus a) (stepsDiscarded_ne_stepOverrunRepeats a) _ _
    · rfl
  rw [State.rdn, State.stepRefused, State.limitStop, rd_latch_ne (stepsDiscarded_ne_axisStatus a) (stepsDiscarded_ne_limitStopRepeats a), rd_count,
    if_pos rfl, Int.toNat_natCast, State.rdn, checked, State.rdn]

theorem bit_stepRefused (s : State) (a : Nat) : (s.stepRefused a).bit (Ax.AXIS_STATUS a) 9 = true :=
  bit_latch_same (axisStatus_ne_limitStopRepeats a) _ 9

/-! ### The steps of one STEP edge (R111) -/

/-- One axis that follows the pair takes its step. -/
def State.edgeStep (opening : Bool) (s : State) (a : Nat) : State := s.coarse a opening (stepInterval s a)

theorem stepsOnly_edgeSteps (opening : Bool) (l : List Nat) (s : State) : StepsOnly l s (l.foldl (State.edgeStep opening) s) := by
  induction l generalizing s with
  | nil => exact StepsOnly.refl [] s
  | cons a l ih => exact (stepsOnly_coarse s a opening _).trans (ih (s.edgeStep opening a))

/-- Of axes that each stand once in the list, one takes its step between steps of others. -/
theorem edgeSteps_of_mem (opening : Bool) {l : List Nat} (once : l.Nodup) {a : Nat} (ha : a ∈ l) (s : State) :
    ∃ before after u, (∀ b ∈ before, b ∈ l) ∧ a ∉ before ∧ a ∉ after ∧ StepsOnly before s u
      ∧ StepsOnly after (u.edgeStep opening a) (l.foldl (State.edgeStep opening) s) := by
  obtain ⟨before, after, rfl⟩ := List.append_of_mem ha
  obtain ⟨alone, -⟩ := List.nodup_cons.mp (List.nodup_middle.mp once)
  obtain ⟨notBefore, notAfter⟩ := not_or.mp (List.mem_append.not.mp alone)
  refine ⟨before, after, before.foldl (State.edgeStep opening) s, fun b hb => List.mem_append_left _ hb, notBefore, notAfter,
    stepsOnly_edgeSteps opening before s, ?_⟩
  rw [List.foldl_append, List.foldl_cons]
  exact stepsOnly_edgeSteps opening after _

section
variable {opening : Bool} {l : List Nat} (once : l.Nodup) (hl : ∀ b ∈ l, b < 48) {a : Nat} (ha : a ∈ l) {s : State}
include once hl ha

/-- An axis that may step has taken its step when all have. -/
theorem edgeSteps_accepted (clear : intoSwitch s a opening = false) (taking : (s.axis a).discarding = false)
    (near : backlog s a ≤ 64 * coarseNm s a) :
    (l.foldl (State.edgeStep opening) s).axis a = (s.stepTaken a opening (stepInterval s a)).axis a
      ∧ (l.foldl (State.edgeStep opening) s).rdn (Ax.STEP_INTERVAL_LAST a) = min 50000 (20 * stepInterval s a) := by
  obtain ⟨before, after, u, inside, notBefore, notAfter, first, last⟩ := edgeSteps_of_mem opening once ha s
  have axis : u.axis a = s.axis a := first.others a notBefore
  have now : u.now = s.now := first.keeps fun _ _ _ => rfl
  have scale : coarseNm u a = coarseNm s a := first.coarseNm a
  have interval : stepInterval u a = stepInterval s a := by simp only [stepInterval, axis, now]
  have taken : u.edgeStep opening a = u.stepTaken a opening (stepInterval s a) := by
    rw [State.edgeStep, interval]
    refine coarse_accepted ?_ ?_ ?_ _
    · rw [first.intoSwitch fun b hb => hl b (inside b hb), clear]
    · rw [axis, taking]
    · rwa [backlog, axis, scale]
  rw [taken] at last
  refine ⟨?_, ?_⟩
  · rw [last.others a notAfter, axis_stepTaken, axis_stepTaken, axis, now, scale]
  · have whole : (20 * (stepInterval s a : Rat)).floor.toNat = 20 * stepInterval s a := by
      have cast : (20 * (stepInterval s a : Rat)) = ((20 * stepInterval s a : Nat) : Int) := by push_cast; rfl
      rw [cast, Rat.floor_intCast, Int.toNat_natCast]
    rw [State.rdn, last.rd _ (stepReg_foreign (stepIntervalLast_mem a) notAfter), ← State.rdn, rdn_stepIntervalLast_stepTaken, whole]

/-- An axis at its limit switch has its step counted and flagged when all have stepped. -/
theorem edgeSteps_refused (into : intoSwitch s a opening = true) :
    (l.foldl (State.edgeStep opening) s).rdn (Ax.STEPS_DISCARDED a) = min (s.rdn (Ax.STEPS_DISCARDED a) + 1) max32
      ∧ (l.foldl (State.edgeStep opening) s).bit (Ax.AXIS_STATUS a) 9 = true := by
  obtain ⟨before, after, u, inside, notBefore, notAfter, first, last⟩ := edgeSteps_of_mem opening once ha s
  have refused : u.edgeStep opening a = u.stepRefused a :=
    coarse_refused (hl a ha) ((first.intoSwitch (fun b hb => hl b (inside b hb)) a opening).trans into) _
  have count : u.rdn (Ax.STEPS_DISCARDED a) = s.rdn (Ax.STEPS_DISCARDED a) :=
    congrArg Int.toNat (first.rd _ (stepReg_foreign (stepsDiscarded_mem a) notBefore))
  rw [refused] at last
  refine ⟨?_, ?_⟩
  · rw [State.rdn, last.rd _ (stepReg_foreign (stepsDiscarded_mem a) notAfter), ← State.rdn, rdn_stepsDiscarded_stepRefused, count]
  · rw [State.bit, last.rd _ (stepReg_foreign (axisStatus_mem a) notAfter), ← State.bit, bit_stepRefused]

end

/-! ### The axes that follow a pair -/

theorem nodup_axesOf (s : State) (d : Nat) : (axesOf s d).Nodup := by
  unfold axesOf leavesOf
  split
  · split <;> split <;> simp
  · exact List.nodup_nil

theorem nodup_allAxes (s : State) : (allAxes s).Nodup := by
  refine List.nodup_flatMap.mpr ⟨fun d _ => nodup_axesOf s d, (nodup_allDoors s).imp fun {d e} ne => List.disjoint_left.mpr fun a hd he => ne ?_⟩
  exact (axis_of_mem_axesOf hd).2.symm.trans (axis_of_mem_axesOf he).2

theorem lt_of_mem_followers {s : State} {p a : Nat} (h : a ∈ followers s p) : a < 48 := by
  obtain ⟨d, -, hd⟩ := List.mem_flatMap.mp (List.mem_filter.mp h).1
  exact lt_of_mem_axesOf hd

theorem nodup_followers (s : State) (p : Nat) : (followers s p).Nodup := (nodup_allAxes s).filter _

/-- The activation of a pair's STEP input, remembered. -/
def State.stepSeenOn (s : State) (p : Nat) : State := { s with boundary := { s.boundary with stepSeen := s.boundary.stepSeen + 2 ^ p } }

theorem testBit_stepSeenOn {s : State} {p : Nat} (fresh : s.boundary.stepSeen.testBit p = false) :
    (s.stepSeenOn p).boundary.stepSeen.testBit p = true := by
  show (s.boundary.stepSeen + 2 ^ p).testBit p = true
  rw [Nat.add_comm, Nat.testBit_two_pow_add_eq, fresh]
  rfl

@[simp] theorem settle_boundary (t : State) (q : List Instr) : (t.settle q).boundary = t.boundary :=
  settle_blind (f := State.boundary) (fun _ _ _ _ _ => rfl) t q

theorem StepsOnly.boundary {l : List Nat} {s t : State} (h : StepsOnly l s t) : t.boundary = s.boundary := h.keeps fun _ _ _ => rfl

/-- What the steps of a STEP edge leave alone, once the command has ended. -/
theorem onlyRegs_edgeSteps {l : List Nat} {s t : State} {p : Nat} (h : StepsOnly l (s.stepSeenOn p) t) (q : List Instr) :
    OnlyRegs { s with axes := (t.settle q).axes, boundary := { s.boundary with stepSeen := (t.settle q).boundary.stepSeen } } (t.settle q) := by
  rw [OnlyRegs, settle_sansRegs, settle_axes, settle_boundary, h.boundary]
  exact (congrArg State.sansRegs h.rest).trans rfl

theorem stepEdge_of_on {s : State} {p : Nat} (hp : p < 4) (on : inputActive s 0 (s.pn (Gl.STEP_DIR_INPUTS (2 * p))) = true)
    (fresh : s.boundary.stepSeen.testBit p = false) :
    s.stepEdge p = (followers s p).foldl (State.edgeStep (inputActive s 0 (s.pn (Gl.STEP_DIR_INPUTS (2 * p + 1))))) (s.stepSeenOn p) :=
  if_pos ⟨hp, on, fresh⟩

theorem exec_coarseStep_edge {s : State} {p : Nat} (hp : p < 4) (on : inputActive s 0 (s.pn (Gl.STEP_DIR_INPUTS (2 * p))) = true)
    (fresh : s.boundary.stepSeen.testBit p = false) :
    exec (.coarseStep false p) s
      = done s ((followers s p).foldl (State.edgeStep (inputActive s 0 (s.pn (Gl.STEP_DIR_INPUTS (2 * p + 1))))) (s.stepSeenOn p)) := by
  show execCoarseStep false p s = _
  exact congrArg (done s) (stepEdge_of_on hp on fresh)

/-! ### Jogs (R114) -/

theorem exec_jogStart {n : Int} (hn : n ≠ 0) (via : Via) (a : Nat) (s : State) :
    exec (.jogStart via a n) s = done s (writeNum via (0x3405 + 0x10 * a) 4 (.num n) none id (jogEffect a) s) := by
  show execJogStart via a n s = _
  exact congrArg (done s) (if_neg hn)

/-- A jog that begins, with its first step due at once. -/
def State.jogBegun (s : State) (a : Nat) (n : Int) : State :=
  (s.wr (Ax.JOG_STEPS a) n).setAxis a { s.axis a with jogNext := some (s.now : Rat), manStop := none }

theorem jogEffect_start {s : State} {a : Nat} {n : Int} (hn : n ≠ 0) (least : n ≠ -32768) (conf : configured s (doorOf a) = true)
    (mode : s.pn (Ax.AXIS_MODE a) = 2) (idle : (s.axis a).jogNext = none) : jogEffect a n s = .ok (s.jogBegun a n) := by
  simp [jogEffect, State.jogBegun, hn, least, conf, mode, idle]

/-- A jog that stops: the rest of it is cleared, and the axis ramps down. -/
def State.jogStopped (s : State) (a : Nat) : State :=
  ((s.wr (Ax.JOG_STEPS a) 0).setAxis a { s.axis a with jogNext := none, remaining := 0, rate := 0 }).manualRamp a

theorem jogEffect_stop {s : State} {a : Nat} (conf : configured s (doorOf a) = true) (mode : s.pn (Ax.AXIS_MODE a) = 2) :
    jogEffect a 0 s = .ok (s.jogStopped a) := by
  simp [jogEffect, State.jogStopped, conf, mode]

theorem manualRamp_of_rest {s : State} {a : Nat} (rest : (s.axis a).manVel = 0) : s.manualRamp a = s.setAxis a { s.axis a with manStop := none } :=
  if_pos rest

/-- A stop ramp gives the axis its deceleration, and may count as shortened. -/
theorem manualRamp_cases (s : State) (a : Nat) : ∃ (u : State) (manStop : Option Rat), s.manualRamp a = u.setAxis a { s.axis a with manStop }
    ∧ ∀ k, k ≠ Dr.STOP_RAMPS_SHORTENED (doorOf a) → u.rd k = s.rd k := by
  by_cases rest : (s.axis a).manVel = 0
  · exact ⟨s, none, manualRamp_of_rest rest, fun _ _ => rfl⟩
  · exact ⟨_, _, if_neg rest, fun k hk => rd_countIf hk _ s⟩

theorem axis_jogStopped (s : State) (a : Nat) : ((s.jogStopped a).axis a).jogNext = none ∧ ((s.jogStopped a).axis a).remaining = 0 := by
  obtain ⟨u, manStop, ramp, -⟩ := manualRamp_cases ((s.wr (Ax.JOG_STEPS a) 0).setAxis a { s.axis a with jogNext := none, remaining := 0, rate := 0 }) a
  rw [State.jogStopped, ramp, axis_setAxis_same, axis_setAxis_same]
  exact ⟨rfl, rfl⟩

theorem rd_jogStopped {a k : Nat} (hk : k ≠ Dr.STOP_RAMPS_SHORTENED (doorOf a)) (s : State) :
    (s.jogStopped a).rd k = if k = Ax.JOG_STEPS a then 0 else s.rd k := by
  obtain ⟨u, manStop, ramp, regs⟩ := manualRamp_cases ((s.wr (Ax.JOG_STEPS a) 0).setAxis a { s.axis a with jogNext := none, remaining := 0, rate := 0 }) a
  rw [State.jogStopped, ramp, ← rd_wr]
  exact regs k hk

theorem rd_jogStopped_of_rest {s : State} {a k : Nat} (rest : (s.axis a).manVel = 0) (hk : k ≠ Ax.JOG_STEPS a) : (s.jogStopped a).rd k = s.rd k := by
  rw [State.jogStopped, manualRamp_of_rest (by rw [axis_setAxis_same]; exact rest)]
  exact rd_wr_ne hk s _

/-- The time between two steps of a jog, in fast ticks. -/
def jogInterval (s : State) (a : Nat) : Rat := mkRat 50000 (max (s.pn (Ax.JOG_RATE a)) 1)

/-- A jog one step further. -/
def State.jogStepped (s : State) (a : Nat) : State :=
  let t := s.stepTaken a true (jogInterval s a)
  (t.wr (Ax.JOG_STEPS a) (s.rd (Ax.JOG_STEPS a) - 1)).setAxis a
    { t.axis a with jogNext := if s.rd (Ax.JOG_STEPS a) - 1 = 0 then none else some ((s.axis a).jogNext.getD 0 + jogInterval s a) }

theorem jogCoarse_accepted {s : State} {a : Nat} (mode : s.pn (Ax.AXIS_MODE a) = 2) (left : 0 < s.rd (Ax.JOG_STEPS a)) (h : jogDue s a = true)
    (clear : intoSwitch s a true = false) (taking : (s.axis a).discarding = false) (near : backlog s a ≤ 64 * coarseNm s a) :
    s.jogCoarse a = s.jogStepped a := by
  have opens : decide (s.rd (Ax.JOG_STEPS a) > 0) = true := decide_eq_true left
  unfold State.jogCoarse
  simp only [mode, h, left.ne', opens, gt_iff_lt, if_pos left, coarse_accepted clear taking near, ne_eq, not_false_eq_true, and_self, if_true]
  rfl

theorem rd_jogStepped {a k : Nat} (hi : k ≠ Ax.STEP_INTERVAL_LAST a) (hs : k ≠ Ax.AXIS_STATUS a) (s : State) :
    (s.jogStepped a).rd k = if k = Ax.JOG_STEPS a then s.rd (Ax.JOG_STEPS a) - 1 else s.rd k := by
  rw [← rd_stepTaken hi hs s true (jogInterval s a)]
  exact rd_wr _ (Ax.JOG_STEPS a) k _

theorem axis_jogStepped (s : State) (a : Nat) : ((s.jogStepped a).axis a).remaining = coarseNm s a
    ∧ ((s.jogStepped a).axis a).jogNext
      = if s.rd (Ax.JOG_STEPS a) = 1 then none else some ((s.axis a).jogNext.getD 0 + jogInterval s a) := by
  have last : s.rd (Ax.JOG_STEPS a) - 1 = 0 ↔ s.rd (Ax.JOG_STEPS a) = 1 := by omega
  rw [State.jogStepped, axis_setAxis_same, axis_stepTaken, if_congr last rfl rfl]
  exact ⟨rfl, rfl⟩

theorem sansRegs_jogStepped (s : State) (a : Nat) : ∃ axes, (s.jogStepped a).sansRegs = State.sansRegs { s with axes } := by
  have rest := (stepsOnly_stepTaken (StepsOnly.refl [a] s) true (jogInterval s a)).rest
  unfold State.jogStepped
  dsimp only
  generalize s.stepTaken a true (jogInterval s a) = t at rest ⊢
  rw [rest]
  exact ⟨_, rfl⟩

/-- Settles O28: each clause is its command's next state read back; in a STEP edge's pass every axis that follows takes its step as if alone,
since the steps before and behind it write other axes and their registers. -/
theorem standstillAndManualModes : Obligations.StandstillAndManualModes := by
  intro s a ha
  have modeReg := axisReg_axisMode ha
  have jogReg := axisReg_jogSteps ha
  have statusReg := axisReg_of_stepReg ha (axisStatus_mem a)
  refine ⟨fun fresh long => ?delay, fun long fresh => ?ramp, fun via mode u reach ok => ?mode, fun p hp on fresh opening reads => ?edge,
    fun via n u reach hn least conf mode idle => ?start, fun via u reach conf mode => ?stop, fun mode left h clear taking near i hi => ?step⟩
  case delay =>
    refine ⟨_, exec_standstillDelayExpiry fresh long, ?_, fun b hb => ?_, KeepsRegs.settle _ fun _ _ => rfl, onlyRegs_of_axes _ (settle_sansRegs _ _)⟩ <;>
      rw [axis_settle]
    · exact axis_setAxis_same s a _
    · exact axis_setAxis_ne hb s _
  case ramp =>
    refine ⟨_, exec_holdRampEnd long fresh, ?_, ?_, fun b hb => ?_, KeepsRegs.settle _ fun k hk => ?_, onlyRegs_of_axes _ (settle_sansRegs _ _)⟩
    · rw [axis_settle]
      exact axis_setAxis_same s a _
    · rw [bit_settle statusReg.not_mem_wiredRegs, bit_setB_same]
    · rw [axis_settle]
      exact axis_setAxis_ne hb s _
    · exact rd_wr_ne (List.mem_singleton.not.mp hk) _ _
  case mode =>
    have wrote := written_settle reach (e := axisModeEffect a) (if_pos ok) id s.pending
    have before : u.eff = s.eff := accessBlind_eff.reaches reach
    refine ⟨_, rfl, wrote.answer, ?_, ?_, wrote.keepsRegs reach (ks := [Ax.AXIS_MODE a]) fun k hk => ?_⟩
    · rw [modeReg.written wrote, rd_wr_same]
    · exact p_of_eff (wrote.eff.trans before) _
    · exact rd_wr_ne (List.mem_singleton.not.mp hk) u _
  case edge =>
    subst reads
    have small : ∀ b ∈ followers s p, b < 48 := fun b hb => lt_of_mem_followers hb
    have once := nodup_followers s p
    have only := stepsOnly_edgeSteps (inputActive s 0 (s.pn (Gl.STEP_DIR_INPUTS (2 * p + 1)))) (followers s p) (s.stepSeenOn p)
    refine ⟨_, exec_coarseStep_edge hp on fresh, ?_, fun follows clear taking near => ?_, fun follows into => ?_, fun foreign => ?_,
      KeepsRegs.settle _ only.rd, onlyRegs_edgeSteps only _⟩
    · rw [settle_boundary, only.boundary]
      exact testBit_stepSeenOn fresh
    · obtain ⟨axis, interval⟩ := edgeSteps_accepted (s := s.stepSeenOn p) once small (List.contains_iff_mem.mp follows) clear taking near
      rw [axis_stepTaken] at axis
      rw [axis_settle, axis, rdn_settle (axisReg_of_stepReg ha (stepIntervalLast_mem a)).not_mem_wiredRegs]
      exact ⟨rfl, rfl, rfl, interval⟩
    · obtain ⟨count, flag⟩ := edgeSteps_refused (s := s.stepSeenOn p) once small (List.contains_iff_mem.mp follows) into
      rw [rdn_settle (axisReg_of_stepReg ha (stepsDiscarded_mem a)).not_mem_wiredRegs, bit_settle statusReg.not_mem_wiredRegs]
      exact ⟨count, flag⟩
    · rw [axis_settle]
      exact only.others a fun m => by simp [m] at foreign
  case start =>
    have wrote := written_settle reach (jogEffect_start hn least conf mode idle) id s.pending
    refine ⟨_, exec_jogStart hn via a s, wrote.answer, ?_, ?_, wrote.keepsRegs reach (ks := [Ax.JOG_STEPS a]) fun k hk => ?_⟩
    · rw [jogReg.written wrote]
      exact rd_wr_same u _ _
    · rw [axis_of_axes wrote.axes, State.jogBegun, axis_setAxis_same, axis_of_axes (accessBlind_axes.reaches reach), accessBlind_now.reaches reach]
    · exact rd_wr_ne (List.mem_singleton.not.mp hk) u _
  case stop =>
    have wrote := written_settle reach (jogEffect_stop conf mode) id s.pending
    have shortened := doorReg_rampsShortened ha
    refine ⟨_, rfl, wrote.answer, ?_, ?_, ?_, fun rest => ?_,
      wrote.keepsRegs reach (ks := [Ax.JOG_STEPS a, Dr.STOP_RAMPS_SHORTENED (doorOf a)]) fun k hk => ?_⟩
    · rw [jogReg.written wrote, rd_jogStopped (jogSteps_ne_rampsShortened a), if_pos rfl]
    · rw [axis_of_axes wrote.axes]
      exact (axis_jogStopped u a).1
    · rw [axis_of_axes wrote.axes]
      exact (axis_jogStopped u a).2
    · have still : (u.axis a).manVel = 0 := by rwa [axis_of_axes (accessBlind_axes.reaches reach)]
      rw [shortened.written wrote, rd_jogStopped_of_rest still (jogSteps_ne_rampsShortened a).symm, (accessBlind_rd shortened.not_mem_accessRegs).reaches reach]
    · simp only [List.mem_cons, List.not_mem_nil, or_false, not_or] at hk
      rw [rd_jogStopped hk.2, if_neg hk.1]
  case step =>
    have run : exec i s = done s (s.jogCoarse a) := by
      simp only [List.mem_cons, List.not_mem_nil, or_false] at hi
      rcases hi with rfl | rfl <;> rfl
    rw [jogCoarse_accepted mode left h clear taking near] at run
    obtain ⟨remaining, next⟩ := axis_jogStepped s a
    obtain ⟨axes, same⟩ := sansRegs_jogStepped s a
    refine ⟨_, run, ?_, ?_, ?_, KeepsRegs.settle _ fun k hk => ?_, onlyRegs_of_axes axes ((settle_sansRegs _ _).trans same)⟩
    · rw [rd_settle jogReg.not_mem_wiredRegs, rd_jogStepped (jogSteps_ne_stepIntervalLast a) (jogSteps_ne_axisStatus a), if_pos rfl]
    · rw [axis_settle, remaining]
    · rw [axis_settle, next]
      rfl
    · simp only [List.mem_cons, List.not_mem_nil, or_false, not_or] at hk
      obtain ⟨hjog, hinterval, hstatus⟩ := hk
      rw [rd_jogStepped hinterval hstatus, if_neg hjog]

end Sys2Proof.Machine

namespace Sys2Proof.Machine

/-!
Loop faults (R126, R145 to R147). The first fault of an axis writes the axis, two registers of it and its doorway's list of causes, whatever has
found it; the commands differ in their conditions and in the cause only.
-/

/-! ### Registers of the loops -/

/-- An entry of an axis's block is one of the axes' registers. -/
theorem axisReg_key {a base sub : Nat} (ha : a < 48) (block : 0x3400 ≤ base ∧ base < 0x3410) (hs : sub < 256) : AxisReg (key (base + 0x10 * a) sub) := by
  simp only [AxisReg, key]
  omega

theorem axisReg_loopStatus {a : Nat} (ha : a < 48) : AxisReg (Ax.LOOP_STATUS a) := axisReg_key ha (by decide) (by decide)

theorem axisReg_loopFaultCause {a : Nat} (ha : a < 48) : AxisReg (Ax.LOOP_FAULT_CAUSE a) := axisReg_key ha (by decide) (by decide)

theorem loopFaultCause_ne_loopStatus (a : Nat) : Ax.LOOP_FAULT_CAUSE a ≠ Ax.LOOP_STATUS a := key_ne_of_sub (by decide)

/-! ### The first fault of an axis -/

theorem sansRegs_faultDoor (s : State) (d cause : Nat) : (s.faultDoor d cause).sansRegs = { s.sansRegs with doors := (s.faultDoor d cause).doors } := rfl

/-- The axis as its first loop fault leaves it. -/
def faultedAxis (s : State) (a cause : Nat) : Axis :=
  { s.axis a with faultAt := some s.now, align := none, faultBrake := brakeCause s a cause }

section
variable {s : State} {a : Nat} (first : s.rd (Ax.LOOP_FAULT_CAUSE a) = 0) (cause : Nat)
include first

theorem loopFault_first : s.loopFault a cause
    = (((s.wrn (Ax.LOOP_FAULT_CAUSE a) cause).setAxis a (faultedAxis s a cause)).setB (Ax.LOOP_STATUS a) 4 true).faultDoor (doorOf a) 6 := by
  have unset : s.rdn (Ax.LOOP_FAULT_CAUSE a) = 0 := by rw [State.rdn, first]; rfl
  simp [State.loopFault, faultedAxis, unset]

theorem rd_loopFault_cause : (s.loopFault a cause).rd (Ax.LOOP_FAULT_CAUSE a) = cause := by
  rw [loopFault_first first]
  exact (rd_wr_ne (loopFaultCause_ne_loopStatus a) _ _).trans (rd_wr_same s _ _)

theorem bit_loopFault : (s.loopFault a cause).bit (Ax.LOOP_STATUS a) 4 = true := by
  rw [loopFault_first first, State.bit, rd_of_dict (State.faultDoor_dict ..)]
  exact bit_setB_same _ _ 4 true

theorem rd_loopFault_ne {k : Nat} (hc : k ≠ Ax.LOOP_FAULT_CAUSE a) (hs : k ≠ Ax.LOOP_STATUS a) : (s.loopFault a cause).rd k = s.rd k := by
  rw [loopFault_first first]
  exact (rd_wr_ne hs _ _).trans (rd_wr_ne hc s _)

theorem axis_loopFault_same : (s.loopFault a cause).axis a = faultedAxis s a cause := by
  rw [loopFault_first first]
  exact axis_setAxis_same _ a _

theorem axis_loopFault_ne {b : Nat} (hb : b ≠ a) : (s.loopFault a cause).axis b = s.axis b := by
  rw [loopFault_first first]
  exact axis_setAxis_ne hb _ _

theorem sansRegs_loopFault : ∃ axes doors, (s.loopFault a cause).sansRegs = State.sansRegs { s with axes, doors } := by
  rw [loopFault_first first, sansRegs_faultDoor, setB_blind sansRegs_blind]
  exact ⟨_, _, rfl⟩

end

/-- Every loop fault reports fault cause 6 to the doorway (R147). -/
theorem mem_faults_loopFault (s : State) (a cause : Nat) : 6 ∈ ((s.loopFault a cause).door (doorOf a)).faults := mem_faults_faultDoor ..

theorem onlyRegs_of_axes_doors {s t : State} (axes : Store Axis) (doors : Store Door) (h : t.sansRegs = State.sansRegs { s with axes, doors }) :
    OnlyRegs { s with axes := t.axes, doors := t.doors } t := by
  have sameAxes : t.axes = axes := congrArg State.axes h
  have sameDoors : t.doors = doors := congrArg State.doors h
  rw [OnlyRegs, sameAxes, sameDoors, h]

/-! ### The drive mode of an axis with a fault (R126) -/

theorem rdn_ne_zero_of_pos {s : State} {k : Nat} (h : 0 < s.rd k) : s.rdn k ≠ 0 := by
  simp only [State.rdn]
  omega

theorem axisSto_of_fault {s : State} {a : Nat} (fault : s.rdn (Ax.LOOP_FAULT_CAUSE a) ≠ 0) (ended : braking s a = false) : axisSto s a = true := by
  simp [axisSto, fault, ended]

theorem driveMode_of_fault {s : State} {a : Nat} (fault : s.rdn (Ax.LOOP_FAULT_CAUSE a) ≠ 0) (own : (s.axis a).shadow = none) :
    driveMode s a = mSto ∨ driveMode s a = mBrake := by
  cases hb : braking s a with
  | false => left; simp [driveMode, own, axisSto_of_fault fault hb]
  | true => cases hs : axisSto s a <;> simp [driveMode, own, hb, hs]

/-! ### The commands -/

/-- The commands that find a loop fault, with its cause and their condition (R145, R146). -/
def loopFaultCommands (s : State) (a : Nat) : List ((Nat → Instr) × Nat × Bool) :=
  [(Instr.phaseLoss, 3, heldFor (s.axis a).phaseLossSince s.now 1000 || (s.axis a).phase.lost),
    (Instr.commutation, 5, heldFor (s.axis a).commFaultSince s.now 2500),
    (Instr.stall, 7, s.pn (Ax.STALL_TIME a) != 0 && heldFor (s.axis a).stallSince s.now (50 * s.pn (Ax.STALL_TIME a)) && !manual s a),
    (Instr.saturation, 8, s.pn (Ax.SATURATION_TIME a) != 0 && axisMoving s a
      && decide (50 * s.pn (Ax.SATURATION_TIME a) ≤ (s.axis a).limitedRun))]

theorem exec_loopFaultCommand {s : State} {a : Nat} {c : Nat → Instr} {cause : Nat} {met : Bool} (h : (c, cause, met) ∈ loopFaultCommands s a)
    (isMet : met = true) : exec (c a) s = done s (s.loopFault a cause) ∧ 0 < cause := by
  simp only [loopFaultCommands, List.mem_cons, List.not_mem_nil, or_false, Prod.mk.injEq] at h
  rcases h with ⟨rfl, rfl, rfl⟩ | ⟨rfl, rfl, rfl⟩ | ⟨rfl, rfl, rfl⟩ | ⟨rfl, rfl, rfl⟩ <;> refine ⟨congrArg (done s) ?_, by decide⟩
  · exact if_pos (by simpa using isMet)
  · exact if_pos isMet
  · obtain ⟨held, auto⟩ : (_ ∧ _) ∧ manual s a = false := by simpa using isMet
    exact (if_pos held).trans (if_neg (by simp [auto]))
  · exact if_pos (by simpa [and_assoc] using isMet)

theorem exec_stall_manual {s : State} {a : Nat} (on : s.pn (Ax.STALL_TIME a) ≠ 0)
    (long : heldFor (s.axis a).stallSince s.now (50 * s.pn (Ax.STALL_TIME a)) = true) (byHand : manual s a = true) :
    exec (.stall a) s = done s (s.manualStop a) :=
  congrArg (done s) ((if_pos ⟨on, long⟩).trans (if_pos byHand))

/-- An axis in a manual mode stops where it stands (R147). -/
theorem axis_manualStop (s : State) (a : Nat) : ((s.manualStop a).axis a).setNm = (s.axis a).posNm
    ∧ ((s.manualStop a).axis a).demandNm = (s.axis a).posNm ∧ ((s.manualStop a).axis a).setVel = 0 := by
  have axis : (s.manualStop a).axis a = _ := axis_setAxis_same s a _
  rw [axis]
  exact ⟨rfl, rfl, rfl⟩

theorem exec_brakeShortEnd {s : State} {a : Nat} (fault : s.rdn (Ax.LOOP_FAULT_CAUSE a) ≠ 0) (short : (s.axis a).faultBrake = true)
    (long : heldFor (s.axis a).faultAt s.now 25000 = true) :
    exec (.brakeShortEnd a) s = done s (s.setAxis a { s.axis a with faultBrake := false }) :=
  congrArg (done s) (if_pos ⟨fault, short, long⟩)

/-- Settles O29: a first fault leaves what `loopFault_first` writes, and row 1 of R126 gives an axis with a fault STO whenever it does not brake. -/
theorem loopFaultsStopTheAxis : Obligations.LoopFaultsStopTheAxis := by
  intro s a ha
  have causeReg := axisReg_loopFaultCause ha
  refine ⟨fun c cause met h isMet first => ?fault, fun on long byHand => ?stall, fun fault nat short long => ?ended⟩
  case fault =>
    obtain ⟨run, pos⟩ := exec_loopFaultCommand h isMet
    have shown : ((s.loopFault a cause).settle s.pending).rd (Ax.LOOP_FAULT_CAUSE a) = cause :=
      (rd_settle causeReg.not_mem_wiredRegs _ _).trans (rd_loopFault_cause first cause)
    have axis : ((s.loopFault a cause).settle s.pending).axis a = faultedAxis s a cause :=
      (axis_settle _ _ a).trans (axis_loopFault_same first cause)
    obtain ⟨axes, doors, same⟩ := sansRegs_loopFault first cause
    refine ⟨_, run, shown, ?flag, ?reported, axis, fun own => ?mode, fun b hb => ?others, KeepsRegs.settle _ fun k hk => ?kept,
      onlyRegs_of_axes_doors axes doors ((settle_sansRegs _ _).trans same)⟩
    case flag => rw [bit_settle (axisReg_loopStatus ha).not_mem_wiredRegs, bit_loopFault first]
    case reported =>
      rw [door_settle]
      exact mem_faults_loopFault s a cause
    case mode => exact driveMode_of_fault (rdn_ne_zero_of_pos (by omega)) (by rw [axis]; exact own)
    case others => rw [axis_settle, axis_loopFault_ne first cause hb]
    case kept =>
      simp only [List.mem_cons, List.not_mem_nil, or_false, not_or] at hk
      obtain ⟨hcause, hstatus⟩ := hk
      exact rd_loopFault_ne first cause hcause hstatus
  case stall =>
    obtain ⟨set, demand, still⟩ := axis_manualStop s a
    refine ⟨_, exec_stall_manual on long byHand, ?_, ?_, ?_, ?_, KeepsRegs.settle _ fun k hk => ?_, onlyRegs_of_axes _ (settle_sansRegs _ _)⟩
    · rw [axis_settle, set]
    · rw [axis_settle, demand]
    · rw [axis_settle, still]
    · rw [rd_settle (axisReg_jogSteps ha).not_mem_wiredRegs, State.manualStop, rd_wr_same]
    · exact rd_wr_ne (List.mem_singleton.not.mp hk) _ _
  case ended =>
    have present : s.rdn (Ax.LOOP_FAULT_CAUSE a) ≠ 0 := rdn_ne_zero_of_pos (by omega)
    have axis := (axis_settle (s.setAxis a { s.axis a with faultBrake := false }) s.pending a).trans (axis_setAxis_same s a _)
    refine ⟨_, exec_brakeShortEnd present short long, axis, axisSto_of_fault ?_ ?_, KeepsRegs.settle _ fun _ _ => rfl,
      onlyRegs_of_axes _ (settle_sansRegs _ _)⟩
    · rw [rdn_settle causeReg.not_mem_wiredRegs]
      exact present
    · simp [braking, axis]

end Sys2Proof.Machine

namespace Sys2Proof.Machine

/-!
Alignment, motor data and the commutation table (R121, R122, R142 to R144). The two alignments end alike: with VALID and an offset that makes the
angle at the last recorded count read as it should, or with FAILED and a loop fault.
-/

/-! ### Registers of the alignment -/

theorem axisReg_commutationOffset {a : Nat} (ha : a < 48) : AxisReg (Ax.COMMUTATION_OFFSET a) := axisReg_key ha (by decide) (by decide)

theorem axisReg_angleState {a : Nat} (ha : a < 48) : AxisReg (Ax.ANGLE_STATE a) := axisReg_key ha (by decide) (by decide)

theorem axisReg_angleCommand {a : Nat} (ha : a < 48) : AxisReg (Ax.ANGLE_COMMAND a) := axisReg_key ha (by decide) (by decide)

theorem axisReg_travelPerRev {a : Nat} (ha : a < 48) : AxisReg (Ax.TRAVEL_PER_REV a) := axisReg_key ha (by decide) (by decide)

theorem commutationOffset_ne_angleState (a : Nat) : Ax.COMMUTATION_OFFSET a ≠ Ax.ANGLE_STATE a := key_ne_of_sub (by decide)

theorem angleCommand_ne_angleState (a : Nat) : Ax.ANGLE_COMMAND a ≠ Ax.ANGLE_STATE a := key_ne_of_sub (by decide)

theorem loopFaultCause_ne_angleState (a : Nat) : Ax.LOOP_FAULT_CAUSE a ≠ Ax.ANGLE_STATE a := key_ne_of_sub (by decide)

theorem angleState_ne_loopStatus (a : Nat) : Ax.ANGLE_STATE a ≠ Ax.LOOP_STATUS a := key_ne_of_sub (by decide)

theorem angleState_ne_travelPerRev (a : Nat) : Ax.ANGLE_STATE a ≠ Ax.TRAVEL_PER_REV a := key_ne_of_sub (by decide)

/-! ### ANGLE_COMMAND (R142) -/

/-- An alignment run that begins, with the angle's state kept for its cancel. -/
def State.alignBegun (s : State) (a : Nat) : State :=
  (s.wr (Ax.ANGLE_COMMAND a) 1).setAxis a
    { s.axis a with align := some { self := false, started := s.now, prevState := s.rdn (Ax.ANGLE_STATE a) } }

theorem angleEffect_start {s : State} {a : Nat} (conf : configured s (doorOf a) = true) (isOpen : doorState s (doorOf a) = 4)
    (rel : released s (doorOf a) = true) (still : zeroSpeed s = true) (away : (leavesOf s (doorOf a)).all (awayFromEnds s) = true)
    (own : (axesOf s (doorOf a)).contains a = true) : angleEffect a 1 s = .ok (s.alignBegun a) :=
  (if_neg (by simp [conf])).trans ((if_pos rfl).trans (if_pos ⟨isOpen, rel, still, away, own⟩))

/-- A run that is cancelled: the angle's state is as it was before the run. -/
def State.alignCancelled (s : State) (a prevState : Nat) : State :=
  ((s.wr (Ax.ANGLE_COMMAND a) 2).wrn (Ax.ANGLE_STATE a) prevState).setAxis a { s.axis a with align := none }

theorem angleEffect_cancel {s : State} {a : Nat} (conf : configured s (doorOf a) = true) {r : Align} (run : (s.axis a).align = some r) :
    angleEffect a 2 s = .ok (s.alignCancelled a r.prevState) := by
  simp [angleEffect, State.alignCancelled, conf, run]

/-! ### An alignment that ends VALID -/

/-- COMMUTATION_OFFSET with which the angle at count `c` reads `reading`. -/
def offsetReading (s : State) (a : Nat) (c reading : Int) : Int :=
  (s.p (Ax.COMMUTATION_OFFSET a) + reading - divRound (countAngle s a c) 65536) % 1536

theorem offsetReading_reads (s : State) (a : Nat) (c : Int) {reading : Int} (inTurn : 0 ≤ reading ∧ reading < 1536) :
    (offsetReading s a c reading + divRound (countAngle s a c) 65536 - s.p (Ax.COMMUTATION_OFFSET a)) % 1536 = reading := by
  unfold offsetReading
  omega

/-- `t` is left by an alignment of axis `a` that has ended VALID, with the angle at count `c` reading `reading`. -/
structure AlignedAt (s t : State) (a : Nat) (c reading : Int) : Prop where
  state : t.rd (Ax.ANGLE_STATE a) = 2
  reads : (t.rd (Ax.COMMUTATION_OFFSET a) + divRound (countAngle s a c) 65536 - s.p (Ax.COMMUTATION_OFFSET a)) % 1536 = reading
  inForce : t.p (Ax.COMMUTATION_OFFSET a) = t.rd (Ax.COMMUTATION_OFFSET a)
  axis : t.axis a = { s.axis a with align := none }
  keeps : KeepsRegs [Ax.ANGLE_STATE a, Ax.COMMUTATION_OFFSET a] s t
  only : OnlyRegs { s with axes := t.axes, eff := t.eff } t

theorem onlyRegs_of_axes_eff {s t : State} (axes : Store Axis) (eff : Store Int) (h : t.sansRegs = State.sansRegs { s with axes, eff }) :
    OnlyRegs { s with axes := t.axes, eff := t.eff } t := by
  have sameAxes : t.axes = axes := congrArg State.axes h
  have sameEff : t.eff = eff := congrArg State.eff h
  rw [OnlyRegs, sameAxes, sameEff, h]

@[simp] theorem p_settle (t : State) (q : List Instr) (k : Nat) : (t.settle q).p k = t.p k :=
  settle_blind (f := (State.p · k)) (fun _ _ _ _ _ => rfl) t q

theorem rd_alignedCount (s : State) (a k : Nat) : (s.alignedCount a).rd k = if k = Ax.ANGLE_STATE a then 2 else s.rd k := rd_wrn _ _ k 2

theorem axes_alignedCount (s : State) (a : Nat) : (s.alignedCount a).axes = s.axes := rfl

/-- A run that ends VALID gets the offset with which the angle at its last count reads as it should. -/
theorem alignValid_of_recorded {s : State} {a : Nat} {r : Align} (run : (s.axis a).align = some r) {c : Int} (last : r.c1 = some c) (reading : Int) :
    s.alignValid a reading
      = ((s.setAxis a { s.axis a with align := none }).wr (Ax.COMMUTATION_OFFSET a) (offsetReading s a c reading)).alignedCount a := by
  simp only [State.alignValid, offsetReading, run, last, Option.bind_some, Option.getD_some]

theorem rd_alignValid {s : State} {a : Nat} {r : Align} (run : (s.axis a).align = some r) {c : Int} (last : r.c1 = some c) (reading : Int) (k : Nat) :
    (s.alignValid a reading).rd k
      = if k = Ax.ANGLE_STATE a then 2 else if k = Ax.COMMUTATION_OFFSET a then offsetReading s a c reading else s.rd k := by
  rw [alignValid_of_recorded run last, rd_alignedCount, rd_wr, rd_of_dict (State.setAxis_dict ..)]

theorem p_alignValid (s : State) (a : Nat) (reading : Int) :
    (s.alignValid a reading).p (Ax.COMMUTATION_OFFSET a) = (s.alignValid a reading).rd (Ax.COMMUTATION_OFFSET a) := by
  rw [State.alignValid, rd_alignedCount, if_neg (commutationOffset_ne_angleState a)]
  exact p_enforce_same _ _ _

theorem axis_alignValid (s : State) (a : Nat) (reading : Int) : (s.alignValid a reading).axis a = { s.axis a with align := none } := by
  rw [State.alignValid, axis_of_axes (axes_alignedCount ..), axis_of_axes (State.wr_axes ..), axis_setAxis_same]

theorem sansRegs_enforce (s : State) (k : Nat) (v : Int) : (s.enforce k v).sansRegs = { s.sansRegs with eff := (s.enforce k v).eff } := rfl

theorem sansRegs_alignValid (s : State) (a : Nat) (reading : Int) :
    ∃ axes eff, (s.alignValid a reading).sansRegs = State.sansRegs { s with axes, eff } := by
  rw [State.alignValid, State.alignedCount, State.wrn, wr_blind sansRegs_blind, sansRegs_enforce, wr_blind sansRegs_blind]
  exact ⟨_, _, rfl⟩

theorem alignedAt_alignValid {s : State} {a : Nat} (ha : a < 48) {r : Align} (run : (s.axis a).align = some r) {c : Int} (last : r.c1 = some c)
    {reading : Int} (inTurn : 0 ≤ reading ∧ reading < 1536) (q : List Instr) : AlignedAt s ((s.alignValid a reading).settle q) a c reading := by
  have offsetReg := axisReg_commutationOffset ha
  obtain ⟨axes, eff, same⟩ := sansRegs_alignValid s a reading
  refine ⟨?state, ?reads, ?inForce, ?axis, KeepsRegs.settle q fun k hk => ?keeps, onlyRegs_of_axes_eff axes eff ((settle_sansRegs _ _).trans same)⟩
  case state => rw [rd_settle (axisReg_angleState ha).not_mem_wiredRegs, rd_alignValid run last, if_pos rfl]
  case reads =>
    rw [rd_settle offsetReg.not_mem_wiredRegs, rd_alignValid run last, if_neg (commutationOffset_ne_angleState a), if_pos rfl,
      offsetReading_reads s a c inTurn]
  case inForce => rw [rd_settle offsetReg.not_mem_wiredRegs, p_settle, p_alignValid]
  case axis => rw [axis_settle, axis_alignValid]
  case keeps =>
    obtain ⟨hstate, hoffset⟩ := List.ne_and_not_mem_of_not_mem_cons hk
    rw [rd_alignValid run last, if_neg hstate, if_neg (List.mem_singleton.not.mp hoffset)]

/-! ### An alignment that ends FAILED -/

/-- `t` is left by an alignment of axis `a` that has ended FAILED with a first loop fault. -/
structure AlignFailedWith (s t : State) (a cause : Nat) : Prop where
  state : t.rd (Ax.ANGLE_STATE a) = 3
  fault : t.rd (Ax.LOOP_FAULT_CAUSE a) = cause
  axis : (t.axis a).align = none
  keeps : KeepsRegs [Ax.ANGLE_STATE a, Ax.LOOP_FAULT_CAUSE a, Ax.LOOP_STATUS a] s t

theorem alignFailedWith_alignFailed {s : State} {a : Nat} (ha : a < 48) (first : s.rd (Ax.LOOP_FAULT_CAUSE a) = 0) (cause : Nat) (q : List Instr) :
    AlignFailedWith s ((s.alignFailed a cause).settle q) a cause := by
  have unfaulted : ((s.setAxis a { s.axis a with align := none }).wrn (Ax.ANGLE_STATE a) 3).rd (Ax.LOOP_FAULT_CAUSE a) = 0 :=
    (rd_wr_ne (loopFaultCause_ne_angleState a) _ _).trans first
  refine ⟨?state, ?fault, ?axis, KeepsRegs.settle q fun k hk => ?keeps⟩
  case state =>
    rw [rd_settle (axisReg_angleState ha).not_mem_wiredRegs, State.alignFailed,
      rd_loopFault_ne unfaulted cause (loopFaultCause_ne_angleState a).symm (angleState_ne_loopStatus a)]
    exact rd_wr_same _ _ 3
  case fault => rw [rd_settle (axisReg_loopFaultCause ha).not_mem_wiredRegs, State.alignFailed, rd_loopFault_cause unfaulted]
  case axis =>
    rw [axis_settle, State.alignFailed, axis_loopFault_same unfaulted]
    rfl
  case keeps =>
    simp only [List.mem_cons, List.not_mem_nil, or_false, not_or] at hk
    obtain ⟨hstate, hcause, hstatus⟩ := hk
    rw [State.alignFailed, rd_loopFault_ne unfaulted cause hcause hstatus]
    exact rd_wr_ne hstate _ _

/-! ### The verdicts of the recorded counts -/

theorem runVerdict_of_recorded {s : State} {a : Nat} {r : Align} (run : (s.axis a).align = some r) (byCommand : r.self = false) {c0 c1 : Int}
    (first : r.c0 = some c0) (last : r.c1 = some c1) {diff : Int} (turned : diff = (countAngle s a c1 - countAngle s a c0) % fullTurn) :
    runVerdict s a = if 299 * 65536 ≤ diff ∧ diff ≤ 469 * 65536 then some (2, 0)
      else some (3, if 1067 * 65536 ≤ diff ∧ diff ≤ 1237 * 65536 then 10 else 9) := by
  subst turned
  simp [runVerdict, run, byCommand, first, last]

theorem selfVerdict_of_recorded {s : State} {a : Nat} {r : Align} (run : (s.axis a).align = some r) (own : r.self = true) {c0 c1 : Int}
    (first : r.c0 = some c0) (last : r.c1 = some c1) {moved : Int} (turned : moved = (c1 - c0) * (1536 * s.pn (Ax.POLE_PAIRS a) : Nat)) :
    selfVerdict s a = if 768 * (s.pn (Ax.ENCODER_CPR a) : Int) ≤ moved ∧ moved ≤ 2304 * s.pn (Ax.ENCODER_CPR a) then some 0
      else some (if moved < 0 then 10 else 9) := by
  subst turned
  simp [selfVerdict, run, own, first, last]

theorem exec_alignmentRunEnd_valid {s : State} {a : Nat} (verdict : runVerdict s a = some (2, 0)) :
    exec (.alignmentRunEnd a 2 0) s = done s (s.alignValid a 384) :=
  congrArg (done s) ((if_pos verdict).trans (if_pos rfl))

theorem exec_alignmentRunEnd_failed {s : State} {a cause : Nat} (verdict : runVerdict s a = some (3, cause)) :
    exec (.alignmentRunEnd a 3 cause) s = done s (s.alignFailed a cause) :=
  congrArg (done s) ((if_pos verdict).trans (if_neg (by decide)))

theorem exec_stepperSelfAlignmentEnd_valid {s : State} {a : Nat} (verdict : selfVerdict s a = some 0) :
    exec (.stepperSelfAlignmentEnd a 0) s = done s (s.alignValid a 0) :=
  congrArg (done s) ((if_pos verdict).trans (if_pos rfl))

/-- A doorway whose start waited for the alignment of a stepper that has failed. -/
def State.startDropped (s : State) (d : Nat) : State := s.setDoor d { s.door d with startWait := none, granted := none }

theorem exec_stepperSelfAlignmentEnd_failed {s : State} {a cause : Nat} (verdict : selfVerdict s a = some cause) (failed : cause ≠ 0) :
    exec (.stepperSelfAlignmentEnd a cause) s = done s ((s.startDropped (doorOf a)).alignFailed a cause) :=
  congrArg (done s) ((if_pos verdict).trans (if_neg failed))

/-! ### Motor data (R144) -/

theorem firstOf_append {l m : List (Bool × Nat)} (passes : firstOf l = none) : firstOf (l ++ m) = firstOf m := by
  induction l with
  | nil => rfl
  | cons x l ih =>
    obtain ⟨c, ab⟩ := x
    cases c with
    | true => exact absurd passes (by simp [firstOf])
    | false => exact ih passes

/-- Registers that follow a write of a member of the safety set (R264, R290, R326). -/
def memberRegs : List Nat := [Gl.SET_STATE, Gl.HOLDER, Gl.CONFIRM, Gl.CHECK_VALUE, Gl.CHECK_VALUE_B]

theorem AxisReg.not_mem_memberRegs {k : Nat} (h : AxisReg k) : k ∉ memberRegs := fun m => (by decide : ∀ j ∈ memberRegs, ¬ AxisReg j) k m h

theorem rd_invalidate {k : Nat} (h : k ∉ memberRegs) (s : State) : s.invalidate.rd k = s.rd k := by
  simp only [memberRegs, List.mem_cons, List.not_mem_nil, or_false, not_or] at h
  obtain ⟨hstate, hholder, hconfirm, -⟩ := h
  refine (rd_wr_ne hconfirm _ _).trans ?_
  split
  · exact (rd_letGo hholder _).trans (rd_wr_ne hstate _ _)
  · rfl

theorem rd_refreshCheck {k : Nat} (h : k ∉ memberRegs) (s : State) : s.refreshCheck.rd k = s.rd k := by
  simp only [memberRegs, List.mem_cons, List.not_mem_nil, or_false, not_or] at h
  obtain ⟨-, -, -, hcheck, hcheckB⟩ := h
  exact (rd_wr_ne hcheckB _ _).trans (rd_wr_ne hcheck _ _)

/-- The end of a confirmation writes registers, the pending confirmation and the token's line. -/
theorem invalidate_blind {α : Type} {f : State → α}
    (h : ∀ (s : State) (dict : Store Int) (safety : Safety) (duplex : Duplex), f { s with dict, safety, duplex } = f s) (s : State) :
    f s.invalidate = f s := by
  unfold State.invalidate
  dsimp only
  split
  · exact h s _ _ _
  · exact h s _ _ s.duplex

/-- What a write does beside its own effect where its entry is a member of the safety set: the confirmation is invalid, and both check values
follow the set. -/
def State.memberWritten (s : State) (member : Bool) : State := if member then s.invalidate.refreshCheck else s

theorem rd_memberWritten {j : Nat} (h : j ∉ memberRegs) (s : State) (member : Bool) : (s.memberWritten member).rd j = s.rd j := by
  unfold State.memberWritten
  split
  · rw [rd_refreshCheck h, rd_invalidate h]
  · rfl

theorem memberWritten_blind {α : Type} {f : State → α}
    (h : ∀ (s : State) (dict : Store Int) (safety : Safety) (duplex : Duplex), f { s with dict, safety, duplex } = f s) (s : State) (member : Bool) :
    f (s.memberWritten member) = f s := by
  unfold State.memberWritten
  split
  · exact (h s.invalidate _ s.invalidate.safety s.invalidate.duplex).trans (invalidate_blind h s)
  · rfl

/-- A change of motor data: the value is stored, and the axis is marked for the next door tick. -/
def State.motorStored (s : State) (a k : Nat) (n : Int) : State :=
  ((s.wr k n).setAxis a { s.axis a with motorNew := true }).memberWritten (isMember s k)

theorem axisEffect_motor {s : State} {a off index sub : Nat} {n : Int} (motor : motorEntry off sub = true) (new : n ≠ s.rd (key index sub))
    (passes : firstOf (axisChecks a off sub n s) = none) (sto : allSto s (doorOf a) = true) (enabled : s.rdb Gl.WRITE_ENABLE = true) :
    axisEffect index sub a off (store index sub) n s = .ok (s.motorStored a (key index sub) n) := by
  have marked : (motorEntry off sub && s.rd (key index sub) != n) = true := by simp [motor, new.symm]
  have free : firstOf (axisChecks a off sub n s ++ [(true && !allSto s (doorOf a), abState),
      (isMember s (key index sub) && !s.rdb Gl.WRITE_ENABLE, abState)]) = none := by
    rw [firstOf_append passes]
    simp [firstOf, sto, enabled]
  simp only [axisEffect, marked, free]
  rfl

/-- An entry of an axis's block has the axis's effect for its offset (R437). -/
theorem effectFor_axis (via : Via) {a off sub : Nat} (ha : a < 48) (hoff : off < 16) (hs : sub < 256) :
    effectFor via (0x3400 + 0x10 * a + off) sub = axisEntry a off (0x3400 + 0x10 * a + off) sub (store (0x3400 + 0x10 * a + off) sub) := by
  have plain : zeroOnly (0x3400 + 0x10 * a + off) sub = false := by
    simp only [zeroOnly, key, List.contains_cons, List.contains_nil, Bool.or_false, Bool.or_eq_false_iff, beq_eq_false_iff_ne]
    omega
  have axis : (0x3400 + 0x10 * a + off - 0x3400) / 0x10 = a := by omega
  have place : (0x3400 + 0x10 * a + off - 0x3400) % 0x10 = off := by omega
  unfold effectFor
  rw [plain, axis, place, if_neg (by omega), if_neg (by omega), if_neg (by omega), if_neg (by omega), if_neg (by omega), if_pos (by omega)]
  rfl

theorem exec_motorDataChange_travel (via : Via) {a : Nat} (ha : a < 48) (v : Int) (s : State) :
    exec (.motorDataChange via a 2 v) s
      = done s (writeNum via (0x3407 + 0x10 * a) 3 (.num v) none id (axisEffect (0x3407 + 0x10 * a) 3 a 7 (store (0x3407 + 0x10 * a) 3)) s) := by
  have index : 0x3407 + 0x10 * a = 0x3400 + 0x10 * a + 7 := by omega
  have effect : effectFor via (0x3400 + 0x10 * a + 7) 3 = axisEffect (0x3400 + 0x10 * a + 7) 3 a 7 (store (0x3400 + 0x10 * a + 7) 3) :=
    effectFor_axis via ha (by decide) (by decide)
  rw [index, ← effect]
  exact congrArg (done s) (if_pos ha)

/-! ### TABLE_FORM (R121, R122) -/

/-- The form of a doorway's table is stored, and the node's table is to be loaded again. -/
def State.formStored (s : State) (d n : Nat) : State := (s.wr (Dr.TABLE_FORM d) n).setDoor d { s.door d with tableReload := true }

theorem tableFormEffect_accepted {s : State} {d n : Nat} (range : n ≤ 1)
    (fits : n = 1 → (axesOf s d).any (fun a => s.pn (Ax.MOTOR_TYPE a) == 1) = false) (sto : allSto s d = true) :
    tableFormEffect d n s = .ok (s.formStored d n) := by
  have suits : ¬ ((n : Int) = 1 ∧ (axesOf s d).any (fun a => s.pn (Ax.MOTOR_TYPE a) == 1) = true) := fun ⟨one, stepper⟩ => by
    rw [fits (by omega)] at stepper
    cases stepper
  have computed : ¬ ((n : Int) = 2 ∧ s.blob (Dr.TABLE_CUSTOM d) = []) := by omega
  exact (if_neg suits).trans ((if_neg computed).trans (if_neg (by simp [sto])))

theorem doorReg_tableForm {d : Nat} (hd : d < 16) : DoorReg (Dr.TABLE_FORM d) := by
  simp only [DoorReg, Dr.TABLE_FORM, key]
  omega

/-- Settles O30: the writes are read back behind their access; the two ends of the two alignments are read off their common end, `alignValid` or
`alignFailed`. -/
theorem alignmentAndMotorData : Obligations.AlignmentAndMotorData := by
  intro s a ha
  refine ⟨fun via u reach conf isOpen rel still away own => ?start, fun via u reach conf r run => ?cancel,
    fun r run byCommand c0 first c1 last diff turned => ⟨fun inside => ?valid, fun outside unfaulted cause which => ?failed⟩,
    fun r run self c0 first c1 last moved turned => ⟨fun inside => ?selfValid, fun outside unfaulted cause which => ?selfFailed⟩,
    fun via v u reach new passes sto enabled => ?motor, fun via d n hd u reach range fits sto => ?table⟩
  case start =>
    have wrote := written_settle reach (angleEffect_start conf isOpen rel still away own) id s.pending
    have stateBefore : u.rdn (Ax.ANGLE_STATE a) = s.rdn (Ax.ANGLE_STATE a) :=
      congrArg Int.toNat ((accessBlind_rd (axisReg_angleState ha).not_mem_accessRegs).reaches reach)
    refine ⟨_, rfl, wrote.answer, ?_, ?_, wrote.keepsRegs reach (ks := [Ax.ANGLE_COMMAND a]) fun k hk => ?_⟩
    · rw [axis_of_axes wrote.axes, State.alignBegun, axis_setAxis_same, axis_of_axes (accessBlind_axes.reaches reach), accessBlind_now.reaches reach,
        stateBefore]
    · rw [(axisReg_angleCommand ha).written wrote]
      exact rd_wr_same u _ 1
    · exact rd_wr_ne (List.mem_singleton.not.mp hk) u 1
  case cancel =>
    have wrote := written_settle reach (angleEffect_cancel conf run) id s.pending
    refine ⟨_, rfl, wrote.answer, ?_, ?_, wrote.keepsRegs reach (ks := [Ax.ANGLE_COMMAND a, Ax.ANGLE_STATE a]) fun k hk => ?_⟩
    · rw [axis_of_axes wrote.axes, State.alignCancelled, axis_setAxis_same, axis_of_axes (accessBlind_axes.reaches reach)]
    · rw [State.rdn, (axisReg_angleState ha).written wrote]
      exact (congrArg Int.toNat (rd_wr_same _ _ _)).trans (Int.toNat_natCast _)
    · obtain ⟨hcommand, hstate⟩ := List.ne_and_not_mem_of_not_mem_cons hk
      exact (rd_wr_ne (List.mem_singleton.not.mp hstate) _ _).trans (rd_wr_ne hcommand u 2)
  case valid =>
    have verdict := (runVerdict_of_recorded run byCommand first last turned).trans (if_pos inside)
    have aligned := alignedAt_alignValid ha run last (reading := 384) (by decide) s.pending
    exact ⟨_, exec_alignmentRunEnd_valid verdict, aligned.state, aligned.reads, aligned.inForce, aligned.axis, aligned.keeps, aligned.only⟩
  case failed =>
    have verdict := (runVerdict_of_recorded run byCommand first last turned).trans (if_neg (by omega))
    rw [← which] at verdict
    have failed := alignFailedWith_alignFailed ha unfaulted cause s.pending
    exact ⟨_, exec_alignmentRunEnd_failed verdict, failed.state, failed.fault, failed.axis, failed.keeps⟩
  case selfValid =>
    have verdict := (selfVerdict_of_recorded run self first last turned).trans (if_pos inside)
    have aligned := alignedAt_alignValid ha run last (reading := 0) (by decide) s.pending
    exact ⟨_, exec_stepperSelfAlignmentEnd_valid verdict, aligned.state, aligned.axis, aligned.reads, aligned.keeps, aligned.only⟩
  case selfFailed =>
    have verdict := (selfVerdict_of_recorded run self first last turned).trans (if_neg (by omega))
    rw [← which] at verdict
    have nonzero : cause ≠ 0 := by
      rw [which]
      split <;> decide
    have failed := alignFailedWith_alignFailed (s := s.startDropped (doorOf a)) ha unfaulted cause s.pending
    exact ⟨_, exec_stepperSelfAlignmentEnd_failed verdict nonzero, failed.state, failed.fault, failed.axis, failed.keeps⟩
  case motor =>
    have travelReg := axisReg_travelPerRev ha
    have stateReg := axisReg_angleState ha
    have wrote := written_settle reach (axisEffect_motor (off := 7) rfl new passes sto enabled) id s.pending
    have axes : (u.motorStored a (Ax.TRAVEL_PER_REV a) v).axes = (u.setAxis a { u.axis a with motorNew := true }).axes :=
      memberWritten_blind (f := State.axes) (fun _ _ _ _ => rfl) _ _
    have doors : (u.motorStored a (Ax.TRAVEL_PER_REV a) v).doors = u.doors := memberWritten_blind (f := State.doors) (fun _ _ _ _ => rfl) _ _
    have before : u.axes = s.axes := accessBlind_axes.reaches reach
    have after := wrote.axes.trans axes
    refine ⟨_, exec_motorDataChange_travel via ha v s, wrote.answer, ?_, ?_, ?_, fun b hb => ?_, ?_⟩
    · rw [travelReg.written wrote]
      exact (rd_memberWritten travelReg.not_mem_memberRegs _ _).trans (rd_wr_same u _ v)
    · rw [axis_of_axes after, axis_setAxis_same, axis_of_axes before]
    · rw [stateReg.written wrote, ← (accessBlind_rd stateReg.not_mem_accessRegs).reaches reach]
      exact (rd_memberWritten stateReg.not_mem_memberRegs _ _).trans (rd_wr_ne (angleState_ne_travelPerRev a) u v)
    · rw [axis_of_axes after, axis_setAxis_ne hb, axis_of_axes before]
    · exact wrote.doors.trans (doors.trans (accessBlind_doors.reaches reach))
  case table =>
    have wrote := written_settle reach (tableFormEffect_accepted range fits sto) id s.pending
    refine ⟨_, rfl, wrote.answer, ?_, ?_, wrote.keepsRegs reach (ks := [Dr.TABLE_FORM d]) fun k hk => ?_⟩
    · rw [(doorReg_tableForm hd).written wrote]
      exact rd_wr_same u _ n
    · rw [door_of_doors wrote.doors, State.formStored, door_setDoor_same, door_of_doors (accessBlind_doors.reaches reach)]
    · exact rd_wr_ne (List.mem_singleton.not.mp hk) u n

end Sys2Proof.Machine

namespace Sys2Proof.Machine

/-!
The power node of a doorway (R171 to R187). Every command of a node writes the node's own record; what the management messages write of it, what
the ports write of it and what frames put in force are three parts that do not meet.
-/

/-! ### A key written twice -/

theorem erase_erase_same {α : Type} (k : Nat) (m : Store α) : erase k (erase k m) = erase k m := by
  induction m with
  | nil => rfl
  | cons p m ih =>
    obtain ⟨j, v⟩ := p
    by_cases h : j = k <;> simp [erase, h, ih]

theorem erase_place_same {α : Type} (k : Nat) (v : α) (m : Store α) : erase k (place k v m) = erase k m := by
  induction m with
  | nil => simp [place, erase]
  | cons p m ih =>
    obtain ⟨j, w⟩ := p
    by_cases h : k < j
    · simp [place, erase, h]
    · simp [place, erase, h, ih]

@[simp] theorem putD_putD_same {α : Type} [DecidableEq α] (d : α) (m : Store α) (k : Nat) (v w : α) : putD d (putD d m k v) k w = putD d m k w := by
  have gone : erase k (putD d m k v) = erase k m := by
    unfold putD
    split
    · exact erase_erase_same k m
    · rw [erase_place_same, erase_erase_same]
  rw [putD, gone]
  rfl

/-! ### Commands that write one node only -/

theorem node_of_nodes {s t : State} (h : t.nodes = s.nodes) (d : Nat) : t.node d = s.node d := by rw [State.node, h, State.node]

@[simp] theorem node_settle (t : State) (q : List Instr) (d : Nat) : (t.settle q).node d = t.node d :=
  node_of_nodes (settle_blind (f := State.nodes) (fun _ _ _ _ _ => rfl) t q) d

/-- A command that gives a node a new record, and does nothing else. -/
theorem settled_setNode (s : State) (d : Nat) (n : Node) (q : List Instr) :
    ((s.setNode d n).settle q).node d = n ∧ KeepsRegs [] s ((s.setNode d n).settle q)
      ∧ OnlyRegs { s with nodes := putD {} s.nodes d (((s.setNode d n).settle q).node d) } ((s.setNode d n).settle q) := by
  have record : ((s.setNode d n).settle q).node d = n := (node_settle _ q d).trans (node_setNode_same s d n)
  refine ⟨record, KeepsRegs.settle q fun _ _ => rfl, ?_⟩
  rw [record]
  exact settle_sansRegs _ q

/-- Of `s`, only the record of node `d` was written in `t`, and free values were drawn. -/
structure OnlyNode (d : Nat) (s t : State) : Prop where
  wrote : t = { s.setNode d (t.node d) with free := t.free }

namespace OnlyNode

variable {d : Nat} {s t : State}

theorem of_setNode (s : State) (d : Nat) (n : Node) (free : Nat) : OnlyNode d s { s.setNode d n with free } := by
  have record : State.node { s.setNode d n with free } d = n := node_setNode_same s d n
  exact ⟨by rw [record]⟩

theorem setNode (h : OnlyNode d s t) (n : Node) : OnlyNode d s (t.setNode d n) := by
  have wrote : t.setNode d n = { s.setNode d n with free := t.free } := by
    rw [h.wrote]
    simp [State.setNode]
  rw [wrote]
  exact of_setNode s d n t.free

theorem withFree (h : OnlyNode d s t) (free : Nat) : OnlyNode d s { t with free } := ⟨congrArg (fun u : State => { u with free }) h.wrote⟩

/-- What such a command leaves alone, once it has ended. -/
theorem settled (h : OnlyNode d s t) (q : List Instr) :
    KeepsRegs [] s (t.settle q) ∧ OnlyEvents { s with nodes := putD {} s.nodes d ((t.settle q).node d) } (t.settle q) := by
  refine ⟨KeepsRegs.settle q fun k _ => ?_, ?_⟩
  · rw [h.wrote]
    rfl
  · rw [OnlyEvents, settle_sansEvents, node_settle]
    exact (congrArg State.sansEvents h.wrote).trans rfl

end OnlyNode

/-! ### The management channel (R182, R184 to R187) -/

/-- A node that took a message: the operation's effect, and the response on the message's port. -/
def Node.answered (m : Mgmt) (r : Nat × List ByteN × Node) : Node :=
  r.2.2.setResp m.port { tag := m.tag, result := r.1, data := pad12 r.2.1 }

theorem manage_new {s : State} {d : Nat} {m : Mgmt} (tag : 0 < m.tag ∧ m.tag ≤ 255) (new : ((s.node d).resp m.port).tag ≠ m.tag) (f : NodeOp) :
    s.manage d m f = s.setNode d (.answered m (f (s.node d))) := by
  have old : ¬ (m.tag = 0 ∨ 255 < m.tag ∨ ((s.node d).resp m.port).tag = m.tag) := by omega
  exact if_neg old

theorem manage_known {s : State} {d : Nat} {m : Mgmt} (known : ((s.node d).resp m.port).tag = m.tag) (f : NodeOp) : s.manage d m f = s :=
  if_pos (.inr (.inr known))

/-- A new message whose operation does not change what the node holds of free values: the node's record after it is all that changes. -/
theorem settled_manage {s : State} {d : Nat} {m : Mgmt} (tag : 0 < m.tag ∧ m.tag ≤ 255) (new : ((s.node d).resp m.port).tag ≠ m.tag) {f : NodeOp}
    {r : Nat × List ByteN × Node} (op : f (s.node d) = r) (q : List Instr) :
    ((s.manage d m f).settle q).node d = .answered m r ∧ KeepsRegs [] s ((s.manage d m f).settle q)
      ∧ OnlyRegs { s with nodes := putD {} s.nodes d (((s.manage d m f).settle q).node d) } ((s.manage d m f).settle q) := by
  rw [manage_new tag new, op]
  exact settled_setNode s d _ q

/-- An operation of the holder within its ranges, and allowed. -/
theorem holderOp_allowed {m : Mgmt} {n : Node} {ok needOff : Bool} (range : ok = true) (hold : m.hold = true)
    (off : needOff = true → bridgesOff n = true) (f : NodeOp) : holderOp m needOff ok f n = f n := by
  have allowed : ¬ (m.hold = false ∨ (needOff = true ∧ bridgesOff n = false)) := by
    rintro (h | ⟨need, on⟩)
    · simp [hold] at h
    · simp [off need] at on
  exact (if_neg (by simp [range])).trans (if_neg allowed)

/-- An operation of the holder within its ranges, from a frame without HOLD or with bridges that are on. -/
theorem holderOp_notAllowed {m : Mgmt} {n : Node} {ok : Bool} (range : ok = true) (bad : m.hold = false ∨ bridgesOff n = false) (f : NodeOp) :
    holderOp m true ok f n = (rNotAllowed, [], n) :=
  (if_neg (by simp [range])).trans (if_pos (bad.imp_right fun on => ⟨rfl, on⟩))

theorem holderOp_outOfRange {m : Mgmt} {n : Node} {ok needOff : Bool} (range : ok = false) (f : NodeOp) :
    holderOp m needOff ok f n = (rBadRange, [], n) := if_pos range

theorem length_pad12 (bs : List ByteN) : (pad12 bs).length = 12 := by
  simp [pad12]

/-- A sensor answers, or is at fault. -/
theorem sensorReply_result (s : State) : s.sensorReply.1.1 = rOk ∨ s.sensorReply.1.1 = rSensorFault := by
  unfold State.sensorReply
  dsimp only
  split
  · exact .inl rfl
  · exact .inr rfl

/-- What a message to a sensor changes: the node's response, and the free values drawn for the sensor's reply. -/
theorem settled_sensorOp {s : State} {d : Nat} {m : Mgmt} (tag : 0 < m.tag ∧ m.tag ≤ 255) (new : ((s.node d).resp m.port).tag ≠ m.tag) {f : NodeOp}
    {res : Nat} {bs : List ByteN} (op : f (s.node d) = (res, bs, s.node d)) {fits : Prop} [Decidable fits]
    (result : if fits then res = rOk ∨ res = rSensorFault else res = rBadRange) (q : List Instr) :
    (∃ r, ((s.sensorReply.2.manage d m f).settle q).node d = (s.node d).setResp m.port r ∧ r.tag = m.tag ∧ r.data.length = 12
        ∧ (if fits then r.result = rOk ∨ r.result = rSensorFault else r.result = rBadRange))
      ∧ KeepsRegs [] s ((s.sensorReply.2.manage d m f).settle q)
      ∧ OnlyEvents { s with nodes := putD {} s.nodes d (((s.sensorReply.2.manage d m f).settle q).node d) } ((s.sensorReply.2.manage d m f).settle q) := by
  have wrote : s.sensorReply.2.manage d m f = { s.setNode d (.answered m (res, bs, s.node d)) with free := s.free + 2 } := by
    rw [← op]
    exact manage_new (s := s.sensorReply.2) tag new f
  rw [wrote]
  refine ⟨⟨{ tag := m.tag, result := res, data := pad12 bs }, ?_, rfl, length_pad12 bs, result⟩, (OnlyNode.of_setNode s d _ _).settled q⟩
  exact (node_settle _ q d).trans (node_setNode_same s d _)

/-- The commands of the management channel, with the operation of each (R184). -/
def messageCommands : List ((Nat → Mgmt → Instr) × Nat) :=
  [(Instr.identify, 0x01), (Instr.readCaps, 0x02), (Instr.tableWrite, 0x10), (Instr.tableCommit, 0x11), (Instr.tableCheck, 0x12),
    (Instr.configWrite, 0x20), (Instr.configRead, 0x21), (Instr.sensorWrite, 0x30), (Instr.sensorRead, 0x31), (Instr.setTiming, 0x40),
    (Instr.echo, 0x50)]

theorem exec_message {c : Nat → Mgmt → Instr} {op : Nat} (h : (c, op) ∈ messageCommands) (d : Nat) (m : Mgmt) (s : State) :
    exec (c d m) s = done s (s.mgServe d op m) := by
  simp only [messageCommands, List.mem_cons, List.not_mem_nil, or_false, Prod.mk.injEq] at h
  rcases h with ⟨rfl, rfl⟩ | ⟨rfl, rfl⟩ | ⟨rfl, rfl⟩ | ⟨rfl, rfl⟩ | ⟨rfl, rfl⟩ | ⟨rfl, rfl⟩ | ⟨rfl, rfl⟩ | ⟨rfl, rfl⟩ | ⟨rfl, rfl⟩ | ⟨rfl, rfl⟩
    | ⟨rfl, rfl⟩ <;> rfl

/-- What frames and ports write of a node, without what its management channel writes (R182). -/
def Node.sansManagement (n : Node) : Node :=
  { n with shadowTable := [], table := [], tableValid := false, config := [], taA := 0, taB := 0, respA := {}, respB := {} }

/-- An operation that keeps to what the management channel writes. -/
def NodeOp.Manages (f : NodeOp) : Prop := ∀ n, (f n).2.2.sansManagement = n.sansManagement

theorem manages_ite {c : Prop} [Decidable c] {f g : NodeOp} (hf : NodeOp.Manages f) (hg : NodeOp.Manages g) :
    NodeOp.Manages (if c then f else g) := by
  split
  · exact hf
  · exact hg

theorem manages_of_answers {f : NodeOp} (h : ∀ n, (f n).2.2 = n) : NodeOp.Manages f := fun n => by rw [h]

theorem manages_holderOp {f : NodeOp} (hf : NodeOp.Manages f) (m : Mgmt) (needOff ok : Bool) : NodeOp.Manages (holderOp m needOff ok f) := by
  intro n
  unfold holderOp
  split
  · rfl
  · split
    · rfl
    · exact hf n

/-- Whatever operation a message names, it is executed as `manage` does it, and writes nothing of the node but what the channel holds. -/
theorem mgServe_eq (s : State) (d op : Nat) (m : Mgmt) :
    ∃ (free : Nat) (f : NodeOp), s.mgServe d op m = State.manage { s with free } d m f ∧ NodeOp.Manages f := by
  have answers : ∀ (c : Prop) [Decidable c] (r : Nat) (bs : List ByteN), NodeOp.Manages (if c then refusing r else answering bs) :=
    fun c _ r bs => manages_ite (fun _ => rfl) (fun _ => rfl)
  unfold State.mgServe
  split
  · exact ⟨s.free, _, rfl, answers _ _ _⟩
  · exact ⟨s.free, _, rfl, answers _ _ _⟩
  · dsimp only [State.mgTableWrite]
    exact ⟨s.free, _, rfl, manages_holderOp (fun _ => rfl) _ _ _⟩
  · refine ⟨s.free, _, rfl, manages_holderOp (fun n => ?_) _ _ _⟩
    dsimp only
    split <;> rfl
  · exact ⟨s.free, _, rfl, manages_ite (fun _ => rfl) (fun _ => rfl)⟩
  · dsimp only [State.mgConfigWrite]
    exact ⟨s.free, _, rfl, manages_holderOp (fun _ => rfl) _ _ _⟩
  · exact ⟨s.free, _, rfl, manages_ite (fun _ => rfl) (fun _ => rfl)⟩
  · dsimp only [State.mgSensorWrite]
    exact ⟨s.free + 2, _, rfl, manages_holderOp (fun _ => rfl) _ _ _⟩
  · exact ⟨s.free + 2, _, rfl, manages_ite (fun _ => rfl) (fun _ => rfl)⟩
  · refine ⟨s.free, _, rfl, manages_ite (fun _ => rfl) (fun n => ?_)⟩
    split
    · rfl
    · split <;> rfl
  · exact ⟨s.free, _, rfl, answers _ _ _⟩
  · exact ⟨s.free, _, rfl, fun _ => rfl⟩

/-- Settles O34: each new message is executed by `manage`, whose operation is read off within its ranges; a tag already answered executes nothing. -/
theorem nodeExecutesMessages : Obligations.NodeExecutesMessages := by
  intro s d m pos top
  have tag : 0 < m.tag ∧ m.tag ≤ 255 := ⟨pos, top⟩
  refine ⟨fun new addr data => ?identify, fun new addr data => ?caps, fun new hold off least most inside => ?tableWrite, fun new hold off size => ?commit,
    fun new addr data valid written => ⟨?check, ?configRead⟩, fun new hold off addr size axes sensors => ?configWrite,
    fun new addr => ⟨fun data => ?sensorRead, fun hold least most => ?sensorWrite⟩, fun new size range => ?timing, fun new most => ?echo,
    fun c lo hi hc new least most inside bad => ?notAllowed, fun c hc known => ?known⟩
  case identify => exact ⟨_, rfl, settled_manage tag new (congrFun (if_neg (by simp [addr, data])) _) _⟩
  case caps => exact ⟨_, rfl, settled_manage tag new (congrFun (if_neg (by simp [addr, data])) _) _⟩
  case tableWrite => exact ⟨_, rfl, settled_manage tag new (holderOp_allowed (by simp [least, most, inside]) hold (fun _ => off) _) _⟩
  case commit =>
    obtain ⟨record, keeps, only⟩ := settled_manage tag new (holderOp_allowed (ok := decide (m.data.length = 4)) (by simp [size]) hold (fun _ => off) _) s.pending
    refine ⟨_, rfl, record.trans ?_, keeps, only⟩
    dsimp only
    split <;> rfl
  case check =>
    obtain ⟨record, keeps, only⟩ := settled_manage tag new (f := if m.addr ≠ 0 ∨ m.data ≠ [] then refusing rBadRange else _)
      (congrFun (if_neg (by simp [addr, data])) _) s.pending
    exact ⟨_, rfl, record.trans (by simp [Node.answered, valid]), keeps, only⟩
  case configRead =>
    obtain ⟨record, keeps, only⟩ := settled_manage tag new (f := if m.addr ≠ 0 ∨ m.data ≠ [] then refusing rBadRange else _)
      (congrFun (if_neg (by simp [addr, data])) _) s.pending
    exact ⟨_, rfl, record.trans (by simp [Node.answered, written]), keeps, only⟩
  case configWrite =>
    have present : (List.range 3).all (fun k => !(m.data.getD 0 0).testBit k || nodeHasAxis d k) = true := by
      simpa only [List.all_eq_true, List.mem_range, Bool.or_eq_true, Bool.not_eq_true', ← Bool.not_eq_true, ← imp_iff_not_or] using axes
    have counted : (List.range 2).all (fun i => !(m.data.getD 2 0).testBit i || decide (i < nodeSensors d)) = true := by
      simpa only [List.all_eq_true, List.mem_range, Bool.or_eq_true, Bool.not_eq_true', ← Bool.not_eq_true, ← imp_iff_not_or, decide_eq_true_eq] using sensors
    exact ⟨_, rfl, settled_manage tag new (holderOp_allowed (by rw [present, counted]; simp [addr, size]) hold (fun _ => off) _) _⟩
  case sensorRead =>
    by_cases fits : m.addr < nodeSensors d
    · exact ⟨_, rfl, settled_sensorOp tag new (congrFun (if_pos ⟨by omega, data⟩) _) (by rw [if_pos fits]; exact sensorReply_result s) _⟩
    · exact ⟨_, rfl, settled_sensorOp tag new (congrFun (if_neg (by omega)) _) (if_neg fits ▸ rfl) _⟩
  case sensorWrite =>
    by_cases fits : m.addr < nodeSensors d
    · have range : (decide (m.addr < min 2 (nodeSensors d)) && decide (1 ≤ m.data.length) && decide (m.data.length ≤ 384)) = true := by
        simp [least, most, addr, fits]
      exact ⟨_, rfl, settled_sensorOp tag new (holderOp_allowed (needOff := false) range hold nofun _) (by rw [if_pos fits]; exact sensorReply_result s) _⟩
    · have range : (decide (m.addr < min 2 (nodeSensors d)) && decide (1 ≤ m.data.length) && decide (m.data.length ≤ 384)) = false := by
        simp [fits]
      exact ⟨_, rfl, settled_sensorOp tag new (holderOp_outOfRange range _) (by rw [if_neg fits]) _⟩
  case timing =>
    obtain ⟨record, keeps, only⟩ := settled_manage tag new (f := if m.data.length ≠ 2 ∨ 400 < beVal m.data then refusing rBadRange else _)
      (congrFun (if_neg (by omega)) _) s.pending
    refine ⟨_, rfl, record.trans ?_, keeps, only⟩
    dsimp only
    split <;> rfl
  case echo => exact ⟨_, rfl, settled_manage tag new (congrFun (if_neg (by omega)) _) _⟩
  case notAllowed =>
    simp only [List.mem_cons, List.not_mem_nil, or_false, Prod.mk.injEq] at hc
    rcases hc with ⟨rfl, rfl, rfl⟩ | ⟨rfl, rfl, rfl⟩
    · exact ⟨_, rfl, settled_manage tag new (holderOp_notAllowed (by simp [least, most, inside]) bad _) _⟩
    · exact ⟨_, rfl, settled_manage tag new (holderOp_notAllowed (by simp [Nat.le_antisymm most least]) bad _) _⟩
  case known =>
    obtain ⟨op, hop⟩ : ∃ op, (c, op) ∈ messageCommands := by
      obtain ⟨p, hp, rfl⟩ : ∃ p, p ∈ messageCommands ∧ p.1 = c := List.mem_map.mp hc
      exact ⟨p.2, hp⟩
    obtain ⟨free, f, serve, -⟩ := mgServe_eq s d op m
    rw [exec_message hop, serve, manage_known (s := { s with free }) known]
    refine ⟨_, rfl, node_settle _ _ d, KeepsRegs.settle _ fun _ _ => rfl, settle_sansEvents _ _⟩

end Sys2Proof.Machine

namespace Sys2Proof.Machine

/-!
Frames at a node (R171 to R175, R280). What a node decides on the frames of its two ports reads neither its ports nor what its management channel
holds beyond a valid table and a configuration, and writes neither.
-/

/-! ### The ports of a node -/

/-- The node with other records of its two ports. -/
def Node.withPorts (n : Node) (a b : NodePort) : Node := { n with portA := a, portB := b }

/-- A port after the SOF of a frame. -/
def NodePort.tookSof (x : NodePort) : Option DownFrame → NodePort
  | some f => { x with lastSof := some f.sof }
  | none => x

theorem tookSof_both (n : Node) (fa fb : Option DownFrame) :
    (n.tookSof 0 fa).tookSof 1 fb = n.withPorts (n.portA.tookSof fa) (n.portB.tookSof fb) := by
  cases fa <;> cases fb <;> rfl

@[simp] theorem drive_withPorts (n : Node) (a b : NodePort) : (n.withPorts a b).drive = n.drive := rfl

/-- The frame of one port, and that of the other. -/
theorem valid_onPort {n : Node} {port : Nat} (hp : port ≤ 1) (fa fb : Option DownFrame) :
    n.valid port (if port = 0 then fa else fb) = (if port = 0 then n.valid 0 fa else n.valid 1 fb)
      ∧ n.valid (1 - port) (if port = 0 then fb else fa) = if port = 0 then n.valid 1 fb else n.valid 0 fa := by
  obtain rfl | rfl : port = 0 ∨ port = 1 := by omega
  · exact ⟨rfl, rfl⟩
  · exact ⟨rfl, rfl⟩

/-! ### The resume (R174) -/

/-- A frame with HOLD on one port only counts the run, and ends INIT or STO_LATCHED where all that a resume asks for is met. -/
def Node.counted (n : Node) (x : DownFrame) (port run : Nat) : Node :=
  if x.resume = true ∧ 5 ≤ run ∧ n.tableValid = true ∧ n.config ≠ [] ∧ n.pathFail = 0 then
    { ({ n with run, prevSeq := x.seq } : Node).apply x port with bothHold := false }
  else { n with run, prevSeq := x.seq }

section
variable {n : Node} {x : DownFrame} {port run : Nat}

theorem counted_of_resumed (met : x.resume = true ∧ 5 ≤ run ∧ n.tableValid = true ∧ n.config ≠ [] ∧ n.pathFail = 0) :
    n.counted x port run = { ({ n with run, prevSeq := x.seq } : Node).apply x port with bothHold := false } := if_pos met

theorem counted_of_not_resumed (unmet : ¬ (x.resume = true ∧ 5 ≤ run ∧ n.tableValid = true ∧ n.config ≠ [] ∧ n.pathFail = 0)) :
    n.counted x port run = { n with run, prevSeq := x.seq } := if_neg unmet

end

theorem counted_withPorts (n : Node) (a b : NodePort) (x : DownFrame) (port run : Nat) :
    (n.withPorts a b).counted x port run = (n.counted x port run).withPorts a b := by
  by_cases met : x.resume = true ∧ 5 ≤ run ∧ n.tableValid = true ∧ n.config ≠ [] ∧ n.pathFail = 0
  · rw [counted_of_resumed met]
    exact counted_of_resumed met
  · rw [counted_of_not_resumed met]
    exact counted_of_not_resumed met

theorem resume_held {n : Node} {port : Nat} (hp : port ≤ 1) {fa fb : Option DownFrame} {x : DownFrame} (hx : (if port = 0 then fa else fb) = some x)
    (hold : x.hold = true) (other : (if port = 0 then fb else fa).any (·.hold) = false) {run : Nat}
    (counts : run = if 0 < n.run ∧ x.seq = (n.prevSeq + 1) % 65536 then n.run + 1 else 1) : n.resume fa fb = n.counted x port run := by
  subst counts
  obtain rfl | rfl : port = 0 ∨ port = 1 := by omega
  · obtain rfl : fa = some x := hx
    cases fb with
    | none => simp [Node.resume, Node.counted, hold]
    | some y =>
      have unheld : y.hold = false := other
      simp [Node.resume, Node.counted, hold, unheld]
  · obtain rfl : fb = some x := hx
    cases fa with
    | none => simp [Node.resume, Node.counted, hold]
    | some y =>
      have unheld : y.hold = false := other
      simp [Node.resume, Node.counted, hold, unheld]

theorem resume_unheld {n : Node} {fa fb : Option DownFrame} (same : fa.any (·.hold) = fb.any (·.hold)) : n.resume fa fb = { n with run := 0 } := by
  cases fa <;> cases fb <;> simp_all [Node.resume]

/-- Frames that do not agree on HOLD: one port has a frame with HOLD, and the other has not. -/
theorem held_on_one {fa fb : Option DownFrame} (differ : fa.any (·.hold) ≠ fb.any (·.hold)) :
    ∃ port ≤ 1, ∃ x, (if port = 0 then fa else fb) = some x ∧ x.hold = true ∧ (if port = 0 then fb else fa).any (·.hold) = false := by
  have holder : ∀ f : Option DownFrame, f.any (·.hold) = true → ∃ x, f = some x ∧ x.hold = true := by
    rintro (- | x) h
    · cases h
    · exact ⟨x, rfl, h⟩
  cases ha : fa.any (·.hold) with
  | true =>
    obtain ⟨x, hx, hold⟩ := holder fa ha
    exact ⟨0, by omega, x, hx, hold, Bool.eq_false_of_not_eq_true fun hb => differ (ha.trans hb.symm)⟩
  | false =>
    obtain ⟨x, hx, hold⟩ := holder fb (Bool.eq_true_of_not_eq_false fun hb => differ (ha.trans hb.symm))
    exact ⟨1, by omega, x, hx, hold, ha⟩

theorem resume_withPorts (n : Node) (a b : NodePort) (fa fb : Option DownFrame) :
    (n.withPorts a b).resume fa fb = (n.resume fa fb).withPorts a b := by
  by_cases same : fa.any (·.hold) = fb.any (·.hold)
  · rw [resume_unheld same, resume_unheld same]
    rfl
  · obtain ⟨port, hp, x, hx, hold, other⟩ := held_on_one same
    rw [resume_held hp hx hold other rfl, resume_held hp hx hold other rfl]
    exact counted_withPorts ..

theorem exec_nodeResume_stopped {s : State} {d : Nat} (stopped : (s.node d).stopped = true) (fa fb : Option DownFrame) :
    exec (.nodeResume d fa fb) s
      = done s (s.setNode d ((((s.node d).resume ((s.node d).valid 0 fa) ((s.node d).valid 1 fb)).tookSof 0 fa).tookSof 1 fb)) :=
  congrArg (done s) (if_pos stopped)

theorem exec_nodeResume_running {s : State} {d : Nat} (running : (s.node d).stopped = false) (fa fb : Option DownFrame) :
    exec (.nodeResume d fa fb) s = done s s :=
  congrArg (done s) (if_neg (by simp [running]))

/-! ### The decision in RUNNING or HOLDING (R172) -/

theorem shadowOf_of_notApplicable {n : Node} {f : Option DownFrame} (h : f.any (fun y => (y.hold || y.shadow) && newer n y.seq) = false) :
    shadowOf n f = false := by
  cases f with
  | none => rfl
  | some y => cases hy : y.shadow <;> simp_all [shadowOf]

theorem held_of_notApplicable {n : Node} {f : Option DownFrame} (h : f.any (fun y => (y.hold || y.shadow) && newer n y.seq) = false)
    (x : DownFrame) (hx : f = some x) : ¬ (x.hold = true ∧ newer n x.seq = true) := by
  rintro ⟨hold, new⟩
  simp [hx, hold, new] at h

section
variable {n : Node} {fa fb : Option DownFrame} (pick : Bool)

theorem decide_bothHold (ha : fa.any (·.hold) = true) (hb : fb.any (·.hold) = true) : n.decide fa fb pick = n.latch true := by
  cases fa <;> cases fb <;> simp_all [Node.decide]

theorem decide_missed (notBoth : (fa.any (·.hold) && fb.any (·.hold)) = false)
    (ha : fa.any (fun y => (y.hold || y.shadow) && newer n y.seq) = false) (hb : fb.any (fun y => (y.hold || y.shadow) && newer n y.seq) = false) :
    n.decide fa fb pick = n.miss := by
  have noShadowA := shadowOf_of_notApplicable ha
  have noShadowB := shadowOf_of_notApplicable hb
  have unheldA := held_of_notApplicable ha
  have unheldB := held_of_notApplicable hb
  cases fa with
  | none =>
    cases fb with
    | none => rfl
    | some y => simp [Node.decide, unheldB y rfl, noShadowA, noShadowB]
  | some x =>
    cases fb with
    | none => simp [Node.decide, unheldA x rfl, noShadowA, noShadowB]
    | some y =>
      have both : ¬ (x.hold = true ∧ y.hold = true) := by simpa using notBoth
      simp [Node.decide, unheldA x rfl, unheldB y rfl, both, noShadowA, noShadowB]

variable {port : Nat} (hp : port ≤ 1) {x : DownFrame} (hx : (if port = 0 then fa else fb) = some x) (new : newer n x.seq = true)
include hp hx new

theorem decide_held (hold : x.hold = true) (other : (if port = 0 then fb else fa).any (·.hold) = false) :
    n.decide fa fb pick = { n.apply x port with substitute := false } := by
  obtain rfl | rfl : port = 0 ∨ port = 1 := by omega
  · obtain rfl : fa = some x := hx
    cases fb <;> simp_all [Node.decide]
  · obtain rfl : fb = some x := hx
    cases fa <;> simp_all [Node.decide]

theorem decide_shadow (unheld : x.hold = false) (shadow : x.shadow = true)
    (other : (if port = 0 then fb else fa).any (fun y => (y.hold || y.shadow) && newer n y.seq) = false) :
    n.decide fa fb pick = { n.apply x port with substitute := true } := by
  have noShadow := shadowOf_of_notApplicable other
  have mine : shadowOf n (some x) = true := by simp [shadowOf, unheld, shadow, new]
  obtain rfl | rfl : port = 0 ∨ port = 1 := by omega
  · obtain rfl : fa = some x := hx
    cases fb <;> simp_all [Node.decide]
  · obtain rfl : fb = some x := hx
    cases fa <;> simp_all [Node.decide]

end

/-! ### One apply instant (R172, R174, R175, R280) -/

/-- The STO paths of a node as an apply instant finds them, before a lasting failure latches STO (R280). -/
def Node.pathsFound (n old : Node) (m : NodeMeas) : Node :=
  { n with
    missA := if n.stopped then 0 else if n.held || m.pathBad.testBit 0 then old.missA + 1 else 0
    missB := if n.stopped then 0 else if n.held || m.pathBad.testBit 1 then old.missB + 1 else 0
    stoA := if m.pathBad.testBit 0 then old.stoA else n.stoA
    runB := if m.pathBad.testBit 1 then old.runB else n.runB
    pathFail := m.pathFail }

theorem paths_eq (n old : Node) (m : NodeMeas) :
    n.paths old m = if m.pathFail ≠ 0 ∨ 8 ≤ (n.pathsFound old m).missA ∨ 8 ≤ (n.pathsFound old m).missB then (n.pathsFound old m).latch false
      else n.pathsFound old m := rfl

theorem paths_withPorts (n old : Node) (a b : NodePort) (m : NodeMeas) : (n.withPorts a b).paths old m = (n.paths old m).withPorts a b := by
  rw [paths_eq, paths_eq, apply_ite (Node.withPorts · a b)]
  rfl

/-- The node after an apply instant, before the management messages of the same frames. `pick` is the port whose shadow frame would be applied. -/
def Node.instant (n : Node) (fa fb : Option DownFrame) (m : NodeMeas) (pick : Bool) : Node :=
  let k := ((n.tookSof 0 fa).tookSof 1 fb).measured m
  (if n.stopped then k.resume (n.valid 0 fa) (n.valid 1 fb) else k.decide (n.valid 0 fa) (n.valid 1 fb) pick).paths n m

/-- The node's own part of the instant ends in its record, after at most one free value. -/
theorem nodeDecide_instant (s : State) (d : Nat) (fa fb : Option DownFrame) (m : NodeMeas) {k : Node}
    (hk : k = (((s.node d).tookSof 0 fa).tookSof 1 fb).measured m) {u : State}
    (hu : u = (s.setNode d k).nodeDecide d ((s.node d).valid 0 fa) ((s.node d).valid 1 fb)) :
    ∃ pick, (u.node d).paths (s.node d) m = (s.node d).instant fa fb m pick ∧ OnlyNode d s u := by
  have stopped : k.stopped = (s.node d).stopped := by rw [hk, tookSof_both]; rfl
  have record : (s.setNode d k).node d = k := node_setNode_same s d k
  have base : OnlyNode d s (s.setNode d k) := OnlyNode.of_setNode s d k s.free
  subst hu
  unfold State.nodeDecide Node.instant
  dsimp only
  rw [record, stopped, ← hk]
  split
  · exact ⟨false, by rw [node_setNode_same], base.setNode _⟩
  · split
    · exact ⟨_, by rw [node_setNode_same], (base.withFree _).setNode _⟩
    · exact ⟨_, by rw [node_setNode_same], base.setNode _⟩

theorem sansManagement_manage (s : State) (d : Nat) (m : Mgmt) {f : NodeOp} (hf : NodeOp.Manages f) :
    ((s.manage d m f).node d).sansManagement = (s.node d).sansManagement := by
  unfold State.manage
  dsimp only
  split
  · rfl
  · rw [node_setNode_same, ← hf (s.node d), Node.setResp]
    split <;> rfl

theorem onlyNode_manage {d : Nat} {s t : State} (h : OnlyNode d s t) (m : Mgmt) (f : NodeOp) : OnlyNode d s (t.manage d m f) := by
  unfold State.manage
  dsimp only
  split
  · exact h
  · exact h.setNode _

/-- The message of a frame writes what the management channel holds, and nothing else. -/
theorem serveFrame_keeps {d : Nat} {s t : State} (h : OnlyNode d s t) (port : Nat) (f : Option DownFrame) :
    ((t.serveFrame d port f).node d).sansManagement = (t.node d).sansManagement ∧ OnlyNode d s (t.serveFrame d port f) := by
  cases f with
  | none => exact ⟨rfl, h⟩
  | some x =>
    obtain ⟨free, op, served, manages⟩ :=
      mgServe_eq t d x.mgmtOp { port, tag := x.mgmtTag, hold := x.hold, addr := x.mgmtAddr, data := x.mgmtData.take x.mgmtLen }
    rw [State.serveFrame, served]
    exact ⟨sansManagement_manage _ d _ manages, onlyNode_manage (h.withFree free) _ op⟩

/-- An apply instant: the node decides, serves its messages, and forms its uplink frames. -/
theorem exec_nodeApplyInstant (s : State) (d : Nat) (fa fb : Option DownFrame) (m : NodeMeas) :
    ∃ (pick : Bool) (n : Node) (t : State), exec (.nodeApplyInstant d { a := fa, b := fb } m) s = done s t
      ∧ n.sansManagement = ((s.node d).instant fa fb m pick).sansManagement
      ∧ t.node d = (n.sendUp d 0 ((s.node d).valid 0 fa) m).sendUp d 1 ((s.node d).valid 1 fb) m ∧ OnlyNode d s t := by
  obtain ⟨pick, decided, only⟩ := nodeDecide_instant s d fa fb m rfl rfl
  obtain ⟨servedA, onlyA⟩ := serveFrame_keeps (only.setNode _) 0 ((s.node d).valid 0 fa)
  obtain ⟨servedB, onlyB⟩ := serveFrame_keeps onlyA 1 ((s.node d).valid 1 fb)
  refine ⟨pick, _, _, rfl, ?_, node_setNode_same _ d _, onlyB.setNode _⟩
  rw [servedB, servedA, node_setNode_same, ← decided]


/-! ### What an instant leaves in the node -/

theorem drive_of_sansManagement {n k : Node} (h : n.sansManagement = k.sansManagement) : n.drive = k.drive :=
  congrArg (fun x : Node => { x with portA := {}, portB := {} }) h

/-- What a decision can end in: both ports held, a miss, or a frame applied. -/
theorem decide_ends {P : Node → Prop} {n : Node} (both : P (n.latch true)) (missed : P n.miss)
    (applied : ∀ x port substitute, P { n.apply x port with substitute }) (fa fb : Option DownFrame) (pick : Bool) : P (n.decide fa fb pick) := by
  cases fa with
  | none =>
    cases fb with
    | none => exact missed
    | some y =>
      simp only [Node.decide, show shadowOf n none = false from rfl, Bool.false_eq_true, false_and, if_false]
      split_ifs
      exacts [applied .., applied .., missed]
  | some x =>
    cases fb with
    | none =>
      simp only [Node.decide, show shadowOf n none = false from rfl, Bool.false_eq_true, or_true, and_true, if_false]
      split_ifs
      exacts [applied .., applied .., missed]
    | some y =>
      simp only [Node.decide]
      split_ifs
      exacts [both, applied .., applied .., applied .., applied .., missed]

/-- A node keeps its two ports. -/
def Node.SamePorts (n k : Node) : Prop := k.portA = n.portA ∧ k.portB = n.portB

theorem samePorts_decide (n : Node) (fa fb : Option DownFrame) (pick : Bool) : n.SamePorts (n.decide fa fb pick) := by
  refine decide_ends ⟨rfl, rfl⟩ ?_ (fun _ _ _ => ⟨rfl, rfl⟩) fa fb pick
  unfold Node.miss
  split <;> exact ⟨rfl, rfl⟩

theorem Node.SamePorts.trans {n k l : Node} (h : n.SamePorts k) (g : k.SamePorts l) : n.SamePorts l := ⟨g.1.trans h.1, g.2.trans h.2⟩

theorem samePorts_counted (n : Node) (x : DownFrame) (port run : Nat) : n.SamePorts (n.counted x port run) := by
  unfold Node.counted
  split <;> exact ⟨rfl, rfl⟩

theorem samePorts_resume (n : Node) (fa fb : Option DownFrame) : n.SamePorts (n.resume fa fb) := by
  by_cases same : fa.any (·.hold) = fb.any (·.hold)
  · rw [resume_unheld same]
    exact ⟨rfl, rfl⟩
  · obtain ⟨port, hp, x, hx, hold, other⟩ := held_on_one same
    rw [resume_held hp hx hold other rfl]
    exact samePorts_counted ..

theorem samePorts_paths (n old : Node) (m : NodeMeas) : n.SamePorts (n.paths old m) := by
  rw [paths_eq]
  split <;> exact ⟨rfl, rfl⟩

theorem ports_instant (n : Node) (fa fb : Option DownFrame) (m : NodeMeas) (pick : Bool) :
    (n.instant fa fb m pick).portA = n.portA.tookSof fa ∧ (n.instant fa fb m pick).portB = n.portB.tookSof fb := by
  have decided : ∀ k : Node, k.SamePorts (if n.stopped then k.resume (n.valid 0 fa) (n.valid 1 fb) else k.decide (n.valid 0 fa) (n.valid 1 fb) pick) := by
    intro k
    split
    · exact samePorts_resume ..
    · exact samePorts_decide ..
  unfold Node.instant
  rw [tookSof_both]
  exact (decided _).trans (samePorts_paths ..)

/-- The node that decides at an apply instant: it has what it measured, and its ports have the SOFs of the frames. -/
def Node.atInstant (n : Node) (fa fb : Option DownFrame) (m : NodeMeas) : Node := (n.measured m).withPorts (n.portA.tookSof fa) (n.portB.tookSof fb)

section
variable {n : Node} {fa fb : Option DownFrame} {m : NodeMeas} {pick : Bool}

/-- In RUNNING or HOLDING the instant puts in force what the decision gives, through the paths. -/
theorem drive_instant_running {r : Node} (running : n.stopped = false)
    (decided : (n.atInstant fa fb m).decide (n.valid 0 fa) (n.valid 1 fb) pick = r.withPorts (n.portA.tookSof fa) (n.portB.tookSof fb)) :
    (n.instant fa fb m pick).drive = (r.paths n m).drive := by
  have instant : n.instant fa fb m pick = ((n.atInstant fa fb m).decide (n.valid 0 fa) (n.valid 1 fb) pick).paths n m := by
    rw [Node.instant, tookSof_both, running]
    rfl
  rw [instant, decided, paths_withPorts, drive_withPorts]

/-- In INIT or STO_LATCHED it puts in force what the resume gives, through the paths. -/
theorem drive_instant_stopped (stopped : n.stopped = true) :
    (n.instant fa fb m pick).drive = (((n.measured m).resume (n.valid 0 fa) (n.valid 1 fb)).paths n m).drive := by
  have instant : n.instant fa fb m pick = ((n.atInstant fa fb m).resume (n.valid 0 fa) (n.valid 1 fb)).paths n m := by
    rw [Node.instant, tookSof_both, stopped]
    rfl
  rw [instant, Node.atInstant, resume_withPorts, paths_withPorts, drive_withPorts]

end

/-- What the paths do does not depend on the misses that they had before the decision. -/
theorem paths_latch_both (n old : Node) (m : NodeMeas) :
    (n.latch true).paths old m = ({ n with state := nSto, words := [0, 0, 0], outputs := 0, bothHold := true, run := 0, missed := 0 } : Node).paths old m := by
  rw [Node.latch, Bool.or_true]
  rfl

theorem miss_eq (n : Node) :
    n.miss = if n.missed = 7 then n.latch false else { n with missed := n.missed + 1, held := true, state := nHolding } := by
  simp only [Node.miss, Nat.reduceEqDiff]

theorem miss_withPorts (n : Node) (a b : NodePort) : (n.withPorts a b).miss = n.miss.withPorts a b := by
  rw [miss_eq, miss_eq, apply_ite (Node.withPorts · a b)]
  rfl

theorem paths_found {n : Node} {m : NodeMeas} (clear : m.pathBad = 0) (good : m.pathFail = 0) (running : n.stopped = false) (unheld : n.held = false)
    (old : Node) : n.paths old m = { n with missA := 0, missB := 0, pathFail := 0 } := by
  simp [paths_eq, Node.pathsFound, clear, good, running, unheld]

theorem paths_failed {m : NodeMeas} (failed : m.pathFail ≠ 0) (n old : Node) : n.paths old m = (n.pathsFound old m).latch false :=
  if_pos (.inl failed)

/-! ### The uplink frames of an instant (R165) -/

/-- A node that sends on both ports changes the ports only, and a port that sends carries its uplink frame. -/
theorem sendUp_both (n : Node) (d : Nat) (fa fb : Option DownFrame) (m : NodeMeas) :
    ∃ a b, (n.sendUp d 0 fa m).sendUp d 1 fb m = n.withPorts a b
      ∧ (n.portA.train = none ∨ fa.isSome = true → a.up = some (n.upFrame d 0 m))
      ∧ (n.portB.train = none ∨ fb.isSome = true → b.up = some (n.upFrame d 1 m)) := by
  have sendsUp : ∀ {x : NodePort} {f : Option DownFrame}, x.train = none ∨ f.isSome = true → ¬ (x.train.isSome = true ∧ f.isNone = true) := by
    rintro x f (h | h) ⟨training, without⟩
    · simp [h] at training
    · cases f <;> simp_all
  have left : ∃ a, n.sendUp d 0 fa m = n.withPorts a n.portB ∧ (n.portA.train = none ∨ fa.isSome = true → a.up = some (n.upFrame d 0 m)) := by
    unfold Node.sendUp
    dsimp only
    split
    · next idle => exact ⟨n.portA, rfl, fun sends => absurd idle (sendsUp sends)⟩
    · exact ⟨_, rfl, fun _ => rfl⟩
  obtain ⟨a, sentA, upA⟩ := left
  rw [sentA]
  unfold Node.sendUp
  dsimp only
  split
  · next idle => exact ⟨a, n.portB, rfl, upA, fun sends => absurd idle (sendsUp sends)⟩
  · exact ⟨a, _, rfl, upA, fun _ => rfl⟩

/-- `f` is the uplink frame that a port forms of the node and of what the node measured, its UP_SEQ behind `last` (R165). -/
def UplinkOf (n : Node) (port last : Nat) (m : NodeMeas) (f : UpFrame) : Prop :=
  f.crc = crc32 (upBytes f) ∧ f.seq = (last + 1) % 65536
    ∧ f.status = nodeStatus n port ∧ f.appliedSeq = n.lastSeq ∧ f.outputsRb = n.outputs
    ∧ f.inputsA = m.inputsA % 256 ∧ f.inputsBInv = 255 - m.inputsB % 256
    ∧ f.axes.map (·.appliedSp) = [0, 1, 2].map (fun k => n.words.getD k 0)
    ∧ f.respTag = (n.resp port).tag ∧ f.respResult = (n.resp port).result

theorem uplinkOf_upFrame (n : Node) (d port : Nat) (m : NodeMeas) : UplinkOf n port (n.port port).upSeq m (n.upFrame d port m) :=
  ⟨rfl, rfl, rfl, rfl, rfl, rfl, rfl, rfl, rfl, rfl⟩

theorem applyInstant_uplink (s : State) (d : Nat) (fa fb : Option DownFrame) (m : NodeMeas) {port : Nat} (hp : port ≤ 1)
    (sends : ((s.node d).port port).train = none ∨ ((s.node d).valid port (if port = 0 then fa else fb)).isSome = true) :
    ∃ t, exec (.nodeApplyInstant d { a := fa, b := fb } m) s = .next t
      ∧ (∃ f, ((t.node d).port port).up = some f ∧ UplinkOf (t.node d) port ((s.node d).port port).upSeq m f)
      ∧ KeepsRegs [] s t ∧ OnlyEvents { s with nodes := putD {} s.nodes d (t.node d) } t := by
  obtain ⟨pick, n, t, run, served, sent, only⟩ := exec_nodeApplyInstant s d fa fb m
  obtain ⟨portA, portB⟩ := ports_instant (s.node d) fa fb m pick
  have sameA : n.portA = (s.node d).portA.tookSof fa := (congrArg Node.portA served).trans portA
  have sameB : n.portB = (s.node d).portB.tookSof fb := (congrArg Node.portB served).trans portB
  have train : ∀ (x : NodePort) (f : Option DownFrame), (x.tookSof f).train = x.train ∧ (x.tookSof f).upSeq = x.upSeq := by
    rintro x (- | f) <;> exact ⟨rfl, rfl⟩
  obtain ⟨a, b, ports, upA, upB⟩ := sendUp_both n d ((s.node d).valid 0 fa) ((s.node d).valid 1 fb) m
  refine ⟨_, run, ?_, only.settled _⟩
  rw [node_settle, sent, ports]
  obtain rfl | rfl : port = 0 ∨ port = 1 := by omega
  · refine ⟨n.upFrame d 0 m, upA (by rw [sameA, (train _ _).1]; exact sends), ?_⟩
    rw [show (s.node d).port 0 = (s.node d).portA from rfl, ← (train (s.node d).portA fa).2, ← sameA]
    exact uplinkOf_upFrame n d 0 m
  · refine ⟨n.upFrame d 1 m, upB (by rw [sameB, (train _ _).1]; exact sends), ?_⟩
    rw [show (s.node d).port 1 = (s.node d).portB from rfl, ← (train (s.node d).portB fb).2, ← sameB]
    exact uplinkOf_upFrame n d 1 m

/-- What an apply instant puts in force, and what it leaves alone. -/
theorem applyInstant_drive (s : State) (d : Nat) (fa fb : Option DownFrame) (m : NodeMeas) :
    ∃ (pick : Bool) (t : State), exec (.nodeApplyInstant d { a := fa, b := fb } m) s = .next t
      ∧ (t.node d).drive = ((s.node d).instant fa fb m pick).drive
      ∧ KeepsRegs [] s t ∧ OnlyEvents { s with nodes := putD {} s.nodes d (t.node d) } t := by
  obtain ⟨pick, n, t, run, served, sent, only⟩ := exec_nodeApplyInstant s d fa fb m
  obtain ⟨a, b, ports, -⟩ := sendUp_both n d ((s.node d).valid 0 fa) ((s.node d).valid 1 fb) m
  refine ⟨pick, _, run, ?_, only.settled _⟩
  rw [node_settle, sent, ports, drive_withPorts, drive_of_sansManagement served]

/-- Settles O33: every frame is counted as `resume_held` and `resume_unheld` say, by either command. -/
theorem nodeResumes : Obligations.NodeResumes := by
  intro s d fa fb
  refine ⟨fun port hp x hx stopped hold other run counts => ?held, fun stopped same => ?unheld, fun m stopped => ?instant, fun running => ?running⟩
  case held =>
    obtain ⟨mine, others⟩ := valid_onPort (n := s.node d) hp fa fb
    have resumed := resume_held hp (mine ▸ hx) hold (others ▸ other) counts
    refine ⟨fun resume long valid written good => ?_, fun unmet => ?_⟩
    · rw [exec_nodeResume_stopped stopped, resumed, counted_of_resumed ⟨resume, long, valid, written, good⟩]
      obtain ⟨record, keeps, only⟩ := settled_setNode s d _ s.pending
      refine ⟨_, rfl, record, ?_, ?_, ?_, keeps, only⟩ <;> rw [record, tookSof_both] <;> rfl
    · rw [exec_nodeResume_stopped stopped, resumed, counted_of_not_resumed unmet]
      exact ⟨_, rfl, settled_setNode s d _ _⟩
  case unheld =>
    rw [exec_nodeResume_stopped stopped, resume_unheld same]
    exact ⟨_, rfl, settled_setNode s d _ _⟩
  case instant =>
    have record : (s.setNode d ((s.node d).measured m)).node d = (s.node d).measured m := node_setNode_same s d _
    have still : ((s.setNode d ((s.node d).measured m)).node d).stopped = true := by
      rw [record]
      exact stopped
    obtain ⟨pick, t, run, drive, keeps, only⟩ := applyInstant_drive s d fa fb m
    refine ⟨_, exec_nodeResume_stopped still fa fb, t, run, ?_, keeps, only⟩
    rw [drive, drive_instant_stopped stopped, node_settle, node_setNode_same, record, tookSof_both, paths_withPorts, drive_withPorts]
    rfl
  case running => exact ⟨_, exec_nodeResume_running running fa fb, KeepsRegs.settle _ fun _ _ => rfl, settle_sansRegs _ _⟩

/-- Settles O32: the decision of R172 is read off case by case, and what the instant puts in force is that decision through the STO paths; the
uplink frames are formed from the node as its messages leave it. -/
theorem nodeAppliesFrames : Obligations.NodeAppliesFrames := by
  intro s d fa fb m
  refine ⟨fun running ha hb => ?both, fun port hp x hx hold new running other => ?held, fun port hp x hx unheld shadow new running other => ?shadow,
    fun running ha hb notBoth => ?missed, fun port hp sends => ?uplink, ?powerUp⟩
  case both =>
    obtain ⟨pick, t, run, drive, keeps, only⟩ := applyInstant_drive s d fa fb m
    refine ⟨t, run, ?_, keeps, only⟩
    rw [drive, drive_instant_running (r := ((s.node d).measured m).latch true) running (decide_bothHold pick ha hb), paths_latch_both]
  case held =>
    obtain ⟨mine, others⟩ := valid_onPort (n := s.node d) hp fa fb
    obtain ⟨pick, t, run, drive, keeps, only⟩ := applyInstant_drive s d fa fb m
    replace drive := drive.trans (drive_instant_running (r := { ((s.node d).measured m).apply x port with substitute := false }) running
      (decide_held (n := (s.node d).atInstant fa fb m) pick hp (mine ▸ hx) new hold (others ▸ other)))
    refine ⟨t, run, drive, fun clear good => ?_, fun failed => ?_, keeps, only⟩
    · rw [paths_found clear good rfl rfl] at drive
      exact ⟨congrArg Node.words drive, congrArg Node.stoA drive, congrArg Node.runB drive, congrArg Node.outputs drive, congrArg Node.lastSeq drive,
        congrArg Node.missed drive, congrArg Node.held drive, congrArg Node.state drive⟩
    · rw [paths_failed failed] at drive
      exact ⟨congrArg Node.state drive, congrArg Node.words drive, congrArg Node.outputs drive⟩
  case shadow =>
    obtain ⟨mine, others⟩ := valid_onPort (n := s.node d) hp fa fb
    obtain ⟨pick, t, run, drive, keeps, only⟩ := applyInstant_drive s d fa fb m
    exact ⟨t, run, drive.trans (drive_instant_running running
      (decide_shadow (n := (s.node d).atInstant fa fb m) pick hp (mine ▸ hx) new unheld shadow (others ▸ other))), keeps, only⟩
  case missed =>
    obtain ⟨pick, t, run, drive, keeps, only⟩ := applyInstant_drive s d fa fb m
    have missed := decide_missed (n := (s.node d).atInstant fa fb m) pick notBoth ha hb
    refine ⟨t, run, drive.trans ((drive_instant_running (r := ((s.node d).measured m).miss) running (missed.trans ?_)).trans ?_), keeps, only⟩
    · exact miss_withPorts ..
    · rw [miss_eq]
      rfl
  case uplink => exact applyInstant_uplink s d fa fb m hp sends
  case powerUp =>
    obtain ⟨record, keeps, only⟩ := settled_setNode s d {} s.pending
    rw [record] at only
    refine ⟨_, rfl, record, ?_, ?_, ?_, ?_, keeps, only⟩ <;> rw [record]
    · rfl
    · rfl

end Sys2Proof.Machine

namespace Sys2Proof.Machine

/-!
The loss of a doorway link in a unit without the token (R178, R189 to R191): it is shown and counted on the link, and no doorway is told.
-/

/-- The registers that show and count the failure of a link, written before it is reported. -/
def State.failureShown (s : State) (d cause : Nat) : State :=
  let st := linkState s d
  let s := s.wrn (Lk.LINK_CAUSE d) cause
  let s := if st = lUp ∨ st = lListen then s.count (Lk.LINK_LOSSES d) else s
  let s := if st = lTraining ∨ st = lConfig ∨ st = lReady then s.count (Lk.TRAIN_FAILURES d) else s
  if s.rdn (Dr.TABLE_STATE d) = 1 then s.wr (Dr.TABLE_STATE d) 3 else s

theorem failureShown_blind {α : Type} {f : State → α} (h : RegBlind f) (s : State) (d cause : Nat) : f (s.failureShown d cause) = f s := by
  unfold State.failureShown
  dsimp only
  split_ifs <;> simp only [State.wrn, wr_blind h, count_blind h]

theorem linkFailed_eq (s : State) (d cause : Nat) :
    s.linkFailed d cause =
      if (s.failureShown d cause).holds then ((s.failureShown d cause).raise 0x13C1 d cause).faultDoor d (if 7 ≤ cause ∧ cause ≤ 10 then 9 else 1)
      else if linkState s d = lListen then (s.failureShown d cause).raise 0x33C2 d cause else s.failureShown d cause := rfl

/-- A unit without the token reports a link that fails to no doorway. -/
theorem doors_linkFailed {s : State} (free : s.holds = false) (d cause : Nat) : (s.linkFailed d cause).doors = s.doors := by
  have shown : (s.failureShown d cause).doors = s.doors := failureShown_blind (fun _ _ => rfl) s d cause
  have untold : (s.failureShown d cause).holds = false := (failureShown_blind (f := State.holds) (fun _ _ => rfl) s d cause).trans free
  rw [linkFailed_eq, untold, if_neg Bool.false_ne_true]
  split
  · exact (raise_blind (f := State.doors) (fun _ _ _ _ _ _ => rfl) _ _ _ _).trans shown
  · exact shown

theorem doors_toLink (s : State) (d st : Nat) : (s.toLink d st).doors = s.doors := by
  unfold State.toLink
  dsimp only
  split <;> rfl

theorem doors_clearScales (s : State) (d : Nat) : (s.clearScales d).doors = s.doors := by
  simp only [State.clearScales, List.foldl_cons, List.foldl_nil, wr_blind (f := State.doors) fun _ _ => rfl]

theorem doors_loseLink {s : State} (free : s.holds = false) (d cause : Nat) : (s.loseLink d cause).doors = s.doors := by
  unfold State.loseLink
  dsimp only
  rw [doors_toLink, State.setLink_doors, doors_clearScales, doors_linkFailed free]

/-! ### The frame of a loss rewrites the doorway's record -/

/-- A unit without the token, with the link of doorway 0 in a given state after 8 missing frames, whose map of doorways lists doorway 0 at the
default record. -/
def listsDefaultDoor (state : Nat) : State :=
  { dict := [(Lk.LINK_STATE 0, state)], doors := [(0, {})], links := [(0, { missing := 8 })] }

/-- A loss in such a unit leaves the map of doorways as it is. The frame asks for the map with the record of doorway 0 written again, and a
default record that is written leaves the map. -/
theorem loseLink_listsDefaultDoor {s : State} (free : s.holds = false) (listed : s.doors = [(0, {})]) (cause : Nat) (q : List Instr) (l : Store Link) :
    ¬ OnlyEvents { s with links := l, doors := putD {} s.doors 0 (((s.loseLink 0 cause).settle q).door 0) } ((s.loseLink 0 cause).settle q) := by
  have kept : (s.loseLink 0 cause).doors = [(0, {})] := (doors_loseLink free 0 cause).trans listed
  have record : (s.loseLink 0 cause).door 0 = {} := by rw [State.door, kept]; rfl
  intro only
  have doors : ((s.loseLink 0 cause).settle q).doors = putD {} s.doors 0 (((s.loseLink 0 cause).settle q).door 0) := congrArg State.doors only
  rw [door_settle, record, listed, settle_blind (f := State.doors) fun _ _ _ _ _ => rfl, kept] at doors
  exact absurd doors (by decide)

/-- Refutes O36: LINK_LOST of the UP link in `listsDefaultDoor`, with its 8 missing frames. The unit holds no token, so it writes no doorway, where
the frame of `LinkLost` writes the record of doorway 0 again and so drops the default record from the map. What fails is this frame on a map that
lists a default record; the record of every doorway reads as the statement says. -/
theorem not_doorwayLinkLosses : ¬ Obligations.DoorwayLinkLosses := by
  intro h
  obtain ⟨missing, -⟩ := h (listsDefaultDoor 5) 0 (by decide)
  obtain ⟨t, run, -, -, -, -, -, -, -, -, only⟩ := missing (by decide) (.inl (by decide))
  have loses : exec (.linkLost 0 4) (listsDefaultDoor 5) = done (listsDefaultDoor 5) ((listsDefaultDoor 5).loseLink 0 4) := rfl
  cases loses.symm.trans run
  exact loseLink_listsDefaultDoor rfl rfl 4 _ _ only

/-- Refutes O35: loss of character lock while the link of `listsDefaultDoor` trains. The frame of the loss fails as in O36, on a map that lists a
default record. -/
theorem not_doorwayLinkTraining : ¬ Obligations.DoorwayLinkTraining := by
  intro h
  obtain ⟨-, -, -, unlock, -⟩ := h (listsDefaultDoor 2) 0 (by decide)
  obtain ⟨t, run, -, -, -, -, only⟩ := unlock (by decide) (by decide)
  have loses : exec (.characterLockLost (some 0)) (listsDefaultDoor 2) =
      done (listsDefaultDoor 2) (((listsDefaultDoor 2).setLink 0 { (listsDefaultDoor 2).link 0 with charLock := false, lastSof := none }).loseLink 0 1) := rfl
  cases loses.symm.trans run
  exact loseLink_listsDefaultDoor rfl rfl 1 _ _ only

end Sys2Proof.Machine

namespace Sys2Proof.Machine

/-!
Uplink frames (R153 to R155, R165, R168, R176 to R178). A frame is received, its status is taken, then its inputs, then its axes; each part writes
registers of its own and the record that it is about.
-/

/-! ### What a command keeps, step by step -/

theorem KeepsRegs.of_dict {ks : List Nat} {s t u : State} (h : KeepsRegs ks s t) (dict : u.dict = t.dict) : KeepsRegs ks s u :=
  fun k hk wired => (rd_of_dict dict k).trans (h k hk wired)

theorem KeepsRegs.wr {ks : List Nat} {s t : State} (h : KeepsRegs ks s t) {k : Nat} (hk : k ∈ ks) (v : Int) : KeepsRegs ks s (t.wr k v) :=
  fun j hj wired => (rd_wr_ne (ne_of_mem_of_not_mem hk hj).symm t v).trans (h j hj wired)

theorem KeepsRegs.rdn {ks : List Nat} {s t : State} (h : KeepsRegs ks s t) {k : Nat} (hk : k ∉ ks) (wired : k ∉ wiredRegs) : t.rdn k = s.rdn k :=
  congrArg Int.toNat (h k hk wired)

theorem KeepsRegs.ite {ks : List Nat} {s t u : State} {c : Prop} [Decidable c] (ht : KeepsRegs ks s t) (hu : KeepsRegs ks s u) :
    KeepsRegs ks s (if c then t else u) := by
  split
  · exact ht
  · exact hu

theorem KeepsRegs.latch {ks : List Nat} {s t : State} (h : KeepsRegs ks s t) {w r : Nat} (hw : w ∈ ks) (hr : r ∈ ks) (i : Nat) :
    KeepsRegs ks s (t.latch w i r) := fun k hk wired =>
  (rd_latch_ne (ne_of_mem_of_not_mem hw hk).symm (ne_of_mem_of_not_mem hr hk).symm t i).trans (h k hk wired)

theorem rdn_of_dict {s t : State} (h : t.dict = s.dict) (k : Nat) : t.rdn k = s.rdn k := congrArg Int.toNat (rd_of_dict h k)

/-- A counter that counts where `b` says so. -/
def State.countIf (s : State) (b : Bool) (k : Nat) : State := if b then s.count k else s

theorem KeepsRegs.countIf {ks : List Nat} {s t : State} (h : KeepsRegs ks s t) (b : Bool) {k : Nat} (hk : k ∈ ks) :
    KeepsRegs ks s (t.countIf b k) := by
  cases b
  · exact h
  · exact h.wr hk _

theorem rdn_countIf_same (s : State) (b : Bool) (k : Nat) : (s.countIf b k).rdn k = if b then min (s.rdn k + 1) max32 else s.rdn k := by
  cases b
  · rfl
  · simp only [State.countIf, State.rdn, rd_count, if_true, Int.toNat_natCast]

theorem rdn_countIf_ne {k j : Nat} (h : j ≠ k) (s : State) (b : Bool) : (s.countIf b k).rdn j = s.rdn j := by
  cases b
  · rfl
  · exact congrArg Int.toNat (rd_wr_ne h s _)

theorem countIf_blind {α : Type} {f : State → α} (h : RegBlind f) (s : State) (b : Bool) (k : Nat) : f (s.countIf b k) = f s := by
  cases b
  · rfl
  · exact count_blind h s k

/-- `t` is `s` with other registers. -/
def OnlyDict (s t : State) : Prop := t = { s with dict := t.dict }

namespace OnlyDict

variable {s t : State}

theorem refl (s : State) : OnlyDict s s := rfl

theorem wr (h : OnlyDict s t) (k : Nat) (v : Int) : OnlyDict s (t.wr k v) := congrArg (State.wr · k v) h

theorem countIf (h : OnlyDict s t) (b : Bool) (k : Nat) : OnlyDict s (t.countIf b k) := by
  cases b
  · exact h
  · exact h.wr k _

theorem setLink (h : OnlyDict s t) (d : Nat) (x : Link) : OnlyDict (s.setLink d x) (t.setLink d x) := congrArg (State.setLink · d x) h

theorem ite {u : State} {c : Prop} [Decidable c] (ht : OnlyDict s t) (hu : OnlyDict s u) : OnlyDict s (if c then t else u) := by
  split
  · exact ht
  · exact hu

theorem latch (h : OnlyDict s t) (w i r : Nat) : OnlyDict s (t.latch w i r) := by
  unfold State.latch
  exact .ite (h.wr _ _) (.ite ((h.wr _ _).wr _ _) (h.wr _ _))

theorem link (h : OnlyDict s t) (d : Nat) : t.link d = s.link d := (congrArg (State.link · d) h).trans rfl

theorem axis (h : OnlyDict s t) (a : Nat) : t.axis a = s.axis a := axis_of_axes (congrArg State.axes h) a

theorem now (h : OnlyDict s t) : t.now = s.now := (congrArg State.now h).trans rfl

theorem eff (h : OnlyDict s t) : t.eff = s.eff := (congrArg State.eff h).trans rfl

theorem part (h : OnlyDict s t) : t.part = s.part := (congrArg State.part h).trans rfl

theorem holds (h : OnlyDict s t) : t.holds = s.holds := (congrArg State.holds h).trans rfl

theorem onlyEvents (h : OnlyDict s t) : OnlyEvents s t := (congrArg State.sansEvents h).trans rfl

end OnlyDict

/-! ### Records of a doorway -/

theorem link_of_links {s t : State} (h : t.links = s.links) (d : Nat) : t.link d = s.link d := by rw [State.link, h, State.link]

theorem con_of_contacts {s t : State} (h : t.contacts = s.contacts) (d : Nat) : t.con d = s.con d := by rw [State.con, h, State.con]

theorem link_setLink_ne {d e : Nat} (h : e ≠ d) (s : State) (x : Link) : (s.setLink d x).link e = s.link e := getD_putD_ne h ..

theorem con_setCon_ne {d e : Nat} (h : e ≠ d) (s : State) (x : Contacts) : (s.setCon d x).con e = s.con e := getD_putD_ne h ..

@[simp] theorem link_settle (t : State) (q : List Instr) (d : Nat) : (t.settle q).link d = t.link d :=
  link_of_links (settle_blind (f := State.links) (fun _ _ _ _ _ => rfl) t q) d

/-! ### Registers of a doorway's link (0x3A00 to 0x3AFF) -/

/-- A register in the block of doorway `d`'s link. -/
def LinkReg (d k : Nat) : Prop := k / 4096 = 0x3A0 + d

theorem linkReg_key {d b j : Nat} (low : 0x3A00 ≤ b) (high : b < 0x3A10) (sub : j < 256) : LinkReg d (key (b + 0x10 * d) j) := by
  unfold LinkReg key
  omega

theorem linkReg_linkState (d : Nat) : LinkReg d (Lk.LINK_STATE d) := linkReg_key (by decide) (by decide) (by decide)

theorem linkReg_nodeState (d : Nat) : LinkReg d (Lk.NODE_STATE d) := linkReg_key (by decide) (by decide) (by decide)

theorem linkReg_framesOk (d : Nat) : LinkReg d (Lk.FRAMES_OK d) := linkReg_key (by decide) (by decide) (by decide)

theorem linkReg_portMismatches (d : Nat) : LinkReg d (Lk.PORT_MISMATCHES d) := linkReg_key (by decide) (by decide) (by decide)

theorem linkReg_linkStatus (d : Nat) : LinkReg d (Lk.LINK_STATUS d) := linkReg_key (by decide) (by decide) (by decide)

theorem LinkReg.not_mem_wiredRegs {d k : Nat} (h : LinkReg d k) : k ∉ wiredRegs := by
  unfold LinkReg at h
  simp only [wiredRegs, Gl.HOLDER, Gl.NFAULT_CAUSES, key, List.mem_cons, List.not_mem_nil, or_false]
  omega

theorem AxisReg.ne_linkReg {d k j : Nat} (h : AxisReg k) (g : LinkReg d j) : j ≠ k := by
  unfold AxisReg at h
  unfold LinkReg at g
  omega

/-! ### A frame is received (R153 to R155, R158) -/

/-- The place of its SOF is taken, and its errors are counted. -/
def State.received (s : State) (d : Nat) (f : UpFrame) : State := (s.tookSof d f.sof).countErrors d f

theorem tookSof_eq_countIf (s : State) (d sof : Nat) :
    s.tookSof d sof =
      (s.countIf (sofMisplaced (s.link d).lastSof sof) (Lk.FRAMING_ERRORS d)).setLink d { s.link d with lastSof := some sof } := by
  have link : (s.countIf (sofMisplaced (s.link d).lastSof sof) (Lk.FRAMING_ERRORS d)).link d = s.link d :=
    countIf_blind (f := fun s => s.link d) (fun _ _ => rfl) ..
  exact congrArg (fun x => State.setLink _ d { x with lastSof := some sof }) link

theorem countErrors_eq_countIf (s : State) (d : Nat) (f : UpFrame) :
    s.countErrors d f = ((s.countIf (!f.codeOk) (Lk.CODE_ERRORS d)).countIf (f.crc != crc32 (upBytes f)) (Lk.CRC_ERRORS d)).countIf f.late
      (Lk.TIMING_ERRORS d) := by
  have code : ∀ u : State, (if f.codeOk then u else u.count (Lk.CODE_ERRORS d)) = u.countIf (!f.codeOk) (Lk.CODE_ERRORS d) := by
    intro u
    cases f.codeOk <;> rfl
  have crc : ∀ u : State, (if f.crc = crc32 (upBytes f) then u else u.count (Lk.CRC_ERRORS d)) =
      u.countIf (f.crc != crc32 (upBytes f)) (Lk.CRC_ERRORS d) := by
    intro u
    by_cases h : f.crc = crc32 (upBytes f) <;> simp [State.countIf, h]
  rw [State.countErrors]
  simp only [code, crc]
  rfl

theorem received_eq_countIf (s : State) (d : Nat) (f : UpFrame) :
    s.received d f = (((((s.countIf (sofMisplaced (s.link d).lastSof f.sof) (Lk.FRAMING_ERRORS d)).setLink d
      { s.link d with lastSof := some f.sof }).countIf (!f.codeOk) (Lk.CODE_ERRORS d)).countIf (f.crc != crc32 (upBytes f)) (Lk.CRC_ERRORS d)).countIf
      f.late (Lk.TIMING_ERRORS d)) := by
  rw [State.received, tookSof_eq_countIf, countErrors_eq_countIf]

theorem onlyDict_received (s : State) (d : Nat) (f : UpFrame) : OnlyDict (s.setLink d { s.link d with lastSof := some f.sof }) (s.received d f) := by
  rw [received_eq_countIf]
  exact (((((OnlyDict.refl s).countIf _ _).setLink d _).countIf _ _).countIf _ _).countIf _ _

/-- The registers that count a frame's errors. -/
def errorRegs (d : Nat) : List Nat := [Lk.CRC_ERRORS d, Lk.CODE_ERRORS d, Lk.FRAMING_ERRORS d, Lk.TIMING_ERRORS d]

theorem keepsRegs_tookSof (s : State) (d sof : Nat) : KeepsRegs (errorRegs d) s (s.tookSof d sof) := by
  rw [tookSof_eq_countIf]
  exact ((KeepsRegs.refl _ s).countIf _ (by simp [errorRegs])).of_dict (State.setLink_dict ..)

theorem keepsRegs_received (s : State) (d : Nat) (f : UpFrame) : KeepsRegs (errorRegs d) s (s.received d f) := by
  rw [State.received, countErrors_eq_countIf]
  exact (((keepsRegs_tookSof s d f.sof).countIf _ (by simp [errorRegs])).countIf _ (by simp [errorRegs])).countIf _ (by simp [errorRegs])

theorem not_mem_errorRegs {d k : Nat} (h : k / 256 ≠ 0x3A02 + 0x10 * d) : k ∉ errorRegs d := by
  simp only [errorRegs, Lk.CRC_ERRORS, Lk.CODE_ERRORS, Lk.FRAMING_ERRORS, Lk.TIMING_ERRORS, key, List.mem_cons, List.not_mem_nil, or_false]
  omega

theorem linkState_not_mem_errorRegs (d : Nat) : Lk.LINK_STATE d ∉ errorRegs d := by
  refine not_mem_errorRegs ?_
  simp only [Lk.LINK_STATE, key]
  omega

theorem rdn_received (s : State) (d : Nat) (f : UpFrame) {reg : Nat} {bad : Bool}
    (h : (reg, bad) ∈ [(Lk.CRC_ERRORS d, f.crc != crc32 (upBytes f)), (Lk.CODE_ERRORS d, !f.codeOk),
      (Lk.FRAMING_ERRORS d, sofMisplaced (s.link d).lastSof f.sof)]) :
    (s.received d f).rdn reg = if bad then min (s.rdn reg + 1) max32 else s.rdn reg := by
  have crc_late : Lk.CRC_ERRORS d ≠ Lk.TIMING_ERRORS d := key_ne_of_sub (by decide)
  have crc_code : Lk.CRC_ERRORS d ≠ Lk.CODE_ERRORS d := key_ne_of_sub (by decide)
  have crc_sof : Lk.CRC_ERRORS d ≠ Lk.FRAMING_ERRORS d := key_ne_of_sub (by decide)
  have code_late : Lk.CODE_ERRORS d ≠ Lk.TIMING_ERRORS d := key_ne_of_sub (by decide)
  have code_sof : Lk.CODE_ERRORS d ≠ Lk.FRAMING_ERRORS d := key_ne_of_sub (by decide)
  have sof_late : Lk.FRAMING_ERRORS d ≠ Lk.TIMING_ERRORS d := key_ne_of_sub (by decide)
  have same : ∀ (u : State) (x : Link) (k : Nat), (u.setLink d x).rdn k = u.rdn k := fun _ _ _ => rfl
  simp only [List.mem_cons, List.not_mem_nil, or_false, Prod.mk.injEq] at h
  rw [received_eq_countIf]
  rcases h with ⟨rfl, rfl⟩ | ⟨rfl, rfl⟩ | ⟨rfl, rfl⟩
  · rw [rdn_countIf_ne crc_late, rdn_countIf_same, rdn_countIf_ne crc_code, same, rdn_countIf_ne crc_sof]
  · rw [rdn_countIf_ne code_late, rdn_countIf_ne crc_code.symm, rdn_countIf_same, same, rdn_countIf_ne code_sof]
  · rw [rdn_countIf_ne sof_late, rdn_countIf_ne crc_sof.symm, rdn_countIf_ne code_sof.symm, same, rdn_countIf_same]

theorem exec_uplinkFrame {s : State} {d : Nat} (hd : d < 16) (operating : s.operating = true) (data : lConfig ≤ linkState s d) (f : UpFrame) :
    exec (.uplinkFrame d f) s = done s (if upIntact (s.link d).lastSof f = false then s.received d f
      else if f.status / 32768 % 2 ≠ s.rdn Gl.ROLE then
        ((s.received d f).count (Lk.PORT_MISMATCHES d)).latch (Lk.LINK_STATUS d) 9 (Lk.PORT_MISMATCH_REPEATS d)
      else (s.received d f).takeFrame d f) := by
  have below : lOff < lConfig := by decide
  have state : linkState (s.tookSof d f.sof) d = linkState s d :=
    (keepsRegs_tookSof s d f.sof).rdn (linkState_not_mem_errorRegs d) (linkReg_linkState d).not_mem_wiredRegs
  have role : (s.received d f).rdn Gl.ROLE = s.rdn Gl.ROLE :=
    (keepsRegs_received s d f).rdn (not_mem_errorRegs (by simp only [Gl.ROLE, key]; omega)) (by decide)
  have taken : ¬ (s.operating = false ∨ 16 ≤ d ∨ linkState s d = lOff) := by
    rw [operating]
    simp only [Bool.true_eq_false, false_or]
    omega
  have enough : ¬ linkState (s.tookSof d f.sof) d < lConfig := by omega
  rw [show exec (.uplinkFrame d f) s = execUplinkFrame d f s from rfl, execUplinkFrame, if_neg taken]
  dsimp only
  rw [if_neg enough, show (s.tookSof d f.sof).countErrors d f = s.received d f from rfl, role]

/-! ### What a valid frame brings (R131, R168, R169, R176) -/

/-- The registers that NODE_STATUS, the sequence and the echo of a frame write. -/
def statusRegs (d : Nat) : List Nat :=
  [Lk.FRAMES_OK d, Lk.UP_SEQ_GAPS d, Lk.NODE_STATE d, Lk.NODE_HELD d, Lk.NODE_SUBSTITUTED d, Lk.ECHO_MISMATCHES d]

/-- NODE_STATE follows the status, but for the reserved values (R168). -/
def State.nodeStateShown (s : State) (d st : Nat) : State := if st < 4 then s.wrn (Lk.NODE_STATE d) st else s

theorem OnlyDict.nodeStateShown {s t : State} (h : OnlyDict s t) (d st : Nat) : OnlyDict s (t.nodeStateShown d st) := by
  unfold State.nodeStateShown
  split
  · exact h.wr _ _
  · exact h

theorem rdn_nodeStateShown (s : State) (d st : Nat) :
    (s.nodeStateShown d st).rdn (Lk.NODE_STATE d) = if st < 4 then st else s.rdn (Lk.NODE_STATE d) := by
  unfold State.nodeStateShown
  split
  · rw [State.rdn, rd_wrn, if_pos rfl, Int.toNat_natCast]
  · rfl

theorem rdn_nodeStateShown_ne {d k : Nat} (h : k ≠ Lk.NODE_STATE d) (s : State) (st : Nat) : (s.nodeStateShown d st).rdn k = s.rdn k := by
  unfold State.nodeStateShown
  split
  · exact congrArg Int.toNat (rd_wr_ne h s _)
  · rfl

theorem KeepsRegs.nodeStateShown {ks : List Nat} {s t : State} (h : KeepsRegs ks s t) {d : Nat} (hk : Lk.NODE_STATE d ∈ ks) (st : Nat) :
    KeepsRegs ks s (t.nodeStateShown d st) := by
  unfold State.nodeStateShown
  split
  · exact h.wr hk _
  · exact h

/-- The link's record with what a frame reports of the node, and the runs that the status continues. -/
def Link.reported (x : Link) (f : UpFrame) (echo : List Nat) (echoRun heldRun : Nat) : Link :=
  { x with upSeq := some f.seq, got := true, missing := 0, status := f.status, applied := echo, outputsRb := f.outputsRb % 16,
           nodeTemp := f.nodeTemp, dcVoltage := f.dcVoltage, echoRun, heldRun }

theorem takeStatus_eq_countIf (s : State) (d : Nat) (f : UpFrame) :
    ∃ (gap wrong : Bool) (echo : List Nat) (run held : Nat),
      s.takeStatus d f = ((((((s.count (Lk.FRAMES_OK d)).countIf gap (Lk.UP_SEQ_GAPS d)).nodeStateShown d (f.status / 64 % 8)).countIf
        (f.status.testBit 2) (Lk.NODE_HELD d)).countIf (f.status.testBit 3) (Lk.NODE_SUBSTITUTED d)).setLink d
          ((s.link d).reported f echo run held)).countIf wrong (Lk.ECHO_MISMATCHES d) := by
  unfold State.takeStatus
  dsimp only
  cases (s.link d).upSeq with
  | none => exact ⟨false, _, _, _, _, rfl⟩
  | some q =>
    by_cases next : f.seq = (q + 1) % 65536
    · simp only [if_pos next]
      exact ⟨false, _, _, _, _, rfl⟩
    · simp only [if_neg next]
      exact ⟨true, _, _, _, _, rfl⟩

theorem onlyDict_takeStatus (s : State) (d : Nat) (f : UpFrame) :
    ∃ echo run held, OnlyDict (s.setLink d ((s.link d).reported f echo run held)) (s.takeStatus d f) := by
  obtain ⟨gap, wrong, echo, run, held, eq⟩ := takeStatus_eq_countIf s d f
  refine ⟨echo, run, held, ?_⟩
  rw [eq]
  exact (((((((OnlyDict.refl s).wr _ _).countIf _ _).nodeStateShown d _).countIf _ _).countIf _ _).setLink d _).countIf _ _

theorem keepsRegs_takeStatus (s : State) (d : Nat) (f : UpFrame) :
    KeepsRegs (statusRegs d) s (s.takeStatus d f)
      ∧ (s.takeStatus d f).rdn (Lk.FRAMES_OK d) = min (s.rdn (Lk.FRAMES_OK d) + 1) max32
      ∧ (s.takeStatus d f).rdn (Lk.NODE_STATE d) = if f.status / 64 % 8 < 4 then f.status / 64 % 8 else s.rdn (Lk.NODE_STATE d) := by
  obtain ⟨gap, wrong, echo, run, held, eq⟩ := takeStatus_eq_countIf s d f
  set counted := (s.count (Lk.FRAMES_OK d)).countIf gap (Lk.UP_SEQ_GAPS d) with hc
  set shown := counted.nodeStateShown d (f.status / 64 % 8) with hs
  have before : KeepsRegs [Lk.FRAMES_OK d, Lk.UP_SEQ_GAPS d] s counted := ((KeepsRegs.refl _ s).wr (by simp) _).countIf gap (by simp)
  have after : KeepsRegs [Lk.NODE_HELD d, Lk.NODE_SUBSTITUTED d, Lk.ECHO_MISMATCHES d] shown (s.takeStatus d f) := by
    rw [eq]
    have runs := ((KeepsRegs.refl [Lk.NODE_HELD d, Lk.NODE_SUBSTITUTED d, Lk.ECHO_MISMATCHES d] shown).countIf (f.status.testBit 2)
      (k := Lk.NODE_HELD d) (by simp)).countIf (f.status.testBit 3) (k := Lk.NODE_SUBSTITUTED d) (by simp)
    exact (runs.of_dict (State.setLink_dict ..)).countIf wrong (by simp)
  refine ⟨?_, ?_, ?_⟩
  · have all := before.mono (ls := statusRegs d) (by simp [statusRegs])
    exact (all.nodeStateShown (by simp [statusRegs]) _).trans (after.mono (by simp [statusRegs]))
  · have once : (s.count (Lk.FRAMES_OK d)).rdn (Lk.FRAMES_OK d) = min (s.rdn (Lk.FRAMES_OK d) + 1) max32 := rdn_countIf_same s true _
    have other : Lk.FRAMES_OK d ∉ [Lk.NODE_HELD d, Lk.NODE_SUBSTITUTED d, Lk.ECHO_MISMATCHES d] := by
      simp [Lk.FRAMES_OK, Lk.NODE_HELD, Lk.NODE_SUBSTITUTED, Lk.ECHO_MISMATCHES, key]
    have gaps : Lk.FRAMES_OK d ≠ Lk.UP_SEQ_GAPS d := key_ne_of_sub (by decide)
    have state : Lk.FRAMES_OK d ≠ Lk.NODE_STATE d := key_ne_of_sub (by decide)
    rw [after.rdn other (linkReg_framesOk d).not_mem_wiredRegs, hs, rdn_nodeStateShown_ne state, hc, rdn_countIf_ne gaps, once]
  · have other : Lk.NODE_STATE d ∉ [Lk.NODE_HELD d, Lk.NODE_SUBSTITUTED d, Lk.ECHO_MISMATCHES d] := by
      simp only [Lk.NODE_STATE, Lk.NODE_HELD, Lk.NODE_SUBSTITUTED, Lk.ECHO_MISMATCHES, key, List.mem_cons, List.not_mem_nil, or_false]
      omega
    have untouched : Lk.NODE_STATE d ∉ [Lk.FRAMES_OK d, Lk.UP_SEQ_GAPS d] := by
      simp only [Lk.NODE_STATE, Lk.FRAMES_OK, Lk.UP_SEQ_GAPS, key, List.mem_cons, List.not_mem_nil, or_false]
      omega
    rw [after.rdn other (linkReg_nodeState d).not_mem_wiredRegs, hs, rdn_nodeStateShown,
      before.rdn untouched (linkReg_nodeState d).not_mem_wiredRegs]

theorem foldl_stoConfirmed (p : Nat → Bool) (l : List Nat) (s : State) :
    ∃ safety, l.foldl (fun s a => if p a then s.stoConfirmed a else s) s = { s with safety } := by
  induction l generalizing s with
  | nil => exact ⟨s.safety, rfl⟩
  | cons a l ih =>
    rw [List.foldl_cons]
    split
    · exact ih (s.stoConfirmed a)
    · exact ih s

/-- The contacts and the doorway's record with new inputs, and a new safety state. -/
def State.sensed (s : State) (d : Nat) (c : Contacts) (x : Door) (safety : Safety) : State := { (s.setCon d c).setDoor d x with safety }

section
variable (s : State) (d : Nat) (c : Contacts) (x : Door) (safety : Safety)

theorem link_sensed (e : Nat) : (s.sensed d c x safety).link e = s.link e := rfl

theorem axis_sensed (a : Nat) : (s.sensed d c x safety).axis a = s.axis a := rfl

theorem now_sensed : (s.sensed d c x safety).now = s.now := rfl

theorem eff_sensed : (s.sensed d c x safety).eff = s.eff := rfl

theorem part_sensed : (s.sensed d c x safety).part = s.part := rfl

theorem holds_sensed : (s.sensed d c x safety).holds = s.holds := rfl

end

theorem OnlyDict.sensed {s t : State} (h : OnlyDict s t) (d : Nat) (c : Contacts) (x : Door) (safety : Safety) :
    OnlyDict (s.sensed d c x safety) (t.sensed d c x safety) := congrArg (State.sensed · d c x safety) h

theorem takeInputs_eq (s : State) (d : Nat) (f : UpFrame) :
    ∃ (c : Contacts) (x : Door) (safety : Safety), s.takeInputs d f = s.sensed d c x safety
      ∧ c.rawA = f.inputsA % 256 ∧ c.rawB = (255 - f.inputsBInv % 256) % 256 ∧ x.dcLast = 10 * f.dcCurrent.toNat := by
  unfold State.takeInputs
  obtain ⟨safety, confirmed⟩ := foldl_stoConfirmed (fun a => f.status.testBit (12 + roleOf a)) _ _
  dsimp only
  rw [confirmed]
  exact ⟨_, _, safety, rfl, rfl, rfl, rfl⟩

/-! ### Axes of a valid frame (R127, R131, R140, R141, R145) -/

/-- What an axis takes of a frame without an encoder error: no run of errors, and the streams of the frame. -/
def Axis.Took (x y : Axis) (now : Nat) (two : Bool) (u : UpAxis) : Prop :=
  y.encStreak = 0 ∧ y.y0 = (x.takeStreams now two u.s0 u.s1).y0 ∧ y.y1 = (x.takeStreams now two u.s0 u.s1).y1

/-- The registers that a frame writes of an axis. -/
def uplinkAxisRegs (a : Nat) : List Nat := [Ax.ENCODER_ERRORS a, Ax.ANGLE_STATE a]

/-- An axis that took a frame, whose angle is shown in registers and then written: nothing else of the state is written. -/
theorem writes_of_angleShown {s t : State} {a now : Nat} {x : Axis} {two : Bool} {u : UpAxis} (only : OnlyDict (s.setAxis a x) t)
    (keeps : KeepsRegs (uplinkAxisRegs a) (s.setAxis a x) t) (took : (s.axis a).Took x now two u) (angle nowNm : Int) :
    ∃ y, OnlyDict (s.setAxis a y) (t.setAxis a { t.axis a with angle, nowNm })
      ∧ KeepsRegs (uplinkAxisRegs a) s (t.setAxis a { t.axis a with angle, nowNm }) ∧ (u.encErr = false → (s.axis a).Took y now two u) := by
  have again : ∀ y, (s.setAxis a x).setAxis a y = s.setAxis a y := fun y => by simp [State.setAxis]
  refine ⟨{ t.axis a with angle, nowNm }, again _ ▸ congrArg (State.setAxis · a { t.axis a with angle, nowNm }) only, keeps, fun _ => ?_⟩
  rw [only.axis, axis_setAxis_same]
  exact took

theorem takeAxis_writes (s : State) (a : Nat) (u : UpAxis) (missing : Nat) :
    ∃ y, OnlyDict (s.setAxis a y) (s.takeAxis a u missing) ∧ KeepsRegs (uplinkAxisRegs a) s (s.takeAxis a u missing)
      ∧ (u.encErr = false → (s.axis a).Took y s.now (s.pn (Ax.MOTOR_TYPE a) == 1) u) := by
  unfold State.takeAxis
  dsimp only
  by_cases err : u.encErr = true
  · rw [if_pos err]
    exact ⟨_, rfl, fun k hk _ => rd_wr_ne (by simp_all [uplinkAxisRegs]) _ _, fun h => absurd err (by simp [h])⟩
  · rw [if_neg err]
    have status : Ax.ANGLE_STATE a ∈ uplinkAxisRegs a := by simp [uplinkAxisRegs]
    refine writes_of_angleShown (.ite (.wr (.ite (.wr (.refl _) _ _) (.refl _)) _ _) (.ite (.wr (.refl _) _ _) (.refl _)))
      (.ite (.wr (.ite (.wr (.refl _ _) status _) (.refl _ _)) status _) (.ite (.wr (.refl _ _) status _) (.refl _ _))) ?_ _ _
    exact ⟨rfl, rfl, rfl⟩

/-- The axes of a doorway take a frame, one after another. -/
def State.axesTaken (s : State) (l : List Nat) (f : UpFrame) (missing : Nat) : State :=
  l.foldl (fun s a => s.takeAxis a (f.axes.getD (roleOf a) {}) missing) s

/-- What they write: axes of the list alone, each of them once, and their registers. -/
theorem axesTaken_writes {l : List Nat} (once : l.Nodup) (s : State) (f : UpFrame) (missing : Nat) :
    (∃ axes, OnlyDict { s with axes } (s.axesTaken l f missing))
      ∧ KeepsRegs (l.flatMap uplinkAxisRegs) s (s.axesTaken l f missing)
      ∧ (∀ a, a ∉ l → (s.axesTaken l f missing).axis a = s.axis a)
      ∧ ∀ a ∈ l, (f.axes.getD (roleOf a) {}).encErr = false →
          (s.axis a).Took ((s.axesTaken l f missing).axis a) s.now (s.pn (Ax.MOTOR_TYPE a) == 1) (f.axes.getD (roleOf a) {}) := by
  induction l generalizing s with
  | nil => exact ⟨⟨s.axes, rfl⟩, .refl _ _, fun _ _ => rfl, fun _ h => absurd h List.not_mem_nil⟩
  | cons b l ih =>
    obtain ⟨fresh, once⟩ := List.nodup_cons.mp once
    obtain ⟨y, only, keeps, took⟩ := takeAxis_writes s b (f.axes.getD (roleOf b) {}) missing
    set t := s.takeAxis b (f.axes.getD (roleOf b) {}) missing
    obtain ⟨⟨axes, rest⟩, restKeeps, others, each⟩ := ih once t
    have now : t.now = s.now := only.now.trans (State.setAxis_now ..)
    have eff : t.eff = s.eff := only.eff.trans (State.setAxis_eff ..)
    have same : ∀ a, a ≠ b → t.axis a = s.axis a := fun a ne => (only.axis a).trans (axis_setAxis_ne ne s y)
    have start : s.axesTaken (b :: l) f missing = t.axesTaken l f missing := rfl
    rw [start]
    refine ⟨⟨axes, ?_⟩, ?_, fun a out => ?_, fun a mem good => ?_⟩
    · exact rest.trans (congrArg (fun u : State => { u with axes, dict := (t.axesTaken l f missing).dict }) only)
    · rw [List.flatMap_cons]
      exact (keeps.mono fun k => List.mem_append_left _).trans (restKeeps.mono fun k => List.mem_append_right _)
    · obtain ⟨ne, out⟩ := List.ne_and_not_mem_of_not_mem_cons out
      exact (others a out).trans (same a ne)
    · rcases List.mem_cons.mp mem with rfl | mem
      · rw [others a fresh, only.axis, axis_setAxis_same]
        exact took good
      · have ne : a ≠ b := fun e => fresh (e ▸ mem)
        have took := each a mem good
        rwa [same a ne, now, State.pn, p_of_eff eff] at took

/-! ### A link that comes UP, and its receiver (R181, R189) -/

/-- With its node RUNNING, a READY link of the holder is UP. -/
def State.linkRaised (s : State) (d : Nat) (f : UpFrame) : State :=
  if linkState s d = lReady ∧ s.holds ∧ f.status / 64 % 8 = 2 then s.toLink d lUp else s

/-- The receiver's readouts of a link that carries data. -/
def State.receiverRead (s : State) (d : Nat) : State := if linkState s d = lUp ∨ linkState s d = lListen then s.receiver d else s

theorem toLink_lUp (s : State) (d : Nat) : s.toLink d lUp = (s.wrn (Lk.LINK_STATE d) lUp).setB (Lk.LINK_STATUS d) 0 true := rfl

theorem onlyDict_linkRaised (s : State) (d : Nat) (f : UpFrame) : OnlyDict s (s.linkRaised d f) := by
  unfold State.linkRaised
  rw [toLink_lUp]
  exact .ite (.wr (.wr (.refl s) _ _) _ _) (.refl s)

theorem keepsRegs_linkRaised (s : State) (d : Nat) (f : UpFrame) : KeepsRegs [Lk.LINK_STATE d, Lk.LINK_STATUS d] s (s.linkRaised d f) := by
  unfold State.linkRaised
  rw [toLink_lUp]
  exact .ite (.wr (.wr (.refl _ s) (by simp) _) (by simp) _) (.refl _ s)

theorem linkState_linkRaised (s : State) (d : Nat) (f : UpFrame) :
    linkState (s.linkRaised d f) d = if linkState s d = lReady ∧ s.holds = true ∧ f.status / 64 % 8 = 2 then lUp else linkState s d := by
  unfold State.linkRaised
  split
  · have ne : Lk.LINK_STATE d ≠ Lk.LINK_STATUS d := by
      simp only [Lk.LINK_STATE, Lk.LINK_STATUS, key]
      omega
    rw [toLink_lUp, linkState, State.rdn, rd_setB, if_neg ne, rd_wrn, if_pos rfl, Int.toNat_natCast]
  · rfl

/-- The registers of the receiver's readouts. -/
def receiverRegs (d : Nat) : List Nat := [Lk.CTLE_PEAKING d, Lk.DFE_TAP1 d, Lk.DFE_TAP2 d, Lk.EYE_MARGIN d]

theorem onlyEvents_receiverRead (s : State) (d : Nat) : OnlyEvents s (s.receiverRead d) := by
  unfold State.receiverRead
  split <;> rfl

theorem keepsRegs_receiverRead (s : State) (d : Nat) : KeepsRegs (receiverRegs d) s (s.receiverRead d) := by
  have drawn : ∀ n, KeepsRegs (receiverRegs d) s { s with free := n } := fun _ _ _ _ => rfl
  unfold State.receiverRead
  exact .ite (.wr (.wr (.wr (.wr (drawn _) (by simp [receiverRegs]) _) (by simp [receiverRegs]) _) (by simp [receiverRegs]) _)
    (by simp [receiverRegs]) _) (.refl _ s)

/-! ### A whole frame -/

theorem response_of_idle {s : State} {d : Nat} (idle : (s.link d).out = none) (tag result : Nat) (bs : List ByteN) :
    s.response d tag result bs = s := by
  unfold State.response
  dsimp only
  rw [idle]

/-- The state in which the axes take a frame: its status and its inputs are taken. -/
def State.inputsTaken (s : State) (d : Nat) (f : UpFrame) : State := (s.takeStatus d f).takeInputs d f

/-- What a frame has written before its axes take it: the records of the link, the contacts and the doorway, and the safety state. -/
theorem inputsTaken_writes (s : State) (d : Nat) (f : UpFrame) :
    ∃ (echo : List Nat) (run held : Nat) (c : Contacts) (x : Door) (safety : Safety),
      OnlyDict ((s.setLink d ((s.link d).reported f echo run held)).sensed d c x safety) (s.inputsTaken d f)
        ∧ c.rawA = f.inputsA % 256 ∧ c.rawB = (255 - f.inputsBInv % 256) % 256 ∧ x.dcLast = 10 * f.dcCurrent.toNat
        ∧ (s.inputsTaken d f).dict = (s.takeStatus d f).dict := by
  obtain ⟨echo, run, held, reported⟩ := onlyDict_takeStatus s d f
  unfold State.inputsTaken
  generalize s.takeStatus d f = t at *
  obtain ⟨c, x, safety, inputs, rawA, rawB, current⟩ := takeInputs_eq t d f
  rw [inputs]
  exact ⟨echo, run, held, c, x, safety, reported.sensed d c x safety, rawA, rawB, current, rfl⟩

/-- The parts of a frame in their order. -/
theorem takeFrame_eq (s : State) (d : Nat) (f : UpFrame) :
    s.takeFrame d f =
      (let t := s.inputsTaken d f
       let u := t.axesTaken (axesOf t d) f (s.link d).missing
       let v := match f.chunk with | some c => u.takeChunk d c | none => u
       ((v.response d f.respTag f.respResult f.respData).linkRaised d f).receiverRead d) := rfl

/-- A frame without a chunk, on a link that awaits no answer. -/
theorem takeFrame_plain {s t : State} {d : Nat} {f : UpFrame} (chunk : f.chunk = none) (idle : (s.link d).out = none)
    (inputs : s.inputsTaken d f = t) :
    s.takeFrame d f = ((t.axesTaken (axesOf t d) f (s.link d).missing).linkRaised d f).receiverRead d := by
  have still : ((t.axesTaken (axesOf t d) f (s.link d).missing).link d).out = none := by
    obtain ⟨echo, run, held, c, x, safety, only, -⟩ := inputsTaken_writes s d f
    obtain ⟨⟨axes, taken⟩, -⟩ := axesTaken_writes (nodup_axesOf t d) t f (s.link d).missing
    have record : t.link d = (s.link d).reported f echo run held := by
      rw [← inputs, only.link, link_sensed, link_setLink_same]
    rw [taken.link, show State.link { t with axes } d = t.link d from rfl, record]
    exact idle
  rw [takeFrame_eq]
  dsimp only
  rw [chunk, inputs]
  dsimp only
  rw [response_of_idle still]

/-! ### What an uplink frame may write -/

/-- The block of a doorway's link, and the encoder registers of its axes. -/
def uplinkRegs (d : Nat) : List Nat :=
  (List.range 16).flatMap (fun i => (List.range 32).map (fun j => key (0x3A00 + 0x10 * d + i) j))
    ++ [3 * d, 3 * d + 1, 3 * d + 2].flatMap (fun a => [Ax.ENCODER_ERRORS a, Ax.ANGLE_STATE a])

theorem LinkReg.mem_uplinkRegs {d k : Nat} (h : LinkReg d k) (sub : k % 256 < 32) : k ∈ uplinkRegs d := by
  unfold LinkReg at h
  refine List.mem_append_left _ (List.mem_flatMap.mpr ⟨k / 256 % 16, List.mem_range.mpr (by omega),
    List.mem_map.mpr ⟨k % 256, List.mem_range.mpr sub, ?_⟩⟩)
  unfold key
  omega

/-- The registers that a frame writes of the link. -/
def frameRegs (d : Nat) : List Nat := errorRegs d ++ statusRegs d ++ [Lk.LINK_STATE d, Lk.LINK_STATUS d] ++ receiverRegs d

/-- A register that the link's state and the receiver's readouts do not show in. -/
theorem not_mem_lateRegs {d k : Nat} (h : k = Lk.FRAMES_OK d ∨ k = Lk.NODE_STATE d) :
    k ∉ [Lk.LINK_STATE d, Lk.LINK_STATUS d] ∧ k ∉ receiverRegs d := by
  simp only [receiverRegs, Lk.FRAMES_OK, Lk.NODE_STATE, Lk.LINK_STATE, Lk.LINK_STATUS, Lk.CTLE_PEAKING, Lk.DFE_TAP1, Lk.DFE_TAP2, Lk.EYE_MARGIN, key,
    List.mem_cons, List.not_mem_nil, or_false] at h ⊢
  omega

theorem linkState_not_mem_statusRegs (d : Nat) : Lk.LINK_STATE d ∉ statusRegs d := by
  simp only [statusRegs, Lk.FRAMES_OK, Lk.UP_SEQ_GAPS, Lk.NODE_STATE, Lk.NODE_HELD, Lk.NODE_SUBSTITUTED, Lk.ECHO_MISMATCHES, Lk.LINK_STATE, key,
    List.mem_cons, List.not_mem_nil, or_false]
  omega

theorem linkState_not_mem_receiverRegs (d : Nat) : Lk.LINK_STATE d ∉ receiverRegs d := by
  simp only [receiverRegs, Lk.LINK_STATE, Lk.CTLE_PEAKING, Lk.DFE_TAP1, Lk.DFE_TAP2, Lk.EYE_MARGIN, key, List.mem_cons, List.not_mem_nil, or_false]
  omega

theorem linkReg_of_mem_frameRegs {d k : Nat} (h : k ∈ frameRegs d) : LinkReg d k ∧ k % 256 < 32 := by
  simp only [frameRegs, errorRegs, statusRegs, receiverRegs, List.cons_append, List.nil_append, List.mem_cons, List.not_mem_nil, or_false,
    Lk.CRC_ERRORS, Lk.CODE_ERRORS, Lk.FRAMING_ERRORS, Lk.TIMING_ERRORS, Lk.FRAMES_OK, Lk.UP_SEQ_GAPS, Lk.NODE_STATE, Lk.NODE_HELD,
    Lk.NODE_SUBSTITUTED, Lk.ECHO_MISMATCHES, Lk.LINK_STATE, Lk.LINK_STATUS, Lk.CTLE_PEAKING, Lk.DFE_TAP1, Lk.DFE_TAP2, Lk.EYE_MARGIN, key] at h
  unfold LinkReg
  omega

theorem not_mem_statusRegs {d k : Nat} (h : k / 256 ≠ 0x3A02 + 0x10 * d ∧ k / 256 ≠ 0x3A00 + 0x10 * d) : k ∉ statusRegs d := by
  simp only [statusRegs, Lk.FRAMES_OK, Lk.UP_SEQ_GAPS, Lk.NODE_STATE, Lk.NODE_HELD, Lk.NODE_SUBSTITUTED, Lk.ECHO_MISMATCHES, key, List.mem_cons,
    List.not_mem_nil, or_false]
  omega

theorem mem_uplinkRegs_of_mem_frameRegs {d k : Nat} (h : k ∈ frameRegs d) : k ∈ uplinkRegs d := by
  obtain ⟨block, sub⟩ := linkReg_of_mem_frameRegs h
  exact block.mem_uplinkRegs sub

theorem mem_uplinkRegs_of_mem_axesOf {s : State} {d k : Nat} (h : k ∈ (axesOf s d).flatMap uplinkAxisRegs) : k ∈ uplinkRegs d := by
  obtain ⟨a, mem, reg⟩ := List.mem_flatMap.mp h
  obtain ⟨-, own⟩ := axis_of_mem_axesOf mem
  refine List.mem_append_right _ (List.mem_flatMap.mpr ⟨a, ?_, reg⟩)
  unfold doorOf at own
  simp only [List.mem_cons, List.not_mem_nil, or_false]
  omega

theorem LinkReg.not_mem_uplinkAxisRegs {s : State} {d e k : Nat} (h : LinkReg e k) : k ∉ (axesOf s d).flatMap uplinkAxisRegs := by
  intro mem
  obtain ⟨a, mem, reg⟩ := List.mem_flatMap.mp mem
  obtain ⟨hd, own⟩ := axis_of_mem_axesOf mem
  have small : a < 48 := by
    unfold doorOf at own
    omega
  have axis : AxisReg k := by
    simp only [uplinkAxisRegs, List.mem_cons, List.not_mem_nil, or_false] at reg
    rcases reg with rfl | rfl <;> exact axisReg_key small (by decide) (by decide)
  exact axis.ne_linkReg h rfl

/-! ### A valid frame from its receipt to the receiver's readouts -/

/-- The state with the records that a frame writes. -/
def State.uplinked (s : State) (d : Nat) (l : Link) (c : Contacts) (x : Door) (safety : Safety) (axes : Store Axis) : State :=
  { (s.setLink d l).sensed d c x safety with axes }

/-- What a frame leaves in `t`: the records of the link, the contacts and the doorway, the axes, the safety state, and the counters of the link. The
link had the record `y` before the frame, and the rest was as in `s`. -/
structure FrameTaken (d : Nat) (f : UpFrame) (y : Link) (s t : State) : Prop where
  records : ∃ (echo : List Nat) (run held : Nat) (c : Contacts) (x : Door) (safety : Safety) (axes : Store Axis),
    OnlyEvents (s.uplinked d (y.reported f echo run held) c x safety axes) t
      ∧ c.rawA = f.inputsA % 256 ∧ c.rawB = (255 - f.inputsBInv % 256) % 256 ∧ x.dcLast = 10 * f.dcCurrent.toNat
  regs : KeepsRegs (uplinkRegs d) s t
  counted : t.rdn (Lk.FRAMES_OK d) = min (s.rdn (Lk.FRAMES_OK d) + 1) max32
  state : t.rdn (Lk.NODE_STATE d) = if f.status / 64 % 8 < 4 then f.status / 64 % 8 else s.rdn (Lk.NODE_STATE d)
  link : linkState t d = if linkState s d = lReady ∧ s.holds = true ∧ f.status / 64 % 8 = 2 then lUp else linkState s d
  others : ∀ a, a ∉ axesOf s d → t.axis a = s.axis a
  axes : ∀ a ∈ axesOf s d, (f.axes.getD (roleOf a) {}).encErr = false →
    (s.axis a).Took (t.axis a) s.now (s.pn (Ax.MOTOR_TYPE a) == 1) (f.axes.getD (roleOf a) {})

/-- What the end of a frame, the link's state and the receiver's readouts, leaves of what the parts before it wrote. -/
theorem frameEnd_keeps (u : State) (d : Nat) (f : UpFrame) {v : State} (ends : (u.linkRaised d f).receiverRead d = v) :
    OnlyEvents u v ∧ KeepsRegs (uplinkRegs d) u v ∧ v.rdn (Lk.FRAMES_OK d) = u.rdn (Lk.FRAMES_OK d)
      ∧ v.rdn (Lk.NODE_STATE d) = u.rdn (Lk.NODE_STATE d)
      ∧ linkState v d = if linkState u d = lReady ∧ u.holds = true ∧ f.status / 64 % 8 = 2 then lUp else linkState u d := by
  have raised := keepsRegs_linkRaised u d f
  have read := keepsRegs_receiverRead (u.linkRaised d f) d
  have kept : ∀ {k}, LinkReg d k → k = Lk.FRAMES_OK d ∨ k = Lk.NODE_STATE d → v.rdn k = u.rdn k := by
    intro k block shown
    obtain ⟨outState, outReceiver⟩ := not_mem_lateRegs shown
    rw [← ends, read.rdn outReceiver block.not_mem_wiredRegs, raised.rdn outState block.not_mem_wiredRegs]
  refine ⟨?_, ?_, kept (linkReg_framesOk d) (.inl rfl), kept (linkReg_nodeState d) (.inr rfl), ?_⟩
  · exact ends ▸ (onlyEvents_receiverRead (u.linkRaised d f) d).trans (onlyDict_linkRaised u d f).onlyEvents
  · have state := raised.mono fun k hk => mem_uplinkRegs_of_mem_frameRegs (List.mem_append_left _ (List.mem_append_right _ hk))
    exact ends ▸ state.trans (read.mono fun k hk => mem_uplinkRegs_of_mem_frameRegs (List.mem_append_right _ hk))
  · rw [← ends, linkState, read.rdn (linkState_not_mem_receiverRegs d) (linkReg_linkState d).not_mem_wiredRegs, ← linkState,
      linkState_linkRaised]

theorem frameTaken_takeFrame {s : State} {d : Nat} {f : UpFrame} (chunk : f.chunk = none) (idle : (s.link d).out = none) :
    FrameTaken d f (s.link d) s (s.takeFrame d f) := by
  obtain ⟨keepsStatus, framesOk, nodeState⟩ := keepsRegs_takeStatus s d f
  obtain ⟨echo, run, held, c, x, safety, only, rawA, rawB, current, dict⟩ := inputsTaken_writes s d f
  rw [takeFrame_plain chunk idle rfl]
  generalize s.takeStatus d f = r at *
  generalize s.inputsTaken d f = t at *
  obtain ⟨⟨store, taken⟩, keepsAxes, others, each⟩ := axesTaken_writes (nodup_axesOf t d) t f (s.link d).missing
  generalize t.axesTaken (axesOf t d) f (s.link d).missing = u at *
  generalize ends : (u.linkRaised d f).receiverRead d = v
  obtain ⟨last, keepsEnd, endFrames, endState, endLink⟩ := frameEnd_keeps u d f ends
  have toInputs : KeepsRegs (statusRegs d) s t := keepsStatus.of_dict dict
  have now : t.now = s.now := by rw [only.now, now_sensed, State.setLink_now]
  have eff : t.eff = s.eff := by rw [only.eff, eff_sensed, State.setLink_eff]
  have part : t.part = s.part := by rw [only.part, part_sensed, State.setLink_part]
  have axis : ∀ a, t.axis a = s.axis a := fun a => by rw [only.axis, axis_sensed, axis_of_axes (State.setLink_axes ..)]
  have straps : t.rd Gl.STRAPS = s.rd Gl.STRAPS := toInputs _ (not_mem_statusRegs (by simp only [Gl.STRAPS, key]; omega)) (by decide)
  have list : axesOf t d = axesOf s d := axesOf_congr part eff straps d
  have kept : ∀ {k}, LinkReg d k → u.rdn k = t.rdn k := fun block => keepsAxes.rdn block.not_mem_uplinkAxisRegs block.not_mem_wiredRegs
  have ended : ∀ a, v.axis a = u.axis a := fun a => axis_of_axes (congrArg State.axes last) a
  refine { records := ?records, regs := ?regs, counted := ?counted, state := ?state, link := ?link, others := ?others, axes := ?axes }
  case records =>
    have inputs : State.sansEvents { t with axes := store } = (s.uplinked d ((s.link d).reported f echo run held) c x safety store).sansEvents :=
      (congrArg (fun u : State => ({ u with axes := store } : State).sansEvents) only).trans rfl
    exact ⟨echo, run, held, c, x, safety, store, last.trans (taken.onlyEvents.trans inputs), rawA, rawB, current⟩
  case regs =>
    have inputs := toInputs.mono fun k hk =>
      mem_uplinkRegs_of_mem_frameRegs (List.mem_append_left _ (List.mem_append_left _ (List.mem_append_right _ hk)))
    exact (inputs.trans (keepsAxes.mono fun k hk => mem_uplinkRegs_of_mem_axesOf hk)).trans keepsEnd
  case counted => rw [endFrames, kept (linkReg_framesOk d), rdn_of_dict dict, framesOk]
  case state => rw [endState, kept (linkReg_nodeState d), rdn_of_dict dict, nodeState]
  case link =>
    have same : linkState u d = linkState s d :=
      (kept (linkReg_linkState d)).trans (toInputs.rdn (linkState_not_mem_statusRegs d) (linkReg_linkState d).not_mem_wiredRegs)
    have holds : u.holds = s.holds := by
      rw [taken.holds, show State.holds { t with axes := store } = t.holds from rfl, only.holds, holds_sensed]
      rfl
    rw [endLink, same, holds]
  case others =>
    intro a out
    rw [ended, others a (list ▸ out), axis]
  case axes =>
    intro a mem good
    have took := each a (list ▸ mem) good
    rwa [axis, now, State.pn, p_of_eff eff, ← ended] at took

/-! ### What the records read after a frame -/

section
variable {s t : State} {d : Nat} {l : Link} {c : Contacts} {x : Door} {safety : Safety} {axes : Store Axis}

theorem uplinked_eq (s : State) (d : Nat) (l : Link) (c : Contacts) (x : Door) (safety : Safety) (axes : Store Axis) :
    s.uplinked d l c x safety axes =
      { s with links := putD {} s.links d l, axes, doors := putD {} s.doors d x, contacts := putD {} s.contacts d c, safety } := by
  simp only [State.uplinked, State.sensed, State.setLink, State.setCon, State.setDoor]

theorem uplinked_fields (h : OnlyEvents (s.uplinked d l c x safety axes) t) :
    t.links = putD {} s.links d l ∧ t.contacts = putD {} s.contacts d c ∧ t.doors = putD {} s.doors d x ∧ t.axes = axes ∧ t.safety = safety :=
  ⟨congrArg State.links h, congrArg State.contacts h, congrArg State.doors h, congrArg State.axes h, congrArg State.safety h⟩

theorem uplinked_records (h : OnlyEvents (s.uplinked d l c x safety axes) t) : t.link d = l ∧ t.con d = c ∧ t.door d = x := by
  obtain ⟨links, contacts, doors, -, -⟩ := uplinked_fields h
  exact ⟨(link_of_links (s := s.setLink d l) links d).trans (link_setLink_same ..),
    (con_of_contacts (s := s.setCon d c) contacts d).trans (con_setCon_same ..),
    (door_of_doors (s := s.setDoor d x) doors d).trans (door_setDoor_same ..)⟩

theorem uplinked_others (h : OnlyEvents (s.uplinked d l c x safety axes) t) {e : Nat} (he : e ≠ d) :
    t.link e = s.link e ∧ t.door e = s.door e ∧ t.con e = s.con e := by
  obtain ⟨links, contacts, doors, -, -⟩ := uplinked_fields h
  exact ⟨(link_of_links (s := s.setLink d l) links e).trans (link_setLink_ne he ..),
    (door_of_doors (s := s.setDoor d x) doors e).trans (door_setDoor_ne he ..),
    (con_of_contacts (s := s.setCon d c) contacts e).trans (con_setCon_ne he ..)⟩

theorem onlyEvents_of_uplinked (h : OnlyEvents (s.uplinked d l c x safety axes) t) :
    OnlyEvents { s with links := t.links, axes := t.axes, doors := t.doors, contacts := t.contacts, safety := t.safety } t := by
  obtain ⟨links, contacts, doors, stored, safe⟩ := uplinked_fields h
  rw [uplinked_eq, ← links, ← contacts, ← doors, ← stored, ← safe] at h
  exact h

end

/-- The record of a link, written by a frame's receipt and written again by the frame. -/
theorem onlyDict_uplinked {s r : State} {d : Nat} {y : Link} (h : OnlyDict (s.setLink d y) r) (l : Link) (c : Contacts) (x : Door) (safety : Safety)
    (axes : Store Axis) : OnlyDict (s.uplinked d l c x safety axes) (r.uplinked d l c x safety axes) := by
  have again : (s.setLink d y).setLink d l = s.setLink d l := by simp [State.setLink]
  have moved : OnlyDict ((s.setLink d y).uplinked d l c x safety axes) (r.uplinked d l c x safety axes) :=
    congrArg (State.uplinked · d l c x safety axes) h
  rwa [State.uplinked, again] at moved

/-! ### The three outcomes of a frame -/

theorem intact_errors {last : Option Nat} {f : UpFrame} (h : upIntact last f = true) :
    sofMisplaced last f.sof = false ∧ (!f.codeOk) = false ∧ (f.crc != crc32 (upBytes f)) = false := by
  simp only [upIntact, sofOk, Bool.and_eq_true, decide_eq_true_eq, beq_iff_eq] at h
  obtain ⟨⟨⟨code, place, -⟩, crc⟩, -⟩ := h
  cases last with
  | none => simp at place
  | some l =>
    simp only [Option.map_some, Option.some.injEq] at place
    simp [sofMisplaced, ← place, code, crc]

/-- A frame that is intact counts no error but its lateness (R158). -/
theorem keepsRegs_received_intact {s : State} {d : Nat} {f : UpFrame} (intact : upIntact (s.link d).lastSof f = true) :
    KeepsRegs [Lk.TIMING_ERRORS d] s (s.received d f) := by
  obtain ⟨sof, code, crc⟩ := intact_errors intact
  have late := ((KeepsRegs.refl [Lk.TIMING_ERRORS d] s).of_dict (State.setLink_dict s d { s.link d with lastSof := some f.sof })).countIf f.late
    (List.mem_singleton_self _)
  rw [received_eq_countIf, sof, code, crc]
  exact late

theorem mem_errorRegs {d : Nat} {f : UpFrame} {misplaced : Bool} {reg : Nat} {bad : Bool}
    (h : (reg, bad) ∈ [(Lk.CRC_ERRORS d, f.crc != crc32 (upBytes f)), (Lk.CODE_ERRORS d, !f.codeOk), (Lk.FRAMING_ERRORS d, misplaced)]) :
    reg ∈ errorRegs d := by
  simp only [List.mem_cons, List.not_mem_nil, or_false, Prod.mk.injEq] at h
  rcases h with ⟨rfl, -⟩ | ⟨rfl, -⟩ | ⟨rfl, -⟩ <;> simp [errorRegs]

/-- A frame that is not valid leaves its SOF with the link, and registers. -/
theorem onlyRegs_of_setLink {s u : State} {d : Nat} {y : Link} (h : OnlyDict (s.setLink d y) u) (q : List Instr) :
    (u.settle q).link d = y ∧ OnlyRegs { s with links := putD {} s.links d y } (u.settle q) := by
  refine ⟨?_, (settle_sansRegs u q).trans ((congrArg State.sansRegs h).trans rfl)⟩
  rw [link_settle, h.link, link_setLink_same]

theorem FrameTaken.of_received {d : Nat} {f : UpFrame} {y : Link} {s r t : State} (h : FrameTaken d f y r t) (only : OnlyDict (s.setLink d y) r)
    (keeps : KeepsRegs [Lk.TIMING_ERRORS d] s r) : FrameTaken d f y s t := by
  have own : ∀ {k : Nat}, LinkReg d k → k ≠ Lk.TIMING_ERRORS d → r.rdn k = s.rdn k :=
    fun block ne => keeps.rdn (List.mem_singleton.not.mpr ne) block.not_mem_wiredRegs
  have framesOk := own (linkReg_framesOk d) (key_ne_of_sub (by decide))
  have nodeState := own (linkReg_nodeState d) (key_ne_of_sub (by decide))
  have state : linkState r d = linkState s d := own (linkReg_linkState d) (key_ne_of_sub (by decide))
  have straps : r.rd Gl.STRAPS = s.rd Gl.STRAPS :=
    keeps _ (List.mem_singleton.not.mpr (by simp only [Gl.STRAPS, Lk.TIMING_ERRORS, key]; omega)) (by decide)
  have eff : r.eff = s.eff := only.eff.trans (State.setLink_eff ..)
  have now : r.now = s.now := only.now.trans (State.setLink_now ..)
  have holds : r.holds = s.holds := only.holds.trans rfl
  have list : axesOf r d = axesOf s d := axesOf_congr (only.part.trans (State.setLink_part ..)) eff straps d
  have axis : ∀ a, r.axis a = s.axis a := fun a => (only.axis a).trans (axis_of_axes (State.setLink_axes ..) a)
  obtain ⟨echo, run, held, c, x, safety, axes, records, rawA, rawB, current⟩ := h.records
  refine { records := ?records, regs := ?regs, counted := ?counted, state := ?state, link := ?link, others := ?others, axes := ?axes }
  case records =>
    exact ⟨echo, run, held, c, x, safety, axes, records.trans (onlyDict_uplinked only _ c x safety axes).onlyEvents, rawA, rawB, current⟩
  case regs =>
    have late : ∀ k ∈ [Lk.TIMING_ERRORS d], k ∈ uplinkRegs d := fun k hk => mem_uplinkRegs_of_mem_frameRegs (by simp_all [frameRegs, errorRegs])
    exact (keeps.mono late).trans h.regs
  case counted => rw [h.counted, framesOk]
  case state => rw [h.state, nodeState]
  case link => rw [h.link, state, holds]
  case others =>
    intro a out
    rw [h.others a (list ▸ out), axis]
  case axes =>
    intro a mem good
    have took := h.axes a (list ▸ mem) good
    rwa [axis, now, State.pn, p_of_eff eff] at took

/-- The registers of a frame of another port's ROLE. -/
theorem mismatch_regs {d : Nat} {s r : State} (keeps : KeepsRegs [Lk.TIMING_ERRORS d] s r) {u : State}
    (counts : (r.count (Lk.PORT_MISMATCHES d)).latch (Lk.LINK_STATUS d) 9 (Lk.PORT_MISMATCH_REPEATS d) = u) :
    u.rdn (Lk.PORT_MISMATCHES d) = min (s.rdn (Lk.PORT_MISMATCHES d) + 1) max32 ∧ u.bit (Lk.LINK_STATUS d) 9 = true
      ∧ KeepsRegs [Lk.PORT_MISMATCHES d, Lk.LINK_STATUS d, Lk.PORT_MISMATCH_REPEATS d, Lk.TIMING_ERRORS d] s u := by
  have status : Lk.PORT_MISMATCHES d ≠ Lk.LINK_STATUS d := key_ne_of_sub (by decide)
  have repeats : Lk.PORT_MISMATCHES d ≠ Lk.PORT_MISMATCH_REPEATS d := key_ne_of_sub (by decide)
  have apart : Lk.LINK_STATUS d ≠ Lk.PORT_MISMATCH_REPEATS d := key_ne_of_sub (by decide)
  have late : Lk.PORT_MISMATCHES d ∉ [Lk.TIMING_ERRORS d] := List.mem_singleton.not.mpr (key_ne_of_sub (by decide))
  have counted : (r.count (Lk.PORT_MISMATCHES d)).rdn (Lk.PORT_MISMATCHES d) = _ := rdn_countIf_same _ true _
  have all : KeepsRegs [Lk.PORT_MISMATCHES d, Lk.LINK_STATUS d, Lk.PORT_MISMATCH_REPEATS d, Lk.TIMING_ERRORS d] s (r.count (Lk.PORT_MISMATCHES d)) :=
    (keeps.mono (by simp)).wr (by simp) _
  rw [← counts]
  refine ⟨?_, bit_latch_same apart .., all.latch (by simp) (by simp) 9⟩
  rw [State.rdn, rd_latch_ne status repeats, ← State.rdn, counted, keeps.rdn late (linkReg_portMismatches d).not_mem_wiredRegs, if_pos rfl]

/-- Settles O37: a frame is received by `received`, and a valid one is taken by `takeFrame`, whose parts write what `FrameTaken` says. -/
theorem uplinkFrames : Obligations.UplinkFrames := by
  intro s d f hd operating data
  have run := exec_uplinkFrame hd operating data f
  have received := onlyDict_received s d f
  refine ⟨fun bad => ?broken, fun intact foreign => ?mismatch, fun intact mine chunk idle => ?valid⟩
  case broken =>
    rw [if_pos bad] at run
    obtain ⟨link, only⟩ := onlyRegs_of_setLink received s.pending
    refine ⟨_, run, fun reg bad h => ?_, link, (keepsRegs_received s d f).trans (.settle _ fun _ _ => rfl), link ▸ only⟩
    have own : LinkReg d reg := (linkReg_of_mem_frameRegs (by simp [frameRegs, mem_errorRegs h])).1
    rw [rdn_settle own.not_mem_wiredRegs, rdn_received s d f h]
  case mismatch =>
    rw [if_neg (by simp [intact]), if_pos foreign] at run
    obtain ⟨counted, flag, keeps⟩ := mismatch_regs (keepsRegs_received_intact intact) rfl
    obtain ⟨-, only⟩ := onlyRegs_of_setLink
      ((received.wr (Lk.PORT_MISMATCHES d) _).latch (Lk.LINK_STATUS d) 9 (Lk.PORT_MISMATCH_REPEATS d)) s.pending
    exact ⟨_, run, (rdn_settle (linkReg_portMismatches d).not_mem_wiredRegs ..).trans counted,
      (bit_settle (linkReg_linkStatus d).not_mem_wiredRegs ..).trans flag, keeps.trans (.settle _ fun _ _ => rfl), only⟩
  case valid =>
    have record : (s.received d f).link d = { s.link d with lastSof := some f.sof } := (received.link d).trans (link_setLink_same ..)
    have taken := frameTaken_takeFrame (s := s.received d f) chunk (by rw [record]; exact idle)
    rw [record] at taken
    replace taken := taken.of_received received (keepsRegs_received_intact intact)
    rw [if_neg (by simp [intact]), if_neg (not_not.mpr mine)] at run
    obtain ⟨echo, runs, held, c, x, safety, axes, only, rawA, rawB, current⟩ := taken.records
    have whole := (settle_sansEvents _ s.pending).trans only
    obtain ⟨link, con, door⟩ := uplinked_records whole
    refine ⟨_, run, (rdn_settle (linkReg_framesOk d).not_mem_wiredRegs ..).trans taken.counted,
      (rdn_settle (linkReg_nodeState d).not_mem_wiredRegs ..).trans taken.state, congrArg Link.outputsRb link, congrArg Link.nodeTemp link,
      congrArg Link.dcVoltage link, congrArg Link.got link, congrArg Link.missing link, congrArg Link.status link, congrArg Link.upSeq link,
      (rdn_settle (linkReg_linkState d).not_mem_wiredRegs ..).trans taken.link, (congrArg Contacts.rawA con).trans rawA,
      (congrArg Contacts.rawB con).trans rawB, (congrArg Door.dcLast door).trans current, fun a mem good => ?axes, fun a other => ?others,
      fun e he => uplinked_others whole he, taken.regs.trans (.settle _ fun _ _ => rfl), onlyEvents_of_uplinked whole⟩
    case axes =>
      obtain ⟨streak, y0, y1⟩ := taken.axes a mem good
      rw [axis_settle]
      exact ⟨streak, fun x streams => streams ▸ ⟨y0, y1⟩⟩
    case others => rw [axis_settle, taken.others a fun mem => other (axis_of_mem_axesOf mem).2]

end Sys2Proof.Machine

namespace Sys2Proof.Machine

/-!
What a dictionary access leaves of the state beside its registers (R36, R37, R428, R429, R433, R439): the whole of it, but for the access's own
parts (`State.sansAccess`). A write that reaches its entry ends as its effect has left the state, whatever path it came by.
-/

/-! ### Ports and the mirror's queue -/

theorem sansAccess_send (s : State) (e : Egress) : (s.send e).sansAccess = s.sansAccess := rfl

theorem sansAccess_mirrorSend (s : State) (type : Nat) (data : List ByteN) (item : Option (Nat × Nat)) :
    (s.mirrorSend type data item).sansAccess = s.sansAccess := by
  unfold State.mirrorSend
  split
  · rfl
  · rfl

theorem dict_mirrorSend (s : State) (type : Nat) (data : List ByteN) (item : Option (Nat × Nat)) : (s.mirrorSend type data item).dict = s.dict := by
  unfold State.mirrorSend
  split
  · rfl
  · rfl

/-! ### Arrival -/

/-- A session without what a valid request marks in it. -/
def Session.unmarked (x : Session) : Session := { x with counter := 0, lastValid := 0 }

theorem sansAccess_with_sessions {s : State} {sessions : List Session} (h : sessions.map Session.unmarked = s.sessions.map Session.unmarked) :
    State.sansAccess { s with sessions } = s.sansAccess :=
  congrArg (fun x => { s.sansAccess with sessions := x }) h

theorem sansAccess_admitted (s : State) (via : Via) (cls : Nat) (content : Nat × Nat × Val × Option Seg) :
    (s.admitted via cls content).sansAccess = s.sansAccess := by
  have counted : (s.countRx via).sansAccess = s.sansAccess := by
    unfold State.countRx
    split
    · split
      · rfl
      · rfl
    all_goals rfl
  have slots : ∀ (t : State) (owns : Bool), (t.countSlots owns).sansAccess = t.sansAccess := by
    intro t owns
    unfold State.countSlots State.slotPeak State.raiseMax
    split
    · rfl
    · split
      · rfl
      · rfl
  unfold State.admitted
  dsimp only
  split
  · exact (slots ..).trans counted
  · exact (slots ..).trans counted

theorem sansAccess_touch (s : State) (index : Nat) : (s.touch index).sansAccess = s.sansAccess := by
  unfold State.touch
  dsimp only
  split
  · split
    · rfl
    · rfl
  · split
    · split
      · rfl
      · rfl
    · rfl

/-- A message that goes on to its entry marks its session (R433). -/
theorem frontMsg_go {m : Msg} {cls : Nat} {content : Nat × Nat × Val × Option Seg} {s u : State} (h : frontMsg m cls content s = .go u) :
    u = State.touch { s with sessions := s.sessions.map fun (x : Session) =>
      if x.num = m.session then { x with counter := m.counter, lastValid := s.now } else x } content.1 := by
  unfold frontMsg at h
  dsimp only at h
  split at h
  · cases h
  split at h
  · cases h
  split at h
  · cases h
  split at h
  · cases h
  · exact (Front.go.inj h).symm

theorem sansAccess_frontMsg {m : Msg} {cls : Nat} {content : Nat × Nat × Val × Option Seg} {s u : State} (h : frontMsg m cls content s = .go u) :
    u.sansAccess = s.sansAccess := by
  rw [frontMsg_go h, sansAccess_touch]
  refine sansAccess_with_sessions (List.map_map.trans (List.map_congr_left fun x _ => ?_))
  dsimp only [Function.comp_apply]
  split
  · rfl
  · rfl

/-- A request that goes on to its entry leaves the state as it was, but for the access's own parts. -/
theorem sansAccess_front {via : Via} {cls : Nat} {content : Nat × Nat × Val × Option Seg} {s u : State} (h : front via cls content s = .go u) :
    u.sansAccess = s.sansAccess := by
  have admitted := sansAccess_admitted s via cls content
  unfold front at h
  extract_lets at h
  split at h
  · cases h
  split at h
  · cases h
  split at h
  · cases h
  replace h := eq_go_of_free h
  cases via with
  | mirror =>
    rw [← Front.go.inj h]
    exact (sansAccess_touch ..).trans admitted
  | sdo =>
    simp only at h
    split at h
    · cases h
    · rw [← Front.go.inj h]
      exact (sansAccess_touch ..).trans admitted
  | pdo =>
    simp only at h
    split at h
    · rw [← Front.go.inj h]
      exact (sansAccess_touch ..).trans admitted
    · cases h
  | msg m => exact (sansAccess_frontMsg h).trans admitted

/-! ### Answer -/

theorem length_leBytes (n v : Nat) : (leBytes n v).length = n := by
  induction n generalizing v with
  | zero => rfl
  | succ n ih => rw [leBytes, List.length_cons, ih]

/-- A number's value goes out in one mirror message (R351). -/
theorem length_valueBytes_le (k : Nat) (v : Int) : (valueBytes k v).length ≤ 33 := by
  unfold valueBytes
  split
  · next r _ =>
    rw [length_leBytes]
    cases r.ty <;> decide
  · exact Nat.zero_le _

theorem sansAccess_mirrorWrite {s : State} {k : Nat} {bs : List ByteN} (short : bs.length ≤ 33 ∨ mirrored s k = false) (via : Via) :
    (s.mirrorWrite via k bs).sansAccess = s.sansAccess := by
  unfold State.mirrorWrite
  split
  · rfl
  · next own =>
    rw [if_neg (by simp only [not_or] at own; have := short.resolve_right own.2; omega)]
    exact sansAccess_mirrorSend ..

theorem sansAccess_reply (via : Via) (cls : Nat) (content : Nat × Nat × Val × Option Seg) (ab : Nat) (s : State) :
    (reply via cls content ab s).sansAccess = s.sansAccess := by
  cases via <;> rfl

/-! ### A write that reaches its entry -/

/-- `t` is left by an accepted write whose effect left `w`. -/
structure Accepted (w t : State) : Prop where
  answer : t.answer = some 0
  rd : ∀ k, k ∉ accessRegs → k ∉ wiredRegs → t.rd k = w.rd k
  same : t.sansAccess = w.sansAccess

@[simp] theorem settle_sansAccess (t : State) (q : List Instr) : (t.settle q).sansAccess = t.sansAccess :=
  settle_blind (f := State.sansAccess) (fun _ _ _ _ _ => rfl) t q

theorem accepted_reply {w : State} {k : Nat} {bs : List ByteN} (short : bs.length ≤ 33 ∨ mirrored w k = false) (via : Via) (cls : Nat)
    (content : Nat × Nat × Val × Option Seg) (q : List Instr) : Accepted w ((reply via cls content 0 (w.mirrorWrite via k bs)).settle q) where
  answer := (settle_answer ..).trans (answer_reply ..)
  rd _ ha hw := (rd_settle hw ..).trans (((accessBlind_rd ha).reply ..).trans ((accessBlind_rd ha).mirrorWrite ..))
  same := (settle_sansAccess ..).trans ((sansAccess_reply ..).trans (sansAccess_mirrorWrite short via))

theorem accepted_writeNum {via : Via} {index sub : Nat} {v n : Int} {lv : Option (Level → Bool)} {s u w : State}
    (reach : Reaches via index sub v lv s u n) {e : Effect} (ok : e n u = .ok w) (refused : State → State) (q : List Instr) :
    Accepted w ((writeNum via index sub (.num v) lv refused e s).settle q) := by
  rw [writeNum_accepted reach ok]
  exact accepted_reply (.inl (length_valueBytes_le ..)) ..

theorem writeBytes_accepted {via : Via} {index sub : Nat} {bs : List ByteN} {s u w : State} (reach : ReachesBytes via index sub bs s u)
    {e : List ByteN → State → Except Nat State} (ok : e bs u = .ok w) :
    writeBytes via index sub (.bytes bs) none none e s
      = reply via (requestClass index sub false) (index, sub, .bytes bs, none) 0 (w.mirrorWrite via (key index sub) bs) := by
  obtain ⟨arrives, row, rma, inside⟩ := reach
  cases found : exists_ index sub u with
  | error ab => simp [found] at row
  | ok r =>
    simp only [found] at row
    obtain ⟨level, writable, varies⟩ := row
    have allowed : (via == .mirror || levelMayWrite r.acc (levelOf via u)) = true := by simpa using level
    simp [writeBytes, arrives, found, allowed, writable, varies, rma, inside, ok]

theorem accepted_writeBytes {via : Via} {index sub : Nat} {bs : List ByteN} {s u w : State} (reach : ReachesBytes via index sub bs s u)
    {e : List ByteN → State → Except Nat State} (ok : e bs u = .ok w) (own : mirrored w (key index sub) = false) (q : List Instr) :
    Accepted w ((writeBytes via index sub (.bytes bs) none none e s).settle q) := by
  rw [writeBytes_accepted reach ok]
  exact accepted_reply (.inr own) ..

/-- Behind an accepted write, the registers outside the effect's and the access's read as before. -/
theorem Accepted.keepsRegs {via : Via} {cls : Nat} {content : Nat × Nat × Val × Option Seg} {s u w t : State} (h : Accepted w t)
    (arrives : front via cls content s = .go u) {ks : List Nat} (effect : ∀ k, k ∉ ks → w.rd k = u.rd k) : KeepsRegs (ks ++ accessRegs) s t := by
  intro k hk hw
  obtain ⟨own, access⟩ := not_or.mp (List.mem_append.not.mp hk)
  rw [h.rd k access hw, effect k own, (accessBlind_rd access).front arrives]

/-! ### Parts of the state that a command writes

`put s t` is `s` with the parts of `t` that a command may write. The end of the command writes none of them but the token's line. -/

section
variable {put : State → State → State} {s u : State}

theorem onlyRegs_settle (comm : ∀ s t, (put s t).sansRegs = put s.sansRegs t.sansRegs) (h : OnlyRegs (put s u) u) (q : List Instr) :
    OnlyRegs (put s (u.settle q)) (u.settle q) := by
  rw [OnlyRegs, comm, settle_sansRegs, ← comm]
  exact h

theorem onlyEvents_settle (comm : ∀ s t, (put s t).sansEvents = put s.sansEvents t.sansEvents) (h : OnlyEvents (put s u) u) (q : List Instr) :
    OnlyEvents (put s (u.settle q)) (u.settle q) := by
  rw [OnlyEvents, comm, settle_sansEvents, ← comm]
  exact h

/-- The same behind any end that leaves the access's own parts and registers only. -/
theorem onlyAccess_of_same (comm : ∀ s t, (put s t).sansAccess = put s.sansAccess t.sansAccess) (h : OnlyAccess (put s u) u) {t : State}
    (same : t.sansAccess = u.sansAccess) : OnlyAccess (put s t) t := by
  rw [OnlyAccess, comm, same, ← comm]
  exact h

end

end Sys2Proof.Machine

namespace Sys2Proof.Machine

/-!
Envelopes and backgrounds (R205, R206, R213, R216, R218): the window's writes, the commits, a processed frame, a failed sensor, a learning.
-/

/-! ### Leaves and sensors -/

@[simp] theorem leaf_setLeaf_same (s : State) (a : Nat) (x : Leaf) : (s.setLeaf a x).leaf a = x := getD_putD_same ..

theorem leaf_setLeaf_ne {a b : Nat} (h : b ≠ a) (s : State) (x : Leaf) : (s.setLeaf a x).leaf b = s.leaf b := getD_putD_ne h ..

@[simp] theorem sensor_setSensor_same (s : State) (n : Nat) (x : Sensor) : (s.setSensor n x).sensor n = x := getD_putD_same ..

theorem sensor_setSensor_ne {n m : Nat} (h : m ≠ n) (s : State) (x : Sensor) : (s.setSensor n x).sensor m = s.sensor m := getD_putD_ne h ..

theorem leaf_of_leaves {s t : State} (h : t.leaves = s.leaves) (a : Nat) : t.leaf a = s.leaf a := by rw [State.leaf, h, State.leaf]

theorem sensor_of_sensors {s t : State} (h : t.sensors = s.sensors) (n : Nat) : t.sensor n = s.sensor n := by rw [State.sensor, h, State.sensor]

theorem leaf_of_sansAccess {s t : State} (h : t.sansAccess = s.sansAccess) (a : Nat) : t.leaf a = s.leaf a :=
  leaf_of_leaves (congrArg State.leaves h :) a

theorem sensor_of_sansAccess {s t : State} (h : t.sansAccess = s.sansAccess) (n : Nat) : t.sensor n = s.sensor n :=
  sensor_of_sensors (congrArg State.sensors h :) n

@[simp] theorem leaf_settle (t : State) (q : List Instr) (a : Nat) : (t.settle q).leaf a = t.leaf a :=
  settle_blind (f := (State.leaf · a)) (fun _ _ _ _ _ => rfl) t q

@[simp] theorem sensor_settle (t : State) (q : List Instr) (n : Nat) : (t.settle q).sensor n = t.sensor n :=
  settle_blind (f := (State.sensor · n)) (fun _ _ _ _ _ => rfl) t q

/-- No entry behind the axes' ones is a wired register. -/
theorem sensorKey_not_mem_wiredRegs (n sub : Nat) : key (0x3820 + n) sub ∉ wiredRegs := fun m =>
  (by decide : ∀ j ∈ wiredRegs, j < 256 * 0x3820) _ m |>.not_ge (by unfold key; omega)

/-- A register of the depth sensors' entries, 0x3820 to 0x383F. -/
abbrev SensorReg (k : Nat) : Prop := 256 * 0x3820 ≤ k ∧ k < 256 * 0x3840

theorem SensorReg.not_mem_wiredRegs {k : Nat} (h : SensorReg k) : k ∉ wiredRegs := fun m => (by decide : ∀ j ∈ wiredRegs, ¬ SensorReg j) k m h

theorem SensorReg.not_mem_accessRegs {k : Nat} (h : SensorReg k) : k ∉ accessRegs := fun m => (by decide : ∀ j ∈ accessRegs, ¬ SensorReg j) k m h

theorem SensorReg.not_mem_eventRegs {k : Nat} (h : SensorReg k) : k ∉ eventRegs := fun m => (by decide : ∀ j ∈ eventRegs, ¬ SensorReg j) k m h

theorem sensorReg_key {n sub : Nat} (hn : n < 32) (hs : sub < 256) : SensorReg (key (0x3820 + n) sub) := by
  simp only [SensorReg, key]
  omega

theorem sensorReg_bgState {n : Nat} (hn : n < 32) : SensorReg (Sn.BG_STATE n) := sensorReg_key hn (by decide)

theorem sensorReg_sensorStatus {n : Nat} (hn : n < 32) : SensorReg (Sn.SENSOR_STATUS n) := sensorReg_key hn (by decide)

theorem sensorReg_bgValidPixels {n : Nat} (hn : n < 32) : SensorReg (Sn.BG_VALID_PIXELS n) := sensorReg_key hn (by decide)

/-! ### The envelope window (R205) -/

/-- The window's entries are not shared with the partner (R350). -/
theorem mirrored_envData (s : State) : mirrored s (key 0x3900 2) = false := by
  have row : (match rowOf (key 0x3900 2 / 256) (key 0x3900 2 % 256) with | some r => r.persist && (r.acc == .rw || r.acc == .rwm) | none => false) = false := by
    decide
  simp only [mirrored]
  rw [Bool.and_eq_false_imp]
  intro shared
  rw [Bool.and_eq_true] at shared
  exact absurd (row.symm.trans shared.2) (by decide)

theorem envDataEffect_accepted {s : State} {bs : List ByteN} (size : bs.length = 1024) (leaf : isLeaf s (envSelected s).1 = true)
    (isOpen : windowOpen s (doorOf (envSelected s).1) = true) :
    envDataEffect bs s = .ok (s.leafAct (envSelected s).1 (.write (!(envSelected s).2) (envOfBytes 256 bs))) := by
  simp [envDataEffect, size, leaf, isOpen]

theorem envCommandEffect_accepted {s : State} {n : Int} (command : n ≠ 0) (leaf : isLeaf s (envSelected s).1 = true)
    (isOpen : windowOpen s (doorOf (envSelected s).1) = true) :
    envCommandEffect n s
      = .ok (s.leafAct (envSelected s).1 (if n = 2 then .reset true true else .reset (envSelected s).2 (!(envSelected s).2))) := by
  simp [envCommandEffect, command, leaf, isOpen]

theorem envSelected_front {via : Via} {cls : Nat} {content : Nat × Nat × Val × Option Seg} {s u : State} (arrives : front via cls content s = .go u) :
    envSelected u = envSelected s := by
  rw [envSelected, State.rdn, (accessBlind_rd (k := Gl.ENV_SELECT) (by decide)).front arrives, ← State.rdn, ← envSelected]

/-- What an accepted write of the window leaves: its act waits for the next door tick, behind those before it. -/
theorem window_accepted {via : Via} {cls : Nat} {content : Nat × Nat × Val × Option Seg} {s u t : State} (arrives : front via cls content s = .go u)
    {a : Nat} {act : LeafAct} (accepted : Accepted (u.leafAct a act) t) :
    t.leaf a = { s.leaf a with acts := (s.leaf a).acts ++ [act] } ∧ (∀ b, b ≠ a → t.leaf b = s.leaf b) ∧ KeepsRegs accessRegs s t
      ∧ OnlyAccess { s with leaves := t.leaves } t := by
  have before := sansAccess_front arrives
  have old := leaf_of_sansAccess before
  have leaf := leaf_of_sansAccess accepted.same
  refine ⟨?_, fun b hb => ?_, accepted.keepsRegs arrives (ks := []) fun _ _ => rfl, ?_⟩
  · rw [leaf, State.leafAct, leaf_setLeaf_same, old]
  · rw [leaf, State.leafAct, leaf_setLeaf_ne hb, old]
  · refine onlyAccess_of_same (put := fun s t => { s with leaves := t.leaves }) (fun _ _ => rfl) ?_ accepted.same
    exact congrArg (fun x : State => { x with leaves := (u.leafAct a act).leaves }) before

/-! ### Commits (R206, R217) -/

theorem sendItem_eq (s : State) (kind inst : Nat) : ∃ type data item, s.sendItem kind inst = s.mirrorSend type data item := by
  unfold State.sendItem
  split <;> exact ⟨_, _, _, rfl⟩

theorem sansAccess_sendItem (s : State) (kind inst : Nat) : (s.sendItem kind inst).sansAccess = s.sansAccess := by
  obtain ⟨type, data, item, e⟩ := sendItem_eq s kind inst
  rw [e, sansAccess_mirrorSend]

theorem dict_sendItem (s : State) (kind inst : Nat) : (s.sendItem kind inst).dict = s.dict := by
  obtain ⟨type, data, item, e⟩ := sendItem_eq s kind inst
  rw [e, dict_mirrorSend]

/-- The holder sends the copies that have changed. -/
def State.sendCopies (s : State) (copies : List (Nat × Nat)) : State := if s.holds then copies.foldl (fun s i => s.sendItem i.1 i.2) s else s

theorem sansAccess_sendCopies (s : State) (copies : List (Nat × Nat)) : (s.sendCopies copies).sansAccess = s.sansAccess := by
  unfold State.sendCopies
  split
  · exact foldl_keeps State.sansAccess (fun s i => sansAccess_sendItem s i.1 i.2) copies s
  · rfl

theorem dict_sendCopies (s : State) (copies : List (Nat × Nat)) : (s.sendCopies copies).dict = s.dict := by
  unfold State.sendCopies
  split
  · exact foldl_keeps State.dict (fun s i => dict_sendItem s i.1 i.2) copies s
  · rfl

theorem gens_newCopy (s : State) (kind inst j : Nat) : getD 0 (s.newCopy kind inst).duplex.gens j
    = if j = 1000 * kind + inst then getD 0 s.duplex.gens j + 1 else getD 0 s.duplex.gens j := by
  have written : (s.newCopy kind inst).duplex.gens
      = putD 0 s.duplex.gens (1000 * kind + inst) (getD 0 s.duplex.gens (1000 * kind + inst) + 1) := rfl
  rw [written]
  split
  · next e => rw [e, getD_putD_same]
  · next e => exact getD_putD_ne e ..

/-- A leaf's commit, with the generations of its two envelopes (R349). -/
def State.leafCommitted (s : State) (a : Nat) : State := ((s.commitLeaf a).newCopy 0 (2 * a)).newCopy 0 (2 * a + 1)

/-- A sensor's commit, with the generation of its background (R349). -/
def State.sensorCommitted (s : State) (n : Nat) : State := (s.commitSensor n).newCopy 1 n

theorem onlyAccess_leafCommitted (s : State) (a : Nat) : OnlyAccess
    { s with leaves := (s.leafCommitted a).leaves, leafCommits := (s.leafCommitted a).leafCommits, duplex := { s.duplex with gens := (s.leafCommitted a).duplex.gens } }
    (s.leafCommitted a) := rfl

theorem onlyAccess_sensorCommitted (s : State) (n : Nat) : OnlyAccess
    { s with sensors := (s.sensorCommitted n).sensors, duplex := { s.duplex with gens := (s.sensorCommitted n).duplex.gens } } (s.sensorCommitted n) := rfl

theorem gens_leafCommitted (s : State) (a j : Nat) : getD 0 (s.leafCommitted a).duplex.gens j
    = if j ∈ [2 * a, 2 * a + 1] then getD 0 s.duplex.gens j + 1 else getD 0 s.duplex.gens j := by
  have before : (s.commitLeaf a).duplex.gens = s.duplex.gens := rfl
  rw [State.leafCommitted, gens_newCopy, gens_newCopy, before]
  simp only [List.mem_cons, List.not_mem_nil, or_false, Nat.mul_zero, Nat.zero_add]
  by_cases first : j = 2 * a
  · rw [if_neg (by omega), if_pos first, if_pos (.inl first)]
  · simp only [first, if_false, false_or]

theorem exec_envelopeCommit_leaf {s : State} {a : Nat} (ha : a < 48) (changed : (s.leaf a).commitBy.isSome = true) :
    exec (.envelopeCommit a) s = done s ((s.leafCommitted a).sendCopies [(0, 2 * a), (0, 2 * a + 1)]) :=
  congrArg (done s) ((if_pos ha).trans (if_pos changed))

theorem exec_envelopeCommit_sensor {s : State} {n : Nat} (hn : n < 32) (changed : (s.sensor n).commitBy.isSome = true) :
    exec (.envelopeCommit (48 + n)) s = done s ((s.sensorCommitted n).sendCopies [(1, n)]) := by
  show execEnvelopeCommit (48 + n) s = _
  unfold execEnvelopeCommit
  rw [if_neg (by omega), if_pos (by omega)]
  simp only [Nat.add_sub_cancel_left, changed, if_true]
  rfl

/-- What a leaf's commit leaves, whether its copies are sent or not. -/
theorem leafCommitted_sent (s : State) (a : Nat) (copies : List (Nat × Nat)) (q : List Instr) :
    KeepsRegs [] s (((s.leafCommitted a).sendCopies copies).settle q)
      ∧ (((s.leafCommitted a).sendCopies copies).settle q).sansAccess = (s.leafCommitted a).sansAccess :=
  ⟨.settle q fun _ _ => rd_of_dict (dict_sendCopies ..) _, (settle_sansAccess ..).trans (sansAccess_sendCopies ..)⟩

theorem sensorCommitted_sent (s : State) (n : Nat) (copies : List (Nat × Nat)) (q : List Instr) :
    KeepsRegs [] s (((s.sensorCommitted n).sendCopies copies).settle q)
      ∧ (((s.sensorCommitted n).sendCopies copies).settle q).sansAccess = (s.sensorCommitted n).sansAccess :=
  ⟨.settle q fun _ _ => rd_of_dict (dict_sendCopies ..) _, (settle_sansAccess ..).trans (sansAccess_sendCopies ..)⟩

/-! ### A processed frame (R213, R217, R218) -/

/-- The counts of a box depend on the parameters in force alone. -/
theorem boxCounts_eff (s : State) (n i : Nat) (ws : List Nat) (bg : List (Option Nat)) :
    boxCounts s n i ws bg = boxCounts { eff := s.eff } n i ws bg := by
  induction ws generalizing i bg with
  | nil => rfl
  | cons w ws ih =>
    simp only [boxCounts, ih]
    rfl

theorem rd_raiseMax_ne {j k : Nat} (h : j ≠ k) (s : State) (v : Int) : (s.raiseMax k v).rd j = s.rd j := by
  unfold State.raiseMax
  split
  · exact rd_wr_ne h s v
  · rfl

theorem raiseMax_blind {α : Type} {f : State → α} (h : RegBlind f) (s : State) (k : Nat) (v : Int) : f (s.raiseMax k v) = f s := by
  unfold State.raiseMax
  split
  · exact h s _
  · rfl

/-- Without the frames of the sensor, with the frame's wait in DEPTH_WAIT_MAX. -/
def State.frameTaken (s : State) (f : DepthFrame) : State :=
  State.raiseMax { s with depthQueue := s.depthQueue.filter (fun g => g.n != f.n) } Gl.DEPTH_WAIT_MAX (min 65535 (20 * (s.now - f.arrived)) : Nat)

/-- The counts of a frame's box, as the sensor shows them. -/
def State.boxShown (s : State) (n occ inv : Nat) : State :=
  (((s.wrn (Sn.OCCUPIED_PIXELS n) occ).wrn (Sn.INVALID_PIXELS n) inv).count (Sn.FRAMES_PROCESSED n)).setB (Sn.SENSOR_STATUS n) 0
    (decide (s.pn (Sn.MIN_PIXELS n) ≤ occ))

/-- A frame that is processed shows the counts of its box; its sensor may track, learn and recover (R216 to R218). -/
theorem exec_depthFrameProcessed {s : State} {f : DepthFrame} (next : nextFrame s = some f) : ∃ (x : Sensor) (u shown : State),
    x.lastFrame = some s.now
      ∧ shown = ((s.frameTaken f).boxShown f.n (boxCounts s f.n 0 f.pixels (s.sensor f.n).bg).1
        (boxCounts s f.n 0 f.pixels (s.sensor f.n).bg).2.1).setSensor f.n x
      ∧ (u = shown ∨ u = shown.setB (Sn.SENSOR_STATUS f.n) 1 false) ∧ exec .depthFrameProcessed s = done s u := by
  have eff : (s.frameTaken f).eff = s.eff := raiseMax_blind (f := State.eff) (fun _ _ => rfl) ..
  have sensors : (s.frameTaken f).sensors = s.sensors := raiseMax_blind (f := State.sensors) (fun _ _ => rfl) ..
  have now : (s.frameTaken f).now = s.now := raiseMax_blind (f := State.now) (fun _ _ => rfl) ..
  have run : exec .depthFrameProcessed s = execDepthFrameProcessed s := rfl
  rw [boxCounts_eff s, ← eff, ← boxCounts_eff (s.frameTaken f), ← sensor_of_sensors sensors, ← now, run, execDepthFrameProcessed]
  simp only [next]
  apply Exists.intro
  refine ⟨_, _, ?last, rfl, ?ends, rfl⟩
  case ends =>
    apply Or.symm
    apply ite_eq_or_eq
  case last => rfl

/-- The registers that a processed frame of a sensor writes. -/
def frameRegsOf (n : Nat) : List Nat :=
  [Gl.DEPTH_WAIT_MAX, Sn.OCCUPIED_PIXELS n, Sn.INVALID_PIXELS n, Sn.FRAMES_PROCESSED n, Sn.SENSOR_STATUS n]

theorem occupiedPixels_ne_sensorStatus (n : Nat) : Sn.OCCUPIED_PIXELS n ≠ Sn.SENSOR_STATUS n := key_ne_of_sub (by decide)

theorem framesProcessed_ne_sensorStatus (n : Nat) : Sn.FRAMES_PROCESSED n ≠ Sn.SENSOR_STATUS n := key_ne_of_sub (by decide)

section
variable (s : State) (n occ inv : Nat)

theorem rdn_occupiedPixels_boxShown : (s.boxShown n occ inv).rdn (Sn.OCCUPIED_PIXELS n) = occ := by
  have inv_ne : Sn.OCCUPIED_PIXELS n ≠ Sn.INVALID_PIXELS n := key_ne_of_sub (by decide)
  have frames_ne : Sn.OCCUPIED_PIXELS n ≠ Sn.FRAMES_PROCESSED n := key_ne_of_sub (by decide)
  rw [State.rdn, State.boxShown, State.setB, rd_wr_ne (occupiedPixels_ne_sensorStatus n), State.count, State.addSat, rd_wr_ne frames_ne, State.wrn, rd_wr_ne inv_ne,
    State.wrn, rd_wr_same]
  rfl

theorem bit_occupied_boxShown : (s.boxShown n occ inv).bit (Sn.SENSOR_STATUS n) 0 = decide (s.pn (Sn.MIN_PIXELS n) ≤ occ) := bit_setB_same ..

theorem rdn_framesProcessed_boxShown : (s.boxShown n occ inv).rdn (Sn.FRAMES_PROCESSED n) = min (s.rdn (Sn.FRAMES_PROCESSED n) + 1) max32 := by
  have inv_ne : Sn.FRAMES_PROCESSED n ≠ Sn.INVALID_PIXELS n := key_ne_of_sub (by decide)
  have occ_ne : Sn.FRAMES_PROCESSED n ≠ Sn.OCCUPIED_PIXELS n := key_ne_of_sub (by decide)
  rw [State.rdn, State.boxShown, State.setB, rd_wr_ne (framesProcessed_ne_sensorStatus n), rd_count, if_pos rfl, State.rdn, State.wrn, rd_wr_ne inv_ne,
    State.wrn, rd_wr_ne occ_ne]
  rfl

theorem sensorFailed_boxShown : sensorFailed (s.boxShown n occ inv) n = sensorFailed s n := by
  have inv_ne : Sn.SENSOR_STATUS n ≠ Sn.INVALID_PIXELS n := key_ne_of_sub (by decide)
  have occ_ne : Sn.SENSOR_STATUS n ≠ Sn.OCCUPIED_PIXELS n := key_ne_of_sub (by decide)
  rw [sensorFailed, State.boxShown, bit_setB_bit_ne (by decide), State.count, State.addSat, bit_wr_ne (framesProcessed_ne_sensorStatus n).symm, State.wrn,
    bit_wr_ne inv_ne, State.wrn, bit_wr_ne occ_ne, sensorFailed]

theorem rd_boxShown {k : Nat} (hk : k ∉ frameRegsOf n) : (s.boxShown n occ inv).rd k = s.rd k := by
  simp only [frameRegsOf, List.mem_cons, List.not_mem_nil, or_false, not_or] at hk
  obtain ⟨-, hocc, hinv, hframes, hstatus⟩ := hk
  rw [State.boxShown, State.setB, rd_wr_ne hstatus, State.count, State.addSat, rd_wr_ne hframes, State.wrn, rd_wr_ne hinv, State.wrn, rd_wr_ne hocc]

theorem boxShown_blind {α : Type} {f : State → α} (h : RegBlind f) : f (s.boxShown n occ inv) = f s := h s _

theorem rd_frameTaken {k : Nat} (h : k ≠ Gl.DEPTH_WAIT_MAX) (f : DepthFrame) : (s.frameTaken f).rd k = s.rd k := rd_raiseMax_ne h ..

end

/-- What a processed frame leaves: `u` behind the box's counts in `v`, and perhaps the end of a failure. -/
structure FrameShown (s : State) (f : DepthFrame) (u : State) : Prop where
  occupied : u.rdn (Sn.OCCUPIED_PIXELS f.n) = (boxCounts s f.n 0 f.pixels (s.sensor f.n).bg).1
  reaches : u.bit (Sn.SENSOR_STATUS f.n) 0 = decide (s.pn (Sn.MIN_PIXELS f.n) ≤ (boxCounts s f.n 0 f.pixels (s.sensor f.n).bg).1)
  counted : u.rdn (Sn.FRAMES_PROCESSED f.n) = min (s.rdn (Sn.FRAMES_PROCESSED f.n) + 1) max32
  good : sensorFailed s f.n = false → sensorFailed u f.n = false
  keeps : ∀ k, k ∉ frameRegsOf f.n → u.rd k = s.rd k

theorem frameShown_boxShown (s : State) (f : DepthFrame) {occ inv : Nat} (count : occ = (boxCounts s f.n 0 f.pixels (s.sensor f.n).bg).1) :
    FrameShown s f ((s.frameTaken f).boxShown f.n occ inv) where
  occupied := (rdn_occupiedPixels_boxShown ..).trans count
  reaches := by
    have eff : (s.frameTaken f).eff = s.eff := raiseMax_blind (f := State.eff) (fun _ _ => rfl) ..
    rw [bit_occupied_boxShown, ← count, State.pn, p_of_eff eff, ← State.pn]
  counted := by
    rw [rdn_framesProcessed_boxShown, State.rdn, rd_frameTaken (k := Sn.FRAMES_PROCESSED f.n) s (key_ne_of_sub (by decide)), ← State.rdn]
  good was := by
    rw [sensorFailed_boxShown, sensorFailed, State.bit, rd_frameTaken (k := Sn.SENSOR_STATUS f.n) s (key_ne_of_sub (by decide))]
    exact was
  keeps k hk := by
    rw [rd_boxShown _ _ _ _ hk, rd_frameTaken _ (List.ne_and_not_mem_of_not_mem_cons hk).1]

theorem FrameShown.setSensor {s : State} {f : DepthFrame} {u : State} (h : FrameShown s f u) (n : Nat) (x : Sensor) :
    FrameShown s f (u.setSensor n x) := ⟨h.occupied, h.reaches, h.counted, h.good, h.keeps⟩

/-- The end of the sensor's failure. -/
theorem FrameShown.failureEnds {s : State} {f : DepthFrame} {u : State} (h : FrameShown s f u) :
    FrameShown s f (u.setB (Sn.SENSOR_STATUS f.n) 1 false) where
  occupied := (congrArg Int.toNat (rd_wr_ne (occupiedPixels_ne_sensorStatus _) ..)).trans h.occupied
  reaches := (bit_setB_bit_ne (by decide) ..).trans h.reaches
  counted := (congrArg Int.toNat (rd_wr_ne (framesProcessed_ne_sensorStatus _) ..)).trans h.counted
  good _ := bit_setB_same ..
  keeps k hk := by
    have apart : k ≠ Sn.SENSOR_STATUS f.n := fun e => hk (by simp [frameRegsOf, e])
    exact (rd_wr_ne apart ..).trans (h.keeps k hk)

theorem sansRegs_setSensor (s : State) (n : Nat) (x : Sensor) : (s.setSensor n x).sansRegs = s.sansRegs.setSensor n x := rfl

/-- A processed frame: what it shows, and the sensor and the queue it leaves. -/
theorem frameProcessed {s : State} {f : DepthFrame} (next : nextFrame s = some f) : ∃ (x : Sensor) (u : State), x.lastFrame = some s.now
    ∧ exec .depthFrameProcessed s = done s u ∧ FrameShown s f u
    ∧ u.sansRegs = State.sansRegs (State.setSensor { s with depthQueue := s.depthQueue.filter (fun g => g.n != f.n) } f.n x) := by
  obtain ⟨x, u, shown, last, rfl, ends, run⟩ := exec_depthFrameProcessed next
  have box := (frameShown_boxShown s f (inv := (boxCounts s f.n 0 f.pixels (s.sensor f.n).bg).2.1) rfl).setSensor f.n x
  have taken : (s.frameTaken f).sansRegs = State.sansRegs { s with depthQueue := s.depthQueue.filter (fun g => g.n != f.n) } :=
    raiseMax_blind sansRegs_blind ..
  have parts : ∀ occ inv, (((s.frameTaken f).boxShown f.n occ inv).setSensor f.n x).sansRegs
      = State.sansRegs (State.setSensor { s with depthQueue := s.depthQueue.filter (fun g => g.n != f.n) } f.n x) :=
    fun occ inv => by rw [sansRegs_setSensor, boxShown_blind _ _ _ _ sansRegs_blind, taken, ← sansRegs_setSensor]
  rcases ends with rfl | rfl
  · exact ⟨x, _, last, run, box, parts ..⟩
  · exact ⟨x, _, last, run, box.failureEnds, (setB_blind sansRegs_blind ..).trans (parts ..)⟩

/-! ### A sensor that fails (R218) -/

/-- The sensor has failed, and its event is raised. -/
def State.sensorFails (s : State) (n cond : Nat) : State :=
  ((s.setB (Sn.SENSOR_STATUS n) 1 true).setSensor n { s.sensor n with goodRun := 0 }).raise 0x1381 n cond

theorem code_raise_ne {c k : Nat} (h : k ≠ c) (s : State) (i : Nat) (v : Int) : (s.raise c i v).code k = s.code k := by
  have set : ∀ (t : State) (r : CodeRec), (t.setCode c r).code k = t.code k := fun _ _ => getD_putD_ne h ..
  unfold State.raise
  dsimp only
  split
  · rw [set, code_ecEach]
  · split
    · show (State.code (State.notify _ c i) k) = _
      rw [code_notify, set, code_ecEach]
    · rw [code_ecEach, code_latch, code_count, set, code_notify, set, code_ecEach]

theorem depthDegraded_congr {s t : State} (eff : t.eff = s.eff) (status : ∀ n, n < 32 → t.rd (Sn.SENSOR_STATUS n) = s.rd (Sn.SENSOR_STATUS n)) {d : Nat}
    (hd : d < 16) : depthDegraded t d = depthDegraded s d := by
  have sensor : ∀ n, n < 32 → (sensorEnabled t n && sensorFailed t n) = (sensorEnabled s n && sensorFailed s n) := fun n hn => by
    rw [sensorEnabled, State.pb, p_of_eff eff, sensorFailed, State.bit, status n hn, sensorEnabled, State.pb, sensorFailed, State.bit]
  simp only [depthDegraded, sensorsOf, List.any_cons, List.any_nil, Bool.or_false, sensor (2 * d) (by omega), sensor (2 * d + 1) (by omega), State.pn, p_of_eff eff]

/-- A creep event raises 0x0383 where the doorway is limited, and nothing else. -/
theorem creepEvent_eq (s : State) (d : Nat) : s.creepEvent d = if depthDegraded s d then s.raise 0x0383 d 0 else s := rfl

/-- What a failed sensor leaves, with the event of a close that is limited from now on or without it. -/
structure SensorFailed (s : State) (n : Nat) (u : State) : Prop where
  failed : sensorFailed u n = true
  sensors : u.sensors = (s.setSensor n { s.sensor n with goodRun := 0 }).sensors
  counted : Counted 0x1381 s u
  keeps : ∀ k, k ∉ Sn.SENSOR_STATUS n :: eventRegs → u.rd k = s.rd k
  only : u.sansEvents = (s.setSensor n { s.sensor n with goodRun := 0 }).sansEvents

theorem sensorFailed_sensorFails {n : Nat} (hn : n < 32) (s : State) (cond : Nat) : SensorFailed s n (s.sensorFails n cond) where
  failed := (bit_raise (sensorReg_sensorStatus hn).not_mem_eventRegs ..).trans (bit_setB_same s _ 1 true)
  sensors := (raise_blind (f := State.sensors) (fun _ _ _ _ _ _ => rfl) _ 0x1381 n cond).trans rfl
  counted := counted_raise_of_recd (t := (s.setB (Sn.SENSOR_STATUS n) 1 true).setSensor n { s.sensor n with goodRun := 0 }) rfl 0x1381 n cond
  keeps k hk := by
    obtain ⟨own, event⟩ := List.ne_and_not_mem_of_not_mem_cons hk
    exact (rd_raise event ..).trans (rd_wr_ne own ..)
  only := (raise_blind sansEvents_blind _ 0x1381 n cond).trans rfl

theorem SensorFailed.raise {s : State} {n : Nat} {u : State} (h : SensorFailed s n u) (hn : n < 32) {c : Nat} (other : 0x1381 ≠ c) (i : Nat) (v : Int) :
    SensorFailed s n (u.raise c i v) where
  failed := (bit_raise (sensorReg_sensorStatus hn).not_mem_eventRegs ..).trans h.failed
  sensors := (raise_blind (f := State.sensors) (fun _ _ _ _ _ _ => rfl) ..).trans h.sensors
  counted := by
    rw [Counted, code_raise_ne other]
    exact h.counted
  keeps k hk := (rd_raise (List.ne_and_not_mem_of_not_mem_cons hk).2 ..).trans (h.keeps k hk)
  only := (raise_blind sansEvents_blind ..).trans h.only

/-- A sensor fails, and a close that is limited from now on has its event besides. -/
theorem exec_depthSensorFailed {s : State} {n cond : Nat} (hn : n < 32) (enabled : sensorEnabled s n = true) (good : sensorFailed s n = false)
    (holds : depthCondition s n cond = true) : ∃ u, exec (.depthSensorFailed n cond) s = done s u ∧ SensorFailed s n u
      ∧ (closingRuns s (sensorDoor n) = true → depthDegraded s (sensorDoor n) = false → depthDegraded u (sensorDoor n) = true → Counted 0x0383 s u) := by
  have fails := sensorFailed_sensorFails hn s cond
  have run : exec (.depthSensorFailed n cond) s = done s (if closingRuns s (sensorDoor n) ∧ depthDegraded s (sensorDoor n) = false
      then (s.sensorFails n cond).creepEvent (sensorDoor n) else s.sensorFails n cond) := congrArg (done s) (if_pos ⟨hn, enabled, good, holds⟩)
  by_cases limits : closingRuns s (sensorDoor n) = true ∧ depthDegraded s (sensorDoor n) = false
  · rw [if_pos limits, creepEvent_eq] at run
    by_cases degraded : depthDegraded (s.sensorFails n cond) (sensorDoor n) = true
    · rw [if_pos degraded] at run
      refine ⟨_, run, fails.raise hn (by decide) .., fun _ _ _ => ?_⟩
      have before : (s.sensorFails n cond).code 0x0383 = s.code 0x0383 := code_raise_ne (by decide) _ n cond
      rw [Counted, ← before]
      exact counted_raise ..
    · rw [if_neg degraded] at run
      exact ⟨_, run, fails, fun _ _ now => absurd now degraded⟩
  · rw [if_neg limits] at run
    exact ⟨_, run, fails, fun runs was => absurd ⟨runs, was⟩ limits⟩

theorem depthDegraded_settle {d : Nat} (hd : d < 16) (t : State) (q : List Instr) : depthDegraded (t.settle q) d = depthDegraded t d :=
  depthDegraded_congr (settle_blind (f := State.eff) (fun _ _ _ _ _ => rfl) t q)
    (fun _ hn => rd_settle (sensorReg_sensorStatus hn).not_mem_wiredRegs t q) hd

/-! ### A learning (R216) -/

/-- The sensor's learning begins without readings. -/
def State.learningBegun (s : State) (n : Nat) : State := (s.wr (Sn.BG_STATE n) 1).setSensor n { s.sensor n with learning := some [] }

theorem bgEffect_start {s : State} {n : Nat} (idle : [1, 4, 9, 10].contains (doorState s (sensorDoor n)) = true) :
    bgEffect n 1 s = .ok (s.learningBegun n) := by
  unfold bgEffect
  rw [if_neg (by decide), if_neg (by rw [idle]; decide)]
  rfl

theorem exec_bgLearnStart {n : Nat} (hn : n < 32) (via : Via) (s : State) :
    exec (.bgLearnStart via n) s = done s (writeNum via (0x3820 + n) 1 (.num 1) none id (bgEffect n) s) := congrArg (done s) (if_pos hn)

/-- A learning that ends VALID, with its background in use; `shown` is what BG_VALID_PIXELS shows. -/
def State.bgLearnt (s : State) (n : Nat) (bg : List (Option Nat)) (shown : Nat) : State :=
  ((s.wr (Sn.BG_STATE n) 2).wrn (Sn.BG_VALID_PIXELS n) shown).setSensor n
    { s.sensor n with learning := none, bg, failed := false, commitBy := s.after 100, tracked := some s.now }

/-- A learning that ends FAILED, with the previous background in use. -/
def State.bgLearnFailed (s : State) (n : Nat) : State :=
  (s.wr (Sn.BG_STATE n) 3).setSensor n { s.sensor n with learning := none, failed := true, commitBy := s.after 100 }

theorem bgState_ne_bgValidPixels (n : Nat) : Sn.BG_STATE n ≠ Sn.BG_VALID_PIXELS n := key_ne_of_sub (by decide)

theorem rd_bgLearnt (s : State) (n : Nat) (bg : List (Option Nat)) (shown k : Nat) : (s.bgLearnt n bg shown).rd k
    = if k = Sn.BG_VALID_PIXELS n then (shown : Int) else if k = Sn.BG_STATE n then 2 else s.rd k := by
  rw [State.bgLearnt, rd_of_dict (State.setSensor_dict ..), rd_wrn, rd_wr]

theorem rd_bgLearnFailed (s : State) (n k : Nat) : (s.bgLearnFailed n).rd k = if k = Sn.BG_STATE n then 3 else s.rd k := by
  rw [State.bgLearnFailed, rd_of_dict (State.setSensor_dict ..), rd_wr]

section
variable {s : State} {n : Nat} {fs : List (List Nat)} (run : (s.sensor n).learning = some fs) (full : 64 ≤ fs.length) {bg : List (Option Nat)}
  (learnt : bg = learntBg (s.pn (Sn.MIN_CONFIDENCE n)) fs)
include run full learnt

theorem exec_bgLearnEnd : exec (.bgLearnEnd n) s
    = done s (if (missingBg s n bg).2.2 < (missingBg s n bg).2.1 * 10 then s.bgLearnFailed n else s.bgLearnt n bg (missingBg s n bg).1) := by
  show execBgLearnEnd n s = _
  unfold execBgLearnEnd State.bgLearnFailed State.bgLearnt
  simp only [run, if_neg (Nat.not_lt.mpr full), ← learnt]

end

/-! ### The statement -/

/-- Settles O31: an accepted write is read back behind its access, a commit behind the copies it sends, and a frame, a failure and a learning are
read off the record of their sensor. -/
theorem envelopesAndBackgrounds : Obligations.EnvelopesAndBackgrounds := by
  intro s
  refine ⟨fun via bs u reach size leaf isOpen => ?write, fun via u reach leaf isOpen => ?resetOne, fun via u reach leaf isOpen => ?resetBoth,
    fun a ha changed => ?leafCommit, fun n hn changed => ?sensorCommit, fun f next => ?frame, fun n cond hn enabled good holds => ?fails,
    fun via n hn u reach idle => ?start, fun n hn fs run full bg learnt => ⟨fun enough => ?valid, fun missing => ?failed⟩⟩
  case write =>
    have accepted := accepted_writeBytes reach (envDataEffect_accepted size leaf isOpen) (mirrored_envData _) s.pending
    rw [envSelected_front reach.1] at accepted
    exact ⟨_, rfl, accepted.answer, window_accepted reach.1 accepted⟩
  case resetOne =>
    have accepted := accepted_writeNum reach (envCommandEffect_accepted (by decide) leaf isOpen) id s.pending
    rw [envSelected_front reach.1] at accepted
    obtain ⟨act, -, keeps, only⟩ := window_accepted reach.1 accepted
    exact ⟨_, rfl, accepted.answer, act, keeps, only⟩
  case resetBoth =>
    have accepted := accepted_writeNum reach (envCommandEffect_accepted (by decide) leaf isOpen) id s.pending
    rw [envSelected_front reach.1] at accepted
    obtain ⟨act, -, keeps, only⟩ := window_accepted reach.1 accepted
    exact ⟨_, rfl, accepted.answer, act, keeps, only⟩
  case leafCommit =>
    obtain ⟨keeps, same⟩ := leafCommitted_sent s a [(0, 2 * a), (0, 2 * a + 1)] s.pending
    refine ⟨_, exec_envelopeCommit_leaf ha changed, ?_⟩
    generalize (State.sendCopies _ _).settle _ = t at keeps same ⊢
    have leaf : t.leaf a = { s.leaf a with commitBy := none } := (leaf_of_sansAccess same a).trans (leaf_setLeaf_same ..)
    have commits : t.leafCommits = (s.commitLeaf a).leafCommits := (congrArg State.leafCommits same :)
    have record := (congrArg (getD {} · a) commits).trans (getD_putD_same ..)
    have gens : t.duplex.gens = (s.leafCommitted a).duplex.gens := (congrArg (fun u : State => u.duplex.gens) same :)
    refine ⟨congrArg Leaf.commitBy leaf, (congrArg Leaf.close leaf :), (congrArg Leaf.opn leaf :), congrArg (fun c => c.leaf.close) record,
      congrArg (fun c => c.leaf.opn) record, congrArg (fun c => c.leaf.offset) record, congrArg LeafCommit.stateClose record,
      congrArg LeafCommit.stateOpen record, congrArg LeafCommit.cyclesClose record, congrArg LeafCommit.cyclesOpen record, fun b hb => ?_, ?_, ?_, keeps,
      onlyAccess_of_same (put := fun s t => { s with leaves := t.leaves, leafCommits := t.leafCommits, duplex := { s.duplex with gens := t.duplex.gens } })
        (fun _ _ => rfl) (onlyAccess_leafCommitted s a) same⟩
    · rw [commits]
      exact getD_putD_ne hb ..
    · rw [gens, gens_leafCommitted, if_pos (by simp)]
    · rw [gens, gens_leafCommitted, if_pos (by simp)]
  case sensorCommit =>
    obtain ⟨keeps, same⟩ := sensorCommitted_sent s n [(1, n)] s.pending
    refine ⟨_, exec_envelopeCommit_sensor hn changed, ?_⟩
    generalize (State.sendCopies _ _).settle _ = t at keeps same ⊢
    have sensor := (sensor_of_sansAccess same n).trans (sensor_setSensor_same ..)
    have gens : t.duplex.gens = (s.sensorCommitted n).duplex.gens := (congrArg (fun u : State => u.duplex.gens) same :)
    refine ⟨sensor, ?_, keeps, onlyAccess_of_same (put := fun s t => { s with sensors := t.sensors, duplex := { s.duplex with gens := t.duplex.gens } })
      (fun _ _ => rfl) (onlyAccess_sensorCommitted s n) same⟩
    rw [gens, State.sensorCommitted, gens_newCopy, if_pos rfl]
    rfl
  case frame =>
    obtain ⟨x, u, last, run, shown, parts⟩ := frameProcessed next
    have queue : u.depthQueue = s.depthQueue.filter (fun g => g.n != f.n) := (congrArg State.depthQueue parts :)
    have sensors : u.sensors = (s.setSensor f.n x).sensors := (congrArg State.sensors parts :)
    have wired := sensorKey_not_mem_wiredRegs f.n
    refine ⟨_, run, (settle_blind (f := State.depthQueue) (fun _ _ _ _ _ => rfl) ..).trans queue, (rdn_settle (wired 3) ..).trans shown.occupied,
      (bit_settle (wired 5) ..).trans shown.reaches, (rdn_settle (wired 6) ..).trans shown.counted, ?_, fun m hm => ?_,
      fun was => (bit_settle (wired 5) ..).trans (shown.good was), .settle _ shown.keeps,
      onlyRegs_settle (put := fun s t => { s with depthQueue := t.depthQueue, sensors := t.sensors }) (fun _ _ => rfl) ?_ _⟩
    · rw [sensor_settle, sensor_of_sensors sensors, sensor_setSensor_same, last]
    · rw [sensor_settle, sensor_of_sensors sensors, sensor_setSensor_ne hm]
    · rw [OnlyRegs, parts, queue, sensors]
      rfl
  case fails =>
    obtain ⟨u, ends, failed, creeps⟩ := exec_depthSensorFailed hn enabled good holds
    have wired := (sensorReg_sensorStatus hn).not_mem_wiredRegs
    refine ⟨_, ends, (bit_settle wired ..).trans failed.failed, ?_, counted_settle failed.counted _, fun runs was now => ?_, .settle _ failed.keeps,
      onlyEvents_settle (put := fun s t => { s with sensors := t.sensors }) (fun _ _ => rfl) ?_ _⟩
    · rw [sensor_settle, sensor_of_sensors failed.sensors, sensor_setSensor_same]
    · refine counted_settle (creeps runs was ?_) _
      rw [← now]
      exact (depthDegraded_settle (by unfold sensorDoor; omega) ..).symm
    · rw [OnlyEvents, failed.only, failed.sensors]
      rfl
  case start =>
    have accepted := accepted_writeNum reach (bgEffect_start idle) id s.pending
    have before := sansAccess_front reach.1
    have reg := sensorReg_bgState hn
    refine ⟨_, exec_bgLearnStart hn via s, accepted.answer, ?_, ?_, accepted.keepsRegs reach.1 (ks := [Sn.BG_STATE n]) fun k hk => ?_,
      onlyAccess_of_same (put := fun s t => { s with sensors := t.sensors }) (fun _ _ => rfl) ?_ accepted.same⟩
    · rw [accepted.rd _ reg.not_mem_accessRegs reg.not_mem_wiredRegs]
      exact rd_wr_same u _ 1
    · rw [sensor_of_sansAccess accepted.same, State.learningBegun, sensor_setSensor_same, sensor_of_sansAccess before]
    · exact rd_wr_ne (List.mem_singleton.not.mp hk) u 1
    · exact congrArg (fun x : State => { x with sensors := (u.learningBegun n).sensors }) before
  case valid =>
    have ends := exec_bgLearnEnd run full learnt
    rw [if_neg (Nat.not_lt.mpr enough)] at ends
    refine ⟨_, ends, ?_, ?_, (sensor_settle ..).trans (sensor_setSensor_same ..), .settle _ fun k hk => ?_,
      onlyRegs_settle (put := fun s t => { s with sensors := t.sensors }) (fun _ _ => rfl) rfl _⟩
    · rw [rd_settle (sensorReg_bgState hn).not_mem_wiredRegs, rd_bgLearnt, if_neg (bgState_ne_bgValidPixels n), if_pos rfl]
    · rw [rdn_settle (sensorReg_bgValidPixels hn).not_mem_wiredRegs, State.rdn, rd_bgLearnt, if_pos rfl, Int.toNat_natCast]
    · obtain ⟨hstate, hpixels⟩ := List.ne_and_not_mem_of_not_mem_cons hk
      rw [rd_bgLearnt, if_neg (List.mem_singleton.not.mp hpixels), if_neg hstate]
  case failed =>
    have ends := exec_bgLearnEnd run full learnt
    rw [if_pos missing] at ends
    refine ⟨_, ends, ?_, (sensor_settle ..).trans (sensor_setSensor_same ..), .settle _ fun k hk => ?_,
      onlyRegs_settle (put := fun s t => { s with sensors := t.sensors }) (fun _ _ => rfl) rfl _⟩
    · rw [rd_settle (sensorReg_bgState hn).not_mem_wiredRegs, rd_bgLearnFailed, if_pos rfl]
    · rw [rd_bgLearnFailed, if_neg (List.mem_singleton.not.mp hk)]

end Sys2Proof.Machine

namespace Sys2Proof.Machine

/-!
Mirror messages on a working link (R207, R217, R307, R344, R348, R349, R351, R355): what the receiver keeps, installs or applies, and what becomes of a
message that is not acknowledged.
-/

/-! ### The link's record -/

/-- The end of a command leaves the link's record, but for the token's line. -/
theorem duplex_settle {α : Type} {g : Duplex → α} (h : ∀ (x : Duplex) (v r : Bool), g { x with driving := v, releaseNext := r } = g x) (t : State)
    (q : List Instr) : g (t.settle q).duplex = g t.duplex :=
  settle_blind (f := fun s => g s.duplex) (fun s _ _ v r => h s.duplex v r) t q

theorem not_mem_expect_arrived (s : State) (kind inst : Nat) : (kind, inst) ∉ (s.arrived kind inst).duplex.expect := by
  intro h
  exact absurd (List.mem_filter.mp h).2 (by simp)

theorem leaf_arrived (s : State) (kind inst a : Nat) : (s.arrived kind inst).leaf a = s.leaf a := rfl

theorem sensor_arrived (s : State) (kind inst n : Nat) : (s.arrived kind inst).sensor n = s.sensor n := rfl

theorem door_arrived (s : State) (kind inst d : Nat) : (s.arrived kind inst).door d = s.door d := rfl

theorem rd_arrived (s : State) (kind inst k : Nat) : (s.arrived kind inst).rd k = s.rd k := rfl

theorem rdn_arrived (s : State) (kind inst k : Nat) : (s.arrived kind inst).rdn k = s.rdn k := rfl

theorem egress_settle (t : State) (q : List Instr) : (t.settle q).egress = t.egress := settle_blind (f := State.egress) (fun _ _ _ _ _ => rfl) t q

theorem expect_settle (t : State) (q : List Instr) : (t.settle q).duplex.expect = t.duplex.expect := duplex_settle (g := Duplex.expect) (fun _ _ _ => rfl) t q

theorem outbox_settle (t : State) (q : List Instr) : (t.settle q).duplex.outbox = t.duplex.outbox := duplex_settle (g := Duplex.outbox) (fun _ _ _ => rfl) t q

/-! ### Registers of the doorways -/

theorem doorways_le (s : State) : s.doorways ≤ 16 := by
  unfold State.doorways
  split <;> decide

/-- An entry of a doorway's block is one of the doorways' registers. -/
theorem doorReg_key {d base sub : Nat} (hd : d < 16) (block : 0x3000 ≤ base ∧ base < 0x3040) (hs : sub < 256) : DoorReg (key (base + 0x40 * d) sub) := by
  simp only [DoorReg, key]
  omega

/-! ### Copies, snapshots, moves and the time (R307, R344, R349) -/

section
variable {s : State} (paired : s.paired = true)
include paired

section
variable (partner : s.holds = false)
include partner

theorem exec_nslCopy {n : Nat} (hn : n < 32) (other : isProducer s n = false ∨ n ≠ s.pn Gl.SUMMARY_CONNECTION) (seq ts : Nat) (payload : List ByteN) :
    exec (.nslCopy n seq ts payload) s
      = done s { s with duplex := { s.duplex with copies := place n (seq, ts, payload) (erase n s.duplex.copies) } } := by
  refine congrArg (done s) ((if_neg (by simp [paired, partner, hn])).trans (if_neg fun h => ?_))
  exact other.elim (fun no => absurd (no.symm.trans h.1) Bool.false_ne_true) (fun ne => ne h.2)

theorem exec_move {m : MoveMsg} (hd : m.d < 16) :
    exec (.move m) s = done s { s with duplex := { s.duplex with moves := place m.d m (erase m.d s.duplex.moves) } } :=
  congrArg (done s) (if_neg (by simp [paired, partner, hd]))

theorem exec_time {seconds : Nat} (range : seconds ≤ max32) : exec (.time seconds) s = done s (s.wrn Gl.RTC_TIME seconds) :=
  congrArg (done s) (if_neg (by simp [paired, partner, range]))

end

end

/-- The states of a doorway that a snapshot shows. -/
def State.doorShown (s : State) (x : SnapDoor) : State :=
  (((s.wrn (Dr.STATE x.d) x.state).wrn (Dr.FAULT_CAUSE x.d) x.faultCause).wrn (Dr.RETRY_COUNT x.d) x.retryCount).wrn (Dr.STATUS x.d) x.status

/-- A snapshot kept, with the time of its arrival. -/
def State.snapshotKept (s : State) (l : List SnapDoor) : State := { s with duplex := { s.duplex with snapshot := l, snapAt := some s.now } }

theorem exec_doorSnapshot {s : State} (paired : s.paired = true) (partner : s.holds = false) {x : SnapDoor} (hd : x.d < s.doorways) :
    exec (.doorSnapshot [x]) s = done s ((s.snapshotKept [x]).doorShown x) :=
  congrArg (done s) ((if_neg (by simp [paired, partner])).trans (if_pos hd))

theorem rd_doorShown (s : State) (x : SnapDoor) (k : Nat) : (s.doorShown x).rd k
    = if k = Dr.STATUS x.d then (x.status : Int) else if k = Dr.RETRY_COUNT x.d then x.retryCount else if k = Dr.FAULT_CAUSE x.d then x.faultCause
      else if k = Dr.STATE x.d then x.state else s.rd k := by
  simp only [State.doorShown, rd_wrn]

theorem rdn_doorShown (s : State) (x : SnapDoor) :
    (s.doorShown x).rdn (Dr.STATE x.d) = x.state ∧ (s.doorShown x).rdn (Dr.FAULT_CAUSE x.d) = x.faultCause
      ∧ (s.doorShown x).rdn (Dr.RETRY_COUNT x.d) = x.retryCount ∧ (s.doorShown x).rdn (Dr.STATUS x.d) = x.status := by
  have apart : ∀ {i j m n : Nat}, m % 256 ≠ n % 256 → (key i m = key j n) = False := fun h => eq_false (key_ne_of_sub h)
  simp [State.rdn, rd_doorShown, Dr.STATE, Dr.FAULT_CAUSE, Dr.RETRY_COUNT, Dr.STATUS, apart]

theorem doorShown_blind {α : Type} {f : State → α} (h : RegBlind f) (s : State) (x : SnapDoor) : f (s.doorShown x) = f s := by
  rw [State.doorShown, State.wrn, State.wrn, State.wrn, State.wrn, wr_blind h, wr_blind h, wr_blind h, wr_blind h]

theorem duplex_doorShown (s : State) (x : SnapDoor) : (s.doorShown x).duplex = s.duplex := doorShown_blind (f := State.duplex) (fun _ _ => rfl) s x

theorem onlyRegs_doorShown (s : State) (l : List SnapDoor) (x : SnapDoor) :
    OnlyRegs { s with duplex := ((s.snapshotKept l).doorShown x).duplex } ((s.snapshotKept l).doorShown x) := by
  rw [OnlyRegs, doorShown_blind sansRegs_blind, duplex_doorShown]
  rfl

/-! ### Envelopes (R207) -/

/-- The states and cycle counts of a leaf's envelopes, by direction. -/
def envStateReg (a : Nat) (closing : Bool) : Nat := if closing then Ax.ENV_STATE_CLOSE a else Ax.ENV_STATE_OPEN a
def envCyclesReg (a : Nat) (closing : Bool) : Nat := if closing then Ax.ENV_CYCLES_CLOSE a else Ax.ENV_CYCLES_OPEN a

/-- A leaf with an envelope of the partner. -/
def Leaf.withEnv (x : Leaf) (closing : Bool) (e : Envelope) (offset : Int) : Leaf :=
  { (if closing then { x with close := e } else { x with opn := e }) with offset := 256 * offset }

/-- An envelope of the partner, installed and marked for its commit. -/
def State.envelopeTaken (s : State) (a : Nat) (closing : Bool) (state cycles : Nat) (offset : Int) (e : Envelope) : State :=
  ((((s.setLeaf a ((s.leaf a).withEnv closing e offset)).wrn (envStateReg a closing) state).wrn (envCyclesReg a closing) (min cycles max16)).wr
    (Ax.ENV_OFFSET a) offset).envDirty a

theorem exec_envelope {s : State} (paired : s.paired = true) {a dir state : Nat} (leaf : isLeaf s a = true) (hdir : dir ≤ 1) {bs : List ByteN}
    (size : bs.length = 1024) (learnt : 1 ≤ state) (top : state ≤ 4) (cycles : Nat) (offset : Int) :
    exec (.envelope a dir state cycles offset bs) s
      = done s ((s.envelopeTaken a (dir == 0) state cycles offset (envOfBytes 256 bs)).arrived 0 (2 * a + dir)) := by
  refine congrArg (done s) ((if_neg ?_).trans ?_)
  · rintro (h | h | h | h | h)
    · rw [paired] at h
      cases h
    · rw [leaf] at h
      cases h
    · omega
    · exact h.2 size
    · omega
  · rw [if_neg (Nat.ne_of_gt learnt)]
    rfl

section
variable (s : State) (a : Nat)

theorem leaf_envDirty_same : (s.envDirty a).leaf a
    = { s.leaf a with commitBy := match (s.leaf a).commitBy with | some t => some t | none => s.after 100 } := leaf_setLeaf_same ..

theorem leaf_envDirty_ne {b : Nat} (h : b ≠ a) : (s.envDirty a).leaf b = s.leaf b := leaf_setLeaf_ne h ..

theorem commitBy_envDirty : ((s.envDirty a).leaf a).commitBy.isSome = true := by
  rw [leaf_envDirty_same]
  dsimp only
  split <;> rfl

variable (closing : Bool) (state cycles : Nat) (offset : Int) (e : Envelope)

theorem envOf_envelopeTaken (dir : Bool) :
    envOf ((s.envelopeTaken a closing state cycles offset e).leaf a) dir = if dir = closing then e else envOf (s.leaf a) dir := by
  have installed : ∀ x : Leaf, envOf (x.withEnv closing e offset) dir = if dir = closing then e else envOf x dir := by
    intro x
    cases closing <;> cases dir <;> rfl
  have env : ∀ (x : Leaf) (t : Option Nat), envOf { x with commitBy := t } dir = envOf x dir := fun _ _ => rfl
  rw [State.envelopeTaken, leaf_envDirty_same, env, ← installed (s.leaf a)]
  exact congrArg (envOf · dir) (leaf_setLeaf_same s a _)

theorem leaf_envelopeTaken_ne {b : Nat} (h : b ≠ a) : (s.envelopeTaken a closing state cycles offset e).leaf b = s.leaf b :=
  (leaf_envDirty_ne _ a h).trans (leaf_setLeaf_ne h s _)

theorem rd_envelopeTaken (k : Nat) : (s.envelopeTaken a closing state cycles offset e).rd k
    = if k = Ax.ENV_OFFSET a then offset else if k = envCyclesReg a closing then ((min cycles max16 : Nat) : Int)
      else if k = envStateReg a closing then (state : Int) else s.rd k := by
  have dirty : ∀ t : State, (t.envDirty a).rd k = t.rd k := fun _ => rfl
  rw [State.envelopeTaken, dirty, rd_wr, rd_wrn, rd_wrn]
  rfl

end

/-- Behind an envelope that arrived, the state but for its leaves, its registers and the link's record. -/
theorem onlyRegs_envelopeTaken (s : State) (a : Nat) (closing : Bool) (state cycles : Nat) (offset : Int) (e : Envelope) (kind inst : Nat) {t : State}
    (h : t = (s.envelopeTaken a closing state cycles offset e).arrived kind inst) :
    OnlyRegs { s with leaves := t.leaves, duplex := t.duplex } t := by
  have split : ∀ (t : State) (dict : Store Int) (leaves : Store Leaf), t = { s with dict, leaves } →
      OnlyRegs { s with leaves := (t.arrived kind inst).leaves, duplex := (t.arrived kind inst).duplex } (t.arrived kind inst) := by
    rintro _ dict leaves rfl
    rfl
  exact h ▸ split _ _ _ rfl

theorem axisReg_envStateReg {a : Nat} (ha : a < 48) (closing : Bool) : AxisReg (envStateReg a closing) := by
  cases closing
  · exact axisReg_key ha (by decide) (by decide)
  · exact axisReg_key ha (by decide) (by decide)

theorem axisReg_envOffset {a : Nat} (ha : a < 48) : AxisReg (Ax.ENV_OFFSET a) := axisReg_key ha (by decide) (by decide)

theorem envStateReg_ne (a : Nat) (closing : Bool) : envStateReg a closing ≠ Ax.ENV_OFFSET a ∧ envStateReg a closing ≠ envCyclesReg a closing := by
  cases closing
  · exact ⟨key_ne_of_sub (by decide), key_ne_of_sub (by decide)⟩
  · exact ⟨key_ne_of_sub (by decide), key_ne_of_sub (by decide)⟩

/-! ### Backgrounds (R217) -/

/-- A background of the partner, installed and marked for its commit. -/
def State.backgroundTaken (s : State) (n : Nat) (bg : List (Option Nat)) (shown : Nat) : State :=
  ((s.setSensor n { s.sensor n with bg, commitBy := s.after 100, learning := none }).wr (Sn.BG_STATE n) 2).wrn (Sn.BG_VALID_PIXELS n) shown

theorem exec_background {s : State} (paired : s.paired = true) {n : Nat} (hn : n < 32) {px : List (Option Nat)} (size : px.length = 3072) :
    exec (.background n px) s
      = done s ((s.backgroundTaken n (px.map fun p => p.map (· * 256)) (px.filter (·.isSome)).length).arrived 1 n) :=
  congrArg (done s) (if_neg (by simp [paired, hn, size]))

theorem sensor_backgroundTaken_same (s : State) (n : Nat) (bg : List (Option Nat)) (shown : Nat) :
    (s.backgroundTaken n bg shown).sensor n = { s.sensor n with bg, commitBy := s.after 100, learning := none } := sensor_setSensor_same ..

theorem rd_backgroundTaken (s : State) (n : Nat) (bg : List (Option Nat)) (shown k : Nat) : (s.backgroundTaken n bg shown).rd k
    = if k = Sn.BG_VALID_PIXELS n then (shown : Int) else if k = Sn.BG_STATE n then 2 else s.rd k := by
  rw [State.backgroundTaken, rd_wrn, rd_wr, rd_of_dict (State.setSensor_dict ..)]

/-- Behind a background that arrived, the state but for its sensors, its registers and the link's record. -/
theorem onlyRegs_backgroundTaken (s : State) (n : Nat) (bg : List (Option Nat)) (shown kind inst : Nat) {t : State}
    (h : t = (s.backgroundTaken n bg shown).arrived kind inst) : OnlyRegs { s with sensors := t.sensors, duplex := t.duplex } t := by
  have split : ∀ (t : State) (dict : Store Int) (sensors : Store Sensor), t = { s with dict, sensors } →
      OnlyRegs { s with sensors := (t.arrived kind inst).sensors, duplex := (t.arrived kind inst).duplex } (t.arrived kind inst) := by
    rintro _ dict sensors rfl
    rfl
  exact h ▸ split _ _ _ rfl

/-! ### Learned values (R349) -/

/-- A value that a message carries is written, one that it lacks is not. -/
def State.wrSome (s : State) (k : Nat) : Option Int → State
  | some v => s.wr k v
  | none => s

theorem rd_wrSome (s : State) (k : Nat) (o : Option Int) (j : Nat) : (s.wrSome k o).rd j = if j = k then o.getD (s.rd j) else s.rd j := by
  cases o with
  | none => simp [State.wrSome]
  | some v => exact rd_wr s k j v

theorem wrSome_blind {α : Type} {f : State → α} (h : RegBlind f) (s : State) (k : Nat) (o : Option Int) : f (s.wrSome k o) = f s := by
  cases o with
  | none => rfl
  | some v => exact h s _

/-- The stroke and the closed-switch position of an axis, as the holder learned them. -/
def State.learnedAxis (strokes pos : List Int) (s : State) (a : Nat) : State :=
  (s.wrSome (Ax.STROKE a) strokes[roleOf a]?).wrSome (Ax.CLOSED_SWITCH_POS a) pos[roleOf a]?

/-- A pass over axes in which each writes its own register of an entry from what a message carries. -/
theorem rd_foldl_own {reg : Nat → Nat} {g : State → Nat → State} {o : Nat → Option Int}
    (h : ∀ s a b, (g s b).rd (reg a) = if a = b then (o a).getD (s.rd (reg a)) else s.rd (reg a)) (l : List Nat) (s : State) (a : Nat) :
    (l.foldl g s).rd (reg a) = if a ∈ l then (o a).getD (s.rd (reg a)) else s.rd (reg a) := by
  induction l generalizing s with
  | nil => rfl
  | cons b l ih =>
    rw [List.foldl_cons, ih, h]
    by_cases same : a = b
    · subst same
      cases o a <;> simp
    · simp [same]

theorem rd_stroke_learnedAxes (strokes pos : List Int) (l : List Nat) (s : State) (a : Nat) :
    (l.foldl (State.learnedAxis strokes pos) s).rd (Ax.STROKE a)
      = if a ∈ l then strokes.getD (roleOf a) (s.rd (Ax.STROKE a)) else s.rd (Ax.STROKE a) := by
  rw [List.getD_eq_getElem?_getD]
  refine rd_foldl_own (o := fun a => strokes[roleOf a]?) (fun s a b => ?_) l s a
  rw [State.learnedAxis, rd_wrSome, if_neg (stroke_ne_closedSwitchPos a b), rd_wrSome]
  simp only [stroke_inj]
  split
  · next e => rw [e]
  · rfl

theorem rd_closedSwitchPos_learnedAxes (strokes pos : List Int) (l : List Nat) (s : State) (a : Nat) :
    (l.foldl (State.learnedAxis strokes pos) s).rd (Ax.CLOSED_SWITCH_POS a)
      = if a ∈ l then pos.getD (roleOf a) (s.rd (Ax.CLOSED_SWITCH_POS a)) else s.rd (Ax.CLOSED_SWITCH_POS a) := by
  rw [List.getD_eq_getElem?_getD]
  refine rd_foldl_own (o := fun a => pos[roleOf a]?) (fun s a b => ?_) l s a
  rw [State.learnedAxis, rd_wrSome, rd_wrSome, if_neg (stroke_ne_closedSwitchPos b a).symm]
  simp only [closedSwitchPos_inj]
  split
  · next e => rw [e]
  · rfl

theorem rd_learnedAxes_other {k : Nat} {l : List Nat} (h : k ∉ l.flatMap fun a => [Ax.STROKE a, Ax.CLOSED_SWITCH_POS a]) (strokes pos : List Int)
    (s : State) : (l.foldl (State.learnedAxis strokes pos) s).rd k = s.rd k := by
  induction l generalizing s with
  | nil => rfl
  | cons b l ih =>
    simp only [List.flatMap_cons, List.mem_append, List.mem_cons, List.not_mem_nil, or_false, not_or] at h
    obtain ⟨⟨hstroke, hpos⟩, later⟩ := h
    rw [List.foldl_cons, ih later, State.learnedAxis, rd_wrSome, if_neg hpos, rd_wrSome, if_neg hstroke]

theorem learnedAxes_blind {α : Type} {f : State → α} (h : RegBlind f) (strokes pos : List Int) (l : List Nat) (s : State) :
    f (l.foldl (State.learnedAxis strokes pos) s) = f s :=
  foldl_keeps f (fun _ _ => (wrSome_blind h _ _ _).trans (wrSome_blind h _ _ _)) l s

/-- A doorway's start peaks and its node's serial, as the holder has them. -/
def State.peaksTaken (s : State) (d peakOpen peakClose serial : Nat) : State :=
  (((s.modDoor d fun x => { x with peaksOpen := if peakOpen = 0 then [] else List.replicate 8 peakOpen,
                                   peaksClose := if peakClose = 0 then [] else List.replicate 8 peakClose }).wrn
    (Dr.START_PEAK_OPEN d) peakOpen).wrn (Dr.START_PEAK_CLOSE d) peakClose).wrn (Lk.NODE_SERIAL d) serial

theorem rd_peaksTaken (s : State) (d peakOpen peakClose serial k : Nat) : (s.peaksTaken d peakOpen peakClose serial).rd k
    = if k = Lk.NODE_SERIAL d then (serial : Int) else if k = Dr.START_PEAK_CLOSE d then peakClose else if k = Dr.START_PEAK_OPEN d then peakOpen
      else s.rd k := by
  rw [State.peaksTaken, rd_wrn, rd_wrn, rd_wrn]
  rfl

/-- The learned values of a doorway, taken over. -/
def State.learnedTaken (s : State) (d : Nat) (strokes pos : List Int) (peakOpen peakClose serial : Nat) : State :=
  ((axesOf s d).foldl (State.learnedAxis strokes pos) s).peaksTaken d peakOpen peakClose serial

theorem exec_learned {s : State} (paired : s.paired = true) {d : Nat} (hd : d < s.doorways) (strokes pos : List Int) (peakOpen peakClose serial : Nat) :
    exec (.learned d strokes pos peakOpen peakClose serial) s
      = done s ((s.learnedTaken d strokes pos peakOpen peakClose serial).arrived 2 d) := by
  have axis : State.learnedAxis strokes pos = fun (s : State) a =>
      let s := match strokes[roleOf a]? with | some v => s.wr (Ax.STROKE a) v | none => s
      match pos[roleOf a]? with | some v => s.wr (Ax.CLOSED_SWITCH_POS a) v | none => s := by
    funext s a
    cases h : strokes[roleOf a]? <;> cases g : pos[roleOf a]? <;> simp [State.learnedAxis, State.wrSome, h, g]
  show execLearned d strokes pos peakOpen peakClose serial s = _
  unfold execLearned State.learnedTaken
  rw [if_neg (by simp [paired, hd]), axis]
  rfl

/-- What does not look at the registers reads the peaks' doorways alone. -/
theorem peaksTaken_eq {α : Type} {f : State → α} (h : RegBlind f) (s : State) (d peakOpen peakClose serial : Nat) :
    f (s.peaksTaken d peakOpen peakClose serial)
      = f (s.modDoor d fun x => { x with peaksOpen := if peakOpen = 0 then [] else List.replicate 8 peakOpen,
                                         peaksClose := if peakClose = 0 then [] else List.replicate 8 peakClose }) := by
  rw [State.peaksTaken, State.wrn, State.wrn, State.wrn, wr_blind h, wr_blind h, wr_blind h]

/-- What looks neither at the registers nor at the doorways is blind to learned values. -/
theorem learnedTaken_blind {α : Type} {f : State → α} (reg : RegBlind f) (door : ∀ (s : State) (d : Nat) (g : Door → Door), f (s.modDoor d g) = f s)
    (s : State) (d : Nat) (strokes pos : List Int) (peakOpen peakClose serial : Nat) : f (s.learnedTaken d strokes pos peakOpen peakClose serial) = f s := by
  rw [State.learnedTaken, peaksTaken_eq reg, door, learnedAxes_blind reg]

theorem rd_learnedTaken_axis {d k : Nat} (hd : d < 16) (h : AxisReg k) (s : State) (strokes pos : List Int) (peakOpen peakClose serial : Nat) :
    (s.learnedTaken d strokes pos peakOpen peakClose serial).rd k = ((axesOf s d).foldl (State.learnedAxis strokes pos) s).rd k := by
  have node : k ≠ Lk.NODE_SERIAL d := by
    simp only [AxisReg, Lk.NODE_SERIAL, key] at *
    omega
  have close : k ≠ Dr.START_PEAK_CLOSE d := by
    simp only [AxisReg, Dr.START_PEAK_CLOSE, key] at *
    omega
  have start : k ≠ Dr.START_PEAK_OPEN d := by
    simp only [AxisReg, Dr.START_PEAK_OPEN, key] at *
    omega
  rw [State.learnedTaken, rd_peaksTaken, if_neg node, if_neg close, if_neg start]

theorem rd_stroke_learnedTaken {s : State} {d a : Nat} (h : a ∈ axesOf s d) (strokes pos : List Int) (peakOpen peakClose serial : Nat) :
    (s.learnedTaken d strokes pos peakOpen peakClose serial).rd (Ax.STROKE a) = strokes.getD (roleOf a) (s.rd (Ax.STROKE a)) := by
  rw [rd_learnedTaken_axis (axis_of_mem_axesOf h).1 (axisReg_stroke (lt_of_mem_axesOf h)), rd_stroke_learnedAxes, if_pos h]

theorem rd_closedSwitchPos_learnedTaken {s : State} {d a : Nat} (h : a ∈ axesOf s d) (strokes pos : List Int) (peakOpen peakClose serial : Nat) :
    (s.learnedTaken d strokes pos peakOpen peakClose serial).rd (Ax.CLOSED_SWITCH_POS a) = pos.getD (roleOf a) (s.rd (Ax.CLOSED_SWITCH_POS a)) := by
  rw [rd_learnedTaken_axis (axis_of_mem_axesOf h).1 (axisReg_closedSwitchPos (lt_of_mem_axesOf h)), rd_closedSwitchPos_learnedAxes, if_pos h]

theorem rdn_peaks_learnedTaken (s : State) (d : Nat) (strokes pos : List Int) (peakOpen peakClose serial : Nat) :
    (s.learnedTaken d strokes pos peakOpen peakClose serial).rdn (Dr.START_PEAK_OPEN d) = peakOpen
      ∧ (s.learnedTaken d strokes pos peakOpen peakClose serial).rdn (Dr.START_PEAK_CLOSE d) = peakClose
      ∧ (s.learnedTaken d strokes pos peakOpen peakClose serial).rdn (Lk.NODE_SERIAL d) = serial := by
  have apart : ∀ {i j m n : Nat}, m % 256 ≠ n % 256 → (key i m = key j n) = False := fun h => eq_false (key_ne_of_sub h)
  simp [State.rdn, State.learnedTaken, rd_peaksTaken, Dr.START_PEAK_OPEN, Dr.START_PEAK_CLOSE, Lk.NODE_SERIAL, apart]

/-- A doorway's axes are among its three places. -/
theorem learnedRegs_subset {s : State} {d k : Nat} (h : k ∈ (axesOf s d).flatMap fun a => [Ax.STROKE a, Ax.CLOSED_SWITCH_POS a]) :
    k ∈ [3 * d, 3 * d + 1, 3 * d + 2].flatMap fun a => [Ax.STROKE a, Ax.CLOSED_SWITCH_POS a] := by
  obtain ⟨a, axis, own⟩ := List.mem_flatMap.mp h
  obtain ⟨-, door⟩ := axis_of_mem_axesOf axis
  have place : a = 3 * d ∨ a = 3 * d + 1 ∨ a = 3 * d + 2 := by
    unfold doorOf at door
    omega
  exact List.mem_flatMap.mpr ⟨a, by simpa using place, own⟩

theorem rd_learnedTaken_other {s : State} {d k : Nat}
    (axes : k ∉ [3 * d, 3 * d + 1, 3 * d + 2].flatMap fun a => [Ax.STROKE a, Ax.CLOSED_SWITCH_POS a])
    (door : k ∉ [Dr.START_PEAK_OPEN d, Dr.START_PEAK_CLOSE d, Lk.NODE_SERIAL d]) (strokes pos : List Int) (peakOpen peakClose serial : Nat) :
    (s.learnedTaken d strokes pos peakOpen peakClose serial).rd k = s.rd k := by
  simp only [List.mem_cons, List.not_mem_nil, or_false, not_or] at door
  obtain ⟨hopen, hclose, hserial⟩ := door
  rw [State.learnedTaken, rd_peaksTaken, if_neg hserial, if_neg hclose, if_neg hopen, rd_learnedAxes_other (mt learnedRegs_subset axes)]

/-- Behind learned values that arrived, the state but for its doorways, its registers and the link's record. -/
theorem onlyRegs_learnedTaken (s : State) (d : Nat) (strokes pos : List Int) (peakOpen peakClose serial kind inst : Nat) {t : State}
    (h : t = (s.learnedTaken d strokes pos peakOpen peakClose serial).arrived kind inst) : OnlyRegs { s with doors := t.doors, duplex := t.duplex } t := by
  have split : ∀ t : State, { t.sansRegs with doors := [] } = { s.sansRegs with doors := [] } →
      OnlyRegs { s with doors := (t.arrived kind inst).doors, duplex := (t.arrived kind inst).duplex } (t.arrived kind inst) := by
    intro t same
    exact congrArg (fun x : State => { x with doors := t.doors, duplex := { (t.arrived kind inst).duplex with driving := false, releaseNext := false } }) same
  exact h ▸ split _ (learnedTaken_blind (f := fun x => { x.sansRegs with doors := [] }) (fun _ _ => rfl) (fun _ _ _ => rfl) ..)

theorem door_learnedTaken_ne {d e : Nat} (h : e ≠ d) (s : State) (strokes pos : List Int) (peakOpen peakClose serial : Nat) :
    (s.learnedTaken d strokes pos peakOpen peakClose serial).door e = s.door e := by
  have reg : RegBlind (State.door · e) := fun _ _ => rfl
  rw [State.learnedTaken]
  exact (peaksTaken_eq reg ..).trans ((door_modDoor_ne h ..).trans (learnedAxes_blind reg ..))

/-! ### Writes of the configuration (R351) -/

/-- A write of the partner that was accepted as `w`, with its generation; the answer is not this unit's. -/
def State.configTaken (w : State) (generation : Nat) (answer : Option Nat) : State :=
  { (w.arrived 3 0).wrn Gl.CONFIG_GENERATION (generation % 2 ^ 32) with answer }

/-- A write of the partner that was refused as `w`: CONFIG_UNSYNCED is latched. -/
def State.configUnsynced (w : State) (answer : Option Nat) : State :=
  (State.setB { w.arrived 3 0 with answer } Gl.DUPLEX_STATUS 7 false).latch Gl.DUPLEX_STATUS 10 (Gl.DUPLEX_REPEATS 2)

section
variable {s : State} (paired : s.paired = true) {index sub : Nat} (shared : mirrored s (key index sub) = true) {generation : Nat}
  (other : keepsOwn s (key index sub) generation = false) {v : Int} {w : State} (wrote : w = writeEntry .mirror index sub (.num v) none s)
include paired shared other wrote

theorem exec_mirrorConfigWrite : exec (.mirrorConfigWrite index sub (.num v) generation) s
    = done s (if w.answer = some 0 then w.configTaken generation s.answer
        else (w.configUnsynced s.answer).raise 0x3185 0xFF (65536 * index + sub : Nat)) := by
  show execMirrorConfigWrite index sub (.num v) generation s = _
  unfold execMirrorConfigWrite
  rw [if_neg (by simp [paired]), if_neg (by simp [other])]
  simp only [shared, if_true, ← wrote]
  rfl

end

theorem bit_configUnsynced (w : State) (answer : Option Nat) : (w.configUnsynced answer).bit Gl.DUPLEX_STATUS 10 = true :=
  bit_latch_same (by decide) ..

theorem rd_configUnsynced {k : Nat} (hstatus : k ≠ Gl.DUPLEX_STATUS) (hrepeats : k ≠ Gl.DUPLEX_REPEATS 2) (w : State) (answer : Option Nat) :
    (w.configUnsynced answer).rd k = w.rd k := (rd_latch_ne hstatus hrepeats ..).trans (rd_wr_ne hstatus ..)

theorem configUnsynced_blind {α : Type} {f : State → α} (h : RegBlind f) (w : State) (answer : Option Nat) :
    f (w.configUnsynced answer) = f { w.arrived 3 0 with answer } := (latch_blind h ..).trans (setB_blind h ..)

theorem onlyRegs_configTaken (w : State) (generation : Nat) (answer : Option Nat) :
    OnlyRegs { w with answer := answer, duplex := (w.configTaken generation answer).duplex } (w.configTaken generation answer) := rfl

theorem duplex_configUnsynced_raise (w : State) (answer : Option Nat) (c i : Nat) (v : Int) :
    ((w.configUnsynced answer).raise c i v).duplex = (w.arrived 3 0).duplex :=
  (raise_blind (f := State.duplex) (fun _ _ _ _ _ _ => rfl) ..).trans (configUnsynced_blind (fun _ _ => rfl) ..)

theorem onlyEvents_configUnsynced_raise (w : State) (answer : Option Nat) (c i : Nat) (v : Int) :
    OnlyEvents { w with answer := answer, duplex := ((w.configUnsynced answer).raise c i v).duplex } ((w.configUnsynced answer).raise c i v) := by
  rw [OnlyEvents, raise_blind sansEvents_blind, configUnsynced_blind sansEvents_blind.reg, duplex_configUnsynced_raise]
  rfl

/-! ### Messages that are not acknowledged (R348) -/

theorem mem_enqueue (e : Egress) (l : List Egress) : e ∈ enqueue e l := by
  induction l with
  | nil => exact List.mem_singleton.mpr rfl
  | cons x l ih =>
    unfold enqueue
    split
    · exact List.mem_cons_self
    · exact List.mem_cons_of_mem x ih

/-- A message as it goes out again. -/
def OutMsg.again (m : OutMsg) (now : Nat) : OutMsg := { m with tries := m.tries + 1, next := 0, sentAt := now }

/-- The messages with a tag go out again. -/
def resent (tag now : Nat) (box : List OutMsg) : List OutMsg := box.map fun x => if x.tag = tag then x.again now else x

theorem find_resent {tag : Nat} {box : List OutMsg} {m : OutMsg} (found : box.find? (fun m => m.tag == tag) = some m) (now : Nat) :
    (resent tag now box).find? (fun m => m.tag == tag) = some (m.again now) := by
  have same : ((fun m : OutMsg => m.tag == tag) ∘ fun x => if x.tag = tag then x.again now else x) = fun m => m.tag == tag := by
    funext x
    dsimp only [Function.comp_apply]
    split <;> rfl
  have tagged : m.tag = tag := by simpa using List.find?_some found
  rw [resent, List.find?_map, same, found, Option.map_some, if_pos tagged]

/-- A message goes out again, and is counted. -/
def State.mirrorResent (s : State) (m : OutMsg) (tag : Nat) : State :=
  (State.count { s with duplex := { s.duplex with outbox := resent tag s.now s.duplex.outbox } } Gl.MIRROR_RETRIES).send (.mirror m.tag m.type m.data)

/-- A message is given up, and counted. -/
def State.mirrorGivenUp (s : State) (tag : Nat) : State :=
  State.count { s with duplex := { s.duplex with outbox := s.duplex.outbox.filter (fun (x : OutMsg) => x.tag != tag) } } Gl.MIRROR_SUPERSEDED

theorem rd_mirrorResent (s : State) (m : OutMsg) (tag k : Nat) : (s.mirrorResent m tag).rd k
    = if k = Gl.MIRROR_RETRIES then ((min (s.rdn Gl.MIRROR_RETRIES + 1) max32 : Nat) : Int) else s.rd k :=
  rd_count { s with duplex := { s.duplex with outbox := resent tag s.now s.duplex.outbox } } Gl.MIRROR_RETRIES k

theorem rd_mirrorGivenUp (s : State) (tag k : Nat) : (s.mirrorGivenUp tag).rd k
    = if k = Gl.MIRROR_SUPERSEDED then ((min (s.rdn Gl.MIRROR_SUPERSEDED + 1) max32 : Nat) : Int) else s.rd k :=
  rd_count { s with duplex := { s.duplex with outbox := s.duplex.outbox.filter (fun (x : OutMsg) => x.tag != tag) } } Gl.MIRROR_SUPERSEDED k

/-- The item of a message waits for the next inventory. -/
def State.markSome (s : State) : Option (Nat × Nat) → State
  | some i => s.markItem i.1 i.2
  | none => s

theorem onlyEvents_mirrorResent (s : State) (m : OutMsg) (tag : Nat) :
    OnlyEvents { s with duplex := (s.mirrorResent m tag).duplex } (s.mirrorResent m tag) := rfl

section
variable {s : State} {tag : Nat} {m : OutMsg} (found : s.duplex.outbox.find? (fun m => m.tag == tag) = some m)
include found

theorem exec_mirrorRetry (paired : s.paired = true) (left : m.tries < 3) (sent : unsent m = false) (late : m.sentAt + 100 ≤ s.now) :
    exec (.mirrorRetry tag) s = done s (s.mirrorResent m tag) := by
  show execMirrorRetry tag s = _
  unfold execMirrorRetry
  simp only [found]
  rw [if_pos ⟨paired, left, sent, late⟩]
  rfl

theorem exec_mirrorTimeout (late : m.firstAt + 50 * m.timeout ≤ s.now) :
    exec (.mirrorTimeout tag) s = done s ((s.mirrorGivenUp tag).markSome m.item) := by
  show execMirrorTimeout tag s = _
  unfold execMirrorTimeout
  simp only [found]
  rw [if_pos late]
  cases m.item <;> rfl

end

theorem mem_marked_markSome (s : State) (i : Nat × Nat) : i ∈ (s.markSome (some i)).duplex.marked := by
  unfold State.markSome State.markItem
  dsimp only
  split
  · next h => simpa using h
  · simp

/-- Marking an item touches the marks alone. -/
theorem markSome_cases (s : State) (i : Option (Nat × Nat)) : ∃ marked, s.markSome i = { s with duplex := { s.duplex with marked } } := by
  cases i with
  | none => exact ⟨_, rfl⟩
  | some i =>
    unfold State.markSome State.markItem
    dsimp only
    split
    · exact ⟨_, rfl⟩
    · exact ⟨_, rfl⟩

theorem onlyRegs_markSome_mirrorGivenUp (s : State) (tag : Nat) (i : Option (Nat × Nat)) :
    OnlyRegs { s with duplex := ((s.mirrorGivenUp tag).markSome i).duplex } ((s.mirrorGivenUp tag).markSome i) := by
  obtain ⟨marked, h⟩ := markSome_cases (s.mirrorGivenUp tag) i
  rw [h]
  rfl

/-! ### COUNTERS_CLEAR (R355) -/

theorem rd_foldl_clear (l : List Nat) (s : State) (k : Nat) :
    (l.foldl (fun s i => s.wr (key 0x2601 i) 0) s).rd k = if k ∈ l.map (key 0x2601) then 0 else s.rd k := by
  induction l generalizing s with
  | nil => rfl
  | cons i l ih =>
    rw [List.foldl_cons, ih, rd_wr]
    by_cases own : k = key 0x2601 i
    · simp [own]
    · simp [own]

theorem exec_partnerCountersClear (via : Via) (s : State) :
    exec (.partnerCountersClear via 1) s = done s (writeNum via 0x2601 10 (.num 1) none id partnerClearEffect s) := rfl

theorem partnerClearEffect_clears (s : State) :
    partnerClearEffect 1 s = .ok ([1, 2, 4, 5, 6, 7].foldl (fun s i => s.wr (key 0x2601 i) 0) s) := rfl

/-! ### The messages -/

section
variable {s : State} (paired : s.paired = true)
include paired

theorem nslCopy_keeps (partner : s.holds = false) {n : Nat} (hn : n < 32) (other : isProducer s n = false ∨ n ≠ s.pn Gl.SUMMARY_CONNECTION) (seq ts : Nat)
    (payload : List ByteN) : ∃ t, exec (.nslCopy n seq ts payload) s = .next t
      ∧ lookup n t.duplex.copies = some (seq, ts, payload) ∧ KeepsRegs [] s t ∧ OnlyRegs { s with duplex := t.duplex } t := by
  refine ⟨_, exec_nslCopy paired partner hn other seq ts payload, ?_, .settle _ fun _ _ => rfl,
    onlyRegs_settle (put := fun s t => { s with duplex := t.duplex }) (fun _ _ => rfl) rfl _⟩
  rw [duplex_settle (g := Duplex.copies) fun _ _ _ => rfl]
  exact lookup_place_same _ _ _ (lookup_erase_same ..)

theorem doorSnapshot_shows (partner : s.holds = false) {x : SnapDoor} (hd : x.d < s.doorways) : ∃ t, exec (.doorSnapshot [x]) s = .next t
      ∧ t.duplex.snapshot = [x] ∧ t.duplex.snapAt = some s.now ∧ t.rdn (Dr.STATE x.d) = x.state ∧ t.rdn (Dr.FAULT_CAUSE x.d) = x.faultCause
      ∧ t.rdn (Dr.RETRY_COUNT x.d) = x.retryCount ∧ t.rdn (Dr.STATUS x.d) = x.status
      ∧ KeepsRegs [Dr.STATE x.d, Dr.FAULT_CAUSE x.d, Dr.RETRY_COUNT x.d, Dr.STATUS x.d] s t ∧ OnlyRegs { s with duplex := t.duplex } t := by
  have hd16 := hd.trans_le (doorways_le s)
  have wired : ∀ {base sub : Nat}, 0x3000 ≤ base ∧ base < 0x3040 → sub < 256 → key (base + 0x40 * x.d) sub ∉ wiredRegs :=
    fun block hs => (doorReg_key hd16 block hs).not_mem_wiredRegs
  have state : Dr.STATE x.d ∉ wiredRegs := wired (by decide) (by decide)
  have cause : Dr.FAULT_CAUSE x.d ∉ wiredRegs := wired (by decide) (by decide)
  have retry : Dr.RETRY_COUNT x.d ∉ wiredRegs := wired (by decide) (by decide)
  have status : Dr.STATUS x.d ∉ wiredRegs := wired (by decide) (by decide)
  obtain ⟨shownState, shownCause, shownRetry, shownStatus⟩ := rdn_doorShown (s.snapshotKept [x]) x
  refine ⟨_, exec_doorSnapshot paired partner hd, ?_, ?_, ?_, ?_, ?_, ?_, .settle _ fun k hk => ?_,
    onlyRegs_settle (put := fun s t => { s with duplex := t.duplex }) (fun _ _ => rfl) (onlyRegs_doorShown ..) _⟩
  · exact (duplex_settle (g := Duplex.snapshot) (fun _ _ _ => rfl) ..).trans (congrArg Duplex.snapshot (duplex_doorShown ..))
  · exact (duplex_settle (g := Duplex.snapAt) (fun _ _ _ => rfl) ..).trans (congrArg Duplex.snapAt (duplex_doorShown ..))
  · exact (rdn_settle state ..).trans shownState
  · exact (rdn_settle cause ..).trans shownCause
  · exact (rdn_settle retry ..).trans shownRetry
  · exact (rdn_settle status ..).trans shownStatus
  · simp only [List.mem_cons, List.not_mem_nil, or_false, not_or] at hk
    obtain ⟨hstate, hcause, hretry, hstatus⟩ := hk
    rw [rd_doorShown, if_neg hstatus, if_neg hretry, if_neg hcause, if_neg hstate]
    rfl

theorem move_keeps (partner : s.holds = false) {m : MoveMsg} (hd : m.d < 16) : ∃ t, exec (.move m) s = .next t
      ∧ lookup m.d t.duplex.moves = some m ∧ KeepsRegs [] s t ∧ OnlyRegs { s with duplex := { s.duplex with moves := t.duplex.moves } } t := by
  refine ⟨_, exec_move paired partner hd, ?_, .settle _ fun _ _ => rfl,
    onlyRegs_settle (put := fun s t => { s with duplex := { s.duplex with moves := t.duplex.moves } }) (fun _ _ => rfl) rfl _⟩
  rw [duplex_settle (g := Duplex.moves) fun _ _ _ => rfl]
  exact lookup_place_same _ _ _ (lookup_erase_same ..)

theorem time_sets (partner : s.holds = false) {seconds : Nat} (range : seconds ≤ max32) :
    ∃ t, exec (.time seconds) s = .next t ∧ t.rdn Gl.RTC_TIME = seconds ∧ KeepsRegs [Gl.RTC_TIME] s t ∧ OnlyRegs s t := by
  refine ⟨_, exec_time paired partner range, ?_, .settle _ fun k hk => rd_wr_ne (List.mem_singleton.not.mp hk) .., settle_sansRegs ..⟩
  rw [rdn_settle (by decide)]
  exact congrArg Int.toNat (rd_wr_same ..)

theorem envelope_installs {a dir state : Nat} (cycles : Nat) (offset : Int) {bs : List ByteN} (ha : a < 48) (leaf : isLeaf s a = true) (hdir : dir ≤ 1)
    (size : bs.length = 1024) (learnt : 1 ≤ state) (top : state ≤ 4) : ∃ t, exec (.envelope a dir state cycles offset bs) s = .next t
      ∧ envOf (t.leaf a) (dir == 0) = envOfBytes 256 bs ∧ envOf (t.leaf a) (dir != 0) = envOf (s.leaf a) (dir != 0)
      ∧ envState t a (dir == 0) = state ∧ t.rd (Ax.ENV_OFFSET a) = offset ∧ (t.leaf a).commitBy.isSome = true
      ∧ (0, 2 * a + dir) ∉ t.duplex.expect ∧ (∀ b, b ≠ a → t.leaf b = s.leaf b)
      ∧ KeepsRegs [if dir = 0 then Ax.ENV_STATE_CLOSE a else Ax.ENV_STATE_OPEN a, if dir = 0 then Ax.ENV_CYCLES_CLOSE a else Ax.ENV_CYCLES_OPEN a,
          Ax.ENV_OFFSET a] s t
      ∧ OnlyRegs { s with leaves := t.leaves, duplex := t.duplex } t := by
  obtain ⟨apart, behind⟩ := envStateReg_ne a (dir == 0)
  have wired := (axisReg_envStateReg ha (dir == 0)).not_mem_wiredRegs
  have taken := leaf_settle ((s.envelopeTaken a (dir == 0) state cycles offset (envOfBytes 256 bs)).arrived 0 (2 * a + dir)) s.pending
  refine ⟨_, exec_envelope paired leaf hdir size learnt top cycles offset, ?_, ?_, ?_, ?_, ?_, ?_, fun b hb => ?_, .settle _ fun k hk => ?_,
    onlyRegs_settle (put := fun s t => { s with leaves := t.leaves, duplex := t.duplex }) (fun _ _ => rfl) (onlyRegs_envelopeTaken (h := rfl) ..) _⟩
  · rw [taken, leaf_arrived, envOf_envelopeTaken, if_pos rfl]
  · rw [taken, leaf_arrived, envOf_envelopeTaken, if_neg (by cases h : dir == 0 <;> simp [bne, h])]
  · refine (rdn_settle wired ..).trans ?_
    rw [rdn_arrived, State.rdn, rd_envelopeTaken, if_neg apart, if_neg behind, if_pos rfl, Int.toNat_natCast]
  · rw [rd_settle (axisReg_envOffset ha).not_mem_wiredRegs, rd_arrived, rd_envelopeTaken, if_pos rfl]
  · rw [taken, leaf_arrived]
    exact commitBy_envDirty ..
  · rw [expect_settle]
    exact not_mem_expect_arrived _ _ _
  · rw [taken, leaf_arrived, leaf_envelopeTaken_ne s a _ _ _ _ _ hb]
  · simp only [List.mem_cons, List.not_mem_nil, or_false, not_or] at hk
    obtain ⟨hstate, hcycles, hoffset⟩ := hk
    have reg : ∀ x y : Nat, (if dir = 0 then x else y) = if (dir == 0) = true then x else y := fun x y => by simp
    rw [reg] at hstate hcycles
    rw [rd_arrived, rd_envelopeTaken, if_neg hoffset, envCyclesReg, if_neg hcycles, envStateReg, if_neg hstate]

theorem background_installs {n : Nat} {px : List (Option Nat)} (hn : n < 32) (size : px.length = 3072) : ∃ t, exec (.background n px) s = .next t
      ∧ (t.sensor n).bg = px.map (fun p => p.map (· * 256)) ∧ (t.sensor n).commitBy = s.after 100 ∧ t.rd (Sn.BG_STATE n) = 2
      ∧ t.rdn (Sn.BG_VALID_PIXELS n) = (px.filter (·.isSome)).length ∧ (1, n) ∉ t.duplex.expect ∧ (∀ m, m ≠ n → t.sensor m = s.sensor m)
      ∧ KeepsRegs [Sn.BG_STATE n, Sn.BG_VALID_PIXELS n] s t ∧ OnlyRegs { s with sensors := t.sensors, duplex := t.duplex } t := by
  have taken := sensor_settle ((s.backgroundTaken n (px.map fun p => p.map (· * 256)) (px.filter (·.isSome)).length).arrived 1 n) s.pending
  refine ⟨_, exec_background paired hn size, ?_, ?_, ?_, ?_, ?_, fun m hm => ?_, .settle _ fun k hk => ?_,
    onlyRegs_settle (put := fun s t => { s with sensors := t.sensors, duplex := t.duplex }) (fun _ _ => rfl) (onlyRegs_backgroundTaken (h := rfl) ..) _⟩
  · rw [taken, sensor_arrived, sensor_backgroundTaken_same]
  · rw [taken, sensor_arrived, sensor_backgroundTaken_same]
  · rw [rd_settle (show Sn.BG_STATE n ∉ wiredRegs from sensorKey_not_mem_wiredRegs n _), rd_arrived, rd_backgroundTaken,
      if_neg (show Sn.BG_STATE n ≠ Sn.BG_VALID_PIXELS n from key_ne_of_sub (by decide)), if_pos rfl]
  · rw [rdn_settle (show Sn.BG_VALID_PIXELS n ∉ wiredRegs from sensorKey_not_mem_wiredRegs n _), rdn_arrived, State.rdn, rd_backgroundTaken,
      if_pos rfl, Int.toNat_natCast]
  · rw [expect_settle]
    exact not_mem_expect_arrived _ _ _
  · rw [taken, sensor_arrived]
    exact sensor_setSensor_ne hm s _
  · simp only [List.mem_cons, List.not_mem_nil, or_false, not_or] at hk
    obtain ⟨hstate, hvalid⟩ := hk
    rw [rd_arrived, rd_backgroundTaken, if_neg hvalid, if_neg hstate]

theorem learned_installs {d : Nat} (hd : d < s.doorways) (strokes pos : List Int) (peakOpen peakClose serial : Nat) :
    ∃ t, exec (.learned d strokes pos peakOpen peakClose serial) s = .next t
      ∧ (∀ a, a ∈ axesOf s d → t.rd (Ax.STROKE a) = strokes.getD (roleOf a) (s.rd (Ax.STROKE a))
          ∧ t.rd (Ax.CLOSED_SWITCH_POS a) = pos.getD (roleOf a) (s.rd (Ax.CLOSED_SWITCH_POS a)))
      ∧ t.rdn (Dr.START_PEAK_OPEN d) = peakOpen ∧ t.rdn (Dr.START_PEAK_CLOSE d) = peakClose ∧ t.rdn (Lk.NODE_SERIAL d) = serial
      ∧ (2, d) ∉ t.duplex.expect ∧ (∀ e, e ≠ d → t.door e = s.door e)
      ∧ KeepsRegs ([3 * d, 3 * d + 1, 3 * d + 2].flatMap (fun a => [Ax.STROKE a, Ax.CLOSED_SWITCH_POS a])
          ++ [Dr.START_PEAK_OPEN d, Dr.START_PEAK_CLOSE d, Lk.NODE_SERIAL d]) s t
      ∧ OnlyRegs { s with doors := t.doors, duplex := t.duplex } t := by
  have hd16 := hd.trans_le (doorways_le s)
  have axis : ∀ {a}, a ∈ axesOf s d → a < 48 := lt_of_mem_axesOf
  have peak : ∀ {sub}, sub < 256 → key (0x3003 + 0x40 * d) sub ∉ wiredRegs := fun hs => (doorReg_key hd16 (by decide) hs).not_mem_wiredRegs
  have node : Lk.NODE_SERIAL d ∉ wiredRegs := (linkReg_key (d := d) (by decide) (by decide) (by decide)).not_mem_wiredRegs
  obtain ⟨opens, closes, serials⟩ := rdn_peaks_learnedTaken s d strokes pos peakOpen peakClose serial
  refine ⟨_, exec_learned paired hd strokes pos peakOpen peakClose serial, fun a ha => ⟨?_, ?_⟩, ?_, ?_, ?_, ?_, fun e he => ?_, .settle _ fun k hk => ?_,
    onlyRegs_settle (put := fun s t => { s with doors := t.doors, duplex := t.duplex }) (fun _ _ => rfl) (onlyRegs_learnedTaken (h := rfl) ..) _⟩
  · rw [rd_settle (axisReg_stroke (axis ha)).not_mem_wiredRegs, rd_arrived, rd_stroke_learnedTaken ha]
  · rw [rd_settle (axisReg_closedSwitchPos (axis ha)).not_mem_wiredRegs, rd_arrived, rd_closedSwitchPos_learnedTaken ha]
  · exact (rdn_settle (peak (by decide)) ..).trans opens
  · exact (rdn_settle (peak (by decide)) ..).trans closes
  · exact (rdn_settle node ..).trans serials
  · rw [expect_settle]
    exact not_mem_expect_arrived _ _ _
  · rw [door_settle, door_arrived, door_learnedTaken_ne he]
  · obtain ⟨axes, door⟩ := not_or.mp (List.mem_append.not.mp hk)
    rw [rd_arrived, rd_learnedTaken_other axes door]

section
variable {index sub : Nat} (shared : mirrored s (key index sub) = true) {generation : Nat} (other : keepsOwn s (key index sub) generation = false)
  {v : Int} {w : State} (wrote : w = writeEntry .mirror index sub (.num v) none s)
include shared other wrote

theorem mirrorConfigWrite_applies (accepted : w.answer = some 0) : ∃ t, exec (.mirrorConfigWrite index sub (.num v) generation) s = .next t
      ∧ t.rdn Gl.CONFIG_GENERATION = generation % 2 ^ 32 ∧ (3, 0) ∉ t.duplex.expect ∧ t.answer = s.answer
      ∧ KeepsRegs [Gl.CONFIG_GENERATION] w t ∧ OnlyRegs { w with answer := s.answer, duplex := t.duplex } t := by
  have run := exec_mirrorConfigWrite paired shared other wrote
  rw [if_pos accepted] at run
  refine ⟨_, run, ?_, ?_, ?_, .settle _ fun k hk => ?_,
    onlyRegs_settle (put := fun w t => { w with answer := s.answer, duplex := t.duplex }) (fun _ _ => rfl) (onlyRegs_configTaken ..) _⟩
  · rw [rdn_settle (by decide)]
    exact congrArg Int.toNat (rd_wr_same ..)
  · rw [expect_settle]
    exact not_mem_expect_arrived w 3 0
  · rw [settle_answer, State.configTaken]
  · exact rd_wr_ne (List.mem_singleton.not.mp hk) ..

theorem mirrorConfigWrite_unsynced (refused : w.answer ≠ some 0) : ∃ t, exec (.mirrorConfigWrite index sub (.num v) generation) s = .next t
      ∧ t.bit Gl.DUPLEX_STATUS 10 = true ∧ Counted 0x3185 w t
      ∧ KeepsRegs (Gl.DUPLEX_STATUS :: Gl.DUPLEX_REPEATS 2 :: eventRegs) w t ∧ OnlyEvents { w with answer := s.answer, duplex := t.duplex } t := by
  have run := exec_mirrorConfigWrite paired shared other wrote
  rw [if_neg refused] at run
  refine ⟨_, run, ?_, counted_settle (counted_raise_of_recd (configUnsynced_blind (f := State.recd) (fun _ _ => rfl) ..) ..) _, .settle _ fun k hk => ?_,
    onlyEvents_settle (put := fun w t => { w with answer := s.answer, duplex := t.duplex }) (fun _ _ => rfl) (onlyEvents_configUnsynced_raise ..) _⟩
  · rw [bit_settle (by decide), bit_raise (by decide), bit_configUnsynced]
  · simp only [List.mem_cons, not_or] at hk
    obtain ⟨hstatus, hrepeats, event⟩ := hk
    rw [rd_raise event, rd_configUnsynced hstatus hrepeats]

end

end

section
variable {s : State} {tag : Nat} {m : OutMsg} (found : s.duplex.outbox.find? (fun m => m.tag == tag) = some m)
include found

theorem mirrorRetry_resends (paired : s.paired = true) (left : m.tries < 3) (sent : unsent m = false) (late : m.sentAt + 100 ≤ s.now) :
    ∃ t, exec (.mirrorRetry tag) s = .next t
      ∧ t.rdn Gl.MIRROR_RETRIES = min (s.rdn Gl.MIRROR_RETRIES + 1) max32 ∧ Egress.mirror m.tag m.type m.data ∈ t.egress
      ∧ t.duplex.outbox.find? (fun m => m.tag == tag) = some { m with tries := m.tries + 1, next := 0, sentAt := s.now }
      ∧ KeepsRegs [Gl.MIRROR_RETRIES] s t ∧ OnlyEvents { s with duplex := t.duplex } t := by
  refine ⟨_, exec_mirrorRetry found paired left sent late, ?_, ?_, ?_, .settle _ fun k hk => ?_,
    onlyEvents_settle (put := fun s t => { s with duplex := t.duplex }) (fun _ _ => rfl) (onlyEvents_mirrorResent ..) _⟩
  · rw [rdn_settle (by decide), State.rdn, rd_mirrorResent, if_pos rfl, Int.toNat_natCast]
  · rw [egress_settle]
    exact mem_enqueue ..
  · rw [outbox_settle]
    exact find_resent found s.now
  · rw [rd_mirrorResent, if_neg (List.mem_singleton.not.mp hk)]

theorem mirrorTimeout_gives_up (late : m.firstAt + 50 * m.timeout ≤ s.now) : ∃ t, exec (.mirrorTimeout tag) s = .next t
      ∧ t.rdn Gl.MIRROR_SUPERSEDED = min (s.rdn Gl.MIRROR_SUPERSEDED + 1) max32
      ∧ t.duplex.outbox = s.duplex.outbox.filter (fun x => x.tag != tag) ∧ (∀ i, m.item = some i → i ∈ t.duplex.marked)
      ∧ KeepsRegs [Gl.MIRROR_SUPERSEDED] s t ∧ OnlyRegs { s with duplex := t.duplex } t := by
  obtain ⟨marked, marks⟩ := markSome_cases (s.mirrorGivenUp tag) m.item
  have rd : ∀ k, ((s.mirrorGivenUp tag).markSome m.item).rd k = (s.mirrorGivenUp tag).rd k := fun k => by rw [marks]; rfl
  refine ⟨_, exec_mirrorTimeout found late, ?_, ?_, fun i hi => ?_, .settle _ fun k hk => ?_,
    onlyRegs_settle (put := fun s t => { s with duplex := t.duplex }) (fun _ _ => rfl) (onlyRegs_markSome_mirrorGivenUp ..) _⟩
  · rw [rdn_settle (by decide), State.rdn, rd, rd_mirrorGivenUp, if_pos rfl, Int.toNat_natCast]
  · rw [outbox_settle, marks]
    rfl
  · rw [duplex_settle (g := Duplex.marked) (fun _ _ _ => rfl), hi]
    exact mem_marked_markSome ..
  · rw [rd, rd_mirrorGivenUp, if_neg (List.mem_singleton.not.mp hk)]

end

theorem partnerCountersClear_clears {via : Via} {s u : State} (reach : Reaches via 0x2601 10 1 none s u 1) :
    ∃ t, exec (.partnerCountersClear via 1) s = .next t
      ∧ t.answer = some 0 ∧ (∀ i, i ∈ [1, 2, 4, 5, 6, 7] → t.rd (key 0x2601 i) = 0)
      ∧ KeepsRegs ([1, 2, 4, 5, 6, 7].map (key 0x2601) ++ accessRegs) s t ∧ OnlyAccess s t := by
  have accepted := accepted_writeNum reach (partnerClearEffect_clears u) id s.pending
  have own : ∀ i ∈ [1, 2, 4, 5, 6, 7], key 0x2601 i ∉ accessRegs ∧ key 0x2601 i ∉ wiredRegs := by decide
  refine ⟨_, exec_partnerCountersClear via s, accepted.answer, fun i hi => ?_, accepted.keepsRegs reach.1 fun k hk => ?_, ?_⟩
  · obtain ⟨access, wired⟩ := own i hi
    rw [accepted.rd _ access wired, rd_foldl_clear, if_pos (List.mem_map_of_mem hi)]
  · rw [rd_foldl_clear, if_neg hk]
  · exact accepted.same.trans ((foldl_keeps State.sansAccess (g := fun s i => s.wr (key 0x2601 i) 0) (fun _ _ => rfl) ..).trans (sansAccess_front reach.1))

/-! ### The statement -/

/-- Settles O44: each message runs to the record or the registers that it writes, and these are read back behind the end of the command. -/
theorem mirrorMessages : Obligations.MirrorMessages := fun _ paired =>
  ⟨fun partner _ seq ts payload hn other => nslCopy_keeps paired partner hn other seq ts payload,
    fun partner _ hd => doorSnapshot_shows paired partner hd,
    fun partner _ hd => move_keeps paired partner hd,
    fun partner _ range => time_sets paired partner range,
    fun _ _ _ cycles offset _ ha leaf hdir size learnt top => envelope_installs paired cycles offset ha leaf hdir size learnt top,
    fun _ _ hn size => background_installs paired hn size,
    fun _ strokes pos peakOpen peakClose serial hd => learned_installs paired hd strokes pos peakOpen peakClose serial,
    fun _ _ _ _ shared other _ wrote => ⟨mirrorConfigWrite_applies paired shared other wrote, mirrorConfigWrite_unsynced paired shared other wrote⟩,
    fun _ _ found => ⟨mirrorRetry_resends found paired, mirrorTimeout_gives_up found⟩,
    fun _ _ reach => partnerCountersClear_clears reach⟩

end Sys2Proof.Machine

namespace Sys2Proof.Machine

/-!
Contacts of a doorway (R236, R239): a reading that follows its raw input, in one channel, and a discrepancy that latches.
-/

/-! ### Records of the contacts -/

@[simp] theorem con_settle (t : State) (q : List Instr) (d : Nat) : (t.settle q).con d = t.con d :=
  con_of_contacts (settle_blind (f := State.contacts) (fun _ _ _ _ _ => rfl) t q) d

theorem onlyRegs_of_contacts {s t : State} (contacts : Store Contacts) (h : t.sansRegs = State.sansRegs { s with contacts }) :
    OnlyRegs { s with contacts := t.contacts } t := by
  have same : t.contacts = contacts := congrArg State.contacts h
  rw [OnlyRegs, same, h]

/-- The stamps of R239 are all that `stampContact` writes. -/
theorem con_stampContact (s : State) (d c : Nat) :
    ∃ diffSince agreeSince, (s.stampContact d c).con d = { s.con d with diffSince, agreeSince } :=
  ⟨_, _, con_setCon_same ..⟩

/-! ### A reading that follows its raw input (R236) -/

/-- A channel's filtered contacts. -/
def Contacts.readings (x : Contacts) : Chan → Nat
  | .A => x.conA
  | .B => x.conB

/-- A channel's node inputs as last sampled. -/
def Contacts.raw (x : Contacts) : Chan → Nat
  | .A => x.rawA
  | .B => x.rawB

/-- Where a channel's inputs begin among the keys of `since`. -/
def sinceBase : Chan → Nat
  | .A => 0
  | .B => 8

/-- The display word of a channel's contacts. -/
def contactsReg (d : Nat) : Chan → Nat
  | .A => Dr.CONTACTS_A d
  | .B => Dr.CONTACTS_B d

/-- The record with contact `c` filtered to `v` in one channel. -/
def Contacts.filtered (x : Contacts) (c : Nat) (v : Bool) : Chan → Contacts
  | .A => { x with conA := (setBit (x.conA : Int) (c - 1) v).toNat }
  | .B => { x with conB := (setBit (x.conB : Int) (c - 1) v).toNat }

theorem Contacts.testBit_readings_filtered (x : Contacts) (c : Nat) (v : Bool) (ch : Chan) (i : Nat) :
    ((x.filtered c v ch).readings ch).testBit i = if i = c - 1 then v else (x.readings ch).testBit i := by
  have bits (m : Nat) : (setBit (m : Int) (c - 1) v).toNat.testBit i = if i = c - 1 then v else m.testBit i := by
    split
    · next same => rw [same]; exact testBit_setBit_same ..
    · next other => exact testBit_setBit_ne other ..
  cases ch <;> exact bits _

theorem Contacts.readings_filtered_ne {ch other : Chan} (h : other ≠ ch) (x : Contacts) (c : Nat) (v : Bool) :
    (x.filtered c v ch).readings other = x.readings other :=
  match ch, other, h with
  | .A, .B, _ => rfl
  | .B, .A, _ => rfl
  | .A, .A, same => absurd rfl same
  | .B, .B, same => absurd rfl same

/-- The doorway with a contact filtered and its stamps taken, before its display word is written. -/
def State.contactFiltered (s : State) (d c : Nat) (ch : Chan) (v : Bool) : State :=
  (s.setCon d ((s.con d).filtered c v ch)).stampContact d c

/-- The doorway with a contact filtered and its channel's display word written. -/
def State.contactShown (s : State) (d c : Nat) (ch : Chan) (v : Bool) : State :=
  (s.contactFiltered d c ch v).wrn (contactsReg d ch) (contactMask (s.contactFiltered d c ch v) d ch)

theorem readings_contactShown (s : State) (d c : Nat) (ch : Chan) (v : Bool) (any : Chan) :
    ((s.contactShown d c ch v).con d).readings any = ((s.con d).filtered c v ch).readings any := by
  show ((s.contactFiltered d c ch v).con d).readings any = _
  obtain ⟨diffSince, agreeSince, stamped⟩ := con_stampContact (s.setCon d ((s.con d).filtered c v ch)) d c
  rw [State.contactFiltered, stamped, con_setCon_same]
  cases any <;> rfl

section

variable {s : State} {d c : Nat} {ch : Chan} {v : Bool}
  (low : 1 ≤ c) (high : c ≤ 7) (assigned : contactCode s d c < 8) (reads : ((s.con d).raw ch).testBit (contactCode s d c) = v)
  (held : rawSince (s.con d) (sinceBase ch + contactCode s d c) + 5 * s.pn (Ct.CONTACT_FILTER d) ≤ s.now)

include low high assigned reads held

theorem exec_contactFilteredChange : exec (.contactFilteredChange d c ch v) s = done s (s.contactShown d c ch v) := by
  show execContactFilteredChange d c ch v s = _
  cases ch <;> exact congrArg (done s) (if_pos ⟨low, high, assigned, reads, held⟩)

/-- A raw value that held becomes the reading of its contact in its channel; the other readings stay, and only the channel's display word is written. -/
theorem contactFilteredChange_follows : ∃ t, exec (.contactFilteredChange d c ch v) s = .next t
    ∧ ((t.con d).readings ch).testBit (c - 1) = v
    ∧ (∀ other, other ≠ ch → (t.con d).readings other = (s.con d).readings other)
    ∧ (∀ i, i ≠ c - 1 → ((t.con d).readings ch).testBit i = ((s.con d).readings ch).testBit i)
    ∧ KeepsRegs [contactsReg d ch] s t
    ∧ OnlyRegs { s with contacts := t.contacts } t := by
  have shown (any : Chan) :
      (((s.contactShown d c ch v).settle s.pending).con d).readings any = ((s.con d).filtered c v ch).readings any := by
    rw [con_settle, readings_contactShown]
  refine ⟨_, exec_contactFilteredChange low high assigned reads held, ?_, fun other h => ?_, fun i h => ?_, KeepsRegs.settle _ fun k hk => ?_, ?_⟩
  · rw [shown, Contacts.testBit_readings_filtered, if_pos rfl]
  · rw [shown, Contacts.readings_filtered_ne h]
  · rw [shown, Contacts.testBit_readings_filtered, if_neg h]
  · rw [State.contactShown, rd_wrn, if_neg (List.mem_singleton.not.mp hk)]
    rfl
  · exact onlyRegs_of_contacts (s.contactFiltered d c ch v).contacts (settle_sansRegs ..)

end

/-! ### A discrepancy that latches (R239) -/

theorem doorReg_discrepancies {d : Nat} (hd : d < 16) : DoorReg (Dr.DISCREPANCIES d) := doorReg_key hd (by decide) (by decide)

theorem DoorReg.not_mem_eventRegs {k : Nat} (h : DoorReg k) : k ∉ eventRegs := fun m => (by decide : ∀ j ∈ eventRegs, ¬ DoorReg j) k m h

theorem contactStatus_ne_seenRepeats (d : Nat) : Dr.CONTACT_STATUS d ≠ Dr.DISCREPANCY_SEEN_REPEATS d := by
  simp only [Dr.CONTACT_STATUS, Dr.DISCREPANCY_SEEN_REPEATS, key]
  omega

theorem contactStatus_ne_discrepancies (d : Nat) : Dr.CONTACT_STATUS d ≠ Dr.DISCREPANCIES d := by
  simp only [Dr.CONTACT_STATUS, Dr.DISCREPANCIES, key]
  omega

theorem discrepancies_ne_seenRepeats (d : Nat) : Dr.DISCREPANCIES d ≠ Dr.DISCREPANCY_SEEN_REPEATS d := by
  simp only [Dr.DISCREPANCIES, Dr.DISCREPANCY_SEEN_REPEATS, key]
  omega

/-- A configured doorway is one of the sixteen (R2, R4). -/
theorem lt_of_configured {s : State} {d : Nat} (conf : configured s d = true) : d < 16 := by
  have strapped : d < s.doorwaysConfigured := by
    simp only [configured, Bool.and_eq_true, decide_eq_true_eq] at conf
    exact conf.1
  have part : s.doorways ≤ 16 := by
    unfold State.doorways
    split <;> decide
  exact (strapped.trans_le (doorwaysConfigured_le s)).trans_le part

/-- The record with the discrepancy of contact `c` latched. -/
def Contacts.latch (x : Contacts) (c : Nat) : Contacts := { x with latched := x.latched + 2 ^ (c - 1), agreeSince := erase c x.agreeSince }

/-- A latched discrepancy in its flags and its counter. -/
def State.discrepancyShown (s : State) (d c : Nat) : State :=
  (((s.setCon d ((s.con d).latch c)).setB (Dr.CONTACT_STATUS d) 1 true).latch (Dr.CONTACT_STATUS d) 8 (Dr.DISCREPANCY_SEEN_REPEATS d)).count
    (Dr.DISCREPANCIES d)

/-- The same with its event and the sequencer's fault cause. -/
def State.discrepancyReported (s : State) (d c : Nat) : State := ((s.discrepancyShown d c).raise 0x05C1 d c).faultDoor d 5

theorem exec_contactDiscrepancy {s : State} {d c : Nat} (conf : configured s d = true) (low : 1 ≤ c) (high : c ≤ 7)
    (fresh : contactLatched s d c = false)
    (long : heldFor (lookup c (s.con d).diffSince) s.now (50 * s.pn (Ct.CONTACT_DISCREPANCY_TIME d) + 1) = true) :
    exec (.contactDiscrepancy d c) s = done s (s.discrepancyReported d c) := by
  show execContactDiscrepancy d c s = _
  exact congrArg (done s) (if_pos ⟨conf, low, high, fresh, long⟩)

/-- Beside registers and the event router, a latched discrepancy is in its doorway's contacts alone until the sequencer hears of it. -/
theorem discrepancyRaised_blind {α : Type} {f : State → α} (h : EventBlind f) (s : State) (d c : Nat) :
    f ((s.discrepancyShown d c).raise 0x05C1 d c) = f (s.setCon d ((s.con d).latch c)) := by
  rw [raise_blind h, State.discrepancyShown, count_blind h.reg, latch_blind h.reg, setB_blind h.reg]

theorem con_discrepancyReported (s : State) (d c : Nat) : (s.discrepancyReported d c).con d = (s.con d).latch c :=
  (con_of_contacts (discrepancyRaised_blind (f := State.contacts) (fun _ _ _ _ _ _ => rfl) s d c) d).trans (con_setCon_same ..)

theorem sansEvents_discrepancyReported (s : State) (d c : Nat) : (s.discrepancyReported d c).sansEvents
    = State.sansEvents { s with contacts := (s.discrepancyReported d c).contacts, doors := (s.discrepancyReported d c).doors } :=
  discrepancyRaised_blind (f := fun u : State =>
    State.sansEvents { u with contacts := (s.discrepancyReported d c).contacts, doors := (s.discrepancyReported d c).doors })
    (fun _ _ _ _ _ _ => rfl) s d c

theorem contactLatched_discrepancyReported {s : State} {d c : Nat} (fresh : contactLatched s d c = false) :
    contactLatched (s.discrepancyReported d c) d c = true := by
  rw [contactLatched] at fresh ⊢
  rw [con_discrepancyReported, Contacts.latch, Nat.add_comm, Nat.testBit_two_pow_add_eq, fresh]
  rfl

theorem rd_discrepancyReported {k : Nat} (h : k ∉ eventRegs) (s : State) (d c : Nat) :
    (s.discrepancyReported d c).rd k = (s.discrepancyShown d c).rd k := rd_raise h ..

theorem rd_discrepancyShown {d k : Nat} (hword : k ≠ Dr.CONTACT_STATUS d) (hrep : k ≠ Dr.DISCREPANCY_SEEN_REPEATS d) (s : State) (c : Nat) :
    (s.discrepancyShown d c).rd k = if k = Dr.DISCREPANCIES d then ((min (s.rdn (Dr.DISCREPANCIES d) + 1) max32 : Nat) : Int) else s.rd k := by
  have latched {j : Nat} (word : j ≠ Dr.CONTACT_STATUS d) (rep : j ≠ Dr.DISCREPANCY_SEEN_REPEATS d) :
      (((s.setCon d ((s.con d).latch c)).setB (Dr.CONTACT_STATUS d) 1 true).latch (Dr.CONTACT_STATUS d) 8 (Dr.DISCREPANCY_SEEN_REPEATS d)).rd j
        = s.rd j := by
    rw [rd_latch_ne word rep, State.setB, rd_wr_ne word]
    rfl
  rw [State.discrepancyShown, rd_count, State.rdn, latched (contactStatus_ne_discrepancies d).symm (discrepancies_ne_seenRepeats d),
    latched hword hrep, State.rdn]

theorem bits_discrepancyShown (s : State) (d c : Nat) :
    (s.discrepancyShown d c).bit (Dr.CONTACT_STATUS d) 1 = true ∧ (s.discrepancyShown d c).bit (Dr.CONTACT_STATUS d) 8 = true := by
  simp only [State.discrepancyShown, State.count, State.addSat, bit_wr_ne (contactStatus_ne_discrepancies d)]
  constructor
  · rw [bit_latch_bit_ne (contactStatus_ne_seenRepeats d) (by decide), bit_setB_same]
  · exact bit_latch_same (contactStatus_ne_seenRepeats d) _ 8

theorem bits_discrepancyReported {d : Nat} (hd : d < 16) (s : State) (c : Nat) :
    (s.discrepancyReported d c).bit (Dr.CONTACT_STATUS d) 1 = true ∧ (s.discrepancyReported d c).bit (Dr.CONTACT_STATUS d) 8 = true := by
  rw [State.bit, State.bit, rd_discrepancyReported (doorReg_contactStatus hd).not_mem_eventRegs]
  exact bits_discrepancyShown s d c

theorem rdn_discrepancies_discrepancyReported {d : Nat} (hd : d < 16) (s : State) (c : Nat) :
    (s.discrepancyReported d c).rdn (Dr.DISCREPANCIES d) = min (s.rdn (Dr.DISCREPANCIES d) + 1) max32 := by
  rw [State.rdn, rd_discrepancyReported (doorReg_discrepancies hd).not_mem_eventRegs,
    rd_discrepancyShown (contactStatus_ne_discrepancies d).symm (discrepancies_ne_seenRepeats d), if_pos rfl, Int.toNat_natCast]

theorem counted_discrepancyReported (s : State) (d c : Nat) : Counted 0x05C1 s (s.discrepancyReported d c) :=
  counted_raise_of_recd (t := s.discrepancyShown d c) (latch_blind (f := State.recd) (fun _ _ => rfl) ..) ..

/-- Readings that differed for too long latch their contact, and the doorway, the counter and the recorder are told. -/
theorem contactDiscrepancy_latches {s : State} {d c : Nat} (conf : configured s d = true) (low : 1 ≤ c) (high : c ≤ 7)
    (fresh : contactLatched s d c = false)
    (long : heldFor (lookup c (s.con d).diffSince) s.now (50 * s.pn (Ct.CONTACT_DISCREPANCY_TIME d) + 1) = true) :
    ∃ t, exec (.contactDiscrepancy d c) s = .next t
      ∧ contactLatched t d c = true ∧ contact t d c = false
      ∧ t.bit (Dr.CONTACT_STATUS d) 1 = true ∧ t.bit (Dr.CONTACT_STATUS d) 8 = true
      ∧ t.rdn (Dr.DISCREPANCIES d) = min (s.rdn (Dr.DISCREPANCIES d) + 1) max32
      ∧ 5 ∈ (t.door d).faults
      ∧ Counted 0x05C1 s t
      ∧ KeepsRegs ([Dr.CONTACT_STATUS d, Dr.DISCREPANCY_SEEN_REPEATS d, Dr.DISCREPANCIES d] ++ eventRegs) s t
      ∧ OnlyEvents { s with contacts := t.contacts, doors := t.doors } t := by
  have hd := lt_of_configured conf
  have status := (doorReg_contactStatus hd).not_mem_wiredRegs
  have latched : contactLatched ((s.discrepancyReported d c).settle s.pending) d c = true := by
    rw [contactLatched, con_settle]
    exact contactLatched_discrepancyReported fresh
  obtain ⟨active, seen⟩ := bits_discrepancyReported hd s c
  refine ⟨_, exec_contactDiscrepancy conf low high fresh long, latched, ?_, ?_, ?_, ?_, ?_, counted_settle (counted_discrepancyReported s d c) _,
    KeepsRegs.settle _ fun k hk => ?_, ?_⟩
  · rw [contact, latched, Bool.not_true, Bool.and_false]
  · rw [bit_settle status, active]
  · rw [bit_settle status, seen]
  · rw [rdn_settle (doorReg_discrepancies hd).not_mem_wiredRegs, rdn_discrepancies_discrepancyReported hd]
  · rw [door_settle]
    exact mem_faults_faultDoor ..
  · simp only [List.mem_append, List.mem_cons, List.not_mem_nil, or_false, not_or] at hk
    obtain ⟨⟨hword, hrep, hcount⟩, hevent⟩ := hk
    rw [rd_discrepancyReported hevent, rd_discrepancyShown hword hrep, if_neg hcount]
  · have contacts : ((s.discrepancyReported d c).settle s.pending).contacts = (s.discrepancyReported d c).contacts :=
      settle_blind (f := State.contacts) (fun _ _ _ _ _ => rfl) _ _
    rw [OnlyEvents, contacts, settle_doors, settle_sansEvents]
    exact sansEvents_discrepancyReported s d c

/-! ### The statement -/

/-- Settles O10: the filter's rule is one lemma over the channel, used for each of the two; a discrepancy is read back behind the event that it raises. -/
theorem contactReadings : Obligations.ContactReadings := by
  intro s d c low high
  refine ⟨fun v assigned raw held => ?A, fun v assigned raw held => ?B, fun conf fresh long => contactDiscrepancy_latches conf low high fresh long⟩
  case A =>
    obtain ⟨t, run, follows, others, rest⟩ := contactFilteredChange_follows (ch := .A) low high assigned raw (by rwa [sinceBase, Nat.zero_add])
    exact ⟨t, run, follows, others .B nofun, rest⟩
  case B =>
    obtain ⟨t, run, follows, others, rest⟩ := contactFilteredChange_follows (ch := .B) low high assigned raw held
    exact ⟨t, run, follows, others .A nofun, rest⟩

end Sys2Proof.Machine

namespace Sys2Proof.Machine

/-! ### A connection's watchdog between two motion-tick boundaries (R311) -/

/-- The expiry of a watchdog is detected at a motion-tick boundary (R311); in between, the command changes nothing. -/
theorem exec_nslWatchdog_of_between {s : State} (between : s.rdn Gl.FAST_TICK_COUNT % 5 ≠ 0) (n : Nat) : exec (.nslWatchdog n) s = done s s := by
  show execNslWatchdog n s = _
  refine congrArg (done s) (if_neg fun ⟨_, _, boundary, _⟩ => between boundary)

/-- A running module with consumer 0 in RUN, whose WATCHDOG_TIME of 100 ms has run out since its last frame: 1 fast tick after a motion-tick boundary. -/
def watchdogRunOut : State :=
  ((({ State.reset with now := 10001, power := { phase := .run } }.enforce (Ns.CONN_ENABLE 0) 1).setConn 0 { accepted := some 1 }).wr
    Gl.FAST_TICK_COUNT 10001).wr (Ns.CONN_STATE 0) 3

/-- Refutes O40: the watchdog's clause names no motion-tick boundary. Between two boundaries the expiry is not yet detected (R311), and a
connection whose WATCHDOG_TIME has run out stays in RUN. -/
theorem not_nslSupervision : ¬ Obligations.NslSupervision := by
  unfold Obligations.NslSupervision
  intro h
  obtain ⟨watchdog, -⟩ := h watchdogRunOut
  obtain ⟨t, run, waits, -⟩ := watchdog 0 (by decide) (by decide) (by decide) (by decide)
  rw [exec_nslWatchdog_of_between (by decide)] at run
  rw [eq_settle_of_done run, rd_settle (by decide)] at waits
  exact absurd waits (by decide)

end Sys2Proof.Machine

namespace Sys2Proof.Machine

/-!
Safe motion beside the ticks (R278, R279, R566): the end of an SF7 window on an axis that still moves, and an STO that no BRIDGE_OFF confirms.
-/

/-! ### Demands of STO -/

theorem testBit_foldl_mask (l : List Nat) (m i : Nat) : (l.foldl (fun m i => m ||| 2 ^ i) m).testBit i = (m.testBit i || l.contains i) := by
  induction l generalizing m with
  | nil => simp
  | cons j r ih =>
    rw [List.foldl_cons, ih, Nat.testBit_or, Nat.testBit_two_pow, List.contains_cons, Bool.or_assoc, Bool.beq_eq_decide_eq]
    simp only [eq_comm]

theorem testBit_maskOf (l : List Nat) (i : Nat) : (maskOf l).testBit i = l.contains i := by
  rw [maskOf, testBit_foldl_mask, Nat.zero_testBit, Bool.false_or]

/-- A demand between door ticks is one of both channels (R566). -/
theorem testBit_sto_stoNow {axes : List Nat} {a : Nat} (h : a ∈ axes) (s : State) :
    (s.stoNow axes).safety.stoA.testBit a = true ∧ (s.stoNow axes).safety.stoB.testBit a = true := by
  have demanded : (maskOf axes).testBit a = true := by rw [testBit_maskOf, List.contains_iff_mem.mpr h]
  constructor
  · show (s.safety.stoA ||| maskOf axes).testBit a = true
    rw [Nat.testBit_or, demanded, Bool.or_true]
  · show (s.safety.stoB ||| maskOf axes).testBit a = true
    rw [Nat.testBit_or, demanded, Bool.or_true]

theorem axis_stoNow_faultDoor (s : State) (axes : List Nat) (d c a : Nat) : ((s.stoNow axes).faultDoor d c).axis a = s.axis a := rfl

theorem sf7_stoNow (s : State) (axes : List Nat) : (s.stoNow axes).safety.sf7 = s.safety.sf7 := rfl

theorem stoNow_parts (s : State) (axes : List Nat) : ∃ safety, s.stoNow axes = { s with safety } := ⟨_, rfl⟩

theorem State.faultDoor_parts (s : State) (d c : Nat) : s.faultDoor d c = { s with doors := (s.faultDoor d c).doors } := rfl

/-! ### The end of an SF7 window (R278) -/

theorem foldl_setAxis_eq (g : State → Nat → Axis) (l : List Nat) (s : State) :
    ∃ axes, l.foldl (fun s b => s.setAxis b (g s b)) s = { s with axes } := by
  induction l generalizing s with
  | nil => exact ⟨s.axes, rfl⟩
  | cons b r ih =>
    obtain ⟨axes, h⟩ := ih (s.setAxis b (g s b))
    exact ⟨axes, h⟩

/-- SF7 of a doorway holds its demand, with the records that its axes have then. -/
def State.sf7Held (s : State) (d : Nat) (axes : Store Axis) : State :=
  { s with axes, safety := { s.safety with sf7 := s.safety.sf7 ||| 2 ^ d } }

theorem setAxis_sf7Held (s : State) (d : Nat) (axes : Store Axis) (a : Nat) (x : Axis) :
    (s.sf7Held d axes).setAxis a x = { s with axes := putD {} axes a x, safety := (s.sf7Held d axes).safety } := rfl

/-- A trip gives the doorway's axes new records and ends the window of the axis that tripped; then every axis goes into STO, with fault cause 7. -/
theorem sf7Trip_eq (s : State) (a : Nat) : ∃ (axes : Store Axis) (x : Axis), x.sf7Until = none
    ∧ s.sf7Trip a = (((s.sf7Held (doorOf a) axes).setAxis a x).stoNow (axesOf s (doorOf a))).faultDoor (doorOf a) 7 := by
  obtain ⟨axes, h⟩ := foldl_setAxis_eq (fun s b => { s.axis b with sf7Held := false }) (axesOf s (doorOf a)) (s.sf7Held (doorOf a) s.axes)
  refine ⟨axes, { (s.sf7Held (doorOf a) axes).axis a with sf7Until := none, sf7Ref := none, sf7Count := 0, sf7Fast := 0 }, rfl, ?_⟩
  have held : ∀ u : State, u = s.sf7Held (doorOf a) axes →
      ((u.setAxis a { u.axis a with sf7Until := none, sf7Ref := none, sf7Count := 0, sf7Fast := 0 }).stoNow (axesOf u (doorOf a))).faultDoor (doorOf a) 7
        = (((s.sf7Held (doorOf a) axes).setAxis a
            { (s.sf7Held (doorOf a) axes).axis a with sf7Until := none, sf7Ref := none, sf7Count := 0, sf7Fast := 0 }).stoNow
              (axesOf s (doorOf a))).faultDoor (doorOf a) 7 := by
    rintro u rfl
    rfl
  exact held _ h

theorem exec_sf7StopWindowExpiry {s : State} {a : Nat} (expired : due (s.axis a).sf7Until s.now = true) (moves : 2000 ≤ safeMove (s.axis a)) :
    exec (.sf7StopWindowExpiry a) s = done s (s.sf7Trip a) :=
  congrArg (done s) (if_pos ⟨expired, moves⟩)

@[simp] theorem settle_safety (t : State) (q : List Instr) : (t.settle q).safety = t.safety :=
  settle_blind (f := State.safety) (fun _ _ _ _ _ => rfl) t q

theorem sf7Trip_parts (s : State) (a : Nat) : ∃ safety axes doors, s.sf7Trip a = { s with safety, axes, doors } := by
  obtain ⟨axes, x, -, trip⟩ := sf7Trip_eq s a
  obtain ⟨safety, demanded⟩ := stoNow_parts ((s.sf7Held (doorOf a) axes).setAxis a x) (axesOf s (doorOf a))
  rw [trip, demanded, setAxis_sf7Held, State.faultDoor_parts]
  generalize (State.faultDoor _ _ _).doors = doors
  exact ⟨safety, putD {} axes a x, doors, rfl⟩

theorem onlyRegs_of_motion {s t : State} (h : ∃ safety axes doors, t = { s with safety, axes, doors }) (q : List Instr) :
    OnlyRegs { s with safety := (t.settle q).safety, axes := (t.settle q).axes, doors := (t.settle q).doors } (t.settle q) := by
  obtain ⟨safety, axes, doors, rfl⟩ := h
  rw [OnlyRegs, settle_sansRegs, settle_safety, settle_axes, settle_doors]

theorem sf7StopWindowExpiry_demands {s : State} {a : Nat} (expired : due (s.axis a).sf7Until s.now = true) (moves : 2000 ≤ safeMove (s.axis a)) :
    ∃ t, exec (.sf7StopWindowExpiry a) s = .next t
      ∧ (∀ b ∈ axesOf s (doorOf a), t.safety.stoA.testBit b = true ∧ t.safety.stoB.testBit b = true)
      ∧ t.safety.sf7.testBit (doorOf a) = true ∧ (t.axis a).sf7Until = none ∧ 7 ∈ (t.door (doorOf a)).faults
      ∧ KeepsRegs [] s t ∧ OnlyRegs { s with safety := t.safety, axes := t.axes, doors := t.doors } t := by
  have frame := onlyRegs_of_motion (sf7Trip_parts s a) s.pending
  obtain ⟨axes, x, ended, trip⟩ := sf7Trip_eq s a
  have dict : (s.sf7Trip a).dict = s.dict := by
    obtain ⟨safety, axes, doors, e⟩ := sf7Trip_parts s a
    rw [e]
  refine ⟨_, exec_sf7StopWindowExpiry expired moves, ?_⟩
  rw [trip] at frame dict ⊢
  refine ⟨fun b hb => ?sto, ?held, ?window, ?cause, KeepsRegs.settle _ fun k _ => rd_of_dict dict k, frame⟩
  case sto =>
    rw [settle_safety, State.faultDoor_safety]
    exact testBit_sto_stoNow hb _
  case held =>
    rw [settle_safety, State.faultDoor_safety, sf7_stoNow, State.setAxis_safety, State.sf7Held, Nat.testBit_or, Nat.testBit_two_pow_self, Bool.or_true]
  case window =>
    rw [axis_settle, axis_stoNow_faultDoor, axis_setAxis_same]
    exact ended
  case cause =>
    rw [door_settle]
    exact mem_faults_faultDoor ..

/-! ### An STO that is not confirmed (R279) -/

/-- The missing BRIDGE_OFF, shown and raised; its demand waits no longer. -/
def State.unconfirmedShown (s : State) (a : Nat) : State := (s.stoConfirmed a).setB Gl.STO_UNCONFIRMED_MASK (doorOf a) true

def State.unconfirmed (s : State) (a : Nat) : State := ((s.unconfirmedShown a).raise 0x01C2 (doorOf a) a).faultDoor (doorOf a) 7

theorem exec_stoUnconfirmed {s : State} {a : Nat} (own : (axesOf s (doorOf a)).contains a = true) (up : linkUp s (doorOf a) = true)
    (late : heldFor (lookup a s.safety.stoSent) s.now 5 = true) : exec (.stoUnconfirmed a) s = done s (s.unconfirmed a) :=
  congrArg (done s) (if_pos ⟨own, up, late⟩)

theorem safety_unconfirmed (s : State) (a : Nat) : (s.unconfirmed a).safety = { s.safety with stoSent := erase a s.safety.stoSent } := by
  rw [State.unconfirmed, State.faultDoor_safety, raise_blind (f := State.safety) (fun _ _ _ _ _ _ => rfl)]
  rfl

theorem rd_unconfirmed {k : Nat} (h : k ∉ eventRegs) (s : State) (a : Nat) : (s.unconfirmed a).rd k = (s.unconfirmedShown a).rd k :=
  (rd_of_dict (State.faultDoor_dict ..) k).trans (rd_raise h ..)

/-- Safety and doorways of another state. -/
def State.withSafetyDoors (s t : State) : State := { s with safety := t.safety, doors := t.doors }

theorem onlyEvents_unconfirmed (s : State) (a : Nat) : OnlyEvents (s.withSafetyDoors (s.unconfirmed a)) (s.unconfirmed a) := by
  have raised : ((s.unconfirmedShown a).raise 0x01C2 (doorOf a) a).sansEvents = (s.unconfirmedShown a).sansEvents := raise_blind sansEvents_blind ..
  have safety := safety_unconfirmed s a
  have whole : (s.unconfirmed a).sansEvents
      = { ((s.unconfirmedShown a).raise 0x01C2 (doorOf a) a).sansEvents with doors := (s.unconfirmed a).doors } := rfl
  rw [OnlyEvents, whole, raised, State.withSafetyDoors, safety]
  rfl

theorem stoUnconfirmed_reports {s : State} {a : Nat} (own : (axesOf s (doorOf a)).contains a = true) (up : linkUp s (doorOf a) = true)
    (late : heldFor (lookup a s.safety.stoSent) s.now 5 = true) :
    ∃ t, exec (.stoUnconfirmed a) s = .next t
      ∧ t.bit Gl.STO_UNCONFIRMED_MASK (doorOf a) = true ∧ lookup a t.safety.stoSent = none ∧ 7 ∈ (t.door (doorOf a)).faults
      ∧ Counted 0x01C2 s t ∧ KeepsRegs (Gl.STO_UNCONFIRMED_MASK :: eventRegs) s t ∧ OnlyEvents { s with safety := t.safety, doors := t.doors } t := by
  refine ⟨_, exec_stoUnconfirmed own up late, ?shown, ?sent, ?cause, counted_settle ?counted _, KeepsRegs.settle _ fun k hk => ?regs, ?frame⟩
  case shown =>
    rw [bit_settle (by decide), State.bit, rd_unconfirmed (by decide), ← State.bit]
    exact bit_setB_same ..
  case sent =>
    rw [settle_safety, safety_unconfirmed]
    exact lookup_erase_same ..
  case cause =>
    rw [door_settle]
    exact mem_faults_faultDoor ..
  case counted => exact counted_raise_of_recd (t := s.unconfirmedShown a) rfl ..
  case regs =>
    obtain ⟨own, event⟩ := not_or.mp (List.mem_cons.not.mp hk)
    exact (rd_unconfirmed event s a).trans (rd_wr_ne own ..)
  case frame => exact onlyEvents_settle (put := State.withSafetyDoors) (fun _ _ => rfl) (onlyEvents_unconfirmed s a) _

/-- Settles O20: an SF7 trip is its doorway's demand in both channels, and an unconfirmed STO is its mask bit and its event; both report cause 7. -/
theorem unsafeMotionDemandsSto : Obligations.UnsafeMotionDemandsSto := fun _ _ =>
  ⟨sf7StopWindowExpiry_demands, stoUnconfirmed_reports⟩

end Sys2Proof.Machine

namespace Sys2Proof.Machine

/-!
The safety set's own commands (R287, R290, R291, R294), and the two wires that follow every command: the token (R326) and NFAULT_CAUSES (R534).
-/

/-! ### The token and NFAULT_CAUSES behind a command (R325, R326, R534) -/

theorem mayHold_congr {s t : State} (power : t.power = s.power) (set : t.rd Gl.SET_STATE = s.rd Gl.SET_STATE)
    (safe : t.rd Gl.SAFE_STATE_CAUSE = s.rd Gl.SAFE_STATE_CAUSE) : mayHold t = mayHold s := by
  simp only [mayHold, State.running, power, set, safe]

theorem nfaultCauses_congr {s t : State} (power : t.power = s.power) (debug : t.safety.debugSafe = s.safety.debugSafe)
    (rd : ∀ k ∈ [Gl.SAFE_STATE_CAUSE, Gl.SET_STATE, Gl.SECURITY_STATUS, Gl.BOOT_MODE, Gl.SECURITY_STATE], t.rd k = s.rd k) :
    nfaultCauses t = nfaultCauses s := by
  unfold nfaultCauses State.running State.bit
  rw [power, debug, rd Gl.SAFE_STATE_CAUSE (by simp), rd Gl.SET_STATE (by simp), rd Gl.SECURITY_STATUS (by simp), rd Gl.BOOT_MODE (by simp),
    rd Gl.SECURITY_STATE (by simp)]

/-- The end of a command behind the interlock's decision: HOLDER and NFAULT_CAUSES follow the state. -/
def State.wiresShown (t : State) (q : List Instr) : State :=
  State.wrn { t.wr Gl.HOLDER (b2i t.holds) with pending := q } Gl.NFAULT_CAUSES (nfaultCauses { t.wr Gl.HOLDER (b2i t.holds) with pending := q })

theorem settle_eq (t : State) (q : List Instr) : t.settle q = (if t.holds && !mayHold t then t.letGo else t).wiresShown q := rfl

theorem holds_wiresShown (t : State) (q : List Instr) : (t.wiresShown q).holds = t.holds := rfl

theorem rd_holder_wiresShown (t : State) (q : List Instr) : (t.wiresShown q).rd Gl.HOLDER = b2i t.holds :=
  (rd_wr_ne (by decide) ..).trans ((rd_of_dict (s := t.wr Gl.HOLDER (b2i t.holds)) rfl _).trans (rd_wr_same ..))

/-- The token is let go where the interlock's conditions do not hold (R326). -/
theorem holds_settle (t : State) (q : List Instr) : (t.settle q).holds = (t.holds && mayHold t) := by
  rw [settle_eq, holds_wiresShown]
  cases held : t.holds
  · exact held
  · cases may : mayHold t
    · rfl
    · exact held

/-- HOLDER shows the token (R326). -/
theorem rd_holder_settle (t : State) (q : List Instr) : (t.settle q).rd Gl.HOLDER = b2i (t.settle q).holds := by
  rw [settle_eq, rd_holder_wiresShown, holds_wiresShown]

/-- NFAULT_CAUSES lists the causes that are present (R534). -/
theorem rd_nfaultCauses_settle (t : State) (q : List Instr) : (t.settle q).rd Gl.NFAULT_CAUSES = nfaultCauses t := by
  have same : ∀ u : State, (u.wiresShown q).rd Gl.NFAULT_CAUSES = nfaultCauses u := fun u => by
    refine (rd_wr_same ..).trans (congrArg Nat.cast (nfaultCauses_congr rfl rfl fun k hk => ?_))
    exact rd_wr_ne (fun e => absurd (e ▸ hk) (by decide)) u _
  rw [settle_eq, same]
  split
  · exact congrArg Nat.cast (nfaultCauses_congr rfl rfl fun k hk => rd_letGo (fun e => absurd (e ▸ hk) (by decide)) t)
  · rfl

/-! ### What an accepted write leaves -/

theorem accessBlind_safety : AccessBlind State.safety := ⟨fun _ _ _ _ => rfl, fun _ _ _ _ _ _ _ _ => rfl⟩

theorem Accepted.safety {w t : State} (h : Accepted w t) : t.safety = w.safety := by
  have same := congrArg State.safety h.same
  exact same

/-- Behind an accepted write, the registers outside the effect's, the access's and the wired ones read as before. -/
theorem Accepted.keepsRegs_wired {via : Via} {index sub : Nat} {v n : Int} {s u w t : State} (h : Accepted w t)
    (reach : Reaches via index sub v none s u n) {ks : List Nat} (effect : KeepsRegs ks u w) : KeepsRegs (ks ++ accessRegs) s t := by
  intro k hk hw
  obtain ⟨own, access⟩ := not_or.mp (List.mem_append.not.mp hk)
  rw [h.rd k access hw, effect k own hw, (accessBlind_rd access).reaches reach]

/-! ### WRITE_ENABLE (R290) -/

/-- The set writable and not confirmed. -/
def State.writeEnabled (s : State) : State := (s.invalidate.wr Gl.WRITE_ENABLE 1).wr Gl.SET_STATE 0

theorem writeEnableEffect_enables {s : State} (zeroA : s.safety.relA.testBit 2 = true) (zeroB : s.safety.relB.testBit 2 = true)
    (still : ∀ d, d < 16 → doorState s d ≠ 3 ∧ doorState s d ≠ 5 ∧ doorState s d ≠ 6) : writeEnableEffect 1 s = .ok s.writeEnabled := by
  have moves : (List.range s.doorways).any (fun d => [3, 5, 6].contains (doorState s d)) = false := by
    rw [List.any_eq_false]
    intro d hd
    obtain ⟨opening, closing, reversing⟩ := still d (Nat.lt_of_lt_of_le (List.mem_range.mp hd) (doorways_le s))
    simp [opening, closing, reversing]
  refine (if_neg (by decide)).trans (if_neg fun h => ?_)
  obtain ⟨-, zero | zero | moving⟩ := h
  · exact absurd (zeroA.symm.trans zero) (by decide)
  · exact absurd (zeroB.symm.trans zero) (by decide)
  · exact absurd (moves.symm.trans moving) (by decide)

theorem invalidate_cases (s : State) : ∃ t, s.invalidate = t.wr Gl.CONFIRM 0 ∧ t.safety = { s.safety with confirming := none }
    ∧ KeepsRegs [Gl.SET_STATE] s t := by
  unfold State.invalidate
  dsimp only
  refine ⟨_, rfl, ?_, fun k hk hw => ?_⟩
  · split
    · rfl
    · rfl
  · split
    · have holder : k ≠ Gl.HOLDER := fun e => hw (by simp [e, wiredRegs])
      exact (rd_letGo holder _).trans (rd_wr_ne (by simpa using hk) _ _)
    · rfl

theorem safety_writeEnabled (s : State) : s.writeEnabled.safety = { s.safety with confirming := none } := by
  obtain ⟨t, e, safety, -⟩ := invalidate_cases s
  rw [State.writeEnabled, e]
  exact safety

theorem rd_writeEnabled (s : State) : s.writeEnabled.rd Gl.WRITE_ENABLE = 1 ∧ s.writeEnabled.rd Gl.SET_STATE = 0 ∧ s.writeEnabled.rd Gl.CONFIRM = 0 := by
  obtain ⟨t, e, -⟩ := invalidate_cases s
  rw [State.writeEnabled, e]
  simp [rd_wr, Gl.WRITE_ENABLE, Gl.SET_STATE, Gl.CONFIRM, key]

theorem keepsRegs_writeEnabled (s : State) : KeepsRegs [Gl.WRITE_ENABLE, Gl.SET_STATE, Gl.CONFIRM] s s.writeEnabled := by
  obtain ⟨t, e, -, keeps⟩ := invalidate_cases s
  rw [State.writeEnabled, e]
  exact ((((keeps.mono (by simp)).wr (by simp) _).wr (by simp) _).wr (by simp) _)

theorem writeEnable_enables {via : Via} {s u : State} (reach : Reaches via 0x5002 1 1 none s u 1) (zeroA : u.safety.relA.testBit 2 = true)
    (zeroB : u.safety.relB.testBit 2 = true) (still : ∀ d, d < 16 → doorState u d ≠ 3 ∧ doorState u d ≠ 5 ∧ doorState u d ≠ 6) :
    ∃ t, exec (.writeEnable via 1) s = .next t
      ∧ t.answer = some 0 ∧ t.rd Gl.WRITE_ENABLE = 1 ∧ t.rd Gl.SET_STATE = 0 ∧ t.rd Gl.CONFIRM = 0 ∧ t.holds = false ∧ t.safety.confirming = none
      ∧ KeepsRegs ([Gl.WRITE_ENABLE, Gl.SET_STATE, Gl.CONFIRM] ++ accessRegs) s t := by
  have ok := writeEnableEffect_enables zeroA zeroB still
  have acc := accepted_writeNum reach ok id s.pending
  obtain ⟨enabled, unset, unconfirmed⟩ := rd_writeEnabled u
  have shown : (writeNum via 0x5002 1 (.num 1) none id writeEnableEffect s).rd Gl.SET_STATE = 0 :=
    ((accessBlind_rd (by decide)).writeNum_accepted reach ok id).trans unset
  refine ⟨_, rfl, acc.answer, (acc.rd _ (by decide) (by decide)).trans enabled, (acc.rd _ (by decide) (by decide)).trans unset,
    (acc.rd _ (by decide) (by decide)).trans unconfirmed, ?token, ?confirming, acc.keepsRegs_wired reach (keepsRegs_writeEnabled u)⟩
  case token =>
    rw [holds_settle, mayHold, shown]
    simp
  case confirming => rw [acc.safety, safety_writeEnabled]

/-! ### CONFIRM (R291) -/

/-- The value that the next door tick confirms. -/
def State.confirmAccepted (s : State) (v : Nat) : State := { s.wr Gl.WRITE_ENABLE 0 with safety := { s.safety with confirming := some v } }

theorem confirmEffect_accepts {s : State} {v : Int} (a : v = s.rd Gl.CHECK_VALUE) (b : v = s.rd Gl.CHECK_VALUE_B)
    (wide : ∀ a ∈ storedAxes s, roleOf a ≠ 2 → 1000 ≤ s.rdn (Ax.CURRENT_BANDWIDTH a)) (open_ : s.rdn Gl.SET_STATE ≠ 1) :
    confirmEffect v s = .ok (s.confirmAccepted v.toNat) := by
  refine (if_neg (by simp [← a, ← b])).trans ((if_neg ?_).trans (if_neg open_))
  simp only [List.any_eq_true, Bool.and_eq_true, bne_iff_ne, decide_eq_true_eq, not_exists, not_and, Nat.not_lt]
  exact wide

theorem confirmEffect_refuses {s : State} {v : Int} (wrong : v ≠ s.rd Gl.CHECK_VALUE ∨ v ≠ s.rd Gl.CHECK_VALUE_B) :
    confirmEffect v s = .error abCheck := if_pos wrong

theorem rd_confirmAccepted (s : State) (v k : Nat) : (s.confirmAccepted v).rd k = if k = Gl.WRITE_ENABLE then 0 else s.rd k :=
  rd_wr s Gl.WRITE_ENABLE k 0

theorem confirm_accepts {via : Via} {v : Int} {s u : State} (reach : Reaches via 0x5001 1 v none s u v) (a : v = u.rd Gl.CHECK_VALUE)
    (b : v = u.rd Gl.CHECK_VALUE_B) (wide : ∀ a ∈ storedAxes u, roleOf a ≠ 2 → 1000 ≤ u.rdn (Ax.CURRENT_BANDWIDTH a)) (open_ : u.rdn Gl.SET_STATE ≠ 1) :
    ∃ t, exec (.confirm via v) s = .next t
      ∧ t.answer = some 0 ∧ t.rd Gl.WRITE_ENABLE = 0 ∧ t.safety.confirming = some v.toNat ∧ t.rd Gl.SET_STATE = s.rd Gl.SET_STATE
      ∧ KeepsRegs (Gl.WRITE_ENABLE :: accessRegs) s t := by
  have acc := accepted_writeNum reach (confirmEffect_accepts a b wide open_) id s.pending
  have keeps : KeepsRegs ([Gl.WRITE_ENABLE] ++ accessRegs) s _ :=
    acc.keepsRegs reach.1 fun k hk => (rd_confirmAccepted u _ k).trans (if_neg (by simpa using hk))
  exact ⟨_, rfl, acc.answer, (acc.rd _ (by decide) (by decide)).trans (rd_confirmAccepted ..), congrArg Safety.confirming acc.safety,
    keeps _ (by decide) (by decide), keeps⟩

/-- Where a refusal by PDO does nothing more, a refusal is the same by every path. -/
theorem writeNum_refused_plain {via : Via} {index sub : Nat} {v n : Int} {lv : Option (Level → Bool)} {s u : State}
    (reach : Reaches via index sub v lv s u n) {e : Effect} {ab : Nat} (bad : e n u = .error ab) :
    writeNum via index sub (.num v) lv id e s = reply via (requestClass index sub false) (index, sub, .num v, none) ab u := by
  obtain ⟨arrives, checked, inside⟩ := reach
  simp [writeNum, writeSeg, arrives, checked, inside, bad]

theorem confirm_refuses {via : Via} {v : Int} {s u : State} (reach : Reaches via 0x5001 1 v none s u v)
    (wrong : v ≠ u.rd Gl.CHECK_VALUE ∨ v ≠ u.rd Gl.CHECK_VALUE_B) :
    ∃ t, exec (.confirm via v) s = .next t ∧ t.answer = some 0x09000101 ∧ t.safety = s.safety ∧ KeepsRegs accessRegs s t := by
  have same {α : Type} {f : State → α} (h : AccessBlind f) : f (writeNum via 0x5001 1 (.num v) none id confirmEffect s) = f s := by
    rw [writeNum_refused_plain reach (confirmEffect_refuses wrong), h.reply, h.reaches reach]
  refine ⟨_, rfl, ?_, (settle_safety ..).trans (same accessBlind_safety), fun k hk hw => (rd_settle hw ..).trans (same (accessBlind_rd hk))⟩
  rw [settle_answer, writeNum_refused_plain reach (confirmEffect_refuses wrong), answer_reply]
  rfl

/-! ### SO_FAULT_CLEAR (R287) -/

theorem soFaultClear_marks {via : Via} {v : Nat} {s u : State} (reach : Reaches via 0x5102 4 v none s u v) (range : v < 64) :
    ∃ t, exec (.soFaultClear via v) s = .next t
      ∧ t.answer = some 0 ∧ t.safety = { s.safety with clearing := s.safety.clearing ||| v } ∧ KeepsRegs accessRegs s t := by
  have ok : soClearEffect v u = .ok { u with safety := { u.safety with clearing := u.safety.clearing ||| v } } := if_neg (Nat.not_le.mpr range)
  have acc := accepted_writeNum reach ok id s.pending
  refine ⟨_, rfl, acc.answer, ?_, acc.keepsRegs (ks := []) reach.1 fun _ _ => rfl⟩
  rw [acc.safety, ← accessBlind_safety.reaches reach]

/-! ### The proof test (R294) -/

/-- The interval of the proof test begins again. -/
def State.proofTested (s : State) : State :=
  { (s.wrn Gl.LAST_PROOF_TEST s.secs).wr Gl.PROOF_TEST_DUE (s.rd Gl.PROOF_TEST_INTERVAL) with safety := { s.safety with proofRaised := none } }

theorem proofEffect_done (s : State) : proofEffect 1 s = .ok s.proofTested := rfl

theorem rd_proofTested (s : State) (k : Nat) : s.proofTested.rd k
    = if k = Gl.PROOF_TEST_DUE then s.rd Gl.PROOF_TEST_INTERVAL else if k = Gl.LAST_PROOF_TEST then (s.secs : Int) else s.rd k := by
  have written : s.proofTested.rd k = ((s.wrn Gl.LAST_PROOF_TEST s.secs).wr Gl.PROOF_TEST_DUE (s.rd Gl.PROOF_TEST_INTERVAL)).rd k := rfl
  rw [written, rd_wr, rd_wrn]

theorem proofTestDone_restarts {via : Via} {s u : State} (reach : Reaches via 0x5104 2 1 none s u 1) :
    ∃ t, exec (.proofTestDone via 1) s = .next t
      ∧ t.answer = some 0 ∧ t.rdn Gl.LAST_PROOF_TEST = s.secs ∧ t.rd Gl.PROOF_TEST_DUE = s.rd Gl.PROOF_TEST_INTERVAL
      ∧ KeepsRegs ([Gl.LAST_PROOF_TEST, Gl.PROOF_TEST_DUE] ++ accessRegs) s t := by
  have acc := accepted_writeNum reach (proofEffect_done u) id s.pending
  have same {k : Nat} (h : k ∉ accessRegs) : u.rd k = s.rd k := (accessBlind_rd h).reaches reach
  refine ⟨_, rfl, acc.answer, ?last, ?due, acc.keepsRegs reach.1 fun k hk => ?regs⟩
  case last =>
    rw [State.rdn, acc.rd _ (by decide) (by decide), rd_proofTested, if_neg (by decide), if_pos rfl, Int.toNat_natCast, State.secs, State.rdn,
      same (by decide), ← State.rdn, ← State.secs]
  case due => rw [acc.rd _ (by decide) (by decide), rd_proofTested, if_pos rfl, same (by decide)]
  case regs =>
    simp only [List.mem_cons, List.not_mem_nil, or_false, not_or] at hk
    rw [rd_proofTested, if_neg hk.2, if_neg hk.1]

/-- The proof test that is due, noted with its second. -/
def State.proofNoted (s : State) : State := { s with safety := { s.safety with proofRaised := some s.secs } }

def State.proofRaised (s : State) : State := s.proofNoted.raise 0x31C4 0xFF (s.rd Gl.LAST_PROOF_TEST)

theorem exec_proofTestDue {s : State} (due : s.rd Gl.PROOF_TEST_DUE = 0) (first : s.safety.proofRaised = none) :
    exec .proofTestDue s = done s s.proofRaised := by
  refine congrArg (done s) (if_pos ?_)
  rw [first, State.rdn, due]
  rfl

theorem proofTestDue_raises {s : State} (due : s.rd Gl.PROOF_TEST_DUE = 0) (first : s.safety.proofRaised = none) :
    ∃ t, exec .proofTestDue s = .next t
      ∧ Counted 0x31C4 s t ∧ t.safety = { s.safety with proofRaised := some s.secs } ∧ KeepsRegs eventRegs s t
      ∧ OnlyEvents { s with safety := t.safety } t := by
  have safety : s.proofRaised.safety = s.proofNoted.safety := raise_blind (f := State.safety) (fun _ _ _ _ _ _ => rfl) ..
  refine ⟨_, exec_proofTestDue due first, counted_settle (counted_raise_of_recd (t := s.proofNoted) rfl ..) _, ?_,
    KeepsRegs.settle _ fun k hk => rd_raise hk .., ?_⟩
  · rw [settle_safety, safety]
    rfl
  · rw [settle_safety, safety, OnlyEvents, settle_sansEvents]
    exact raise_blind sansEvents_blind ..

/-- Settles O21: each write reaches its effect, and what it leaves is the effect's; the set that is not confirmed lets the token go with the command. -/
theorem safetySetCommands : Obligations.SafetySetCommands := fun _ _ =>
  ⟨fun _ => writeEnable_enables, fun _ _ reach _ => confirm_accepts reach, fun _ _ => confirm_refuses, fun _ _ => soFaultClear_marks,
    fun _ => proofTestDone_restarts, proofTestDue_raises⟩

end Sys2Proof.Machine

namespace Sys2Proof.Machine

/-!
The safe state (R265, R267, R268, R326): what every discrepancy of the channels leaves, and the two commands beside the ticks that find one.
-/

/-! ### Safe outputs whose demand is gone (R17) -/

/-- A function that sees neither registers nor the records of the safe outputs is the same behind their demands. -/
theorem driveOut_keeps {α : Type} {f : State → α} (reg : RegBlind f) (out : ∀ s k x, f (State.setOut s k x) = f s)
    (sample : ∀ s n v, f (State.sample s 3 n v) = f s) (s : State) (k : Nat) : f (s.driveOut k) = f s := by
  have opens : ∀ x y hs ls, f (s.outOpens k x y hs ls) = f s := fun x y a b => by
    rw [State.outOpens, setB_blind reg, setB_blind reg, out, setB_blind reg, setB_blind reg, out]
  rcases driveOut_cases s k with ⟨x, a, b, -, e⟩ | ⟨x, y, -, e⟩ | ⟨x, y, a, b, e⟩ | ⟨x, y, a, b, n, v, e⟩
  · rw [e, State.outSteady]
    split
    · exact out s k x
    · rw [setB_blind reg, setB_blind reg, out]
  · rw [e, State.outCloses, showSwitches_blind reg, out, setB_blind reg, setB_blind reg, out]
  · rw [e, opens]
  · rw [e, sample, opens]

/-- The channels' part of the state without the records of the safe outputs. -/
def State.channels (s : State) : Safety := { s.safety with outs := [] }

theorem channels_blind : EventBlind State.channels := fun _ _ _ _ _ _ => rfl

@[simp] theorem channels_driveOut (s : State) (k : Nat) : (s.driveOut k).channels = s.channels :=
  driveOut_keeps channels_blind.reg (fun _ _ _ => rfl) (fun s n v => sample_blind channels_blind s 3 n v) s k

@[simp] theorem channels_driveOuts (s : State) : s.driveOuts.channels = s.channels := foldl_keeps State.channels channels_driveOut _ s

/-- An output one of whose switches is not driven on opens, or stays open. -/
theorem energised_driveOut_off {s : State} {k : Nat} (hk : k < 6) (off : (switchOn s k .hs && switchOn s k .ls) = false) :
    energised (s.driveOut k) k = false := by
  rcases driveOut_cases s k with ⟨x, a, b, same, e⟩ | ⟨x, y, on, -⟩ | ⟨x, y, a, b, e⟩ | ⟨x, y, a, b, n, v, e⟩
  · rw [e, energised, off, State.outSteady, if_neg Bool.false_ne_true, bit_setB_bit_ne (by decide), bit_setB_bit_ne (by decide)]
    exact same.trans off
  · exact absurd (off.symm.trans on) Bool.false_ne_true
  · rw [e, energised_outOpens]
  · rw [e, energised, State.bit, rd_sample (soStatus_not_sampleRegs hk)]
    exact energised_outOpens s k x y a b

/-- With no output demanded by channel A, every output opens. -/
theorem energised_driveOuts_undemanded {s : State} (h : s.safety.soA = 0) {k : Nat} (hk : k < 6) : energised s.driveOuts k = false := by
  have opened : ∀ c, c ≤ 6 → ((List.range c).foldl (fun s k => s.driveOut k) s).safety.soA = 0
      ∧ ∀ k, k < c → energised ((List.range c).foldl (fun s k => s.driveOut k) s) k = false := by
    intro c
    induction c with
    | zero => exact fun _ => ⟨h, fun k hk => absurd hk (Nat.not_lt_zero k)⟩
    | succ c ih =>
      intro hc
      obtain ⟨undemanded, before⟩ := ih (Nat.le_of_succ_le hc)
      rw [List.range_succ, List.foldl_append, List.foldl_cons, List.foldl_nil]
      refine ⟨(congrArg Safety.soA (channels_driveOut _ c)).trans undemanded, fun k hk => ?_⟩
      rcases Nat.lt_succ_iff_lt_or_eq.mp hk with lt | rfl
      · rw [energised_driveOut_ne (Nat.lt_of_lt_of_le hk hc) (Nat.ne_of_lt lt)]
        exact before k lt
      · exact energised_driveOut_off hc (by simp [switchOn, undemanded])
  exact (opened 6 (Nat.le_refl 6)).2 k hk

/-- Registers that the demands on the safe outputs write. -/
abbrev outputRegs : List Nat := Gl.SO_STATE :: (List.range 6).map Gl.SO_STATUS ++ sampleRegs

theorem rd_driveOuts {j : Nat} (h : j ∉ outputRegs) (s : State) : s.driveOuts.rd j = s.rd j := by
  simp only [outputRegs, List.mem_append, List.mem_cons, List.mem_map, List.mem_range, not_or, not_exists, not_and] at h
  obtain ⟨⟨state, own⟩, sampled⟩ := h
  have each : ∀ l : List Nat, (∀ k ∈ l, k < 6) → ∀ s : State, (l.foldl (fun s k => s.driveOut k) s).rd j = s.rd j := by
    intro l
    induction l with
    | nil => exact fun _ _ => rfl
    | cons k r ih =>
      intro hl s
      obtain ⟨hk, hr⟩ := List.forall_mem_cons.mp hl
      exact (ih hr _).trans (rd_driveOut (fun e => own k hk e.symm) state sampled s)
  exact each _ (fun k hk => List.mem_range.mp hk) s

/-! ### The safe state (R268) -/

/-- The cause kept and the discrepancy counted; both channels demand STO of every axis and no output, and the token is let go. -/
def State.safeDemanded (s : State) (cause : Nat) : State :=
  ((s.wrn Gl.SAFE_STATE_CAUSE cause).count Gl.CHANNEL_DISCREPANCIES).stoAll.letGo

theorem safeState_first {s : State} (clear : s.rd Gl.SAFE_STATE_CAUSE = 0) (cause : Nat) :
    s.safeState cause = (s.safeDemanded cause).driveOuts.raise 0x01C1 0xFF cause :=
  if_neg (by rw [State.rdn, clear]; simp)

theorem safeState_later {s : State} (set : s.rdn Gl.SAFE_STATE_CAUSE ≠ 0) (cause : Nat) : s.safeState cause = s := if_pos set

theorem rd_safeDemanded {k : Nat} (h : k ≠ Gl.HOLDER) (s : State) (cause : Nat) : (s.safeDemanded cause).rd k
    = ((s.wrn Gl.SAFE_STATE_CAUSE cause).count Gl.CHANNEL_DISCREPANCIES).rd k := rd_letGo h _

/-- Registers that the safe state writes beside its event's and the wired ones. -/
abbrev safeRegs : List Nat := Gl.SAFE_STATE_CAUSE :: Gl.CHANNEL_DISCREPANCIES :: outputRegs

/-- The state without the channels' part, registers, events and the token's line. -/
def State.sansSafety (s : State) : State := { s.sansEvents with safety := {} }

theorem sansSafety_blind : EventBlind State.sansSafety := fun _ _ _ _ _ _ => rfl

theorem onlyEvents_of_sansSafety {s t : State} (h : t.sansSafety = s.sansSafety) (q : List Instr) :
    OnlyEvents { s with safety := (t.settle q).safety } (t.settle q) := by
  have back : t.sansEvents = { t.sansSafety with safety := t.safety } := rfl
  rw [OnlyEvents, settle_sansEvents, settle_safety, back, h]
  rfl

theorem sansSafety_driveOuts (s : State) : s.driveOuts.sansSafety = s.sansSafety :=
  driveOuts_blind sansSafety_blind.reg (fun _ _ => rfl) (fun s n v => sample_blind sansSafety_blind s 3 n v) s

theorem sansSafety_letGo (s : State) : s.letGo.sansSafety = s.sansSafety := rfl

theorem sansSafety_stoAll (s : State) : s.stoAll.sansSafety = s.sansSafety := rfl

theorem sansSafety_safeDemanded (s : State) (cause : Nat) : (s.safeDemanded cause).sansSafety = s.sansSafety := by
  rw [State.safeDemanded, sansSafety_letGo, sansSafety_stoAll, count_blind sansSafety_blind.reg]
  exact wr_blind sansSafety_blind.reg ..

theorem recd_letGo (s : State) : s.letGo.recd = s.recd := rfl

theorem recd_stoAll (s : State) : s.stoAll.recd = s.recd := rfl

theorem recd_safeDemanded (s : State) (cause : Nat) : (s.safeDemanded cause).recd = s.recd := by
  rw [State.safeDemanded, recd_letGo, recd_stoAll, count_blind (f := State.recd) fun _ _ => rfl]
  exact wr_blind (f := State.recd) (fun _ _ => rfl) ..

section
variable {s : State} (clear : s.rd Gl.SAFE_STATE_CAUSE = 0) (cause : Nat)
include clear

theorem rd_safeState {k : Nat} (own : k ∉ outputRegs) (event : k ∉ eventRegs) (holder : k ≠ Gl.HOLDER) : (s.safeState cause).rd k
    = if k = Gl.CHANNEL_DISCREPANCIES then ((min (s.rdn Gl.CHANNEL_DISCREPANCIES + 1) max32 : Nat) : Int)
      else if k = Gl.SAFE_STATE_CAUSE then (cause : Int) else s.rd k := by
  rw [safeState_first clear, rd_raise event, rd_driveOuts own, rd_safeDemanded holder, rd_count, rd_wrn, State.rdn, rd_wrn,
    if_neg (by decide : Gl.CHANNEL_DISCREPANCIES ≠ Gl.SAFE_STATE_CAUSE), State.rdn]

theorem channels_safeState : (s.safeState cause).channels = (s.safeDemanded cause).channels := by
  rw [safeState_first clear, raise_blind channels_blind, channels_driveOuts]

theorem holds_safeState : (s.safeState cause).holds = false := by
  rw [safeState_first clear, raise_blind (f := State.holds) (fun _ _ _ _ _ _ => rfl),
    driveOuts_blind (f := State.holds) (fun _ _ => rfl) (fun _ _ => rfl) (fun s n v => sample_blind (fun _ _ _ _ _ _ => rfl) s 3 n v)]
  rfl

theorem energised_safeState {k : Nat} (hk : k < 6) : energised (s.safeState cause) k = false := by
  have apart : Gl.SO_STATUS k ∉ eventRegs := fun m =>
    (by decide : ∀ j, j < 6 → Gl.SO_STATUS j ∉ eventRegs) k hk m
  rw [safeState_first clear, energised, bit_raise apart]
  exact energised_driveOuts_undemanded rfl hk

theorem counted_safeState : Counted 0x01C1 s (s.safeState cause) := by
  have same : ((s.safeDemanded cause).driveOuts).code 0x01C1 = s.code 0x01C1 :=
    (code_driveOuts ..).trans (code_of_recd (recd_safeDemanded s cause) _)
  rw [safeState_first clear]
  have once := counted_raise (s.safeDemanded cause).driveOuts 0x01C1 0xFF cause
  rwa [Counted, same] at once

theorem sto_safeState {a : Nat} (ha : a < 3 * s.doorways) :
    (s.safeState cause).safety.stoA.testBit a = true ∧ (s.safeState cause).safety.stoB.testBit a = true := by
  have channels := channels_safeState clear cause
  have stoA : (s.safeState cause).safety.stoA = 2 ^ (3 * s.doorways) - 1 := (congrArg Safety.stoA channels).trans rfl
  have stoB : (s.safeState cause).safety.stoB = 2 ^ (3 * s.doorways) - 1 := (congrArg Safety.stoB channels).trans rfl
  rw [stoA, stoB, Nat.testBit_two_pow_sub_one]
  simpa using ha

theorem sansSafety_safeState : (s.safeState cause).sansSafety = s.sansSafety := by
  rw [safeState_first clear, raise_blind sansSafety_blind, sansSafety_driveOuts, sansSafety_safeDemanded]

end

/-- While the safe state lasts, NFAULT shows it (R534). -/
theorem testBit_nfaultCauses_safe {t : State} (h : t.rd Gl.SAFE_STATE_CAUSE ≠ 0) : (nfaultCauses t).testBit 2 = true := by
  have shown : t.rd Gl.SAFE_STATE_CAUSE ≠ 0 ∨ t.safety.debugSafe = true := .inl h
  have low : (if t.running then 0 else 1) + (if t.power.wakeFailed then 2 else 0) < 4 := by
    split <;> split <;> decide
  have high : ∀ (c : Prop) [Decidable c] (n : Nat), n % 8 = 0 → (if c then n else 0) % 8 = 0 := by
    intro c _ n hn
    split
    · exact hn
    · rfl
  have set := high (t.rd Gl.SET_STATE ≠ 1) 8 rfl
  have rollback := high (t.bit Gl.SECURITY_STATUS 0) 16 rfl
  have boot := high (t.rd Gl.BOOT_MODE ≠ 0) 32 rfl
  have life := high (t.rd Gl.SECURITY_STATE = 0 ∨ t.rd Gl.SECURITY_STATE = 3) 64 rfl
  rw [nfaultCauses, Nat.testBit_eq_decide_div_mod_eq, decide_eq_true_eq]
  simp only [shown, if_true]
  omega

/-! ### ALIVE_LOST (R267) -/

/-- Since when the alive signal that a channel reads stands. -/
abbrev aliveAt (s : State) : Chan → Option Nat
  | .A => s.safety.aliveAtB
  | .B => s.safety.aliveAtA

theorem exec_aliveLost {s : State} {ch : Chan} (run : s.safety.inReset = false) (lost : heldFor (aliveAt s ch) s.now 50 = true) :
    exec (.aliveLost ch) s = done s (s.safeState 4) := by
  cases ch with
  | A => exact congrArg (done s) (if_pos ⟨run, lost⟩)
  | B => exact congrArg (done s) (if_pos ⟨run, lost⟩)

/-- Safety of another state. -/
def State.withSafety (s t : State) : State := { s with safety := t.safety }

theorem keepsRegs_safeState {s : State} (clear : s.rd Gl.SAFE_STATE_CAUSE = 0) (cause : Nat) :
    KeepsRegs ([Gl.SAFE_STATE_CAUSE, Gl.CHANNEL_DISCREPANCIES, Gl.SO_STATE] ++ (List.range 6).map Gl.SO_STATUS ++ sampleRegs ++ eventRegs) s
      (s.safeState cause) := by
  intro k hk wired
  simp only [List.mem_append, List.mem_cons, List.not_mem_nil, or_false, not_or] at hk
  obtain ⟨⟨⟨⟨set, counted, state⟩, own⟩, sampled⟩, event⟩ := hk
  have output : k ∉ outputRegs := by
    simp only [outputRegs, List.cons_append, List.mem_cons, List.mem_append, not_or]
    exact ⟨state, own, sampled⟩
  rw [rd_safeState clear cause output event (fun e => wired (by simp [e, wiredRegs])), if_neg counted, if_neg set]

theorem aliveLost_enters {s : State} {ch : Chan} (run : s.safety.inReset = false) (clear : s.rd Gl.SAFE_STATE_CAUSE = 0)
    (lost : heldFor (aliveAt s ch) s.now 50 = true) :
    ∃ t, exec (.aliveLost ch) s = .next t
      ∧ t.rd Gl.SAFE_STATE_CAUSE = 4 ∧ t.rdn Gl.CHANNEL_DISCREPANCIES = min (s.rdn Gl.CHANNEL_DISCREPANCIES + 1) max32
      ∧ (∀ k, k < 6 → energised t k = false)
      ∧ (∀ a, a < 3 * s.doorways → t.safety.stoA.testBit a = true ∧ t.safety.stoB.testBit a = true)
      ∧ t.holds = false ∧ t.rd Gl.HOLDER = 0 ∧ t.bit Gl.NFAULT_CAUSES 2 = true
      ∧ Counted 0x01C1 s t
      ∧ KeepsRegs ([Gl.SAFE_STATE_CAUSE, Gl.CHANNEL_DISCREPANCIES, Gl.SO_STATE] ++ (List.range 6).map Gl.SO_STATUS ++ sampleRegs ++ eventRegs) s t
      ∧ OnlyEvents { s with safety := t.safety } t := by
  have cause : (s.safeState 4).rd Gl.SAFE_STATE_CAUSE = 4 := by
    rw [rd_safeState clear 4 (by decide) (by decide) (by decide), if_neg (by decide), if_pos rfl]
    rfl
  have count : (s.safeState 4).rd Gl.CHANNEL_DISCREPANCIES = _ := rd_safeState clear 4 (by decide) (by decide) (by decide)
  have free : ((s.safeState 4).settle s.pending).holds = false := by rw [holds_settle, holds_safeState clear, Bool.false_and]
  refine ⟨_, exec_aliveLost run lost, (rd_settle (by decide) ..).trans cause, ?counted, fun k hk => ?opened, fun a ha => ?sto, free, ?holder, ?nfault,
    counted_settle (counted_safeState clear 4) _, fun k hk wired => (rd_settle wired ..).trans (keepsRegs_safeState clear 4 k hk wired),
    onlyEvents_of_sansSafety (sansSafety_safeState clear 4) _⟩
  case counted =>
    rw [rdn_settle (by decide), State.rdn, count, if_pos rfl, Int.toNat_natCast]
  case opened => exact (bit_settle (soStatus_not_wiredRegs k) ..).trans (energised_safeState clear 4 hk)
  case sto =>
    rw [settle_safety]
    exact sto_safeState clear 4 ha
  case holder =>
    rw [rd_holder_settle, free]
    rfl
  case nfault =>
    rw [State.bit, rd_nfaultCauses_settle]
    exact testBit_nfaultCauses_safe (by rw [cause]; decide)

theorem aliveLost_again {s : State} (set : s.rdn Gl.SAFE_STATE_CAUSE ≠ 0) (ch : Chan) :
    ∃ t, exec (.aliveLost ch) s = .next t ∧ KeepsRegs [] s t ∧ OnlyRegs s t := by
  have same : exec (.aliveLost ch) s = done s s := congrArg (done s) (by rw [safeState_later set, ite_self])
  exact ⟨_, same, KeepsRegs.settle _ fun _ _ => rfl, settle_sansRegs ..⟩

/-! ### The safety ports (R265) -/

/-- A die whose safety-port watchdog has expired, or expires no longer. -/
def State.portShut (s : State) (die : Nat) (shut : Bool) : State :=
  { s with safety := if die = 0 then { s.safety with dieA := shut } else { s.safety with dieB := shut } }

def dieShut (x : Safety) (die : Nat) : Bool := if die = 0 then x.dieA else x.dieB

theorem dieShut_channels (s : State) (die : Nat) : dieShut s.channels die = dieShut s.safety die := rfl

theorem dieShut_letGo (s : State) (die : Nat) : dieShut s.letGo.channels die = dieShut s.channels die := rfl

theorem dieShut_stoAll (s : State) (die : Nat) : dieShut s.stoAll.channels die = dieShut s.channels die := rfl

theorem dieShut_safeDemanded (s : State) (cause die : Nat) : dieShut (s.safeDemanded cause).channels die = dieShut s.channels die := by
  rw [State.safeDemanded, dieShut_letGo, dieShut_stoAll, count_blind channels_blind.reg]
  exact congrArg (dieShut · die) (wr_blind channels_blind.reg ..)

theorem exec_safetyPortWatchdog {s : State} {die : Nat} (hd : die < 2) (run : s.safety.inReset = false) (quiet : portQuiet s die = true)
    (fresh : portExpired s die = false) : exec (.safetyPortWatchdog die) s = done s ((s.portShut die true).driveOuts.safeState 5) := by
  have reset : (s.portShut die true).driveOuts.safety.inReset = false := by
    have channels := congrArg Safety.inReset (channels_driveOuts (s.portShut die true))
    refine channels.trans ?_
    unfold State.channels State.portShut
    split
    · exact run
    · exact run
  refine congrArg (done s) ((if_neg ?_).trans (if_neg ?_))
  · simp [quiet, fresh, hd]
  · exact ne_true_of_eq_false reset

theorem exec_safetyPortResumed {s : State} {die : Nat} (hd : die < 2) (steady : portSteady s die = true) :
    exec (.safetyPortResumed die) s = done s (s.portShut die false) :=
  congrArg (done s) (if_neg (by simp [steady, hd]))

theorem sansSafety_portShut (s : State) (die : Nat) (shut : Bool) : (s.portShut die shut).sansSafety = s.sansSafety := rfl

theorem safetyPortWatchdog_enters {s : State} {die : Nat} (hd : die < 2) (run : s.safety.inReset = false) (clear : s.rd Gl.SAFE_STATE_CAUSE = 0)
    (quiet : portQuiet s die = true) (fresh : portExpired s die = false) :
    ∃ t, exec (.safetyPortWatchdog die) s = .next t
      ∧ t.rd Gl.SAFE_STATE_CAUSE = 5 ∧ (if die = 0 then t.safety.dieA else t.safety.dieB) = true
      ∧ (∀ k, k < 6 → energised t k = false) ∧ t.holds = false ∧ Counted 0x01C1 s t ∧ OnlyEvents { s with safety := t.safety } t := by
  have first : (s.portShut die true).driveOuts.rd Gl.SAFE_STATE_CAUSE = 0 := (rd_driveOuts (by decide) _).trans clear
  have cause : ((s.portShut die true).driveOuts.safeState 5).rd Gl.SAFE_STATE_CAUSE = 5 := by
    rw [rd_safeState first 5 (by decide) (by decide) (by decide), if_neg (by decide), if_pos rfl]
    rfl
  have code : (s.portShut die true).driveOuts.code 0x01C1 = s.code 0x01C1 := code_driveOuts ..
  refine ⟨_, exec_safetyPortWatchdog hd run quiet fresh, (rd_settle (by decide) ..).trans cause, ?die, fun k hk => ?opened, ?token,
    counted_settle ?counted _, onlyEvents_of_sansSafety ?frame _⟩
  case die =>
    rw [settle_safety]
    show dieShut ((s.portShut die true).driveOuts.safeState 5).safety die = true
    rw [← dieShut_channels, channels_safeState first, dieShut_safeDemanded, channels_driveOuts, dieShut_channels]
    unfold dieShut State.portShut
    split
    · rfl
    · rfl
  case opened => exact (bit_settle (soStatus_not_wiredRegs k) ..).trans (energised_safeState first 5 hk)
  case token => rw [holds_settle, holds_safeState first, Bool.false_and]
  case counted =>
    have once := counted_safeState first 5
    rwa [Counted, code] at once
  case frame => rw [sansSafety_safeState first, sansSafety_driveOuts, sansSafety_portShut]

theorem safetyPortResumed_follows {s : State} {die : Nat} (hd : die < 2) (steady : portSteady s die = true) :
    ∃ t, exec (.safetyPortResumed die) s = .next t
      ∧ t.safety = (if die = 0 then { s.safety with dieA := false } else { s.safety with dieB := false })
      ∧ KeepsRegs [] s t ∧ OnlyRegs { s with safety := t.safety } t :=
  ⟨_, exec_safetyPortResumed hd steady, settle_safety .., KeepsRegs.settle _ fun _ _ => rfl,
    onlyRegs_settle (put := State.withSafety) (fun _ _ => rfl) (u := s.portShut die false) rfl _⟩

/-- Settles O17: every discrepancy goes through `safeState`, which takes effect once; without a demand of channel A no output stays closed. -/
theorem safeStateOpensEverything : Obligations.SafeStateOpensEverything := by
  intro s run
  refine ⟨fun ch clear lost => aliveLost_enters run clear ?_, fun ch set => aliveLost_again set ch,
    fun die hd clear quiet fresh => safetyPortWatchdog_enters hd run clear quiet fresh, fun die hd steady => safetyPortResumed_follows hd steady⟩
  cases ch with
  | A => exact lost
  | B => exact lost

end Sys2Proof.Machine

namespace Sys2Proof.Machine

/-!
The verdict of a dark pulse (R284, R285): an output whose fault is latched gets none, so its pulse ends without restarting the switch's 24 h.
-/

/-- The end of a pulse, before its verdict: the pulsed switch follows the demand again, and the load current before the pulse is kept. -/
def State.pulseOver (s : State) (k load : Nat) : State := (s.setOut k { s.out k with pulse := none, loadMa := load }).showSwitches k

theorem soFaulted_pulseOver (s : State) (k load : Nat) : soFaulted (s.pulseOver k load) k = soFaulted s k := by
  unfold State.pulseOver State.showSwitches soFaulted
  split
  · rw [bit_setB_bit_ne (by decide), bit_setB_bit_ne (by decide)]
    rfl
  · rfl

@[simp] theorem out_setOut_same (s : State) (k : Nat) (x : SafeOut) : (s.setOut k x).out k = x := by simp [State.out, State.setOut]

theorem out_of_safety {s t : State} (h : t.safety = s.safety) (k : Nat) : t.out k = s.out k := by rw [State.out, h, State.out]

theorem out_pulseOver (s : State) (k load : Nat) : (s.pulseOver k load).out k = { s.out k with pulse := none, loadMa := load } :=
  (out_of_safety (showSwitches_blind (f := State.safety) (fun _ _ => rfl) _ k) k).trans (out_setOut_same ..)

/-- A pulse of the high side that ends on an output with a latched fault gets no verdict. -/
theorem exec_testPulseEnd_faulted {s : State} {k start : Nat} (hk : k < 6) (pulse : (s.out k).pulse = some (false, start)) (ended : start + 10 ≤ s.now)
    (faulted : soFaulted s k = true) (load : Nat) : exec (.testPulseEnd k .hs true true load none) s = done s (s.pulseOver k load) := by
  have latched : soFaulted (s.pulseOver k load) k = true := (soFaulted_pulseOver s k load).trans faulted
  have due : ¬ (k ≥ 6 ∨ false ≠ (Side.hs == Side.ls) ∨ s.now < start + 10) := by
    rintro (late | other | early)
    · omega
    · exact other rfl
    · omega
  show execTestPulseEnd k .hs true true load none s = _
  unfold execTestPulseEnd
  simp only [pulse]
  refine congrArg (done s) ((if_neg due).trans ?_)
  simp only [Bool.false_and, Bool.false_eq_true, if_false]
  exact if_pos latched

/-- An energised output whose fault is latched, 200 µs into a pulse of its high side; the switch had 1 door tick without a passing pulse. -/
def faultedPulse : State :=
  { State.reset with now := 10, safety := { outs := [(0, { pulse := some (false, 0), hsUntested := 1 })] } }.wr (Gl.SO_STATUS 0) (256 + 4 + 2)

/-- Refutes O19: a pulse that passes is claimed to restart its switch's 24 h on every energised output, also on one whose fault is latched. There the
pulse gets no verdict (R285 keeps such an output open), and the time stands. -/
theorem not_safeOutputTestsAndFaults : ¬ Obligations.SafeOutputTestsAndFaults := by
  unfold Obligations.SafeOutputTestsAndFaults
  intro h
  obtain ⟨-, passes, -⟩ := h faultedPulse 0 .hs (by decide)
  obtain ⟨⟨t, run, -, -, -, restarted, -⟩, -⟩ := passes 5 0 (by decide) rfl (by decide) (by decide)
  rw [exec_testPulseEnd_faulted (by decide) (start := 0) rfl (by decide) (by decide)] at run
  have kept : (t.out 0).hsUntested = 1 := by
    rw [eq_settle_of_done run, out_of_safety (settle_safety ..), out_pulseOver]
    rfl
  exact absurd (kept.symm.trans restarted) (by decide)

end Sys2Proof.Machine

namespace Sys2Proof.Machine

/-!
Steps of the partner link (R329 to R333, R346, R352). Each writes registers of a list and parts of the state that a view does not show; what follows a
sequence of steps is read from the list and the view.
-/

/-! ### Steps that a view does not show -/

/-- `t` has the registers of `s` outside `ks`, and what `view` shows of `s`. -/
structure Keeps {α : Type} (view : State → α) (ks : List Nat) (s t : State) : Prop where
  regs : KeepsRegs ks s t
  same : view t = view s

namespace Keeps

variable {α : Type} {view : State → α} {ks : List Nat} {s t u : State}

theorem refl (view : State → α) (ks : List Nat) (s : State) : Keeps view ks s s := ⟨KeepsRegs.refl ks s, rfl⟩

theorem trans (h : Keeps view ks s t) (g : Keeps view ks t u) : Keeps view ks s u := ⟨h.regs.trans g.regs, g.same.trans h.same⟩

/-- What a view shows, every view of the view shows, and with more registers let free. -/
theorem weaken {β : Type} {less : State → β} {ls : List Nat} (h : Keeps view ks s t) (g : α → β) (shows : ∀ s, less s = g (view s)) (sub : ∀ k ∈ ks, k ∈ ls) :
    Keeps less ls s t :=
  ⟨h.regs.mono sub, (shows t).trans ((congrArg g h.same).trans (shows s).symm)⟩

theorem part (h : Keeps view ks s t) (dict : u.dict = t.dict) (same : view u = view t) : Keeps view ks s u := ⟨h.regs.of_dict dict, same.trans h.same⟩

theorem ite {c : Prop} [Decidable c] (ht : Keeps view ks s t) (hu : Keeps view ks s u) : Keeps view ks s (if c then t else u) := by
  split
  · exact ht
  · exact hu

theorem foldl {β : Type} {g : State → β → State} (h : Keeps view ks s t) {l : List β} (step : ∀ u, ∀ b ∈ l, Keeps view ks u (g u b)) :
    Keeps view ks s (l.foldl g t) := by
  induction l generalizing t with
  | nil => exact h
  | cons b l ih =>
    obtain ⟨first, rest⟩ : (∀ u, Keeps view ks u (g u b)) ∧ ∀ u, ∀ b ∈ l, Keeps view ks u (g u b) :=
      ⟨fun u => step u b List.mem_cons_self, fun u c hc => step u c (List.mem_cons_of_mem b hc)⟩
    exact ih (h.trans (first t)) rest

section
variable (blind : RegBlind view) (h : Keeps view ks s t)
include blind h

theorem wr {k : Nat} (hk : k ∈ ks) (v : Int) : Keeps view ks s (t.wr k v) := ⟨h.regs.wr hk v, (wr_blind blind ..).trans h.same⟩

theorem setB {k : Nat} (hk : k ∈ ks) (i : Nat) (b : Bool) : Keeps view ks s (t.setB k i b) := h.wr blind hk _

theorem wr_wired {k : Nat} (hk : k ∈ wiredRegs) (v : Int) : Keeps view ks s (t.wr k v) :=
  ⟨fun j hj wired => (rd_wr_ne (ne_of_mem_of_not_mem hk wired).symm t v).trans (h.regs j hj wired), (wr_blind blind ..).trans h.same⟩

theorem latch {w r : Nat} (hw : w ∈ ks) (hr : r ∈ ks) (i : Nat) : Keeps view ks s (t.latch w i r) :=
  ⟨h.regs.latch hw hr i, (latch_blind blind ..).trans h.same⟩

theorem raiseMax {k : Nat} (hk : k ∈ ks) (v : Int) : Keeps view ks s (t.raiseMax k v) := (h.wr blind hk v).ite h

/-- The readouts of the link and the token (R354). -/
theorem showDuplex (status : Gl.DUPLEX_STATUS ∈ ks) (source : Gl.FAST_TICK_SOURCE ∈ ks) : Keeps view ks s t.showDuplex := by
  unfold State.showDuplex
  extract_lets x k other master s₁ s₂ s₃ s₄ s₅ s₆ s₇
  have h₁ : Keeps view ks s s₁ := h.setB blind status _ _
  have h₂ : Keeps view ks s s₂ := h₁.setB blind status _ _
  have h₃ : Keeps view ks s s₃ := h₂.setB blind status _ _
  have h₄ : Keeps view ks s s₄ := h₃.setB blind status _ _
  have h₅ : Keeps view ks s s₅ := h₄.setB blind status _ _
  have h₆ : Keeps view ks s s₆ := h₅.setB blind status _ _
  have h₇ : Keeps view ks s s₇ := (h₆.wr blind source _).ite h₆
  exact h₇.wr_wired blind (by decide) _

end

theorem raise (blind : EventBlind view) (h : Keeps view ks s t) (sub : ∀ k ∈ eventRegs, k ∈ ks) (c i : Nat) (v : Int) : Keeps view ks s (t.raise c i v) :=
  ⟨fun k hk wired => (rd_raise (fun event => hk (sub k event)) ..).trans (h.regs k hk wired), (raise_blind blind ..).trans h.same⟩

end Keeps

/-- The other bits of DUPLEX_STATUS are none of the readouts'. -/
theorem bit_showDuplex {i : Nat} (h : i ∉ [0, 2, 3, 4, 5, 6]) (s : State) : s.showDuplex.bit Gl.DUPLEX_STATUS i = s.bit Gl.DUPLEX_STATUS i := by
  simp only [List.mem_cons, List.not_mem_nil, or_false, not_or] at h
  obtain ⟨h0, h2, h3, h4, h5, h6⟩ := h
  unfold State.showDuplex
  extract_lets x k other master s₁ s₂ s₃ s₄ s₅ s₆ s₇
  have source : s₇.bit k i = s₆.bit k i := by
    unfold s₇
    split
    · exact bit_wr_ne (by decide) ..
    · rfl
  calc (s₇.wr Gl.HOLDER (b2i s₇.holds)).bit k i = s₇.bit k i := bit_wr_ne (by decide) ..
    _ = s₆.bit k i := source
    _ = s₅.bit k i := bit_setB_bit_ne h6 ..
    _ = s₄.bit k i := bit_setB_bit_ne h5 ..
    _ = s₃.bit k i := bit_setB_bit_ne h4 ..
    _ = s₂.bit k i := bit_setB_bit_ne h3 ..
    _ = s₁.bit k i := bit_setB_bit_ne h2 ..
    _ = s.bit k i := bit_setB_bit_ne h0 ..

/-! ### The link goes DOWN (R332) -/

/-- What the link forgets when it goes DOWN; what was to be sent is marked for the next inventory. -/
def State.linkForgotten (s : State) (wait : Nat) : State :=
  let items := s.duplex.items ++ s.duplex.outbox.filterMap (·.item)
  { s with duplex := { s.duplex with
    train := none, retrainAt := some (s.now + wait), missing := 0, got := false, inventoried := false, inventorySent := false,
    items := [], expect := [], outbox := [], rx := [], domRx := [], acks := [], match_ := [], sendsConfig := false,
    marked := s.duplex.marked ++ items.filter (fun i => !s.duplex.marked.contains i) } }

def State.linkDown (s : State) (cause wait : Nat) : State := ((s.wr Gl.PARTNER_STATE 1).wrn Gl.PARTNER_LOST_CAUSE cause).linkForgotten wait

/-- No doorway is synchronised on a link that is DOWN. -/
def State.syncLost (s : State) : State :=
  let s := s.wr Gl.SYNC_ITEMS_PENDING 0
  let s := if s.rdn Gl.SHADOW_SYNC_MASK = 0 then s else s.latch Gl.DUPLEX_STATUS 11 (Gl.DUPLEX_REPEATS 3)
  let s := (((s.wr Gl.SHADOW_SYNC_MASK 0).wr Gl.FAST_TICK_SOURCE 0).setB Gl.DUPLEX_STATUS 1 false).dropShadows
  (List.range 16).foldl (fun s d => s.setB (Lk.LINK_STATUS d) 2 false) s

/-- PARTNER_LOST, latched since now. -/
def State.lossLatched (s : State) : State :=
  State.latch { s with duplex := { s.duplex with lostAt := some s.now } } Gl.DUPLEX_STATUS 8 (Gl.DUPLEX_REPEATS 0)

theorem partnerDown_of_paired {s : State} (paired : s.paired = true) (cause wait : Nat) :
    s.partnerDown cause wait = ((s.linkDown cause wait).syncLost.lossLatched.raise 0x1181 0xFF cause).showDuplex := by
  unfold State.partnerDown
  extract_lets was s₁ items kept s₂ s₃ s₄ s₅ s₆ own s₇ s₈
  have down : s₂ = s.linkDown cause wait := rfl
  have lost : s₆ = s₂.syncLost := rfl
  have latched : s₈ = s₆.lossLatched.raise 0x1181 0xFF cause := if_pos paired
  rw [latched, lost, down]

theorem dropShadows_parts (s : State) : ∃ axes, s.dropShadows = { s with axes, duplex := { s.duplex with match_ := [] } } := by
  have dropped : ∀ (l : List Nat) (s : State), ∃ axes,
      l.foldl (fun s a => if (s.axis a).shadow.isSome then s.setAxis a { s.axis a with shadow := none } else s) s = { s with axes } := by
    intro l
    induction l with
    | nil => exact fun s => ⟨s.axes, rfl⟩
    | cons a l ih =>
      intro s
      rw [List.foldl_cons]
      split
      · obtain ⟨axes, e⟩ := ih (s.setAxis a { s.axis a with shadow := none })
        exact ⟨axes, e⟩
      · exact ih s
  obtain ⟨axes, e⟩ := dropped (List.range 48) s
  refine ⟨axes, ?_⟩
  unfold State.dropShadows
  rw [e]

/-- Registers that a link that goes DOWN writes beside its state and its cause. -/
abbrev downRegs : List Nat :=
  [Gl.FAST_TICK_SOURCE, Gl.DUPLEX_STATUS, Gl.DUPLEX_REPEATS 0, Gl.DUPLEX_REPEATS 3, Gl.SYNC_ITEMS_PENDING, Gl.SHADOW_SYNC_MASK]
    ++ (List.range 16).map Lk.LINK_STATUS ++ eventRegs

section
variable {α : Type} {view : State → α} {s t : State}

theorem Keeps.dropShadows {ks : List Nat}
    (axes : ∀ s axes match_, view { s with axes, duplex := { s.duplex with match_ } } = view s) (h : Keeps view ks s t) : Keeps view ks s t.dropShadows := by
  obtain ⟨a, e⟩ := dropShadows_parts t
  rw [e]
  exact h.part rfl (axes ..)

theorem Keeps.syncLost (blind : RegBlind view) (axes : ∀ s axes match_, view { s with axes, duplex := { s.duplex with match_ } } = view s)
    (h : Keeps view downRegs s t) : Keeps view downRegs s t.syncLost := by
  unfold State.syncLost
  extract_lets s₁ s₂ s₃
  have h₁ : Keeps view downRegs s s₁ := h.wr blind (by decide) _
  have h₂ : Keeps view downRegs s s₂ := h₁.ite (h₁.latch blind (by decide) (by decide) _)
  have h₃ : Keeps view downRegs s s₃ :=
    .dropShadows axes (((h₂.wr blind (by decide) _).wr blind (by decide) _).setB blind (by decide) _ _)
  refine h₃.foldl fun u d hd => (Keeps.refl view _ u).setB blind ?_ _ _
  exact List.mem_append_left _ (List.mem_append_right _ (List.mem_map_of_mem hd))

theorem Keeps.lossLatched (blind : RegBlind view) (lost : ∀ s, view { s with duplex := { s.duplex with lostAt := some s.now } } = view s)
    (h : Keeps view downRegs s t) : Keeps view downRegs s t.lossLatched :=
  (h.part (u := { t with duplex := { t.duplex with lostAt := some t.now } }) rfl (lost t)).latch blind (by decide) (by decide) _

end

/-- What a link that went DOWN keeps of its state just after it was left. -/
theorem Keeps.partnerDown {α : Type} {view : State → α} {s : State} (paired : s.paired = true) (blind : EventBlind view)
    (axes : ∀ s axes match_, view { s with axes, duplex := { s.duplex with match_ } } = view s)
    (lost : ∀ s, view { s with duplex := { s.duplex with lostAt := some s.now } } = view s) (cause wait : Nat) :
    Keeps view downRegs (s.linkDown cause wait) (s.partnerDown cause wait) := by
  rw [partnerDown_of_paired paired]
  exact .showDuplex blind.reg (.raise blind (.lossLatched blind.reg lost (.syncLost blind.reg axes (.refl ..)))
    (fun k hk => List.mem_append_right _ hk) ..) (by decide) (by decide)

/-- The state without the link's record, the axes' shadows, registers and events. -/
def State.sansLink (s : State) : State := { s.sansEvents with duplex := {}, axes := [] }

theorem sansLink_blind : EventBlind State.sansLink := fun _ _ _ _ _ _ => rfl

theorem onlyEvents_of_sansLink {s t : State} (h : t.sansLink = s.sansLink) (q : List Instr) :
    OnlyEvents { s with duplex := (t.settle q).duplex, axes := (t.settle q).axes } (t.settle q) := by
  have settled : (t.settle q).sansLink = s.sansLink := (settle_blind (f := State.sansLink) (fun _ _ _ _ _ => rfl) t q).trans h
  generalize t.settle q = r at settled
  have back : r.sansEvents = { r.sansLink with duplex := r.sansEvents.duplex, axes := r.axes } := rfl
  rw [OnlyEvents, back, settled]
  rfl

theorem rd_linkDown (s : State) (cause wait k : Nat) : (s.linkDown cause wait).rd k
    = if k = Gl.PARTNER_LOST_CAUSE then (cause : Int) else if k = Gl.PARTNER_STATE then 1 else s.rd k := by
  have dict : (s.linkDown cause wait).rd k = ((s.wr Gl.PARTNER_STATE 1).wrn Gl.PARTNER_LOST_CAUSE cause).rd k := rfl
  rw [dict, rd_wrn, rd_wr]

theorem sansLink_linkDown (s : State) (cause wait : Nat) : (s.linkDown cause wait).sansLink = s.sansLink := by
  have forgotten : ∀ u : State, (u.linkForgotten wait).sansLink = u.sansLink := fun _ => rfl
  exact (forgotten _).trans ((wr_blind sansLink_blind.reg ..).trans (wr_blind sansLink_blind.reg ..))

theorem downRegs_subset {k : Nat} (h : k ∈ downRegs) : k ∈ pairRegs ++ eventRegs := by
  simp only [downRegs, pairRegs, List.mem_append, List.mem_cons, List.not_mem_nil, or_false] at h ⊢
  tauto

theorem counted_partnerDown {s : State} (paired : s.paired = true) (cause wait : Nat) : Counted 0x1181 s (s.partnerDown cause wait) := by
  have before : (s.linkDown cause wait).syncLost.lossLatched.recd = s.recd :=
    (Keeps.lossLatched (view := State.recd) (fun _ _ => rfl) (fun _ => rfl) (.syncLost (fun _ _ => rfl) (fun _ _ _ => rfl) (.refl ..))).same.trans rfl
  have once := counted_raise_of_recd before 0x1181 0xFF cause
  rw [partnerDown_of_paired paired]
  have shown := (Keeps.refl State.recd downRegs ((s.linkDown cause wait).syncLost.lossLatched.raise 0x1181 0xFF cause)).showDuplex
    (fun _ _ => rfl) (by decide) (by decide)
  rwa [Counted, code_of_recd shown.same]

/-- A working link that goes DOWN with a cause, and what it leaves. -/
theorem settled_partnerDown {s : State} (paired : s.paired = true) (cause wait : Nat) (q : List Instr) :
    ((s.partnerDown cause wait).settle q).rd Gl.PARTNER_STATE = 1 ∧ ((s.partnerDown cause wait).settle q).rd Gl.PARTNER_LOST_CAUSE = cause
      ∧ ((s.partnerDown cause wait).settle q).duplex.retrainAt = some (s.now + wait) ∧ Counted 0x1181 s ((s.partnerDown cause wait).settle q)
      ∧ KeepsRegs (pairRegs ++ eventRegs) s ((s.partnerDown cause wait).settle q)
      ∧ OnlyEvents { s with duplex := ((s.partnerDown cause wait).settle q).duplex, axes := ((s.partnerDown cause wait).settle q).axes }
          ((s.partnerDown cause wait).settle q) := by
  obtain ⟨regs, same⟩ := Keeps.partnerDown paired sansLink_blind (fun _ _ _ => rfl) (fun _ => rfl) cause wait
  obtain ⟨-, retrain⟩ := Keeps.partnerDown (view := fun t => t.duplex.retrainAt) paired (fun _ _ _ _ _ _ => rfl) (fun _ _ _ => rfl) (fun _ => rfl) cause wait
  have rd : ∀ k, k ∉ downRegs → k ∉ wiredRegs → ((s.partnerDown cause wait).settle q).rd k = (s.linkDown cause wait).rd k :=
    fun k hk wired => (rd_settle wired ..).trans (regs k hk wired)
  refine ⟨?state, ?cause, ?retrain, counted_settle (counted_partnerDown paired cause wait) q, fun k hk wired => ?regs, onlyEvents_of_sansLink (same.trans (sansLink_linkDown ..)) q⟩
  case state => rw [rd _ (by decide) (by decide), rd_linkDown, if_neg (by decide), if_pos rfl]
  case cause => rw [rd _ (by decide) (by decide), rd_linkDown, if_pos rfl]
  case retrain => exact (duplex_settle (g := Duplex.retrainAt) (fun _ _ _ => rfl) ..).trans (retrain.trans rfl)
  case regs =>
    have own : k ≠ Gl.PARTNER_LOST_CAUSE ∧ k ≠ Gl.PARTNER_STATE :=
      ⟨fun e => hk (e ▸ List.mem_append_left _ (by decide)), fun e => hk (e ▸ List.mem_append_left _ (by decide))⟩
    rw [rd k (fun m => hk (downRegs_subset m)) wired, rd_linkDown, if_neg own.1, if_neg own.2]

end Sys2Proof.Machine

namespace Sys2Proof.Machine

/-!
Frames and inventories of the partner (R293, R329 to R333, R346, R352), assembled from the steps above.
-/

/-! ### Messages to the partner (R348, R349, R352) -/

theorem mirrorSend_parts (s : State) (type : Nat) (data : List ByteN) (item : Option (Nat × Nat)) :
    ∃ tag outbox egress, s.mirrorSend type data item = { s with egress, duplex := { s.duplex with tag, outbox } } := by
  unfold State.mirrorSend
  split
  · exact ⟨s.duplex.tag, s.duplex.outbox, s.egress, rfl⟩
  · exact ⟨_, _, _, rfl⟩

/-- SYNC_ITEMS_PENDING and READY_TO_TAKE. -/
def State.itemsShown (s : State) (n : Nat) (ready : Bool) : State := (s.wrn Gl.SYNC_ITEMS_PENDING n).setB Gl.DUPLEX_STATUS 1 ready

/-- A unit whose TICK_ALIGNED fell is in SYNCING again, with a new inventory and a new alignment (entry 217). -/
def State.resynced (s : State) : State :=
  { s.wr Gl.PARTNER_STATE 3 with duplex := { s.duplex with inventorySent := false, phased := false } }

theorem rd_itemsShown {k : Nat} (items : k ≠ Gl.SYNC_ITEMS_PENDING) (status : k ≠ Gl.DUPLEX_STATUS) (s : State) (n : Nat) (ready : Bool) :
    (s.itemsShown n ready).rd k = s.rd k := (rd_wr_ne status ..).trans (rd_wr_ne items ..)

/-- The end of an exchange: a unit that is ready goes UP, one that lost its alignment into SYNCING, any other stays. -/
theorem readyTick_cases (s : State) : ∃ n ready, s.readyTick = ((s.itemsShown n ready).wr Gl.PARTNER_STATE 4).showDuplex
    ∨ (s.rdb Gl.TICK_ALIGNED = false ∧ s.rdn Gl.PARTNER_STATE = 4 ∧ s.readyTick = (s.itemsShown n ready).resynced.showDuplex)
    ∨ s.readyTick = (s.itemsShown n ready).showDuplex := by
  unfold State.readyTick
  extract_lets x s₁ ready s₂ synced own s₃
  have shown : s₂ = s.itemsShown (min max16 x.items.length) ready := rfl
  refine ⟨min max16 x.items.length, ready, ?_⟩
  rw [← shown]
  unfold s₃
  split
  · exact .inl rfl
  · split
    · next lost =>
      have rd : ∀ k, k ≠ Gl.SYNC_ITEMS_PENDING → k ≠ Gl.DUPLEX_STATUS → s₂.rd k = s.rd k := fun k items status => rd_itemsShown items status ..
      have aligned : s.rdb Gl.TICK_ALIGNED = false := by rw [← lost.1, State.rdb, State.rdb, rd _ (by decide) (by decide)]
      have up : s.rdn Gl.PARTNER_STATE = 4 := by rw [← lost.2, State.rdn, State.rdn, rd _ (by decide) (by decide)]
      exact .inr (.inl ⟨aligned, up, rfl⟩)
    · exact .inr (.inr rfl)

section
variable {α : Type} {view : State → α} {ks : List Nat} {s t : State}

theorem Keeps.mirrorSend (queue : ∀ s tag outbox egress, view { s with egress, duplex := { s.duplex with tag, outbox } } = view s) (h : Keeps view ks s t)
    (type : Nat) (data : List ByteN) (item : Option (Nat × Nat)) : Keeps view ks s (t.mirrorSend type data item) := by
  obtain ⟨tag, outbox, egress, e⟩ := mirrorSend_parts t type data item
  rw [e]
  exact h.part rfl (queue ..)

theorem Keeps.sendInventory (queue : ∀ s tag outbox egress, view { s with egress, duplex := { s.duplex with tag, outbox } } = view s)
    (sent : ∀ s marked, view { s with duplex := { s.duplex with inventorySent := true, marked } } = view s) (h : Keeps view ks s t) :
    Keeps view ks s t.sendInventory := by
  unfold State.sendInventory
  split
  · exact h
  · exact .mirrorSend queue (h.part (u := { t with duplex := { t.duplex with inventorySent := true, marked := [] } }) rfl (sent ..)) ..

theorem Keeps.pumpItems (queue : ∀ s tag outbox egress, view { s with egress, duplex := { s.duplex with tag, outbox } } = view s)
    (taken : ∀ s items, view { s with duplex := { s.duplex with items } } = view s) (n : Nat) (h : Keeps view ks s t) : Keeps view ks s (t.pumpItems n) := by
  induction n generalizing t with
  | zero => exact h
  | succ n ih =>
    unfold State.pumpItems
    split
    · exact h
    · next i r _ =>
      split
      · exact h
      · obtain ⟨type, data, item, e⟩ := sendItem_eq { t with duplex := { t.duplex with items := r } } i.1 i.2
        rw [e]
        exact ih (.mirrorSend queue (h.part (u := { t with duplex := { t.duplex with items := r } }) rfl (taken t r)) ..)

/-- The end of the exchange of items: SYNCING and UP, READY_TO_TAKE (R332, R352). -/
theorem Keeps.readyTick (blind : RegBlind view)
    (again : ∀ s, view { s with duplex := { s.duplex with inventorySent := false, phased := false } } = view s) (sub : ∀ k ∈ pairRegs, k ∈ ks)
    (h : Keeps view ks s t) : Keeps view ks s t.readyTick := by
  have shown (n : Nat) (ready : Bool) : Keeps view ks s (t.itemsShown n ready) := (h.wr blind (sub _ (by decide)) _).setB blind (sub _ (by decide)) _ _
  obtain ⟨n, ready, e | ⟨-, -, e⟩ | e⟩ := readyTick_cases t
  all_goals rw [e]
  · exact .showDuplex blind ((shown n ready).wr blind (sub _ (by decide)) 4) (sub _ (by decide)) (sub _ (by decide))
  · exact .showDuplex blind (.part ((shown n ready).wr blind (sub _ (by decide)) 3) rfl (again _)) (sub _ (by decide)) (sub _ (by decide))
  · exact .showDuplex blind (shown n ready) (sub _ (by decide)) (sub _ (by decide))

theorem Keeps.takeSegment (blind : RegBlind view) (received : ∀ s rx acks, view { s with duplex := { s.duplex with rx, acks } } = view s)
    (counter : Gl.MIRROR_DISCARDS ∈ ks) (h : Keeps view ks s t) (g : MirrorSeg) : Keeps view ks s (t.takeSegment g) := by
  have dropped (rx : Store RxMsg) : Keeps view ks s { t.count Gl.MIRROR_DISCARDS with duplex := { t.duplex with rx } } :=
    (h.wr blind counter _).part rfl (received (t.count Gl.MIRROR_DISCARDS) rx t.duplex.acks)
  have kept (rx : Store RxMsg) (acks : List Nat) : Keeps view ks s { t with duplex := { t.duplex with rx, acks } } := h.part rfl (received ..)
  unfold State.takeSegment
  dsimp only
  split
  · exact h
  · split
    · exact dropped _
    · split
      · exact dropped _
      · split
        · exact kept _ _
        · exact kept _ _

end

end Sys2Proof.Machine

namespace Sys2Proof.Machine

/-! ### What a valid frame leads to (R163, R293, R333, R335, R336, R338) -/

/-- What a partner frame says of the partner, and the parts of the state that none of its steps changes. -/
def State.heard (s : State) : State :=
  { s with
    pending := [], dict := [], egress := [], axes := [], links := []
    duplex := { driving := s.duplex.driving, stagIn := s.duplex.stagIn, got := s.duplex.got, missing := s.duplex.missing,
                pStatus := s.duplex.pStatus, pSeq := s.duplex.pSeq } }

theorem heard_blind : RegBlind State.heard := fun _ _ => rfl

/-- Registers that a valid frame may write behind its counter and the check value. -/
abbrev partnerFrameRegs : List Nat :=
  [Gl.TICK_ALIGNED, Gl.FAST_TICK_COUNT, Gl.TICK_PHASE_ERROR, Gl.TICK_PHASE_ERROR_MAX, Gl.SHADOW_MISMATCHES, Gl.MIRROR_DISCARDS] ++ pairRegs

theorem pairRegs_sub : ∀ k ∈ pairRegs, k ∈ partnerFrameRegs := fun _ h => List.mem_append_right _ h

/-- `t` follows from `s` by steps of a valid frame. -/
abbrev Follows (s t : State) : Prop := Keeps State.heard partnerFrameRegs s t

namespace Follows

variable {s t : State} (h : Follows s t)
include h

theorem wr {k : Nat} (hk : k ∈ partnerFrameRegs) (v : Int) : Follows s (t.wr k v) := Keeps.wr heard_blind h hk v

theorem linkSynced {d : Nat} (hd : d < 16) (b : Bool) : Follows s (t.setB (Lk.LINK_STATUS d) 2 b) :=
  h.wr (List.mem_append_right _ (List.mem_append_right _ (List.mem_map_of_mem (List.mem_range.mpr hd)))) _

theorem alignTicks (f : PFrame) : Follows s (t.alignTicks f) := by
  unfold State.alignTicks
  split
  · exact h.wr (by decide) _
  · extract_lets x s₁ e step e' s₂ s₃ s₄
    have h₁ : Follows s s₁ := h.ite (h.wr (by decide) _)
    have own : s₁.duplex = x := (apply_ite State.duplex ..).trans (ite_self _)
    have h₂ : Follows s s₂ := h₁.part rfl (by simp only [s₂, State.heard, own])
    have h₃ : Follows s s₃ := (h₂.wr (by decide) _).wr (by decide) _
    have h₄ : Follows s s₄ := h₃.raiseMax heard_blind (by decide) _
    exact h₄.wr (by decide) _

theorem sendInventory : Follows s t.sendInventory := Keeps.sendInventory (fun _ _ _ _ => rfl) (fun _ _ => rfl) h

theorem followSeqs (f : PFrame) : Follows s (t.followSeqs f) := by
  refine h.foldl fun u d _ => ?_
  dsimp only
  split
  · exact .refl ..
  · exact (Keeps.refl State.heard _ u).part rfl rfl

theorem takeShadow (tick a : Nat) (r : ShadowRec) : Follows s (t.takeShadow tick a r).1 := by
  have set (x : Axis) : Follows s (t.setAxis a x) := h.part rfl rfl
  unfold State.takeShadow
  dsimp only
  split
  · exact set _
  · split
    · exact set _
    · exact (set _).wr (by decide) _

end Follows

/-- One record of the shadows: the state, and the axes whose records match. -/
def shadowStep (tick : Nat) (acc : State × List Nat) (r : ShadowRec × Nat) : State × List Nat :=
  match slotAxis acc.1 r.2 with
  | some a => ((acc.1.takeShadow tick a r.1).1, if (acc.1.takeShadow tick a r.1).2 then a :: acc.2 else acc.2)
  | none => acc

theorem takeShadows_parts (s : State) (f : PFrame) : ∃ match_ motions motionAt, s.takeShadows f
    = let u := (f.shadows.zipIdx.foldl (shadowStep ((f.tickCount + 4095999999) % 4096000000)) (s, [])).1
      { u with duplex := { u.duplex with match_, motions, motionAt } } :=
  ⟨_, _, _, rfl⟩

theorem Follows.shadowSteps {s : State} (tick : Nat) (l : List (ShadowRec × Nat)) (acc : State × List Nat) (h : Follows s acc.1) :
    Follows s (l.foldl (shadowStep tick) acc).1 := by
  induction l generalizing acc with
  | nil => exact h
  | cons r l ih =>
    refine ih _ ?_
    unfold shadowStep
    split
    · exact h.takeShadow ..
    · exact h

namespace Follows

variable {s t : State} (h : Follows s t)
include h

theorem takeShadows (f : PFrame) : Follows s (t.takeShadows f) := by
  obtain ⟨m, motions, motionAt, e⟩ := takeShadows_parts t f
  rw [e]
  exact (shadowSteps _ _ _ h).part rfl rfl

theorem dropShadows : Follows s t.dropShadows := Keeps.dropShadows (fun _ _ _ => rfl) h

theorem setSync (new : Nat) : Follows s (t.setSync new) := by
  have shown : Follows s (t.wrn Gl.SHADOW_SYNC_MASK new) := h.wr (by decide) _
  exact (shown.latch heard_blind (by decide) (by decide) _).ite shown

theorem syncTick : Follows s t.syncTick := by
  unfold State.syncTick
  extract_lets new s₁ ok
  have h₁ : Follows s s₁ := (h.setSync _).ite (h.wr (by decide) _)
  exact h₁.foldl fun u d hd => linkSynced (.refl ..) (lt_of_lt_of_le (List.mem_range.mp hd) (doorways_le s₁)) _

end Follows

end Sys2Proof.Machine

namespace Sys2Proof.Machine

/-! ### The parts of a frame's reception (R293, R329) -/

/-- What the receiver of a character pair keeps of a frame's SOF. -/
def State.sofKept (s : State) (f : PFrame) : State :=
  { s with duplex := { s.duplex with lastSof := if isPair s = true then some f.sof else s.duplex.lastSof } }

theorem sofKept_eq (s : State) (f : PFrame) : (if isPair s then { s with duplex := { s.duplex with lastSof := some f.sof } } else s) = s.sofKept f := by
  unfold State.sofKept
  split
  · rfl
  · rfl

/-- A valid frame is a heartbeat with the partner's status and numbers. -/
def State.heartbeat (s : State) (f : PFrame) : State :=
  let s := s.count Gl.PL_FRAMES_OK
  { s with duplex := { s.duplex with
    got := true, missing := 0, pStatus := f.pstatus, pSeq := some f.pseq, pTick := f.tickCount, pSeqs := f.linkSeqs, stagIn := f.pstatus.testBit 15,
    wasPartner := s.duplex.wasPartner || (f.pstatus.testBit 15 && !s.duplex.driving) } }

/-- A unit that does not hold the token follows the holder; the doorways synchronised are formed anew. -/
def State.holderFollowed (s : State) (f : PFrame) : State :=
  if f.pstatus.testBit 15 ∧ s.holds = false then
    let s := s.followSeqs f
    let s := if s.rdn Gl.DUPLEX_MODE = 1 ∧ s.rdb Gl.TICK_ALIGNED then s.takeShadows f else s.dropShadows
    let s := s.syncTick
    { s with duplex := { s.duplex with lastHold := some s.now, syncHeld := s.rdn Gl.SHADOW_SYNC_MASK } }
  else s.syncTick

/-- What a valid frame leads to when the check values are compared. -/
def State.partnerFrameTaken (s : State) (f : PFrame) : State :=
  ((((s.showDuplex.alignTicks f).sendInventory.holderFollowed f).takeAck f.mirrorAck).takeSegment f.seg).readyTick

section
variable {s : State} {f : PFrame} (paired : s.paired = true)
include paired

theorem exec_partnerFrame_crc (bad : f.crc ≠ crc32 (partnerBytes f)) : exec (.partnerFrame f) s = done s ((s.sofKept f).count Gl.PL_CRC_ERRORS) := by
  have here : (s.sofKept f).paired ≠ false := ne_false_of_eq_true paired
  refine congrArg (done s) ?_
  rw [sofKept_eq]
  exact (if_neg here).trans (if_pos bad)

variable (intact : partnerIntact s.duplex.lastSof f = true)
include intact

theorem exec_partnerFrame_intact : exec (.partnerFrame f) s = done s (
    if 29 < f.seg.len then (s.sofKept f).count Gl.MIRROR_DISCARDS
    else if f.pstatus / 16384 % 2 = s.rdn Gl.ROLE then (s.sofKept f).partnerDown 6 50000
    else (((s.sofKept f).heartbeat f).comparePartner f).partnerFrameTaken f) := by
  have here : (s.sofKept f).paired ≠ false := ne_false_of_eq_true paired
  have crc : ¬ f.crc ≠ crc32 (partnerBytes f) := by
    simp only [partnerIntact, Bool.and_eq_true, beq_iff_eq] at intact
    obtain ⟨⟨-, crc⟩, -⟩ := intact
    exact not_not.mpr crc
  have whole : partnerIntact s.duplex.lastSof f ≠ false := ne_false_of_eq_true intact
  refine congrArg (done s) ?_
  rw [sofKept_eq]
  refine (if_neg here).trans ((if_neg crc).trans ((if_neg whole).trans ?_))
  have role : (s.sofKept f).rdn Gl.ROLE = s.rdn Gl.ROLE := rfl
  rw [← role]
  clear role here
  generalize s.sofKept f = u
  split
  · rfl
  · split
    · rfl
    · dsimp only [State.partnerFrameTaken, State.holderFollowed, State.heartbeat]

end

/-! ### The check values (R293) -/

def State.valuesCompared (s : State) (f : PFrame) : State :=
  { s.wrn Gl.PARTNER_CHECK_VALUE f.checkValue with duplex := { s.duplex with
    pCheck := f.checkValue, checkSeen := some (s.rdn Gl.CHECK_VALUE, f.checkValue) } }

theorem comparePartner_eq (s : State) (f : PFrame) : s.comparePartner f =
    if s.rdn Gl.CHECK_VALUE ≠ f.checkValue ∧ s.duplex.checkSeen ≠ some (s.rdn Gl.CHECK_VALUE, f.checkValue) then
      (s.valuesCompared f).raise 0x0183 0xFF f.checkValue
    else s.valuesCompared f := rfl

/-- What is heard, without the recorder and the networks, which an event changes. -/
def State.told (s : State) : State := { s.heard with recd := {}, net := {}, free := 0 }

theorem told_blind : EventBlind State.told := fun _ _ _ _ _ _ => rfl

theorem keeps_comparePartner (s : State) (f : PFrame) : Keeps State.told (Gl.PARTNER_CHECK_VALUE :: eventRegs) s (s.comparePartner f) := by
  have compared : Keeps State.told (Gl.PARTNER_CHECK_VALUE :: eventRegs) s (s.valuesCompared f) :=
    ((Keeps.refl State.told _ s).wr told_blind.reg (by decide) f.checkValue).part rfl rfl
  rw [comparePartner_eq]
  exact .ite (compared.raise told_blind (fun _ event => List.mem_cons_of_mem _ event) ..) compared

theorem rdn_comparePartner (s : State) (f : PFrame) : (s.comparePartner f).rdn Gl.PARTNER_CHECK_VALUE = f.checkValue := by
  have compared : (s.valuesCompared f).rdn Gl.PARTNER_CHECK_VALUE = f.checkValue :=
    (rdn_of_dict (s := s.wrn Gl.PARTNER_CHECK_VALUE f.checkValue) rfl _).trans (by simp [State.rdn, rd_wrn])
  rw [comparePartner_eq]
  split
  · rw [rdn_raise (by decide), compared]
  · exact compared

theorem counted_comparePartner {s : State} {f : PFrame} (differ : s.rdn Gl.CHECK_VALUE ≠ f.checkValue)
    (new : s.duplex.checkSeen ≠ some (s.rdn Gl.CHECK_VALUE, f.checkValue)) : Counted 0x0183 s (s.comparePartner f) := by
  rw [comparePartner_eq, if_pos ⟨differ, new⟩]
  exact counted_raise_of_recd (by rfl) ..

/-! ### A valid frame (R329, R346) -/

theorem Follows.holdNoted {s t : State} (h : Follows s t) (lastHold : Option Nat) (syncHeld : Nat) :
    Follows s { t with duplex := { t.duplex with lastHold, syncHeld } } := h.part rfl rfl

theorem Follows.holderFollowed {s t : State} (h : Follows s t) (f : PFrame) : Follows s (t.holderFollowed f) := by
  unfold State.holderFollowed
  split
  · extract_lets s₁ s₂ s₃
    have h₁ : Follows s s₁ := h.followSeqs f
    have h₂ : Follows s s₂ := (h₁.takeShadows f).ite h₁.dropShadows
    have h₃ : Follows s s₃ := h₂.syncTick
    exact h₃.holdNoted _ _
  · exact h.syncTick

theorem Follows.takeAck {s t : State} (h : Follows s t) (tag : Nat) : Follows s (t.takeAck tag) :=
  h.ite (h.part rfl rfl)

theorem follows_partnerFrameTaken (s : State) (f : PFrame) : Follows s (s.partnerFrameTaken f) := by
  have shown : Follows s s.showDuplex := .showDuplex heard_blind (.refl ..) (by decide) (by decide)
  have followed : Follows s ((s.showDuplex.alignTicks f).sendInventory.holderFollowed f) := ((shown.alignTicks f).sendInventory).holderFollowed f
  exact .readyTick heard_blind (fun _ => rfl) pairRegs_sub (.takeSegment heard_blind (fun _ _ _ => rfl) (by decide) (followed.takeAck _) _)

/-- The message that the frame acknowledges waits no longer. -/
theorem tag_ne_of_mem_partnerFrameTaken {s : State} {f : PFrame} (ack : f.mirrorAck ≠ 0) {m : OutMsg} (hm : m ∈ (s.partnerFrameTaken f).duplex.outbox) :
    m.tag ≠ f.mirrorAck := by
  have kept : ∀ u : State, (u.takeSegment f.seg).readyTick.duplex.outbox = u.duplex.outbox := fun u =>
    (Keeps.readyTick (view := fun s => s.duplex.outbox) (fun _ _ => rfl) (fun _ => rfl) pairRegs_sub
      (.takeSegment (fun _ _ => rfl) (fun _ _ _ => rfl) (by decide) (.refl _ partnerFrameRegs u) f.seg)).same
  rw [State.partnerFrameTaken, kept, State.takeAck, if_neg ack] at hm
  simpa using (List.mem_filter.mp hm).2

end Sys2Proof.Machine

namespace Sys2Proof.Machine

/-! ### Frames that are only counted, and a frame of the same ROLE (R11, R329, R331, R352) -/

/-- A counter of the link is raised; beside it only the SOF is kept. -/
theorem settled_count_sofKept (s : State) (f : PFrame) {reg : Nat} (own : reg ∉ wiredRegs) (q : List Instr) :
    (((s.sofKept f).count reg).settle q).rdn reg = min (s.rdn reg + 1) max32
      ∧ KeepsRegs [reg] s (((s.sofKept f).count reg).settle q) ∧ OnlyRegs (s.sofKept f) (((s.sofKept f).count reg).settle q) := by
  have rd : ∀ k, (s.sofKept f).rd k = s.rd k := fun _ => rfl
  refine ⟨?counted, KeepsRegs.settle _ fun k hk => ?kept, (settle_sansRegs ..).trans (count_blind sansRegs_blind ..)⟩
  case counted => rw [rdn_settle own, State.rdn, rd_count, if_pos rfl, State.rdn, rd, Int.toNat_natCast, State.rdn]
  case kept => rw [rd_count, if_neg fun e => hk (List.mem_singleton.mpr e), rd]

section
variable {s : State} {f : PFrame} (paired : s.paired = true)
include paired

theorem partnerFrame_discarded {reg : Nat} {met : Bool} (which : (reg, met) ∈ [(Gl.PL_CRC_ERRORS, f.crc != crc32 (partnerBytes f)),
    (Gl.MIRROR_DISCARDS, partnerIntact s.duplex.lastSof f && decide (29 < f.seg.len))]) (holds : met = true) :
    ∃ t, exec (.partnerFrame f) s = .next t ∧ t.rdn reg = min (s.rdn reg + 1) max32 ∧ KeepsRegs [reg] s t ∧ OnlyRegs (s.sofKept f) t := by
  simp only [List.mem_cons, Prod.mk.injEq, List.not_mem_nil, or_false] at which
  obtain ⟨rfl, rfl⟩ | ⟨rfl, rfl⟩ := which
  · have bad : f.crc ≠ crc32 (partnerBytes f) := by simpa using holds
    exact ⟨_, exec_partnerFrame_crc paired bad, settled_count_sofKept s f (by decide) _⟩
  · obtain ⟨intact, long⟩ := Bool.and_eq_true_iff.mp holds
    have run := exec_partnerFrame_intact paired intact
    rw [if_pos (of_decide_eq_true long)] at run
    exact ⟨_, run, settled_count_sofKept s f (by decide) _⟩

variable (intact : partnerIntact s.duplex.lastSof f = true) (short : f.seg.len ≤ 29)
include intact short

theorem partnerFrame_sameRole (same : f.pstatus / 16384 % 2 = s.rdn Gl.ROLE) : ∃ t, exec (.partnerFrame f) s = .next t
    ∧ t.rd Gl.PARTNER_STATE = 1 ∧ t.rd Gl.PARTNER_LOST_CAUSE = 6 ∧ t.duplex.retrainAt = some (s.now + 50000) ∧ Counted 0x1181 s t
    ∧ KeepsRegs (pairRegs ++ eventRegs) s t ∧ OnlyEvents { s with duplex := t.duplex, axes := t.axes } t := by
  have run := exec_partnerFrame_intact paired intact
  rw [if_neg (by omega), if_pos same] at run
  exact ⟨_, run, settled_partnerDown (s := s.sofKept f) paired 6 50000 s.pending⟩

end

/-! ### A valid frame (R329 to R333, R346) -/

/-- The state in which a valid frame leaves the link. -/
def State.frameReceived (s : State) (f : PFrame) : State := (((s.sofKept f).heartbeat f).comparePartner f).partnerFrameTaken f

/-- What a valid frame changes of what the link knows of the partner. -/
def State.toldBy (s : State) (f : PFrame) : State :=
  { s with duplex := { s.duplex with got := true, missing := 0, pStatus := f.pstatus, pSeq := some f.pseq, stagIn := f.pstatus.testBit 15 } }

theorem told_heartbeat_sofKept (s : State) (f : PFrame) : ((s.sofKept f).heartbeat f).told = s.told.toldBy f := rfl

/-- The partner as it is known behind a valid frame, and parts that the frame leaves. -/
theorem settled_of_toldBy {s u : State} {f : PFrame} (told : u.told = s.told.toldBy f) (q : List Instr) :
    (u.settle q).duplex.got = true ∧ (u.settle q).duplex.missing = 0 ∧ (u.settle q).duplex.pStatus = f.pstatus
      ∧ (u.settle q).duplex.pSeq = some f.pseq ∧ (u.settle q).duplex.stagIn = f.pstatus.testBit 15
      ∧ (u.settle q).doors = s.doors ∧ (u.settle q).chans = s.chans ∧ (u.settle q).safety = s.safety := by
  have link {α : Type} {g : Duplex → α} (h : ∀ (x : Duplex) (v r : Bool), g { x with driving := v, releaseNext := r } = g x)
      (shown : g u.told.duplex = g u.duplex) : g (u.settle q).duplex = g (s.told.toldBy f).duplex :=
    (duplex_settle h ..).trans (shown.symm.trans (congrArg (fun v : State => g v.duplex) told))
  exact ⟨link (g := Duplex.got) (fun _ _ _ => rfl) rfl, link (g := Duplex.missing) (fun _ _ _ => rfl) rfl,
    link (g := Duplex.pStatus) (fun _ _ _ => rfl) rfl, link (g := Duplex.pSeq) (fun _ _ _ => rfl) rfl,
    link (g := Duplex.stagIn) (fun _ _ _ => rfl) rfl, (settle_doors ..).trans (congrArg State.doors told :),
    (settle_blind (f := State.chans) (fun _ _ _ _ _ => rfl) ..).trans (congrArg State.chans told :),
    (settle_safety ..).trans (congrArg State.safety told :)⟩

theorem rd_heartbeat_sofKept (s : State) (f : PFrame) (k : Nat) : ((s.sofKept f).heartbeat f).rd k
    = if k = Gl.PL_FRAMES_OK then ((min (s.rdn Gl.PL_FRAMES_OK + 1) max32 : Nat) : Int) else s.rd k :=
  (rd_of_dict (s := s.count Gl.PL_FRAMES_OK) rfl k).trans (rd_count ..)

theorem told_frameReceived (s : State) (f : PFrame) : (s.frameReceived f).told = s.told.toldBy f := by
  have tail := (follows_partnerFrameTaken (((s.sofKept f).heartbeat f).comparePartner f) f).same
  have front := (keeps_comparePartner ((s.sofKept f).heartbeat f) f).same
  calc (s.frameReceived f).told = (((s.sofKept f).heartbeat f).comparePartner f).told :=
        congrArg (fun v : State => { v with recd := {}, net := {}, free := 0 }) tail
    _ = ((s.sofKept f).heartbeat f).told := front
    _ = _ := told_heartbeat_sofKept s f

theorem rd_frameReceived {k : Nat} (tail : k ∉ partnerFrameRegs) (front : k ∉ Gl.PARTNER_CHECK_VALUE :: eventRegs) (wired : k ∉ wiredRegs) (s : State)
    (f : PFrame) : (s.frameReceived f).rd k = if k = Gl.PL_FRAMES_OK then ((min (s.rdn Gl.PL_FRAMES_OK + 1) max32 : Nat) : Int) else s.rd k :=
  calc (s.frameReceived f).rd k = (((s.sofKept f).heartbeat f).comparePartner f).rd k := (follows_partnerFrameTaken _ f).regs k tail wired
    _ = ((s.sofKept f).heartbeat f).rd k := (keeps_comparePartner _ f).regs k front wired
    _ = _ := rd_heartbeat_sofKept s f k

theorem rdn_checkValue_frameReceived (s : State) (f : PFrame) : (s.frameReceived f).rdn Gl.PARTNER_CHECK_VALUE = f.checkValue :=
  ((follows_partnerFrameTaken _ f).regs.rdn (by decide) (by decide)).trans (rdn_comparePartner ((s.sofKept f).heartbeat f) f)

theorem counted_frameReceived {s : State} {f : PFrame} (differ : f.checkValue ≠ s.rdn Gl.CHECK_VALUE)
    (new : s.duplex.checkSeen ≠ some (s.rdn Gl.CHECK_VALUE, f.checkValue)) : Counted 0x0183 s (s.frameReceived f) := by
  have own : ((s.sofKept f).heartbeat f).rdn Gl.CHECK_VALUE = s.rdn Gl.CHECK_VALUE := by
    rw [State.rdn, rd_heartbeat_sofKept, if_neg (by decide), State.rdn]
  have once : Counted 0x0183 ((s.sofKept f).heartbeat f) (((s.sofKept f).heartbeat f).comparePartner f) :=
    counted_comparePartner (own.symm ▸ differ.symm) (own.symm ▸ new)
  have recd {u v : State} (h : v.heard = u.heard) : v.recd = u.recd := (congrArg State.recd h :)
  have before : ((s.sofKept f).heartbeat f).code 0x0183 = s.code 0x0183 := code_of_recd (by rfl) _
  have after := code_of_recd (recd (follows_partnerFrameTaken (((s.sofKept f).heartbeat f).comparePartner f) f).same) 0x0183
  rwa [Counted, State.frameReceived, after, ← before]

theorem holds_settle_frameReceived (s : State) (f : PFrame) (q : List Instr) : ((s.frameReceived f).settle q).holds = (s.holds && mayHold s) := by
  have parts {u : State} (h : u.told = s.told.toldBy f) : u.holds = s.holds ∧ u.power = s.power :=
    ⟨(congrArg (fun v : State => v.duplex.driving) h :), (congrArg State.power h :)⟩
  obtain ⟨line, power⟩ := parts (told_frameReceived s f)
  have rd : ∀ k ∈ [Gl.SET_STATE, Gl.SAFE_STATE_CAUSE], (s.frameReceived f).rd k = s.rd k := by
    intro k hk
    have apart : ∀ k ∈ [Gl.SET_STATE, Gl.SAFE_STATE_CAUSE],
        k ∉ partnerFrameRegs ∧ k ∉ Gl.PARTNER_CHECK_VALUE :: eventRegs ∧ k ∉ wiredRegs ∧ k ≠ Gl.PL_FRAMES_OK := by decide
    obtain ⟨tail, front, wired, counter⟩ := apart k hk
    rw [rd_frameReceived tail front wired, if_neg counter]
  rw [holds_settle, line, mayHold_congr power (rd _ (by simp)) (rd _ (by simp))]

theorem partnerFrame_valid {s : State} {f : PFrame} (paired : s.paired = true) (intact : partnerIntact s.duplex.lastSof f = true)
    (short : f.seg.len ≤ 29) (other : f.pstatus / 16384 % 2 ≠ s.rdn Gl.ROLE) : ∃ t, exec (.partnerFrame f) s = .next t
    ∧ t.rdn Gl.PL_FRAMES_OK = min (s.rdn Gl.PL_FRAMES_OK + 1) max32
    ∧ t.duplex.got = true ∧ t.duplex.missing = 0 ∧ t.duplex.pStatus = f.pstatus ∧ t.duplex.pSeq = some f.pseq
    ∧ t.duplex.stagIn = f.pstatus.testBit 15 ∧ t.rdn Gl.PARTNER_CHECK_VALUE = f.checkValue
    ∧ (f.checkValue ≠ s.rdn Gl.CHECK_VALUE → s.duplex.checkSeen ≠ some (s.rdn Gl.CHECK_VALUE, f.checkValue) → Counted 0x0183 s t)
    ∧ (f.mirrorAck ≠ 0 → ∀ m, m ∈ t.duplex.outbox → m.tag ≠ f.mirrorAck)
    ∧ t.doors = s.doors ∧ t.chans = s.chans ∧ t.safety = s.safety ∧ t.holds = (s.holds && mayHold s) := by
  have run : exec (.partnerFrame f) s = done s (s.frameReceived f) :=
    (exec_partnerFrame_intact paired intact).trans (congrArg (done s) ((if_neg (by omega)).trans (if_neg other)))
  obtain ⟨got, missing, status, seq, line, doors, chans, safety⟩ := settled_of_toldBy (told_frameReceived s f) s.pending
  refine ⟨_, run, ?counter, got, missing, status, seq, line, ?value, fun differ new => counted_settle (counted_frameReceived differ new) _,
    fun ack m hm => ?acked, doors, chans, safety, holds_settle_frameReceived s f _⟩
  case counter => rw [rdn_settle (by decide), State.rdn, rd_frameReceived (by decide) (by decide) (by decide), if_pos rfl, Int.toNat_natCast]
  case value => rw [rdn_settle (by decide), rdn_checkValue_frameReceived]
  case acked =>
    rw [outbox_settle] at hm
    exact tag_ne_of_mem_partnerFrameTaken ack hm

end Sys2Proof.Machine

namespace Sys2Proof.Machine

/-!
The inventory of the partner (R346, R352). What an inventory compares is the part's own: the partner's identity, which is written first, is no part of it.
-/

/-! ### A sparse map seen through a filter that its written key does not pass -/

section
variable {α : Type} {p : Nat → Bool} {k : Nat} (hidden : p k = false)
include hidden

theorem filter_erase (m : Store α) : (erase k m).filter (fun e => p e.1) = m.filter (fun e => p e.1) := by
  induction m with
  | nil => rfl
  | cons e r ih =>
    obtain ⟨j, v⟩ := e
    unfold erase
    split
    · next same => rw [ih, List.filter_cons_of_neg (by simp [same, hidden])]
    · rw [List.filter_cons, List.filter_cons, ih]

theorem filter_place (v : α) (m : Store α) : (place k v m).filter (fun e => p e.1) = m.filter (fun e => p e.1) := by
  induction m with
  | nil => simp [place, hidden]
  | cons e r ih =>
    obtain ⟨j, w⟩ := e
    unfold place
    split
    · rw [List.filter_cons_of_neg (by simp [hidden])]
    · rw [List.filter_cons, List.filter_cons, ih]

theorem filter_putD [DecidableEq α] (d v : α) (m : Store α) : (putD d m k v).filter (fun e => p e.1) = m.filter (fun e => p e.1) := by
  unfold putD
  split
  · exact filter_erase hidden m
  · rw [filter_place hidden, filter_erase hidden]

end

/-! ### The partner's identity is no part of the items (R349, R350, R353) -/

abbrev identityRegs : List Nat := [Gl.PARTNER_SERIAL, Gl.PARTNER_REVISION, Gl.PARTNER_CONFIG_DIGEST]

section
variable {k : Nat} (hk : k ∈ identityRegs) (s : State) (v : Int)
include hk

theorem rd_wr_identity_above {j : Nat} (hj : key 0x3000 0 ≤ j) : (s.wr k v).rd j = s.rd j := by
  have below : ∀ i ∈ identityRegs, i < key 0x3000 0 := by decide
  exact rd_wr_ne (Nat.ne_of_gt (lt_of_lt_of_le (below k hk) hj)) s v

theorem rdn_wr_identity_above {j : Nat} (hj : key 0x3000 0 ≤ j) : (s.wr k v).rdn j = s.rdn j :=
  congrArg Int.toNat (rd_wr_identity_above hk s v hj)

theorem rd_wr_identity_ne {j : Nat} (hj : j ∉ identityRegs) : (s.wr k v).rd j = s.rd j := rd_wr_ne (ne_of_mem_of_not_mem hk hj).symm s v

theorem axesOf_wr_identity (d : Nat) : axesOf (s.wr k v) d = axesOf s d :=
  axesOf_congr (s := s) (t := s.wr k v) rfl rfl (rd_wr_identity_ne hk s v (by decide)) d

theorem allDoors_wr_identity : allDoors (s.wr k v) = allDoors s :=
  List.filter_congr fun d _ => configured_congr (s := s) (t := s.wr k v) rfl rfl (rd_wr_identity_ne hk s v (by decide)) d

theorem allItems_wr_identity : allItems (s.wr k v) = allItems s := by
  have axes : axesOf (s.wr k v) = axesOf s := funext (axesOf_wr_identity hk s v)
  have leaf : isLeaf (s.wr k v) = isLeaf s := by
    funext a
    rw [isLeaf, isLeaf, axes]
  have sensors : sensorEnabled (s.wr k v) = sensorEnabled s := rfl
  rw [allItems, allItems, allAxes, allAxes, axes, leaf, sensors, allDoors_wr_identity hk]

theorem isMember_wr_identity : isMember (s.wr k v) = isMember s := by
  have type : ∀ d, (s.wr k v).rdn (Gl.SET_DOORWAY_TYPE d) = s.rdn (Gl.SET_DOORWAY_TYPE d) :=
    fun d => rdn_wr_identity_above hk s v (by simp only [Gl.SET_DOORWAY_TYPE, key]; omega)
  have stored : storedAxes (s.wr k v) = storedAxes s := by
    simp only [storedAxes, type]
    rfl
  funext j
  rw [isMember, isMember, stored]

theorem mirrored_wr_identity : mirrored (s.wr k v) = mirrored s := by
  funext j
  rw [mirrored, mirrored, isMember_wr_identity hk]

/-- The identity is not shared: its index lies in none of the ranges that are (R350). -/
theorem mirrored_identity : mirrored s k = false := by
  have apart : ∀ k ∈ identityRegs, ((decide (0x2010 ≤ k / 256) && decide (k / 256 ≤ 0x20FF)) || (decide (0x2120 ≤ k / 256) && decide (k / 256 ≤ 0x212F))
      || (decide (0x3000 ≤ k / 256) && decide (k / 256 ≤ 0x4FFF))) = false := by decide
  rw [mirrored, apart k hk, Bool.false_and, Bool.false_and]

theorem learnedValues_wr_identity (d : Nat) : learnedValues (s.wr k v) d = learnedValues s d := by
  have rd {j : Nat} (hj : key 0x3000 0 ≤ j) := rd_wr_identity_above hk s v hj
  have stroke : ∀ a, (s.wr k v).rd (Ax.STROKE a) = s.rd (Ax.STROKE a) := fun a => rd (by simp only [Ax.STROKE, key]; omega)
  have closed : ∀ a, (s.wr k v).rd (Ax.CLOSED_SWITCH_POS a) = s.rd (Ax.CLOSED_SWITCH_POS a) :=
    fun a => rd (by simp only [Ax.CLOSED_SWITCH_POS, key]; omega)
  have openPeak : (s.wr k v).rd (Dr.START_PEAK_OPEN d) = s.rd (Dr.START_PEAK_OPEN d) := rd (by simp only [Dr.START_PEAK_OPEN, key]; omega)
  have closePeak : (s.wr k v).rd (Dr.START_PEAK_CLOSE d) = s.rd (Dr.START_PEAK_CLOSE d) := rd (by simp only [Dr.START_PEAK_CLOSE, key]; omega)
  have serial : (s.wr k v).rd (Lk.NODE_SERIAL d) = s.rd (Lk.NODE_SERIAL d) := rd (by simp only [Lk.NODE_SERIAL, key]; omega)
  simp only [learnedValues, axesOf_wr_identity hk, stroke, closed, openPeak, closePeak, serial]

theorem envState_wr_identity (a : Nat) (closing : Bool) : envState (s.wr k v) a closing = envState s a closing := by
  refine rdn_wr_identity_above hk s v ?_
  cases closing
  · simp only [Bool.false_eq_true, if_false, Ax.ENV_STATE_OPEN, key]
    omega
  · simp only [if_true, Ax.ENV_STATE_CLOSE, key]
    omega

theorem itemContent_wr_identity (kind inst : Nat) : itemContent (s.wr k v) kind inst = itemContent s kind inst := by
  unfold itemContent
  split
  · have cycles : ∀ c : Bool, (s.wr k v).rd (if c then Ax.ENV_CYCLES_CLOSE (inst / 2) else Ax.ENV_CYCLES_OPEN (inst / 2))
        = s.rd (if c then Ax.ENV_CYCLES_CLOSE (inst / 2) else Ax.ENV_CYCLES_OPEN (inst / 2)) := by
      refine fun c => rd_wr_identity_above hk s v ?_
      cases c
      · simp only [Bool.false_eq_true, if_false, Ax.ENV_CYCLES_OPEN, key]
        omega
      · simp only [if_true, Ax.ENV_CYCLES_CLOSE, key]
        omega
    dsimp only
    rw [envState_wr_identity hk, cycles]
    rfl
  · rfl
  · exact learnedValues_wr_identity hk s v inst
  · have dict : (s.wr k v).dict.filter (fun e => mirrored s e.1) = s.dict.filter (fun e => mirrored s e.1) := filter_putD (mirrored_identity hk s) ..
    rw [mirrored_wr_identity hk, dict]
    rfl

theorem itemDigest_wr_identity : itemDigest (s.wr k v) = itemDigest s := by
  funext kind inst
  rw [itemDigest, itemDigest, itemContent_wr_identity hk]

theorem itemEmpty_wr_identity (kind inst : Nat) : itemEmpty (s.wr k v) kind inst = itemEmpty s kind inst := by
  unfold itemEmpty
  split
  · rw [envState_wr_identity hk]
  · rw [rdn_wr_identity_above hk s v (by simp only [Sn.BG_STATE, key]; omega)]
  · have leaves : leavesOf (s.wr k v) inst = leavesOf s inst := rfl
    have stroke : ∀ a, (s.wr k v).rdn (Ax.STROKE a) = s.rdn (Ax.STROKE a) :=
      fun a => rdn_wr_identity_above hk s v (by simp only [Ax.STROKE, key]; omega)
    simp only [leaves, stroke]
  · rw [State.rdn, rd_wr_identity_ne hk s v (by decide), State.rdn]

theorem actsHolder_wr_identity : actsHolder (s.wr k v) = actsHolder s := by
  have role : (s.wr k v).rdn Gl.ROLE = s.rdn Gl.ROLE := congrArg Int.toNat (rd_wr_identity_ne hk s v (by decide))
  rw [actsHolder, actsHolder, role]
  rfl

end

end Sys2Proof.Machine

namespace Sys2Proof.Machine

/-! ### What an inventory leaves to send and to expect (R352) -/

def State.identityShown (s : State) (m : InvMsg) : State :=
  ((s.wrn Gl.PARTNER_SERIAL m.serial).wrn Gl.PARTNER_REVISION m.revision).wrn Gl.PARTNER_CONFIG_DIGEST m.configDigest

theorem identityShown_keeps {α : Type} {f : State → α} (h : ∀ k ∈ identityRegs, ∀ s v, f (s.wr k v) = f s) (s : State) (m : InvMsg) :
    f (s.identityShown m) = f s :=
  (h _ (by decide) ..).trans ((h _ (by decide) ..).trans (h _ (by decide) ..))

/-- Items that differ, and that the partner sends. -/
def awaitedItems (s : State) (m : InvMsg) : List (Nat × Nat) :=
  let differ := m.items.filter (fun (i : Nat × Nat × Nat × Bool) => (allItems s).contains (i.1, i.2.1) && itemDigest s i.1 i.2.1 != i.2.2.1)
  (differ.filter (fun (i : Nat × Nat × Nat × Bool) => !(if actsHolder s then !itemEmpty s i.1 i.2.1 else i.2.2.2))).map (fun i => (i.1, i.2.1))

theorem awaitedItems_identityShown (s : State) (m : InvMsg) : awaitedItems (s.identityShown m) m = awaitedItems s m := by
  have items := identityShown_keeps (f := allItems) (fun k hk => allItems_wr_identity hk) s m
  have digest := identityShown_keeps (f := itemDigest) (fun k hk => itemDigest_wr_identity hk) s m
  have empty : itemEmpty (s.identityShown m) = itemEmpty s :=
    identityShown_keeps (f := itemEmpty) (fun k hk s v => funext fun kind => funext fun inst => itemEmpty_wr_identity hk s v kind inst) s m
  have acts := identityShown_keeps (f := actsHolder) (fun k hk => actsHolder_wr_identity hk) s m
  rw [awaitedItems, awaitedItems, items, digest, empty, acts]

theorem mem_awaitedItems {s : State} {m : InvMsg} {i : Nat × Nat × Nat × Bool} (hi : i ∈ m.items) (own : (allItems s).contains (i.1, i.2.1) = true)
    (differ : itemDigest s i.1 i.2.1 ≠ i.2.2.1) (theirs : (if actsHolder s then itemEmpty s i.1 i.2.1 else !i.2.2.2) = true) :
    (i.1, i.2.1) ∈ awaitedItems s m := by
  have sends : (!(if actsHolder s then !itemEmpty s i.1 i.2.1 else i.2.2.2)) = true := by
    split at theirs
    · next acts => rw [if_pos acts, theirs, Bool.not_true, Bool.not_false]
    · next acts => rw [if_neg acts, theirs]
  refine List.mem_map.mpr ⟨i, List.mem_filter.mpr ⟨List.mem_filter.mpr ⟨hi, ?_⟩, sends⟩, rfl⟩
  rw [own, Bool.true_and]
  exact bne_iff_ne.mpr differ

/-- What the two inventories differ in is to send and to expect; the configurations are compared. -/
def State.inventoryKept (s : State) (m : InvMsg) (items : List (Nat × Nat)) (sendsConfig : Bool) : State :=
  let s := { s with duplex := { s.duplex with
    inventoried := true, pRevision := m.revision, items, sendsConfig, expect := awaitedItems s m } }
  s.setB Gl.DUPLEX_STATUS 7 (m.configDigest == configDigest s)

/-- The exchange of items begins. -/
def State.exchangeBegun (s : State) : State := (s.sendInventory.pumpItems 4).readyTick

section
variable {s : State} {m : InvMsg} (paired : s.paired = true)
include paired

theorem exec_inventory_unfit (unfit : m.productCode ≠ s.rdn Gl.PRODUCT_CODE ∨ m.role = s.rdn Gl.ROLE) :
    exec (.inventory m) s = done s (s.partnerDown (if m.productCode ≠ s.rdn Gl.PRODUCT_CODE then 5 else 6) 50000) := by
  refine congrArg (done s) ((if_neg (ne_false_of_eq_true paired)).trans ?_)
  by_cases product : m.productCode ≠ s.rdn Gl.PRODUCT_CODE
  · rw [if_pos product, if_pos product]
  · rw [if_neg product, if_neg product, if_pos (unfit.resolve_left product)]

theorem exec_inventory_fit (product : m.productCode = s.rdn Gl.PRODUCT_CODE) (role : m.role ≠ s.rdn Gl.ROLE) : ∃ items sendsConfig,
    exec (.inventory m) s = done s (((s.identityShown m).inventoryKept m items sendsConfig).exchangeBegun) :=
  ⟨_, _, congrArg (done s) ((if_neg (ne_false_of_eq_true paired)).trans ((if_neg (not_not.mpr product)).trans (if_neg role)))⟩

end

/-! ### The exchange begins (R349, R352) -/

theorem keeps_exchange {α : Type} {view : State → α} (queue : ∀ s tag outbox egress, view { s with egress, duplex := { s.duplex with tag, outbox } } = view s)
    (sent : ∀ s marked, view { s with duplex := { s.duplex with inventorySent := true, marked } } = view s)
    (taken : ∀ s items, view { s with duplex := { s.duplex with items } } = view s) (s : State) :
    Keeps view [] s (s.sendInventory.pumpItems 4) := .pumpItems queue taken 4 (.sendInventory queue sent (.refl ..))

theorem rd_exchange (s : State) {k : Nat} (wired : k ∉ wiredRegs) : (s.sendInventory.pumpItems 4).rd k = s.rd k :=
  (keeps_exchange (view := fun _ => ()) (fun _ _ _ _ => rfl) (fun _ _ => rfl) (fun _ _ => rfl) s).regs k List.not_mem_nil wired

theorem bit_exchange (s : State) {k : Nat} (wired : k ∉ wiredRegs) (i : Nat) : (s.sendInventory.pumpItems 4).bit k i = s.bit k i :=
  congrArg (bitOf · i) (rd_exchange s wired)

theorem inventorySent_mirrorSend (s : State) (type : Nat) (data : List ByteN) (item : Option (Nat × Nat)) :
    (s.mirrorSend type data item).duplex.inventorySent = s.duplex.inventorySent := by
  obtain ⟨tag, outbox, egress, e⟩ := mirrorSend_parts s type data item
  rw [e]

theorem inventorySent_sendInventory {s : State} (paired : s.paired = true) : s.sendInventory.duplex.inventorySent = true := by
  unfold State.sendInventory
  split
  · next idle => exact idle.resolve_right (ne_false_of_eq_true paired)
  · exact inventorySent_mirrorSend ..

/-- A unit that is not UP, or is aligned, keeps the inventory that it sent. -/
theorem inventorySent_readyTick {s : State} (steady : s.rdn Gl.PARTNER_STATE ≠ 4 ∨ s.rdb Gl.TICK_ALIGNED = true) :
    s.readyTick.duplex.inventorySent = s.duplex.inventorySent := by
  have shown (u : State) : u.showDuplex.duplex.inventorySent = u.duplex.inventorySent :=
    (Keeps.showDuplex (view := fun s => s.duplex.inventorySent) (fun _ _ => rfl) (.refl _ pairRegs u) (by decide) (by decide)).same
  obtain ⟨n, ready, e | ⟨fell, up, -⟩ | e⟩ := readyTick_cases s
  · rw [e, shown]
    rfl
  · exact absurd fell (ne_false_of_eq_true (steady.resolve_left (not_not.mpr up)))
  · rw [e, shown]
    rfl

theorem inventorySent_exchangeBegun {s : State} (paired : s.paired = true) (steady : s.rdn Gl.PARTNER_STATE ≠ 4 ∨ s.rdb Gl.TICK_ALIGNED = true) :
    s.exchangeBegun.duplex.inventorySent = true := by
  have same : (s.sendInventory.pumpItems 4).rdn Gl.PARTNER_STATE = s.rdn Gl.PARTNER_STATE
      ∧ (s.sendInventory.pumpItems 4).rdb Gl.TICK_ALIGNED = s.rdb Gl.TICK_ALIGNED :=
    ⟨congrArg Int.toNat (rd_exchange s (by decide)), congrArg (· != 0) (rd_exchange s (by decide))⟩
  have pumped : (s.sendInventory.pumpItems 4).duplex.inventorySent = s.sendInventory.duplex.inventorySent :=
    (Keeps.pumpItems (view := fun s => s.duplex.inventorySent) (fun _ _ _ _ => rfl) (fun _ _ => rfl) 4 (.refl _ [] _)).same
  rw [State.exchangeBegun, inventorySent_readyTick (by rwa [same.1, same.2]), pumped, inventorySent_sendInventory paired]

/-- The bits of DUPLEX_STATUS that are no readouts stay. -/
theorem bit_readyTick {i : Nat} (h : i ∉ [0, 1, 2, 3, 4, 5, 6]) (s : State) : s.readyTick.bit Gl.DUPLEX_STATUS i = s.bit Gl.DUPLEX_STATUS i := by
  have outside : i ∉ [0, 2, 3, 4, 5, 6] := fun m => h (List.mem_cons.mpr ((List.mem_cons.mp m).imp_right (List.mem_cons_of_mem 1)))
  have ready : i ≠ 1 := ne_of_mem_of_not_mem (by decide : 1 ∈ [0, 1, 2, 3, 4, 5, 6]) h |>.symm
  have shown (n : Nat) (b : Bool) : (s.itemsShown n b).bit Gl.DUPLEX_STATUS i = s.bit Gl.DUPLEX_STATUS i :=
    (bit_setB_bit_ne ready ..).trans (bit_wr_ne (by decide) ..)
  obtain ⟨n, b, e | ⟨-, -, e⟩ | e⟩ := readyTick_cases s
  · rw [e, bit_showDuplex outside, bit_wr_ne (by decide), shown]
  · have again : (s.itemsShown n b).resynced.bit Gl.DUPLEX_STATUS i = ((s.itemsShown n b).wr Gl.PARTNER_STATE 3).bit Gl.DUPLEX_STATUS i := rfl
    rw [e, bit_showDuplex outside, again, bit_wr_ne (by decide), shown]
  · rw [e, bit_showDuplex outside, shown]

theorem keeps_exchangeBegun {α : Type} {view : State → α} (blind : RegBlind view)
    (link : ∀ s tag outbox egress, view { s with egress, duplex := { s.duplex with tag, outbox } } = view s)
    (sent : ∀ s marked, view { s with duplex := { s.duplex with inventorySent := true, marked } } = view s)
    (taken : ∀ s items, view { s with duplex := { s.duplex with items } } = view s)
    (again : ∀ s, view { s with duplex := { s.duplex with inventorySent := false, phased := false } } = view s) (s : State) :
    Keeps view pairRegs s s.exchangeBegun :=
  .readyTick blind again (fun _ h => h) ((keeps_exchange link sent taken s).weaken id (fun _ => rfl) (fun _ h => absurd h List.not_mem_nil))

end Sys2Proof.Machine

namespace Sys2Proof.Machine

/-! ### A partner's inventory (R346, R352) -/

/-- The state without the link's record, registers and events. -/
def State.sansDuplex (s : State) : State := { s.sansEvents with duplex := {} }

theorem sansDuplex_blind : EventBlind State.sansDuplex := fun _ _ _ _ _ _ => rfl

theorem onlyEvents_of_sansDuplex {s t : State} (h : t.sansDuplex = s.sansDuplex) (q : List Instr) :
    OnlyEvents { s with duplex := (t.settle q).duplex } (t.settle q) := by
  have settled : (t.settle q).sansDuplex = s.sansDuplex := (settle_blind (f := State.sansDuplex) (fun _ _ _ _ _ => rfl) t q).trans h
  generalize t.settle q = r at settled
  have back : r.sansEvents = { r.sansDuplex with duplex := r.sansEvents.duplex } := rfl
  rw [OnlyEvents, back, settled]
  rfl

theorem inventory_unfit {s : State} {m : InvMsg} (paired : s.paired = true) (unfit : m.productCode ≠ s.rdn Gl.PRODUCT_CODE ∨ m.role = s.rdn Gl.ROLE) :
    ∃ t, exec (.inventory m) s = .next t
      ∧ t.rd Gl.PARTNER_STATE = 1 ∧ t.rd Gl.PARTNER_LOST_CAUSE = (if m.productCode ≠ s.rdn Gl.PRODUCT_CODE then 5 else 6)
      ∧ t.duplex.retrainAt = some (s.now + 50000)
      ∧ KeepsRegs (pairRegs ++ eventRegs) s t ∧ OnlyEvents { s with duplex := t.duplex, axes := t.axes } t := by
  obtain ⟨down, cause, retrain, -, regs, only⟩ :=
    settled_partnerDown paired (if m.productCode ≠ s.rdn Gl.PRODUCT_CODE then 5 else 6) 50000 s.pending
  refine ⟨_, exec_inventory_unfit paired unfit, down, cause.trans ?_, retrain, regs, only⟩
  split
  · rfl
  · rfl

/-- The partner's identity and the comparison of the configurations, as the exchange leaves them. -/
theorem rd_inventoryKept {k : Nat} (status : k ≠ Gl.DUPLEX_STATUS) (s : State) (m : InvMsg) (items : List (Nat × Nat)) (sendsConfig : Bool) :
    ((s.identityShown m).inventoryKept m items sendsConfig).rd k = (s.identityShown m).rd k := rd_wr_ne status ..

theorem sansDuplex_inventoryKept (s : State) (m : InvMsg) (items : List (Nat × Nat)) (sendsConfig : Bool) :
    ((s.identityShown m).inventoryKept m items sendsConfig).sansDuplex = s.sansDuplex :=
  (setB_blind sansDuplex_blind.reg ..).trans (identityShown_keeps (f := State.sansDuplex) (fun _ _ s v => wr_blind sansDuplex_blind.reg s _ v) s m)

theorem bit_inventoryKept (s : State) (m : InvMsg) (items : List (Nat × Nat)) (sendsConfig : Bool) :
    ((s.identityShown m).inventoryKept m items sendsConfig).bit Gl.DUPLEX_STATUS 7 = (m.configDigest == configDigest s) := by
  have digest : itemDigest (s.identityShown m) = itemDigest s := identityShown_keeps (fun k hk => itemDigest_wr_identity hk) s m
  have own : configDigest (s.identityShown m) = configDigest s := congrFun (congrFun digest 3) 0
  rw [← own]
  exact bit_setB_same ..

/-- The state in which an inventory leaves a unit that it fits. -/
def State.inventoryDone (s : State) (m : InvMsg) (items : List (Nat × Nat)) (sendsConfig : Bool) : State :=
  ((s.identityShown m).inventoryKept m items sendsConfig).exchangeBegun

theorem rd_identityShown {k : Nat} (hk : k ∉ identityRegs) (s : State) (m : InvMsg) : (s.identityShown m).rd k = s.rd k :=
  identityShown_keeps (f := (State.rd · k)) (fun _ own s v => rd_wr_identity_ne own s v hk) s m

section
variable (s : State) (m : InvMsg) (items : List (Nat × Nat)) (sendsConfig : Bool)

theorem rd_inventoryDone {k : Nat} (own : k ∉ pairRegs) (wired : k ∉ wiredRegs) : (s.inventoryDone m items sendsConfig).rd k = (s.identityShown m).rd k :=
  ((keeps_exchangeBegun (view := fun _ => ()) (fun _ _ => rfl) (fun _ _ _ _ => rfl) (fun _ _ => rfl) (fun _ _ => rfl) (fun _ => rfl) _).regs k own wired).trans
    (rd_inventoryKept (ne_of_mem_of_not_mem (by decide) own).symm ..)

/-- The partner's identity is shown. -/
theorem rdn_identity_inventoryDone : (s.inventoryDone m items sendsConfig).rdn Gl.PARTNER_SERIAL = m.serial
    ∧ (s.inventoryDone m items sendsConfig).rdn Gl.PARTNER_REVISION = m.revision
    ∧ (s.inventoryDone m items sendsConfig).rdn Gl.PARTNER_CONFIG_DIGEST = m.configDigest := by
  have rd : ∀ k ∈ identityRegs, (s.inventoryDone m items sendsConfig).rd k = (s.identityShown m).rd k := by
    intro k hk
    have apart : ∀ k ∈ identityRegs, k ∉ pairRegs ∧ k ∉ wiredRegs := by decide
    exact rd_inventoryDone s m items sendsConfig (apart k hk).1 (apart k hk).2
  refine ⟨?serial, ?revision, ?digest⟩
  all_goals rw [State.rdn, rd _ (by decide), State.identityShown, rd_wrn]
  case serial => rw [if_neg (by decide), rd_wrn, if_neg (by decide), rd_wrn, if_pos rfl, Int.toNat_natCast]
  case revision => rw [if_neg (by decide), rd_wrn, if_pos rfl, Int.toNat_natCast]
  case digest => rw [if_pos rfl, Int.toNat_natCast]

theorem sansDuplex_inventoryDone : (s.inventoryDone m items sendsConfig).sansDuplex = s.sansDuplex :=
  (keeps_exchangeBegun sansDuplex_blind.reg (fun _ _ _ _ => rfl) (fun _ _ => rfl) (fun _ _ => rfl) (fun _ => rfl) _).same.trans
    (sansDuplex_inventoryKept ..)

theorem inventoried_inventoryDone : (s.inventoryDone m items sendsConfig).duplex.inventoried = true :=
  (keeps_exchangeBegun (view := fun s => s.duplex.inventoried) (fun _ _ => rfl) (fun _ _ _ _ => rfl) (fun _ _ => rfl) (fun _ _ => rfl) (fun _ => rfl) _).same

theorem expect_inventoryDone : (s.inventoryDone m items sendsConfig).duplex.expect = awaitedItems s m :=
  (keeps_exchangeBegun (view := fun s => s.duplex.expect) (fun _ _ => rfl) (fun _ _ _ _ => rfl) (fun _ _ => rfl) (fun _ _ => rfl) (fun _ => rfl) _).same.trans
    (awaitedItems_identityShown s m)

theorem bit_inventoryDone : (s.inventoryDone m items sendsConfig).bit Gl.DUPLEX_STATUS 7 = (m.configDigest == configDigest s) := by
  rw [State.inventoryDone, State.exchangeBegun, bit_readyTick (by decide), bit_exchange _ (by decide), bit_inventoryKept]

theorem inventorySent_inventoryDone (paired : s.paired = true) (steady : s.rdn Gl.PARTNER_STATE ≠ 4 ∨ s.rdb Gl.TICK_ALIGNED = true) :
    (s.inventoryDone m items sendsConfig).duplex.inventorySent = true := by
  have state : ((s.identityShown m).inventoryKept m items sendsConfig).rdn Gl.PARTNER_STATE = s.rdn Gl.PARTNER_STATE :=
    congrArg Int.toNat ((rd_inventoryKept (by decide) ..).trans (rd_identityShown (by decide) ..))
  have aligned : ((s.identityShown m).inventoryKept m items sendsConfig).rdb Gl.TICK_ALIGNED = s.rdb Gl.TICK_ALIGNED :=
    congrArg (· != 0) ((rd_inventoryKept (by decide) ..).trans (rd_identityShown (by decide) ..))
  exact inventorySent_exchangeBegun (by rwa [State.paired, state]) (by rwa [state, aligned])

end

theorem inventory_fit {s : State} {m : InvMsg} (paired : s.paired = true) (product : m.productCode = s.rdn Gl.PRODUCT_CODE)
    (role : m.role ≠ s.rdn Gl.ROLE) : ∃ t, exec (.inventory m) s = .next t
      ∧ t.rdn Gl.PARTNER_SERIAL = m.serial ∧ t.rdn Gl.PARTNER_REVISION = m.revision ∧ t.rdn Gl.PARTNER_CONFIG_DIGEST = m.configDigest
      ∧ t.duplex.inventoried = true ∧ (s.rdn Gl.PARTNER_STATE ≠ 4 ∨ s.rdb Gl.TICK_ALIGNED = true → t.duplex.inventorySent = true)
      ∧ t.bit Gl.DUPLEX_STATUS 7 = (m.configDigest == configDigest s)
      ∧ (∀ i, i ∈ m.items → (allItems s).contains (i.1, i.2.1) = true → itemDigest s i.1 i.2.1 ≠ i.2.2.1 →
          (if actsHolder s then itemEmpty s i.1 i.2.1 else !i.2.2.2) = true → (i.1, i.2.1) ∈ t.duplex.expect)
      ∧ KeepsRegs (Gl.PARTNER_SERIAL :: Gl.PARTNER_REVISION :: Gl.PARTNER_CONFIG_DIGEST :: pairRegs) s t
      ∧ OnlyEvents { s with duplex := t.duplex } t := by
  obtain ⟨items, sendsConfig, run⟩ := exec_inventory_fit paired product role
  obtain ⟨serial, revision, digest⟩ := rdn_identity_inventoryDone s m items sendsConfig
  refine ⟨(s.inventoryDone m items sendsConfig).settle s.pending, run, (rdn_settle (by decide) ..).trans serial, (rdn_settle (by decide) ..).trans revision,
    (rdn_settle (by decide) ..).trans digest, ?inventoried, fun steady => ?sent, (bit_settle (by decide) ..).trans (bit_inventoryDone ..),
    fun i hi own differ theirs => ?awaited, fun k hk wired => ?regs, onlyEvents_of_sansDuplex (sansDuplex_inventoryDone ..) _⟩
  case inventoried => exact (duplex_settle (g := Duplex.inventoried) (fun _ _ _ => rfl) ..).trans (inventoried_inventoryDone ..)
  case sent => exact (duplex_settle (g := Duplex.inventorySent) (fun _ _ _ => rfl) ..).trans (inventorySent_inventoryDone s m items sendsConfig paired steady)
  case awaited =>
    rw [expect_settle, expect_inventoryDone]
    exact mem_awaitedItems hi own differ theirs
  case regs =>
    obtain ⟨identity, own⟩ : k ∉ identityRegs ∧ k ∉ pairRegs := not_or.mp (List.mem_append.not.mp (hk : k ∉ identityRegs ++ pairRegs))
    rw [rd_settle wired, rd_inventoryDone s m items sendsConfig own wired, rd_identityShown identity]

/-- Settles O43: a frame is checked, counted and taken part by part (`exec_partnerFrame_intact`); the steps behind the heartbeat are followed by the view
`State.heard`, and those of the exchange of items by the views of the link's record. -/
theorem partnerFramesAndInventory : Obligations.PartnerFramesAndInventory := by
  unfold Obligations.PartnerFramesAndInventory
  intro s paired
  refine ⟨fun f => ⟨?discarded, partnerFrame_sameRole paired, partnerFrame_valid paired⟩, fun m => ⟨inventory_unfit paired, inventory_fit paired⟩⟩
  rintro x rfl reg met which holds
  exact partnerFrame_discarded paired which holds

end Sys2Proof.Machine
